-- ==== Sys2Proof/Word.lean ====
section
/-!
DEFINITION. The word types of the block (R9: registers are 32 bits; R7: bit 0 is least significant) and sparse maps,
the one data form in which the registers, the buffer memory and the numbered tables are held.
-/

namespace Sys2Proof

/-- One byte. -/
abbrev Byte := BitVec 8

/-- A 32-bit register word (R9). -/
abbrev Word := BitVec 32

/-- A sparse map: keys strictly rising, at most one entry for each key. -/
abbrev SMap (α : Type) := List (Nat × α)

/-- The entry of key `k`, if there is one. -/
def SMap.get? {α : Type} : SMap α → Nat → Option α
  | [], _ => none
  | (j, a) :: m, k => if j = k then some a else SMap.get? m k

/-- `m` with `k` mapped to `a`. -/
def SMap.ins {α : Type} (k : Nat) (a : α) : SMap α → SMap α
  | [] => [(k, a)]
  | (j, b) :: m =>
    if k < j then (k, a) :: (j, b) :: m
    else if k = j then (k, a) :: m
    else (j, b) :: SMap.ins k a m

/-- `m` without an entry for `k`. -/
def SMap.del {α : Type} (k : Nat) (m : SMap α) : SMap α := m.filter (fun e => !decide (e.1 = k))

/-- `m` with every entry removed whose key satisfies `p`. -/
def SMap.drop {α : Type} (p : Nat → Bool) (m : SMap α) : SMap α :=
  m.filter (fun e => !p e.1)

/-- The value of key `k` where an unlisted key stands for `d`. -/
def SMap.getD {α : Type} (m : SMap α) (d : α) (k : Nat) : α :=
  (SMap.get? m k).getD d

/-- The write that keeps the canonical form over the default `d`: writing the default removes the entry. -/
def SMap.put {α : Type} [DecidableEq α] (m : SMap α) (d : α) (k : Nat) (a : α) : SMap α :=
  if a = d then SMap.del k m else SMap.ins k a m

/-- Keys strictly rising. -/
def SMap.sorted {α : Type} : SMap α → Bool
  | [] => true
  | [_] => true
  | (i, _) :: (j, b) :: m => (i < j) && SMap.sorted ((j, b) :: m)

end Sys2Proof
end

