-- ==== Sys2Proof/Machine/Crypto.lean ====
section
/-!
DEFINITION. The published algorithms that the spec names and the block computes: SHA-512 (FIPS 180-4), HMAC and HKDF
(RFC 5869), AES-256 with GCM, CTR and key wrap with padding (FIPS 197, SP 800-38D, RFC 5649), and pure Ed25519 (RFC 8032).
Rules R61, R347 to R349, R356, R358, R361, R373.
-/

namespace Sys2Proof.Machine

/-- Bytes, first byte first. -/
abbrev Bytes := List Byte

/-- `k` bytes of `n`, little-endian. -/
def leBytes : Nat → Nat → Bytes
  | 0, _ => []
  | k + 1, n => BitVec.ofNat 8 n :: leBytes k (n / 256)

/-- `k` bytes of `n`, big-endian. -/
def beBytes (k n : Nat) : Bytes := (leBytes k n).reverse

/-- The number that little-endian bytes spell. -/
def leNat : Bytes → Nat
  | [] => 0
  | b :: bs => b.toNat + 256 * leNat bs

/-- The number that big-endian bytes spell. -/
def beNat (bs : Bytes) : Nat := bs.foldl (fun n b => 256 * n + b.toNat) 0

/-- `n` zero bytes. -/
def zeros (n : Nat) : Bytes := List.replicate n 0#8

/-- Bytes `off` to `off + n - 1`. -/
def slice (bs : Bytes) (off n : Nat) : Bytes := (bs.drop off).take n

/-- The bytes cut into groups of `k` (the last may be shorter), at most `fuel` of them. -/
def groups (k : Nat) : Nat → Bytes → List Bytes
  | 0, _ => []
  | fuel + 1, bs => match bs with
    | [] => []
    | _ => bs.take k :: groups k fuel (bs.drop k)

/-- The bytes cut into groups of `k`. -/
def chunks (k : Nat) (bs : Bytes) : List Bytes := groups k (bs.length + 1) bs

def xorBytes (a b : Bytes) : Bytes := List.zipWith (· ^^^ ·) a b

/-- The ASCII bytes of a text. -/
def ascii (t : String) : Bytes := t.toList.map (fun c => BitVec.ofNat 8 c.toNat)

/-! ## SHA-512 -/

/-- Bisection for the largest `x` in [lo, lo + 2^k) with `f x ≤ n`. -/
def bisect (f : Nat → Nat) (n : Nat) : Nat → Nat → Nat
  | 0, lo => lo
  | k + 1, lo => if f (lo + 2 ^ k) ≤ n then bisect f n k (lo + 2 ^ k) else bisect f n k lo

/-- The first 80 primes. -/
def primes80 : List Nat :=
  (List.range 410).filter (fun n => decide (2 ≤ n) && (List.range 19).all (fun d => decide (d + 2 ≥ n) || decide (n % (d + 2) ≠ 0)))

/-- FIPS 180-4: the round constants, fractional parts of cube roots of the first 80 primes. -/
def sha512K : List (BitVec 64) :=
  primes80.map (fun p => BitVec.ofNat 64 (bisect (fun x => x * x * x) (p * 2 ^ 192) 68 0))

/-- FIPS 180-4: the initial value, fractional parts of square roots of the first 8 primes. -/
def sha512H : List (BitVec 64) :=
  (primes80.take 8).map (fun p => BitVec.ofNat 64 (bisect (fun x => x * x) (p * 2 ^ 128) 68 0))

def sha512Pad (m : Bytes) : Bytes :=
  m ++ [0x80#8] ++ zeros ((239 - m.length % 128) % 128) ++ beBytes 16 (8 * m.length)

/-- The message schedule, newest word first. -/
def sha512Sched : Nat → List (BitVec 64) → List (BitVec 64)
  | 0, w => w
  | k + 1, w =>
    let a := w.getD 1 0
    let b := w.getD 14 0
    let s1 := a.rotateRight 19 ^^^ a.rotateRight 61 ^^^ (a >>> 6)
    let s0 := b.rotateRight 1 ^^^ b.rotateRight 8 ^^^ (b >>> 7)
    sha512Sched k ((s1 + w.getD 6 0 + s0 + w.getD 15 0) :: w)

def sha512Round (h : List (BitVec 64)) (kw : BitVec 64 × BitVec 64) : List (BitVec 64) :=
  match h with
  | [a, b, c, d, e, f, g, hh] =>
    let s1 := e.rotateRight 14 ^^^ e.rotateRight 18 ^^^ e.rotateRight 41
    let ch := (e &&& f) ^^^ (~~~e &&& g)
    let t1 := hh + s1 + ch + kw.1 + kw.2
    let s0 := a.rotateRight 28 ^^^ a.rotateRight 34 ^^^ a.rotateRight 39
    let mj := (a &&& b) ^^^ (a &&& c) ^^^ (b &&& c)
    [t1 + s0 + mj, a, b, c, d + t1, e, f, g]
  | h => h

def sha512Block (h : List (BitVec 64)) (blk : Bytes) : List (BitVec 64) :=
  let w := (chunks 8 blk).map (fun c => BitVec.ofNat 64 (beNat c))
  let ws := (sha512Sched 64 w.reverse).reverse
  List.zipWith (· + ·) h ((List.zip sha512K ws).foldl sha512Round h)

/-- SHA-512 of a byte string. -/
def sha512 (m : Bytes) : Bytes :=
  ((chunks 128 (sha512Pad m)).foldl sha512Block sha512H).flatMap (fun x => beBytes 8 x.toNat)

/-- HMAC-SHA-512. -/
def hmac512 (key m : Bytes) : Bytes :=
  let k0 := if key.length > 128 then sha512 key else key
  let k := k0 ++ zeros (128 - k0.length)
  sha512 (k.map (· ^^^ 0x5C#8) ++ sha512 (k.map (· ^^^ 0x36#8) ++ m))

/-- HKDF-SHA-512 with an empty salt, 32 bytes out (R347). -/
def hkdf32 (ikm info : Bytes) : Bytes :=
  (hmac512 (hmac512 (zeros 64) ikm) (info ++ [1#8])).take 32

/-! ## AES-256 -/

/-- Multiplication in GF(2^8) modulo 0x11B. -/
def gfMul8 (a b : Byte) : Byte :=
  ((List.range 8).foldl (fun (p : Byte × Byte) i =>
    let r := if b.getLsbD i then p.1 ^^^ p.2 else p.1
    (r, (p.2 <<< 1) ^^^ (if p.2.getLsbD 7 then 0x1B#8 else 0#8))) (0#8, a)).1

/-- The inverse in GF(2^8): the 254th power. -/
def gfInv8 (a : Byte) : Byte :=
  let a2 := gfMul8 a a
  let a4 := gfMul8 a2 a2
  let a8 := gfMul8 a4 a4
  let a16 := gfMul8 a8 a8
  let a32 := gfMul8 a16 a16
  let a64 := gfMul8 a32 a32
  let a128 := gfMul8 a64 a64
  gfMul8 a128 (gfMul8 a64 (gfMul8 a32 (gfMul8 a16 (gfMul8 a8 (gfMul8 a4 a2)))))

/-- FIPS 197: SubBytes of one byte. -/
def aesSub (a : Byte) : Byte :=
  let b := gfInv8 a
  b ^^^ b.rotateLeft 1 ^^^ b.rotateLeft 2 ^^^ b.rotateLeft 3 ^^^ b.rotateLeft 4 ^^^ 0x63#8

/-- The inverse of SubBytes. -/
def aesSubInv (a : Byte) : Byte :=
  gfInv8 (a.rotateLeft 1 ^^^ a.rotateLeft 3 ^^^ a.rotateLeft 6 ^^^ 0x05#8)

/-- The S-box as a table, so that a byte is looked up. -/
def aesSbox : List Byte := (List.range 256).map (fun i => aesSub (BitVec.ofNat 8 i))
def aesSboxInv : List Byte := (List.range 256).map (fun i => aesSubInv (BitVec.ofNat 8 i))

def rcon : Nat → Byte
  | 0 => 1#8
  | k + 1 => gfMul8 2#8 (rcon k)

/-- The key schedule: `n` further words after the eight of the key, newest first. -/
def aesExpand : Nat → List Bytes → List Bytes
  | 0, w => w
  | k + 1, w =>
    let i := w.length
    let t := w.getD 0 []
    let sb (x : Byte) := aesSbox.getD x.toNat 0
    let t' := if i % 8 = 0 then xorBytes ((t.drop 1 ++ t.take 1).map sb) [rcon (i / 8 - 1), 0, 0, 0]
              else if i % 8 = 4 then t.map sb else t
    aesExpand k (xorBytes (w.getD 7 []) t' :: w)

/-- The fifteen round keys of a 32-byte key. -/
def aesKeys (key : Bytes) : List Bytes :=
  chunks 16 ((aesExpand 52 (chunks 4 key).reverse).reverse.flatten)

def shiftRows (s : Bytes) : Bytes := (List.range 16).map (fun i => s.getD ((i + 4 * (i % 4)) % 16) 0)
def shiftRowsInv (s : Bytes) : Bytes := (List.range 16).map (fun i => s.getD ((i + 16 - 4 * (i % 4)) % 16) 0)

/-- MixColumns with the first row `r` of its circulant matrix. -/
def mixCols (r : Bytes) (s : Bytes) : Bytes :=
  (List.range 16).map (fun i => (List.range 4).foldl (fun acc j =>
    acc ^^^ gfMul8 (r.getD ((j + 4 - i % 4) % 4) 0) (s.getD (4 * (i / 4) + j) 0)) 0#8)

def aesRound (s : Bytes) (k : Bytes) : Bytes :=
  xorBytes (mixCols [2, 3, 1, 1] (shiftRows (s.map (fun x => aesSbox.getD x.toNat 0)))) k

/-- AES-256 encryption of one block under expanded keys. -/
def aesEnc (ks : List Bytes) (blk : Bytes) : Bytes :=
  let s := ((ks.drop 1).take 13).foldl aesRound (xorBytes blk (ks.getD 0 []))
  xorBytes (shiftRows (s.map (fun x => aesSbox.getD x.toNat 0))) (ks.getD 14 [])

def aesRoundInv (s : Bytes) (k : Bytes) : Bytes :=
  mixCols [14, 11, 13, 9] (xorBytes ((shiftRowsInv s).map (fun x => aesSboxInv.getD x.toNat 0)) k)

/-- AES-256 decryption of one block under expanded keys. -/
def aesDec (ks : List Bytes) (blk : Bytes) : Bytes :=
  let s := ((ks.drop 1).take 13).reverse.foldl aesRoundInv (xorBytes blk (ks.getD 14 []))
  xorBytes ((shiftRowsInv s).map (fun x => aesSboxInv.getD x.toNat 0)) (ks.getD 0 [])

/-- Key stream blocks for 32-bit counters from `c`, `n` of them (R349, Table 13.5). -/
def ctrStream (ks : List Bytes) (iv : Bytes) : Nat → Nat → Bytes
  | 0, _ => []
  | n + 1, c => aesEnc ks (iv ++ beBytes 4 c) ++ ctrStream ks iv n (c + 1)

/-- AES-256-CTR with the counter starting at `c`. -/
def aesCtr (key iv : Bytes) (c : Nat) (d : Bytes) : Bytes :=
  xorBytes d (ctrStream (aesKeys key) iv ((d.length + 15) / 16) c)

/-- Multiplication in GF(2^128) as GHASH orders the bits (bit 127 of the number is the first bit). -/
def ghashMul (x y : BitVec 128) : BitVec 128 :=
  ((List.range 128).foldl (fun (p : BitVec 128 × BitVec 128) i =>
    let z := if x.getLsbD (127 - i) then p.1 ^^^ p.2 else p.1
    (z, (p.2 >>> 1) ^^^ (if p.2.getLsbD 0 then (0xE1#128 <<< 120) else 0))) (0, y)).1

def ghash (h : BitVec 128) (d : Bytes) : BitVec 128 :=
  (chunks 16 d).foldl (fun acc c => ghashMul (acc ^^^ BitVec.ofNat 128 (beNat (c ++ zeros (16 - c.length)))) h) 0

def pad16 (d : Bytes) : Bytes := d ++ zeros ((16 - d.length % 16) % 16)

/-- The GCM tag of ciphertext `c` with additional data `a`. -/
def gcmTag (key iv a c : Bytes) : Bytes :=
  let ks := aesKeys key
  let h := BitVec.ofNat 128 (beNat (aesEnc ks (zeros 16)))
  let g := ghash h (pad16 a ++ pad16 c ++ beBytes 8 (8 * a.length) ++ beBytes 8 (8 * c.length))
  xorBytes (beBytes 16 g.toNat) (aesEnc ks (iv ++ beBytes 4 1))

/-- AES-256-GCM encryption with a 12-byte IV: ciphertext and tag. -/
def gcmEnc (key iv a p : Bytes) : Bytes × Bytes :=
  let c := aesCtr key iv 2 p
  (c, gcmTag key iv a c)

/-- AES-256-GCM decryption: the plaintext if the tag is right. -/
def gcmDec (key iv a c tag : Bytes) : Option Bytes :=
  if gcmTag key iv a c = tag then some (aesCtr key iv 2 c) else none

/-! ## Key wrap with padding (RFC 5649) -/

/-- RFC 3394 steps over registers (A, R), counter `t` of the first step. -/
def wrapPass (ks : List Bytes) : List Bytes → Bytes → Nat → Bytes × List Bytes
  | [], a, _ => (a, [])
  | r :: rs, a, t =>
    let b := aesEnc ks (a ++ r)
    let (a', rs') := wrapPass ks rs (xorBytes (b.take 8) (beBytes 8 t)) (t + 1)
    (a', b.drop 8 :: rs')

def wrapLoop (ks : List Bytes) : Nat → Nat → Bytes × List Bytes → Bytes × List Bytes
  | 0, _, ar => ar
  | k + 1, t, (a, rs) => wrapLoop ks k (t + rs.length) (wrapPass ks rs a t)

/-- RFC 5649 wrap. -/
def keyWrap (key d : Bytes) : Bytes :=
  let ks := aesKeys key
  let p := d ++ zeros ((8 - d.length % 8) % 8)
  let aiv := [0xA6#8, 0x59#8, 0x59#8, 0xA6#8] ++ beBytes 4 d.length
  if p.length = 8 then aesEnc ks (aiv ++ p)
  else
    let (a, rs) := wrapLoop ks 6 1 (aiv, chunks 8 p)
    a ++ rs.flatten

/-- One pass backwards over registers given last first, counter `t` of the last step. -/
def unwrapPass (ks : List Bytes) : List Bytes → Bytes → Nat → Bytes × List Bytes
  | [], a, _ => (a, [])
  | r :: rs, a, t =>
    let b := aesDec ks (xorBytes a (beBytes 8 t) ++ r)
    let (a', rs') := unwrapPass ks rs (b.take 8) (t - 1)
    (a', b.drop 8 :: rs')

def unwrapLoop (ks : List Bytes) : Nat → Nat → Bytes × List Bytes → Bytes × List Bytes
  | 0, _, ar => ar
  | k + 1, t, (a, rs) => unwrapLoop ks k (t - rs.length) (unwrapPass ks rs a t)

/-- RFC 5649 unwrap: the data if the integrity check passes. -/
def keyUnwrap (key c : Bytes) : Option Bytes :=
  let ks := aesKeys key
  let n := c.length / 8 - 1
  let (a, p) :=
    if n = 1 then let b := aesDec ks c; (b.take 8, b.drop 8)
    else
      let (a, rs) := unwrapLoop ks 6 (6 * n) (c.take 8, (chunks 8 (c.drop 8)).reverse)
      (a, rs.reverse.flatten)
  let len := beNat (a.drop 4)
  if c.length % 8 = 0 ∧ 2 ≤ c.length / 8 ∧ a.take 4 = [0xA6#8, 0x59#8, 0x59#8, 0xA6#8] ∧ 8 * (n - 1) < len ∧ len ≤ 8 * n
      ∧ p.drop len = zeros (8 * n - len) then some (p.take len) else none

/-- R348: the check value of a KEK. DEDUCED: log entry 88. -/
def kcv (kek : Bytes) : Bytes := (aesEnc (aesKeys kek) (zeros 16)).take 8

/-! ## Ed25519 (RFC 8032) -/

def edP : Nat := 2 ^ 255 - 19
def edL : Nat := 2 ^ 252 + 27742317777372353535851937790883648493

/-- Modular power, exponent of at most `k` bits. -/
def powMod (m : Nat) : Nat → Nat → Nat → Nat
  | 0, _, _ => 1
  | k + 1, b, e =>
    let h := powMod m k (b * b % m) (e / 2)
    if e % 2 = 1 then h * b % m else h

def edInv (x : Nat) : Nat := powMod edP 255 x (edP - 2)
def edD : Nat := (edP - 121665) * edInv 121666 % edP

/-- A point in extended coordinates. -/
structure EdPt where
  x : Nat
  y : Nat
  z : Nat
  t : Nat
  deriving DecidableEq, Repr

def edAdd (p q : EdPt) : EdPt :=
  let a := (p.y + edP - p.x) * (q.y + edP - q.x) % edP
  let b := (p.y + p.x) * (q.y + q.x) % edP
  let c := 2 * p.t * q.t % edP * edD % edP
  let d := 2 * p.z * q.z % edP
  let e := (b + edP - a) % edP
  let f := (d + edP - c) % edP
  let g := (d + c) % edP
  let h := (b + a) % edP
  ⟨e * f % edP, g * h % edP, f * g % edP, e * h % edP⟩

def edMul : Nat → Nat → EdPt → EdPt
  | 0, _, _ => ⟨0, 1, 1, 0⟩
  | k + 1, e, p =>
    let h := edMul k (e / 2) (edAdd p p)
    if e % 2 = 1 then edAdd h p else h

def edEq (p q : EdPt) : Bool := decide (p.x * q.z % edP = q.x * p.z % edP ∧ p.y * q.z % edP = q.y * p.z % edP)

/-- The x coordinate of `y` with the given sign, if there is one. -/
def edX (y sign : Nat) : Option Nat :=
  let u := (y * y + edP - 1) % edP
  let x2 := u * edInv ((edD * y % edP * y + 1) % edP) % edP
  if y ≥ edP then none
  else if x2 = 0 then (if sign = 1 then none else some 0)
  else
    let r := powMod edP 255 x2 ((edP + 3) / 8)
    let x := if r * r % edP = x2 then r else r * powMod edP 255 2 ((edP - 1) / 4) % edP
    if x * x % edP ≠ x2 then none else some (if x % 2 = sign then x else edP - x)

def edDecode (b : Bytes) : Option EdPt :=
  let n := leNat b
  let y := n % 2 ^ 255
  if b.length ≠ 32 then none
  else match edX y (n / 2 ^ 255) with
    | none => none
    | some x => some ⟨x, y, 1, x * y % edP⟩

def edEncode (p : EdPt) : Bytes :=
  let zi := edInv p.z
  leBytes 32 (p.y * zi % edP + 2 ^ 255 * (p.x * zi % edP % 2))

def edBase : EdPt :=
  let y := 4 * edInv 5 % edP
  let x := (edX y 0).getD 0
  ⟨x, y, 1, x * y % edP⟩

/-- The clamped scalar and the prefix of a private seed. -/
def edSecret (seed : Bytes) : Nat × Bytes :=
  let h := sha512 seed
  let a := leNat (h.take 32) % 2 ^ 254 / 8 * 8 + 2 ^ 254
  (a, h.drop 32)

/-- The public key of a private seed. -/
def edPub (seed : Bytes) : Bytes := edEncode (edMul 256 (edSecret seed).1 edBase)

/-- The signature of `m` under a private seed. -/
def edSign (seed m : Bytes) : Bytes :=
  let (a, pre) := edSecret seed
  let pub := edPub seed
  let r := leNat (sha512 (pre ++ m)) % edL
  let rb := edEncode (edMul 256 r edBase)
  let k := leNat (sha512 (rb ++ pub ++ m)) % edL
  rb ++ leBytes 32 ((r + k * a) % edL)

/-- Does `sig` sign `m` under public key `pub`? -/
def edVerify (pub m sig : Bytes) : Bool :=
  match edDecode pub, edDecode (sig.take 32) with
  | some a, some r =>
    let s := leNat (sig.drop 32)
    let k := leNat (sha512 (sig.take 32 ++ pub ++ m)) % edL
    decide (sig.length = 64 ∧ s < edL) && edEq (edMul 256 s edBase) (edAdd r (edMul 256 k a))
  | _, _ => false

end Sys2Proof.Machine
end

