-- ==== Sys2Proof/Machine/Types.lean ====
section
/-!
DEFINITION. The data of the host side of the block: functions, rings, commands, transfers, events and power. Each
structure's fields carry the rule that names them. Registers are held apart (Regs.lean): what a register shows is held
only there.
-/

namespace Sys2Proof.Machine

/-- A function: 0 the PF, v for VF v (R253). -/
abbrev Fn := Fin 64
/-- A station (R1, R8). -/
abbrev Stn := Fin 16
/-- A ring number within a function (R270). -/
abbrev RingNo := Fin 256
/-- A capsule: 64 bytes, byte i in bits 8i+7:8i (R282). -/
abbrev Capsule := BitVec 512
/-- R392: the bits of a line of buffer memory: its data from 0, its check word from 512. -/
abbrev LineBit := Fin 544
/-- R404: the bits of a cached line: its data from 0, then the parity bit of each 8 bytes. -/
abbrev CacheBit := Fin 520

/-- The part (R1): stations 8 to 15 are fused off on the VK1608. -/
inductive Part where
  | vk1640 | vk1608
  deriving DecidableEq, Repr

/-- Status codes (Table 11.2). -/
inductive Status where
  | ok | okRecovered | okDegraded | invalidOpcode | invalidField | vaultNotMounted | outOfRange | mediumReadError
  | authFail | sealMismatch | dataPoisoned | writeVerifyFail | mediumFull | abortedByReset | abortedByHost | queueFrozen
  | stationUnavailable | stationDegraded | writeHeldTimeout | dmaFault | bufferExhausted | spindleLost | internal
  deriving DecidableEq, Repr

/-- Table 11.2: the code of a status. -/
def statusCode : Status → Nat
  | .ok => 0x00 | .okRecovered => 0x01 | .okDegraded => 0x02 | .invalidOpcode => 0x10 | .invalidField => 0x11
  | .vaultNotMounted => 0x12 | .outOfRange => 0x13 | .mediumReadError => 0x20 | .authFail => 0x21 | .sealMismatch => 0x22
  | .dataPoisoned => 0x23 | .writeVerifyFail => 0x24 | .mediumFull => 0x25 | .abortedByReset => 0x30
  | .abortedByHost => 0x31 | .queueFrozen => 0x32 | .stationUnavailable => 0x33 | .stationDegraded => 0x34
  | .writeHeldTimeout => 0x35 | .dmaFault => 0x36 | .bufferExhausted => 0x37 | .spindleLost => 0x38 | .internal => 0x40

/-- R302: the place of a status in the precedence list, first 0. -/
def statusRank : Status → Nat
  | .internal => 0 | .dataPoisoned => 1 | .dmaFault => 2 | .authFail => 3 | .sealMismatch => 4 | .mediumReadError => 5
  | .writeVerifyFail => 6 | .writeHeldTimeout => 7 | .spindleLost => 8 | .stationUnavailable => 9 | .stationDegraded => 10
  | .mediumFull => 11 | .invalidField => 12 | .outOfRange => 13 | .vaultNotMounted => 14 | .bufferExhausted => 15
  | .abortedByHost => 16 | .okDegraded => 17 | .okRecovered => 18 | .ok => 19
  | .invalidOpcode => 20 | .abortedByReset => 21 | .queueFrozen => 22

/-- R302: of two outcomes of one started command, the one that applies. -/
def worse (a b : Status) : Status := if statusRank a ≤ statusRank b then a else b

/-- A status of 0x10 or above is a failure (R309, R311). -/
def isFailure (a : Status) : Bool := 0x10 ≤ statusCode a

/-- One MSI-X table entry (R248, Table 9.3). -/
structure MsixEnt where
  /-- message address and data, written by software -/
  addr : BitVec 64
  data : Word
  /-- the vector's Mask bit -/
  masked : Bool
  deriving DecidableEq, Repr

/-- One record of a function's error log (Table 11.9). -/
structure ErrRec where
  sqid : Nat
  cid : Nat
  opc : Nat
  status : Status
  station : Nat
  froze : Bool
  vba : Nat
  bandSeq : Nat
  xfer : Nat
  detail : Nat
  errAddr : Nat
  time : Nat
  deriving DecidableEq, Repr

/-- A function's PCI Express state that no register of BAR0 shows. -/
structure Func where
  /-- [1; R260; reset 0] ATS Enable -/
  ats : Bool := false
  /-- [1; R262; reset 0] PRI Enable -/
  pri : Bool := false
  /-- [Nat; R262; reset 0] Outstanding Page Request Allocation -/
  priAlloc : Nat := 0
  /-- [1; R257; reset 0 (D0)] the function is in D3hot -/
  d3hot : Bool := false
  /-- [1; R453; reset 0] MSI-X Enable -/
  msixEn : Bool := false
  /-- [1; R453; reset 0] Function Mask -/
  funcMask : Bool := false
  /-- [32 bits each; R248, R252, R254, Tables 9.1, 9.3, 9.4; unlisted: each dword's own reset value] what the kept bits of configuration space hold -/
  cfg : SMap (BitVec 32) := []
  /-- [256 or COUNT entries; R266, Table 9.3; unlisted: address 0, data 0, masked] the MSI-X table -/
  msix : List (Nat × MsixEnt) := []
  /-- [set of vectors; R453; reset empty] the pending-bit array -/
  pba : List Nat := []
  /-- [1; R280; reset 0 (ACTIVE)] the function is IDLE -/
  idle : Bool := false
  /-- [Nat; R281; reset 0] reads of a poll still in flight -/
  pollLeft : Nat := 0
  /-- [1; R281; reset 0] a nudge owes one more poll -/
  pollOwed : Bool := false
  /-- [256 records; R311; reset empty] the function's error log, oldest first -/
  errLog : List ErrRec := []
  /-- [Nat; R311, Table 11.5; reset 0] records lost since the last LOG_READ -/
  errLost : Nat := 0
  /-- [Nat; R300; reset 0] the round that its last poll belongs to -/
  pollRound : Nat := 0
  /-- [1; R296; reset 0] a head shadow whose write has failed is not yet written -/
  shWait : Bool := false
  deriving DecidableEq, Repr

/-- A submission ring (R270 to R275); its head and STATE are SQ_STAT's. -/
structure Sq where
  /-- creation arguments (Table 10.1) -/
  base : Nat
  size : Nat
  cq : Nat
  /-- 0 STANDARD, 1 SCHUSS, 2 BULK -/
  cls : Nat
  chained : Bool
  pasid : Option Nat
  /-- tail as last taken (R278) -/
  tail : Nat
  /-- the doorbell word last read (R278) -/
  lastWord : Option (BitVec 64)
  /-- the head has moved since the shadow was last written (R279) -/
  shadowDue : Bool
  /-- the last word was ignored, and is judged again (R278) -/
  ignored : Bool
  /-- the read of the capsule at the head: 0 not issued, 1 in flight, 2 and 3 in flight while a DELETE_SQ or a DISCARD cut it off (R297) -/
  fetch : Nat
  /-- R300: the rounds of polls that found the capsules not yet read, oldest first, each with the tail that it found -/
  found : List (Nat × Nat)
  deriving DecidableEq, Repr

/-- A completion entry not yet written (Table 10.3). -/
structure Entry where
  /-- the command it ends or signals -/
  cmd : Nat
  fn : Nat
  sq : Nat
  cid : Nat
  status : Status
  /-- 0 final, 1 XFER_READY -/
  kind : Nat
  res0 : Nat
  res1 : Nat
  xfer : Nat
  errAddr : Nat
  /-- the error-log record to be written before it (R311) -/
  log : Option ErrRec
  deriving DecidableEq, Repr

/-- A completion ring; its tail, phase, FULL and STATE are CQ_STAT's. -/
structure Cq where
  base : Nat
  size : Nat
  ien : Bool
  ccount : Nat
  vec : Nat
  ctime : Nat
  pasid : Option Nat
  /-- head as last taken (R278) -/
  head : Nat
  lastWord : Option (BitVec 64)
  /-- entries waiting, oldest first (R287) -/
  waiting : List Entry
  /-- entries posted since the last message (R288) -/
  unsignalled : Nat
  /-- the last word was ignored, and is judged again (R278) -/
  ignored : Bool
  deriving DecidableEq, Repr

/-- One ledger entry: data index, VBA and version (Table 2.8). -/
structure LEntry where
  d : Nat
  vba : Nat
  ver : Nat
  deriving DecidableEq, Repr

/-- A band the ledger knows (Table 12.3). -/
structure Band where
  seq : Nat
  disc : Nat
  /-- location, packed as WR_BAND -/
  loc : Nat
  n : Nat
  /-- bit 0 early-closed, bit 1 write hold, bit 2 void, bit 3 uncovered -/
  flags : Nat
  /-- the relocation entries of Table 2.9, 8 bytes each -/
  relocs : List Bytes
  entries : List LEntry
  /-- the seal's time stamp -/
  time : Nat
  deriving DecidableEq, Repr

/-- A disc attached to a mounted vault. -/
structure Disc where
  idx : Nat
  /-- the station holding it; none when absent (R344) -/
  stn : Option Nat
  discId : Nat
  /-- frontier of layers 0 to 15, packed as WR_BAND; ZONE 63 when full (R336) -/
  frontier : List Nat
  /-- number of the latest complete checkpoint, its first band and its bands -/
  ckptNo : Nat
  ckptLoc : Nat
  ckptBands : Nat
  /-- the last checkpoint number used (R337) -/
  ckptTry : Nat
  /-- the checkpoint being written: its first band, its bands begun so far, and the BAND_SEQs that it covers -/
  ckptFirst : Nat
  ckptCnt : Nat
  ckptCov : List Nat
  /-- data bands sealed since that checkpoint (R337) -/
  since : Nat
  /-- a checkpoint is due (R337) -/
  ckptDue : Bool
  /-- checkpoints closed for lack of positions (R336) -/
  closed : Bool
  /-- digest of the last seal, or the binding digest (R61) -/
  lastSeal : Bytes
  /-- R333: the number its binding record carries, until its first band is begun -/
  firstSeq : Option Nat
  /-- bands begun since the last complete checkpoint (R337) -/
  fresh : List Band
  /-- the dropped list (R332) -/
  dropped : List (Nat × Nat)
  /-- it became absent because its station became unavailable or entered FATAL (R342, R344) -/
  lost : Bool
  deriving DecidableEq, Repr

/-- One entry of the sealed-since-last-completion list (Table 12.7). -/
structure Since where
  seq : Nat
  loc : Nat
  disc : Nat
  flags : Nat
  n : Nat
  time : Nat
  deriving DecidableEq, Repr

/-- A mounted vault. -/
structure Vault where
  id : Nat
  fn : Nat
  nblk : Nat
  /-- nonce prefix (R349) -/
  pfx : Nat
  dataKey : Bytes
  sealSeed : Bytes
  sealPub : Bytes
  /-- GATHER_AGE in ms (R317) -/
  age : Nat
  discs : List Disc
  /-- every counted band -/
  bands : List Band
  /-- next version of each VBA that has had one (R332) -/
  nextVer : List (Nat × Nat)
  nextSeq : Nat
  sealed : List Since
  /-- bands sealed while mounted of whose commands none has posted its completion (R341) -/
  unposted : List Since
  /-- 0 mounted, 1 an unmount runs (R342, R344) -/
  closing : Bool
  deriving DecidableEq, Repr

/-- What a station finds on an offered disc (Table 12.1, R66). -/
inductive DiscKind where
  | rejected | blank | disagree | bound
  deriving DecidableEq, Repr

/-- What a station reads back from one written band position of an offered disc (R339). -/
structure BandRead where
  loc : Nat
  /-- the information bytes of slot 70's frames, spirals 0 to 7 (empty: not decoded) -/
  seals : List Bytes
  /-- those of the data frames that decode -/
  frames : List Bytes
  deriving DecidableEq, Repr

/-- What the stations read from one offered disc at a mount (R339): operands of VAULT_MOUNT, not state. DEDUCED: log entry 99. -/
structure DiscFound where
  stn : Nat
  /-- the information bytes of frames 0 to 63 of position 0 of zone L, as decoded (empty: not) -/
  ident : List Bytes
  /-- those of positions 1 to 3; none: the position is unwritten -/
  copies : List (Option (List Bytes))
  /-- the written band positions of its data zones -/
  bands : List BandRead
  /-- R329, for a blank disc: the channel-clock counts at which its three binding copies are written, the raw error count and the information
  bytes that verification gets of each of their frames, and what the full-ladder read back gets -/
  counts : List Nat
  verified : List (List (Nat × Bytes))
  readBack : List (List Bytes)
  deriving DecidableEq, Repr

/-- One measured word (Table 16.6): trim address, sensor or channel number; new value; residual. DEDUCED: log entry 72. -/
structure CalItem where
  addr : Nat
  val : Int
  res : Int
  deriving DecidableEq, Repr

/-- What ZONE_LEARN's pass gives for one stream (R443): the adapted G, O and A of its converged frames, oldest first, and its adapted taps,
each in 2^-20 of the zone table's unit. -/
structure ZoneItem where
  q : Nat
  frames : List (Int × Int × Int)
  taps : List Int
  deriving DecidableEq, Repr

/-- What TEST_WRITE's verification gives for one frame (R203, R443): its raw error count (none: not converged), the information bytes decoded,
and the asymmetry. -/
structure TestItem where
  idx : Nat
  raw : Option Nat
  info : List (BitVec 8)
  asym : Int
  deriving DecidableEq, Repr

/-- What a calibration step measures (R435, R442, R443): operands of the calibration commands, not state.
DEDUCED: log entry 236. -/
structure CalMeas where
  /-- seek, lock and the disc's part of the preconditions -/
  ready : Bool
  /-- REFIN in µV against the bandgap (R435) -/
  refin : Nat
  /-- sensors 0 to 7 in 0.01 °C, and one of them moving by more than 0.5 °C in 1 s -/
  temps : List Int
  moving : Bool
  items : List CalItem
  /-- PD_SENSE (R434): the codes of the current channels at zero current, as (channel, code), and the codes of U and V, and of U and W, under
  the two DC drives -/
  zero : List (Nat × Int)
  driveV : Int × Int
  driveW : Int × Int
  zone : List ZoneItem
  tests : List TestItem
  /-- a controller trim word would leave its range -/
  range : Bool
  /-- channel-clock count at which a test write's first bit lands -/
  count : Nat
  deriving DecidableEq, Repr

/-- One entry of the BIST record (Table 16.9). -/
structure BistEnt where
  code : Nat
  kind : Nat
  /-- 0 repaired by a spare row, 1 unusable -/
  result : Nat
  addr : Nat
  bit : Nat
  detail : Nat
  deriving DecidableEq, Repr

/-- What one test of Tables 16.7 and R447 measures. -/
inductive BistTest where
  /-- a failing row of a memory: its address and bit, and whether a spare row repairs it -/
  | row (addr bit : Nat) (repaired : Bool)
  /-- the loop-back of SA and CL: samples whose sign matches, samples, and the sum of their magnitudes -/
  | loop (matched samples sum : Nat)
  /-- a phase driven alone: its voltage, duty × local bus, and the MO copies that failed -/
  | drive (volt want failed : Nat)
  /-- a sense channel: what it reads, and what it is compared with -/
  | sense (value want : Nat)
  /-- a block of logic that fails -/
  | broken
  deriving DecidableEq, Repr

/-- What a self-test finds for the block of a code of Table 16.8: operands of the commands that end in BIST, not state. -/
structure BistFind where
  code : Nat
  test : BistTest
  deriving DecidableEq, Repr

/-- Where a WRITE's block is (R313, R23, R206). -/
inductive BlockAt where
  /-- its bytes have not all arrived -/
  | waiting
  /-- at the gather stage, not in a parison -/
  | gathered
  /-- in parison `p` -/
  | placed (p : Nat)
  /-- recorded in the sealed band `seq` -/
  | recorded (seq : Nat)
  /-- (a READ's block) awaits the bytes that WRITE `w` has still to pull (R313) -/
  | forward (w : Nat)
  /-- can no longer be recorded by this WRITE -/
  | dropped
  deriving DecidableEq, Repr

/-- One block of an admitted WRITE. -/
structure WBlock where
  vba : Nat
  ver : Nat
  at' : BlockAt
  data : Bytes
  /-- when it first arrived at the gather stage (R317) -/
  arrived : Nat
  /-- bands in which it failed (R213) -/
  failed : Nat
  deriving DecidableEq, Repr

/-- Where the page request of a parked transfer stands (R262, R292). -/
inductive PrAt where
  | none | waiting | outstanding
  deriving DecidableEq, Repr

/-- An admitted command, outstanding until its final entry is posted (R300). -/
structure Cmd where
  /-- place in the device-wide admission order -/
  id : Nat
  fn : Nat
  sq : Nat
  cid : Nat
  caps : Capsule
  admitted : Nat
  started : Bool
  /-- R321 -/
  aged : Bool
  /-- R309: held on a frozen SQ -/
  held : Bool
  /-- R320: its buffers are reserved -/
  reserved : Bool
  /-- the handles of its buffers (R400) -/
  bufs : List Nat
  /-- R289: its XFER_READY is posted / its CQ head has passed -/
  xrdyPosted : Bool
  xrdyTaken : Bool
  /-- the CQ slot of its XFER_READY entry -/
  xrdySlot : Nat
  /-- what moves next: 0 the segment list (R283), 1 data from the host, 2 data to the host, 3 nothing -/
  phase : Nat
  /-- list or key bytes that precede the data in inBytes -/
  lead : Nat
  /-- R291: the segments, (address, length), still to be moved from and to the host -/
  segsIn : List (Nat × Nat)
  segsOut : List (Nat × Nat)
  /-- bytes moved: the transfer's resume point (Table 10.4) -/
  off : Nat
  parked : Bool
  pr : PrAt
  /-- failed translations of the faulting page since its last success -/
  fails : Nat
  inBytes : Bytes
  outBytes : Bytes
  /-- its work is done; it ends once outBytes have left (R286) -/
  outDone : Bool
  /-- outcomes found so far (R302) -/
  status : Status
  errAddr : Nat
  station : Nat
  bandSeq : Nat
  detail : Nat
  res0 : Nat
  res1 : Nat
  /-- commands whose final entries it waits for (QUEUE_RESET, R310) -/
  waits : List Nat
  blocks : List WBlock
  /-- R313: of a READ, the next version of each of its VBAs at its admission (R331) -/
  verLimits : List Nat
  /-- what the stations report for it: offered discs (R339), exported records (R357) -/
  found : List DiscFound
  records : List (Option Bytes)
  /-- R395: (offset, length) of the parts of its data for the host that carry the poison mark, as far as they have been met -/
  poison : List (Nat × Nat)
  /-- what a device-wide calibration step measures (R442), and what SHUTDOWN's self-test finds (R446) -/
  meas : Option CalMeas
  bist : List BistFind
  /-- its final entry waits on a CQ, or it was ended without one -/
  ended : Bool
  /-- R255: its function was reset; it moves no data and posts nothing -/
  mute : Bool
  deriving DecidableEq, Repr

/-- Station tasks (Table 8.5). -/
inductive TaskKind where
  | load | park | stow | retire | seek | bandWrite | bandRead | capture | calStep | spin
  /-- a change of mode (R306), which no gaffer runs -/
  | mode
  deriving DecidableEq, Repr

/-- A block that a BAND_READ is to bring: the command, the block's place in it and the ledger's values (R178). -/
structure Req where
  cmd : Nat
  vba : Nat
  ver : Nat
  d : Nat
  deriving DecidableEq, Repr

/-- A task waiting for a station, or held by it. -/
structure Task where
  id : Nat
  stn : Nat
  kind : TaskKind
  /-- the commands it serves, by admission number -/
  cmds : List Nat
  /-- 0 STANDARD, 1 SCHUSS, 2 BULK (R319) -/
  cls : Nat
  /-- admission order of its first command -/
  order : Nat
  /-- the task arguments (TASK_ARG, Table 8.5) -/
  args : List Nat
  /-- R308: runs before any other task of the station -/
  first : Bool
  /-- BAND_READ: the requested blocks -/
  reqs : List Req
  /-- R230: a software GO, not the dispatcher's -/
  sw : Bool
  deriving DecidableEq, Repr

/-- Event log record (Table 17.3). -/
structure EvtRec where
  event : Nat
  merged : Nat
  ctx : Nat
  fn : Nat
  time : Nat
  detail : List Nat
  deriving DecidableEq, Repr

/-- Where software reaches a function (Table 9.3): its BARs and its configuration space. -/
inductive Space where
  | bar0 | bar2 | bar4 | config
  deriving DecidableEq, Repr

/-- An access that stalls until its domain is ON (R13). -/
inductive Access where
  /-- a 32-bit write by software; `data`: what host memory holds where the write makes the controller read it -/
  | write (fn : Nat) (sp : Space) (off : Nat) (w : Word) (data : Bytes)
  /-- a 32-bit read -/
  | read (fn : Nat) (sp : Space) (off : Nat)
  deriving DecidableEq, Repr

/-- A read that the controller makes of host memory (R252, R296). -/
inductive HostRead where
  /-- data, a list or a key of a command -/
  | command (id : Nat)
  /-- a capsule of an SQ -/
  | capsule (fn : Fn) (sq : RingNo)
  /-- the doorbell words of a function -/
  | doorbell (fn : Fn)
  deriving DecidableEq, Repr

/-- What answers it. -/
inductive ReadBack where
  | data (bytes : Bytes)
  | poisoned | unsupported | abort
  deriving DecidableEq, Repr

/-- Where the entry of a DOMAIN_SET stands (Table 15.4). -/
inductive EntryStage where
  /-- domains named ON are waking -/
  | waking
  /-- every named domain agreed; the immediate domains are stopping (step 3) -/
  | stopping
  /-- the completion is posted or waits; the deferred domains serve (steps 5, 6) -/
  | deferred
  deriving DecidableEq, Repr

/-- The DOMAIN_SET in progress (R422). -/
structure PmEntry where
  cmd : Nat
  cid : Nat
  /-- (domain, 2 RET or 3 OFF) of the domains entered -/
  named : List (Nat × Nat)
  /-- domains named ON -/
  wakes : List Nat
  stage : EntryStage
  deriving DecidableEq, Repr

/-- The SPDM capabilities of Table 9.5. -/
inductive SpdmCap where
  | cert | chal | meas | measFresh | keyEx | encrypt | mac | hbeat | keyUpd
  deriving DecidableEq, Repr

/-- What an SPDM request asks (R264). DEDUCED: log entry 91. PRESUMED: log entry 232. -/
inductive SpdmReq where
  | version | capabilities | algorithms | digests
  | certificate (slot : Nat)
  | challenge (slot : Nat)
  /-- the measurement block of an index; 0xFF: every block -/
  | measurements (index : Nat)
  | keyExchange (session : Nat)
  | finish (session : Nat)
  | heartbeat (session : Nat)
  /-- IDE_KM, in a secure session: a key of set 0 or 1 for a sub-stream (0 PR, 1 NPR, 2 CPL) and a direction (R265) -/
  | ideKey (session set sub dir : Nat) (key : Bytes)
  /-- any request that Table 9.5 gives no support for -/
  | other
  deriving DecidableEq, Repr

/-- What a response on the DOE mailbox carries (R263, R264, R363, Tables 9.5, 13.6). DEDUCED: log entry 91. -/
inductive SpdmResp where
  | error
  /-- DOE Discovery: the protocol at an index and the next index -/
  | discovery (type next : Nat)
  | capabilities (l : List SpdmCap)
  | algorithms (asym hash dhe aead : String)
  /-- the one version, 1.2 -/
  | version (v : Nat)
  /-- slots provisioned, and the digest of slot 0's chain -/
  | digests (slots : Nat) (digest : Bytes)
  | certificate (chain : Bytes)
  /-- measurement blocks: index and value -/
  | measurements (l : List (Nat × Bytes))
  /-- an answer whose content is SPDM 1.2's own: a challenge, a key exchange, an acknowledgement -/
  | done
  deriving DecidableEq, Repr

/-- An access on the JTAG pins (R374, Table 13.11). DEDUCED: log entry 162. -/
inductive Jtag where
  | boundary
  /-- halt the bench core, or let it run -/
  | halt (b : Bool)
  /-- one step of the halted bench core -/
  | step
  | memRead (a n : Nat)
  | memWrite (a : Nat) (bs : Bytes)
  | regRead (off : Nat)
  | regWrite (off : Nat) (w : Word)
  /-- read the event log -/
  | eventLog
  /-- internal scan -/
  | scan
  deriving DecidableEq, Repr

/-- A block received on a sample lane (R71): its sync header, the 58 scrambled bits before it on the lane and its 64 scrambled bits. -/
structure Block66 where
  sync : BitVec 2
  before : BitVec 58
  bits : BitVec 64
  deriving DecidableEq, Repr

/-- A word on a handshake channel as its sender holds it (R16, R17, R19): its context tag, its bytes beside the tag's two copies, and the
command it serves. DEDUCED: log entry 159. -/
structure ChWord where
  ctx : Nat
  data : Bytes
  cmd : Option Nat
  deriving DecidableEq, Repr

/-- The two rails of a dual-rail wire. -/
structure Rails where
  t : Bool
  f : Bool
  deriving DecidableEq, Repr

/-- A word as its receiver finds it (R16, R19): the two bytes that hold the copies of the tag and the data bytes, each with its parity bit,
and the request and acknowledge wires. -/
structure ChRx where
  tagA : Byte × Bool
  tagB : Byte × Bool
  data : List (Byte × Bool)
  req : Rails
  ack : Rails
  deriving DecidableEq, Repr

/-- What leaves the block: the model's own record of its outputs, newest last. DESIGN CHOICE: log entry 15. -/
inductive Out where
  /-- bytes written to host memory (data, rings, shadows); address and PASID -/
  | hostWrite (fn : Nat) (pasid : Option Nat) (addr : Nat) (bytes : Bytes)
  /-- R395: bytes [off, off + n) of the data that a command writes to the host travel in TLPs sent poisoned -/
  | tlpPoison (fn sq cid off n : Nat)
  /-- a read request to host memory -/
  | hostRead (fn : Nat) (pasid : Option Nat) (addr len : Nat)
  /-- a translation request -/
  | atsReq (fn : Nat) (pasid : Option Nat) (page : Nat)
  /-- an invalidation completion -/
  | atsDone (fn : Nat) (page : Nat)
  /-- a PRI page request -/
  | pageReq (fn : Nat) (pasid : Option Nat) (page : Nat)
  /-- an MSI-X message -/
  | msix (fn vec : Nat) (addr : BitVec 64) (data : Word)
  /-- data of a buffer memory read, with its poison mark (R394) -/
  | memData (port : Nat) (bytes : Bytes) (poisoned : Bool)
  /-- the value a register read returns -/
  | readData (w : Word)
  /-- a read of an unsupported size or alignment returns this many bytes of ones (R9) -/
  | ones (size : Nat)
  /-- the content of an SPDM response (R263, R264): the wire form is SPDM 1.2's -/
  | spdm (r : SpdmResp)
  /-- an AER record -/
  | aer (kind : Nat)
  /-- an FLR of a function has ended (R255) -/
  | flrDone (fn : Nat)
  /-- a block on CL of station n (R71): its sync header and its 64 scrambled bits, bit 0 first -/
  | cl (n sync bits : Nat)
  /-- the characters of an MO frame of station n (Table 3.7, R79), 10 bits each -/
  | mo (n : Nat) (chars : List Nat)
  /-- R79: idle characters on MO of station n, whose coding is Clause 36's own -/
  | moIdle (n count : Nat)
  /-- a transmission on AX of station n (R82): the levels of the line -/
  | ax (n : Nat) (levels : List Bool)
  /-- R215: the head of station n is stepped back one octo-turn by a track jump -/
  | trackJump (n : Nat)
  /-- the answer to an ALLOC of a requester: a handle, or EMPTY (R402) -/
  | pool (who : Nat) (handle : Option Nat)
  /-- a JTAG read (R374) -/
  | jtag (bytes : Bytes)
  /-- the lift-bus acknowledge (R427) -/
  | liftAck
  deriving DecidableEq, Repr

/-! ## Capsules -/

/-- `n` bytes of capsule `c` from offset `off`, little-endian (R303). -/
def cap (c : Capsule) (off n : Nat) : Nat := (c.toNat >>> (8 * off)) % 2 ^ (8 * n)

def capOPC (c : Capsule) : Nat := cap c 0 1
def capLIST (c : Capsule) : Bool := c.getLsbD 8
def capXRDY (c : Capsule) : Bool := c.getLsbD 9
def capCID (c : Capsule) : Nat := cap c 2 2
def capVAULT (c : Capsule) : Nat := cap c 4 4
def capDPTR (c : Capsule) : Nat := cap c 8 8
def capDLEN (c : Capsule) : Nat := cap c 16 4
def capLCOUNT (c : Capsule) : Nat := cap c 20 4

end Sys2Proof.Machine
end

