-- ==== Sys2Proof/Syntax.lean ====
section
/-!
DEFINITION. The commands of the opcode table, one constructor a row, in the table's order. The operands of a capsule are its function,
its ring and its 64 bytes; an event's operands are what the world brings with it (a sample, a reading, a search's outcome).
-/

namespace Sys2Proof

open Machine

inductive Instr where
  /-- READ (R313): A READ capsule is admitted and returns each block from an earlier overlapping WRITE on the same SQ or from the latest
  sealed version. -/
  | read (fn : Fn) (sq : RingNo) (caps : Capsule)
  /-- WRITE (R23): A WRITE capsule is admitted, takes versions and completes only when its blocks and their band seals are verified. -/
  | write (fn : Fn) (sq : RingNo) (caps : Capsule)
  /-- READ_VERSION (R334): A READ_VERSION capsule reads the named recorded version from the medium without forwarding. -/
  | readVersion (fn : Fn) (sq : RingNo) (caps : Capsule)
  /-- FLUSH (R316): A FLUSH completes once every WRITE admitted device-wide before it has completed, and reports their statuses. -/
  | flush (fn : Fn) (sq : RingNo) (caps : Capsule)
  /-- FENCE (R315): A FENCE completes once every command admitted before it has completed, and holds its own SQ until then. -/
  | fence (fn : Fn) (sq : RingNo) (caps : Capsule)
  /-- VAULT_CREATE (R328): VAULT_CREATE without REBIND makes the vault keys and record, adds a directory entry and writes the record to
  the host. -/
  | vaultCreate (fn : Fn) (sq : RingNo) (caps : Capsule)
  /-- VAULT_CREATE_REBIND (R328): VAULT_CREATE with REBIND changes the bound function of an unmounted vault, or removes its entry when FN
  is 0xFFFF. -/
  | vaultCreateRebind (fn : Fn) (sq : RingNo) (caps : Capsule)
  /-- VAULT_MOUNT (R339): VAULT_MOUNT checks the vault record, reads the offered discs, replays bands, builds the map and binds blank
  discs. -/
  | vaultMount (fn : Fn) (sq : RingNo) (caps : Capsule) (found : List DiscFound)
  /-- VAULT_UNMOUNT (R342): VAULT_UNMOUNT waits for earlier writes, writes a checkpoint on each attached disc and releases the map. -/
  | vaultUnmount (fn : Fn) (sq : RingNo) (caps : Capsule)
  /-- VAULT_QUERY_SUMMARY (R343): VAULT_QUERY with QSEL 0 writes the vault's 64-byte SUMMARY record. -/
  | vaultQuerySummary (fn : Fn) (sq : RingNo) (caps : Capsule)
  /-- VAULT_QUERY_SEALED_SINCE (R343): VAULT_QUERY with QSEL 1 writes the sealed-since-last-completion list. -/
  | vaultQuerySealedSince (fn : Fn) (sq : RingNo) (caps : Capsule)
  /-- VAULT_QUERY_VERSIONS (R343): VAULT_QUERY with QSEL 2 writes one record for each band that holds a recorded version of the VBA. -/
  | vaultQueryVersions (fn : Fn) (sq : RingNo) (caps : Capsule)
  /-- VAULT_QUERY_DISCS (R343): VAULT_QUERY with QSEL 3 writes one record per disc of the vault. -/
  | vaultQueryDiscs (fn : Fn) (sq : RingNo) (caps : Capsule)
  /-- SEAL_EXPORT (R357): SEAL_EXPORT reads and checks the seal records of a range of bands and writes a header and one entry per band. -/
  | sealExport (fn : Fn) (sq : RingNo) (caps : Capsule)
  /-- CRYPT_GCM_ENCRYPT (R358): CRYPT mode 0 encrypts the data with AES-256-GCM and writes ciphertext and tag. -/
  | cryptGcmEncrypt (fn : Fn) (sq : RingNo) (caps : Capsule)
  /-- CRYPT_GCM_DECRYPT (R360): CRYPT mode 1 decrypts with AES-256-GCM and releases the plaintext only after the tag check passes. -/
  | cryptGcmDecrypt (fn : Fn) (sq : RingNo) (caps : Capsule)
  /-- CRYPT_CTR (R358): CRYPT mode 2 transforms the data with AES-256-CTR. -/
  | cryptCtr (fn : Fn) (sq : RingNo) (caps : Capsule)
  /-- CRYPT_KEY_WRAP (R358): CRYPT mode 3 wraps the data with padding under RFC 5649. -/
  | cryptKeyWrap (fn : Fn) (sq : RingNo) (caps : Capsule)
  /-- CRYPT_KEY_UNWRAP (R360): CRYPT mode 4 unwraps the data and releases it only after the integrity check passes. -/
  | cryptKeyUnwrap (fn : Fn) (sq : RingNo) (caps : Capsule)
  /-- HASH (R361): HASH computes SHA-512 over the data on one seal-engine lane and writes the digest. -/
  | hash (fn : Fn) (sq : RingNo) (caps : Capsule)
  /-- FORENSIC_CAPTURE (R26): FORENSIC_CAPTURE is admitted under the 40 GB/s cap, or held, and captures raw samples of a station. -/
  | forensicCapture (fn : Fn) (sq : RingNo) (caps : Capsule)
  /-- FORENSIC_CAPTURE_STOP (R308): FORENSIC_CAPTURE with STOP stops the named capture on the same SQ at its next epoch boundary. -/
  | forensicCaptureStop (fn : Fn) (sq : RingNo) (caps : Capsule)
  /-- PLAN_LOAD_REPLACE (R305): PLAN_LOAD with APPEND 0 replaces the station's plan after the slot that is running. -/
  | planLoadReplace (fn : Fn) (sq : RingNo) (caps : Capsule)
  /-- PLAN_LOAD_APPEND (R305): PLAN_LOAD with APPEND 1 adds slots after the last slot of the plan. -/
  | planLoadAppend (fn : Fn) (sq : RingNo) (caps : Capsule)
  /-- STATION_CTL_LOAD (R306): STATION_CTL ACTION 1 queues a LOAD task for the station. -/
  | stationCtlLoad (fn : Fn) (sq : RingNo) (caps : Capsule)
  /-- STATION_CTL_SPIN (R306): STATION_CTL ACTION 2 queues a SPIN task with ARG as demand. -/
  | stationCtlSpin (fn : Fn) (sq : RingNo) (caps : Capsule)
  /-- STATION_CTL_PARK (R306): STATION_CTL ACTION 3 queues a PARK task. -/
  | stationCtlPark (fn : Fn) (sq : RingNo) (caps : Capsule)
  /-- STATION_CTL_STOW (R306): STATION_CTL ACTION 4 queues a STOW task. -/
  | stationCtlStow (fn : Fn) (sq : RingNo) (caps : Capsule)
  /-- STATION_CTL_RETIRE (R306): STATION_CTL ACTION 5 queues a RETIRE task. -/
  | stationCtlRetire (fn : Fn) (sq : RingNo) (caps : Capsule)
  /-- STATION_CTL_ADAPTIVE (R29): STATION_CTL ACTION 6 selects adaptive mode from the next band boundary. -/
  | stationCtlAdaptive (fn : Fn) (sq : RingNo) (caps : Capsule)
  /-- STATION_CTL_PLANNED (R29): STATION_CTL ACTION 7 selects planned mode, refused unless F_PLANNED is accepted. -/
  | stationCtlPlanned (fn : Fn) (sq : RingNo) (caps : Capsule)
  /-- STATION_CTL_FORCE (R308): STATION_CTL with FORCE stops the task in hand and any suspended task with reason 2 and runs its action
  first. -/
  | stationCtlForce (fn : Fn) (sq : RingNo) (caps : Capsule)
  /-- REFIN (R435): CAL_RUN step REFIN calibrates the REFIN ADC against the applied 2.500 V reference. -/
  | refin (fn : Fn) (sq : RingNo) (caps : Capsule) (meas : Option CalMeas)
  /-- TEMP (R437): CAL_RUN step TEMP calibrates the temperature sensor offsets against the temperature in PARAM. -/
  | temp (fn : Fn) (sq : RingNo) (caps : Capsule) (meas : Option CalMeas)
  /-- VIN (R435): CAL_RUN step VIN calibrates the VIN monitor and reading through the REFIN ADC. -/
  | vin (fn : Fn) (sq : RingNo) (caps : Capsule) (meas : Option CalMeas)
  /-- PD_SENSE (R434): CAL_RUN step PD_SENSE measures the power-stage sense offsets and relative gains. -/
  | pdSense (fn : Fn) (sq : RingNo) (caps : Capsule)
  /-- HF_OFFSET (R442): CAL_RUN step HF_OFFSET trims the head front end ADC offsets with inputs dark. -/
  | hfOffset (fn : Fn) (sq : RingNo) (caps : Capsule)
  /-- HF_GAIN (R443): CAL_RUN step HF_GAIN runs a band pass and sets the photodetector gains and data offsets. -/
  | hfGain (fn : Fn) (sq : RingNo) (caps : Capsule)
  /-- ZONE_LEARN (R443): CAL_RUN step ZONE_LEARN runs a band pass and writes the zone table entries for the band's layer and zone. -/
  | zoneLearn (fn : Fn) (sq : RingNo) (caps : Capsule)
  /-- TEST_WRITE (R443): CAL_RUN step TEST_WRITE writes and verifies a power ladder in a calibration band and reports each frame. -/
  | testWrite (fn : Fn) (sq : RingNo) (caps : Capsule)
  /-- LIVE_ON (R444): CAL_RUN step LIVE_ON turns on live offset refinement in linking gaps for a station. -/
  | liveOn (fn : Fn) (sq : RingNo) (caps : Capsule)
  /-- LIVE_OFF (R444): CAL_RUN step LIVE_OFF turns live refinement off and clears the live deltas. -/
  | liveOff (fn : Fn) (sq : RingNo) (caps : Capsule)
  /-- BIST_CLEAR (R448): CAL_RUN step BIST_CLEAR removes the unusable marks of a station or of every block from the next start. -/
  | bistClear (fn : Fn) (sq : RingNo) (caps : Capsule)
  /-- SHUTDOWN (R446): CAL_RUN step SHUTDOWN runs station BIST on every enabled station and device BIST, then accepts only a few commands.
  -/
  | shutdown (fn : Fn) (sq : RingNo) (caps : Capsule) (bist : List BistFind)
  /-- BIST_REPORT (R449): BIST_REPORT returns the BIST record from SPI flash. -/
  | bistReport (fn : Fn) (sq : RingNo) (caps : Capsule)
  /-- DOMAIN_SET (R419): DOMAIN_SET checks its targets, wakes domains named ON and runs the atomic entry of the domains named RET or OFF.
  -/
  | domainSet (fn : Fn) (sq : RingNo) (caps : Capsule)
  /-- QUEUE_RESET_RESUME_AFTER (R310): QUEUE_RESET with RESUME_AFTER completes the target SQ's unstarted or held commands and resumes
  reading at its head. -/
  | queueResetResumeAfter (fn : Fn) (sq : RingNo) (caps : Capsule)
  /-- QUEUE_RESET_DISCARD (R310): QUEUE_RESET with DISCARD completes the unstarted or held commands and moves the head to the tail. -/
  | queueResetDiscard (fn : Fn) (sq : RingNo) (caps : Capsule)
  /-- LOG_READ (R311): LOG_READ returns the function's error-log records oldest first and removes them. -/
  | logRead (fn : Fn) (sq : RingNo) (caps : Capsule)
  /-- EVENT_LOG_READ (R455): LOG_READ on the PF with SQ 0xFFFE returns event-log records oldest first and removes them. -/
  | eventLogRead (fn : Fn) (sq : RingNo) (caps : Capsule)
  /-- FW_STAGE_FIRMWARE (R368): FW_STAGE with TARGET 0 writes a bench firmware image to the idle flash slot and checks it. -/
  | fwStageFirmware (fn : Fn) (sq : RingNo) (caps : Capsule)
  /-- FW_STAGE_MICROCODE (R241): FW_STAGE with TARGET 1 writes a microcode image to flash and to the bank not in force and checks it. -/
  | fwStageMicrocode (fn : Fn) (sq : RingNo) (caps : Capsule)
  /-- FW_ACTIVATE_FIRMWARE (R318): FW_ACTIVATE with TARGET 0 makes the staged slot in force and restarts the bench core on it. -/
  | fwActivateFirmware (fn : Fn) (sq : RingNo) (caps : Capsule)
  /-- FW_ACTIVATE_MICROCODE (R242): FW_ACTIVATE with TARGET 1 switches the device bank and each station at its band boundary. -/
  | fwActivateMicrocode (fn : Fn) (sq : RingNo) (caps : Capsule)
  /-- NOP (R303): A NOP capsule is admitted and completes. -/
  | nop (fn : Fn) (sq : RingNo) (caps : Capsule)
  /-- CREATE_CQ (R272): QS_CMD CREATE_CQ checks its arguments and creates a completion ring with a new epoch. -/
  | createCq (f : Fn) (k : RingNo) (word : Option (BitVec 64))
  /-- CREATE_SQ (R272): QS_CMD CREATE_SQ checks its arguments and creates a submission ring, locking the function's features if it is the
  first. -/
  | createSq (f : Fn) (k : RingNo) (word : Option (BitVec 64))
  /-- DELETE_SQ (R275): QS_CMD DELETE_SQ stops capsule fetching and frees the ring once its commands have completed. -/
  | deleteSq (f : Fn) (k : RingNo)
  /-- DELETE_CQ (R275): QS_CMD DELETE_CQ frees a completion ring that no SQ posts to. -/
  | deleteCq (f : Fn) (k : RingNo)
  /-- ENTER_MAKER (R372): LC_CMD ENTER_MAKER burns the key digests and a fresh OTP seed and derives the keys. -/
  | enterMaker (len : BitVec 13) (token : Bytes)
  /-- ENTER_FIELD (R372): LC_CMD ENTER_FIELD with a valid token closes debug and locks RWL fields. -/
  | enterField (len : BitVec 13) (token : Bytes)
  /-- ENTER_RETURN (R376): LC_CMD ENTER_RETURN with valid tokens zeroises the owner KEK, directory and engines and raises the KEK
  generation. -/
  | enterReturn (len : BitVec 13) (token : Bytes)
  /-- ENTER_SCRAP (R377): LC_CMD ENTER_SCRAP does what ENTER_RETURN does and makes the OTP seed unreadable. -/
  | enterScrap (len : BitVec 13) (token : Bytes)
  /-- DEBUG_UNLOCK (R374): LC_CMD DEBUG_UNLOCK with a maker debug token sets DBG. -/
  | debugUnlock (len : BitVec 13) (token : Bytes)
  /-- TELEMETRY (R374): LC_CMD TELEMETRY with a valid token sets TELEM. -/
  | telemetry (len : BitVec 13) (token : Bytes)
  /-- DEBUG_LOCK (R374): LC_CMD DEBUG_LOCK clears DBG and TELEM. -/
  | debugLock
  /-- CERT_STORE (R362): LC_CMD CERT_STORE stores the slot 0 certificate chain in SPI flash in MAKER. -/
  | certStore (len : BitVec 13) (token : Bytes)
  /-- OWNER_ENROL (R365): LC_CMD OWNER_ENROL burns the digest of the owner public key into OTP once. -/
  | ownerEnrol (len : BitVec 13) (token : Bytes)
  /-- STN_CTL_ENABLE (R84): A write of STN_CTL.ENABLE = 1 starts SY and lane training on the station. -/
  | stnCtlEnable (n : Stn)
  /-- STN_CTL_DISABLE (R91): A write of STN_CTL.ENABLE = 0 stops every link if the station is parked, and is otherwise refused. -/
  | stnCtlDisable (n : Stn)
  /-- STN_CTL_UNFAIL (R87): A write of STN_CTL.UNFAIL clears the failed lane marks and starts full training. -/
  | stnCtlUnfail (n : Stn)
  /-- STN_CTL_RETRAIN (R86): A write of STN_CTL.RETRAIN asks quick training of all lanes, deferred to the end of a band being written. -/
  | stnCtlRetrain (n : Stn)
  /-- LP_MODE_OFF (R104): A write of LP_CTL.MODE = OFF sets the loop to OFF at its next sample, unless refused. -/
  | lpModeOff (n : Stn) (L : Fin 8)
  /-- LP_MODE_MANUAL (R105): A write of LP_CTL.MODE = MANUAL sets the loop to MANUAL at its next sample, unless refused. -/
  | lpModeManual (n : Stn) (L : Fin 8)
  /-- LP_MODE_AUTO (R106): A write of LP_CTL.MODE = AUTO sets the loop to AUTO with the bumpless preset at its next sample, unless
  refused. -/
  | lpModeAuto (n : Stn) (L : Fin 8)
  /-- LP_MODE_HOLD (R105): A write of LP_CTL.MODE = HOLD freezes the loop at its next sample, unless refused. -/
  | lpModeHold (n : Stn) (L : Fin 8)
  /-- LP_CSEL_SWITCH (R107): A write of LP_CTL.CSEL switches the coefficient bank at the next sample, with the preset in AUTO. -/
  | lpCselSwitch (n : Stn) (L : Fin 8) (bank : Fin 2)
  /-- LP_ORDER_WRITE (R107): A write of LP_CTL.ORDER changes the compensator order only in OFF or MANUAL and is otherwise refused. -/
  | lpOrderWrite (n : Stn) (L : Fin 8) (order : Fin 2)
  /-- TUNE_START (R113): A write of SV_TUNE_CTL.START replaces the loop's compensator by a relay, unless refused. -/
  | tuneStart (n : Stn) (L : Fin 8)
  /-- INJECTION_START (R117): A write of SV_INJ_CTL.START starts a sine injection on a loop in AUTO, unless refused. -/
  | injectionStart (n : Stn) (L : Fin 8)
  /-- MOT_DEMAND_WRITE (R129): A write of MOT_DEMAND sets the spin demand and latches the spindle on or off by the hysteresis thresholds.
  -/
  | motDemandWrite (n : Stn) (demand : BitVec 16)
  /-- MOT_SRC_WRITE (R125): A write of MOT_CTL.SRC selects the SPD source and, for WOB, sets the expected count to the next wobble sync.
  -/
  | motSrcWrite (n : Stn) (src : Fin 2)
  /-- SLD_GO (R143): A write of SLD_CTL.GO with MODE = MOVE starts a move to SLD_TARGET, unless refused. -/
  | sldGo (n : Stn)
  /-- SLD_STOP (R145): A write of SLD_CTL.STOP makes a snowplough stop. -/
  | sldStop (n : Stn)
  /-- SLD_MODE_IDLE (R145): A write of SLD_CTL.MODE = IDLE sets the sled idle, with a snowplough stop if it moves. -/
  | sldModeIdle (n : Stn)
  /-- SLD_MODE_MOVE (R143): A write of SLD_CTL.MODE = MOVE prepares the sled for moves started by GO. -/
  | sldModeMove (n : Stn)
  /-- SLD_MODE_FOLLOW (R146): A write of SLD_CTL.MODE = FOLLOW makes the sled follow the lens through the SLD loop. -/
  | sldModeFollow (n : Stn)
  /-- SLD_TARGET_WRITE (R144): A write of SLD_TARGET sets the target, and is discarded with REFUSED during a move. -/
  | sldTargetWrite (n : Stn) (w : Word)
  /-- SLD_POS_WRITE (R147): A write of SLD_POS sets P only while the sled is idle and not moving, and is otherwise refused. -/
  | sldPosWrite (n : Stn) (w : Word)
  /-- HTMO_WRITE (R217): A write of WR_CTL.HTMO changes the hold limit at once and abandons any hold that has already lasted that long. -/
  | htmoWrite (n : Stn) (v : BitVec 16)
  /-- FEAT_DRV_WRITE (R258): A write of FEAT_DRV stores the accepted features, or is refused while the set is locked. -/
  | featDrvWrite (f : Fn) (idx : Fin 4) (w : Word)
  /-- VF_VEC_WRITE (R266): A write of VF_VEC sets a VF's vector count and recomputes every BASE, unless refused. -/
  | vfVecWrite (v : Fin 63) (count : BitVec 7)
  /-- VF_ENABLE (R253): A change of VF Enable enables the VFs, or disables them with the effects of an FLR on each. -/
  | vfEnable (on : Bool) (num : BitVec 16)
  /-- PRI_ENABLE_WRITE (R293): Setting PRI Enable again clears PRI_STOP so that page requests are made once more. -/
  | priEnableWrite (f : Fn) (on : Bool)
  /-- NUDGE (R281): A write to the nudge page starts a poll within 1 µs and returns the function to ACTIVE. -/
  | nudge (f : Fn)
  /-- CLOCK_SET (R355): A write of CLK_SET_HI loads the 64-bit clock value, clears UNSET and flags a backward setting. -/
  | clockSet (hi : Word)
  /-- CLK_NOW_LO_READ (R379): A read of CLK_NOW_LO returns the low time bits and latches CLK_NOW_HI for the next read. -/
  | clkNowLoRead
  /-- MEM_LAYOUT_WRITE (R381): A write of MEM_LAY or POOL_CNT changes the layout only while unlocked and within 15 GiB. -/
  | memLayoutWrite (idx : Fin 7) (w : Word)
  /-- MEM_XOR_WRITE (R384): A write of MEM_XOR stores a selector mask that follows the rules, for use at the next memory initialisation.
  -/
  | memXorWrite (k : Fin 6) (hi : Bool) (w : Word)
  /-- MEM_REMAP_WRITE (R396): A write of MEM_REMAP redirects a line to a spare after copying it, or copies it back when VALID is cleared.
  -/
  | memRemapWrite (idx : Fin 32) (w : Word)
  /-- MEM_WDATA_WRITE (R383): A write of MEM_WDATA writes 4 bytes of the table area at the window address and advances it. -/
  | memWdataWrite (w : Word)
  /-- MEM_WDATA_READ (R383): A read of MEM_WDATA returns 4 bytes at the window address and advances it. -/
  | memWdataRead
  /-- MEM_CTL_TRAIN (R390): A write of MEM_CTL.TRAIN starts a memory training round. -/
  | memCtlTrain
  /-- CC_CLEAN (R409): CC_MAINT CLEAN writes dirty lines of the range back and keeps them. -/
  | ccClean (len : BitVec 12)
  /-- CC_INVALIDATE (R409): CC_MAINT INVALIDATE discards lines of the range, skipping locked ways. -/
  | ccInvalidate (len : BitVec 12)
  /-- CC_CLEAN_INVALIDATE (R409): CC_MAINT CLEAN_INVALIDATE writes back and discards lines of the range. -/
  | ccCleanInvalidate (len : BitVec 12)
  /-- CC_PRELOAD (R406): CC_MAINT PRELOAD fills lines into the named way with the given owner tag. -/
  | ccPreload (len : BitVec 12) (way : Fin 16) (ctx : Fin 32)
  /-- CC_MAINT_DONE (R409): A cache maintenance operation ends, clearing BUSY and applying any lock deferred by a PRELOAD. -/
  | ccMaintDone
  /-- CC_SEED_WRITE (R405): A write of CC_CTL.SEED reloads the victim LFSR. -/
  | ccSeedWrite (seed : BitVec 16)
  /-- CC_LOCK_WRITE (R406): A write of CC_CTL.LOCK locks ways, discarded if it would lock every way from 0 to 14. -/
  | ccLockWrite (ways : BitVec 15)
  /-- PM_VWARN_WRITE (R414): A write of PM_VWARN changes the warning threshold, which counts as a fall if VIN is then below it. -/
  | pmVwarnWrite (v : BitVec 16)
  /-- MC_RECOVER_STATION (R456): A write of MC_RECOVER bit n resets station island n out of FATAL when its spindle is OFF. -/
  | mcRecoverStation (n : Stn)
  /-- MC_RECOVER_LEDGER (R456): A write of MC_RECOVER bit 16 resets the ledger engine, and every vault counts as unmounted. -/
  | mcRecoverLedger
  /-- MC_RECOVER_BENCH (R456): A write of MC_RECOVER bit 17 restarts the bench core from the flash slot in force. -/
  | mcRecoverBench
  /-- EVT_PEND_CLEAR (R453): A W1C write of EVT_PEND clears pending events, with a coinciding raise leaving the bit set. -/
  | evtPendClear (idx : Fin 16) (w : Word)
  /-- MSIX_UNMASK (R453): Unmasking an MSI-X vector sends the message held in the PBA. -/
  | msixUnmask (f : Fn) (v : Option (Fin 256))
  /-- REGISTER_WRITE (R11): A write to a register that has no row of its own behaves by its access type, with RWL discards raising E000.
  -/
  | registerWrite (fn : Fn) (space : Space) (off size v : Nat) (data : Bytes)
  /-- PERST_ASSERT (R250): PERST# asserted resets every domain except AON and voids every unsealed band. -/
  | perstAssert
  /-- PERST_DEASSERT (R249): PERST# deasserted begins the start, with link training within 90 ms. -/
  | perstDeassert
  /-- HOT_RESET (R250): A hot reset resets every domain except AON and voids every unsealed band. -/
  | hotReset
  /-- RESET_ASSERT (R417): RESET# asserted for at least 10 µs resets the controller as PERST# does, without touching the link. -/
  | resetAssert (ns : Nat)
  /-- RESET_DEASSERT (R477): RESET# deasserted begins the start. -/
  | resetDeassert
  /-- VF_FLR (R255): A Function Level Reset of a VF stops its DMA and polling, drops its unstarted work and resets its state. -/
  | vfFlr (v : Fn)
  /-- PF_FLR (R256): A Function Level Reset of the PF resets its rings and function state and clears VF Enable. -/
  | pfFlr
  /-- D3HOT_ENTRY (R257): A function entering D3hot stops polling, DMA and messages and holds its completions. -/
  | d3hotEntry (f : Fn)
  /-- D0_ENTRY (R257): A function returning to D0 posts its held completions in order. -/
  | d0Entry (f : Fn)
  /-- LINK_RECOVERY (R251): An entry to Recovery from L0 is counted, and 16 in one second raise an event. -/
  | linkRecovery
  /-- POISONED_TLP_WRITE (R252): A poisoned write to the memory space is discarded and logged by AER. -/
  | poisonedTlpWrite (f : Fn)
  /-- DMA_READ_COMPLETION (R252): A completion to a device read delivers data, or a poisoned, UR or CA completion ends the command. -/
  | dmaReadCompletion (what : HostRead) (back : ReadBack)
  /-- COMPLETION_TIMEOUT (R252): A device read that times out completes its command with DMA_FAULT and is logged by AER. -/
  | completionTimeout (what : HostRead)
  /-- TRANSLATION_COMPLETION (R291): An ATS translation response arrives, letting the transfer proceed or parking it with a page request.
  -/
  | translationCompletion (f : Fn) (pasid : Option Nat) (page : Nat) (ok : Bool)
  /-- PAGE_RESPONSE (R293): A page request group response resumes the parked transfer or ends its command. -/
  | pageResponse (id : Nat) (code : Fin 16)
  /-- ATS_INVALIDATION (R260): An ATS invalidation request completes once every TLP using the translation has been sent or answered. -/
  | atsInvalidation (f : Fn) (pasid : Option Nat) (page : Nat)
  /-- DOE_REQUEST (R263): A data object on the DOE mailbox is answered by the bench core within 1 s. -/
  | doeRequest (type index len : Nat)
  /-- DOE_ABORT (R263): The DOE Abort bit discards the request in progress and any unread response. -/
  | doeAbort
  /-- SPDM_REQUEST (R264): An SPDM request is answered by the responder under the settings of Table 9.5. -/
  | spdmRequest (q : SpdmReq)
  /-- KEK_INSTALL (R366): A KEK_INSTALL vendor request in a secure session installs the owner KEK if every condition holds. -/
  | kekInstall (session : Nat) (payload signer : Bytes)
  /-- KEY_UPDATE (R364): A KEY_UPDATE from the requester updates the session keys. -/
  | keyUpdate (session : Nat)
  /-- END_SESSION (R364): END_SESSION ends a secure session. -/
  | endSession (session : Nat)
  /-- SESSION_TIMEOUT (R364): A secure session with no message for 120 s ends. -/
  | sessionTimeout (session : Nat)
  /-- IDE_LEAVE_SECURE (R265): The IDE stream leaving Secure raises an event and holds every DMA, poll and message. -/
  | ideLeaveSecure
  /-- IDE_SECURE (R265): The IDE stream returning to Secure releases the held DMA, polls and messages. -/
  | ideSecure
  /-- IDE_KEY_REFRESH (R265): An IDE key refresh switches key sets without stopping traffic. -/
  | ideKeyRefresh
  /-- POLL (R280): A poll, at the ACTIVE or IDLE interval, reads every doorbell word of the function's enabled rings. -/
  | poll (f : Fn) (sch : Bool)
  /-- DOORBELL_OBSERVED (R278): A poll's read completion is judged and a valid doorbell word moves an SQ tail or a CQ head. -/
  | doorbellObserved (f : Fn) (cq : Bool) (k : RingNo) (word : BitVec 64)
  /-- HEAD_SHADOW_WRITE (R279): The SQ head shadow is written within 2 µs of the head moving. -/
  | headShadowWrite (f : Fn) (k : RingNo) (ok : Bool)
  /-- FUNCTION_IDLE (R280): A function with no change or nudge for IDLE_AFTER ms becomes IDLE. -/
  | functionIdle (f : Fn)
  /-- BUFFER_RESERVED (R320): A waiting command reserves all its buffers at once when they become free. -/
  | bufferReserved (id : Nat)
  /-- DISPATCH (R319): A waiting task is handed to an idle gaffer in class order. -/
  | dispatch (n : Stn)
  /-- COMMAND_AGED (R321): A STANDARD or BULK command not started 500 ms after admission becomes aged. -/
  | commandAged (id : Nat)
  /-- COMPLETION_POST (R286): A completion entry is written at the CQ tail when the CQ has room, with its MSI-X message as coalescing
  allows. -/
  | completionPost (f : Fn) (k : RingNo) (ok : Bool)
  /-- CQ_COALESCE_TIMEOUT (R288): CTIME passing since the first unsignalled entry sends the CQ's MSI-X message. -/
  | cqCoalesceTimeout (f : Fn) (k : RingNo)
  /-- GATHER_AGE_EXPIRY (R317): A parison whose oldest block has waited GATHER_AGE ms begins writing. -/
  | gatherAgeExpiry (parison : Nat)
  /-- ACTIVATION_DISPATCH_TIMEOUT (R242): The hold on dispatch during a microcode activation ends after 20 ms. -/
  | activationDispatchTimeout
  /-- LOAD (R244): The LOAD task closes and locks the loader, spins up, acquires focus and reads the identity record. -/
  | load (n : Stn) (frames : List Bytes)
  /-- PARK (R231): The PARK task stops the spindle, moves the sled to SLD_PMIN and turns the loops off. -/
  | park (n : Stn)
  /-- STOW (R231): The STOW task parks, unlocks and opens the loader and runs station BIST. -/
  | stow (n : Stn) (bist : List BistFind)
  /-- RETIRE (R231): The RETIRE task stows and then refuses further tasks until the domain passes through OFF. -/
  | retire (n : Stn) (bist : List BistFind)
  /-- SEEK (R231): The SEEK task brings the station to valid speed and tracking in the named layer and zone. -/
  | seek (n : Stn)
  /-- BAND_WRITE (R202): The BAND_WRITE task writes a parison into its band position and ends at seal, void or abandonment. -/
  | bandWrite (n : Stn)
  /-- BAND_READ (R180): The BAND_READ task runs band passes until every requested frame has passed, been recovered or failed. -/
  | bandRead (n : Stn)
  /-- CAPTURE (R189): The CAPTURE task captures raw samples in whole epochs from a start location. -/
  | capture (n : Stn)
  /-- CAL_STEP (R441): The CAL_STEP task runs a station calibration step. -/
  | calStep (n : Stn) (meas : Option CalMeas)
  /-- SPIN (R231): The SPIN task sets the spin demand and waits for the spindle state. -/
  | spin (n : Stn)
  /-- ALU (R226): An ALU microword computes DST from A and B and sets the flags. -/
  | alu (n : Stn)
  /-- RD (R226): A RD microword loads a station register into DST, or raises REGFAULT. -/
  | rd (n : Stn)
  /-- WR (R226): A WR microword writes a station register, or raises REGFAULT when it is refused. -/
  | wr (n : Stn)
  /-- BR (R227): A BR microword branches when its condition holds. -/
  | br (n : Stn)
  /-- JMP (R226): A JMP microword sets PC to TARGET. -/
  | jmp (n : Stn)
  /-- CALL (R226): A JMP microword with SUBOP bit 0 pushes the return address and jumps. -/
  | call (n : Stn)
  /-- RET (R226): A RET microword pops the return address. -/
  | ret (n : Stn)
  /-- RTT (R237): An RTT microword restores the trap frame and continues at the saved PC. -/
  | rtt (n : Stn)
  /-- LOOP (R226): A LOOP microword decrements a loop counter and branches if it is not 0. -/
  | loop (n : Stn)
  /-- WAIT (R228): A WAIT microword clears T and stalls until its condition or its time-out. -/
  | wait (n : Stn)
  /-- WAIT_SATISFIED (R228): A stalled WAIT continues when its condition is satisfied. -/
  | waitSatisfied (n : Stn)
  /-- WAIT_TIMEOUT (R228): A stalled WAIT reaches its time limit, sets T and continues. -/
  | waitTimeout (n : Stn)
  /-- MEM_LOAD (R226): A MEM microword with SUBOP 0 loads a control-cache word, or raises MEMFAULT. -/
  | memLoad (n : Stn)
  /-- MEM_STORE (R226): A MEM microword with SUBOP 1 stores a word in the control cache, or raises MEMFAULT. -/
  | memStore (n : Stn)
  /-- LINK (R226): A LINK microword runs an AX transaction and loads its status or sets T. -/
  | link (n : Stn) (reply : Option (BitVec 16))
  /-- BAND_START_WRITE (R226): A BAND microword with SUBOP 0 starts a band write. -/
  | bandStartWrite (n : Stn)
  /-- BAND_START_PASS (R226): A BAND microword with SUBOP 1 starts a band pass. -/
  | bandStartPass (n : Stn)
  /-- BAND_START_CAPTURE (R226): A BAND microword with SUBOP 2 starts a capture. -/
  | bandStartCapture (n : Stn)
  /-- BAND_TEST_WRITE (R220): A BAND microword with SUBOP 3 starts a test write in a calibration area. -/
  | bandTestWrite (n : Stn)
  /-- TASK_END (R232): A TASK END microword ends the task with its RESULT, and a suspended task is then restored. -/
  | taskEnd (n : Stn)
  /-- TASK_STEP (R226): A TASK STEP microword sets TASK_STATUS.STEP. -/
  | taskStep (n : Stn)
  /-- TASK_SUSPEND (R234): A TASK SUSPEND microword saves the gaffer state to the suspend frame and frees the gaffer. -/
  | taskSuspend (n : Stn)
  /-- EVT (R226): An EVT microword raises the station event at offset IMM. -/
  | evt (n : Stn)
  /-- TMR_ARM (R226): A TMR microword with SUBOP 0 arms the micro-timer. -/
  | tmrArm (n : Stn)
  /-- TMR_DISARM (R226): A TMR microword with SUBOP 1 disarms the micro-timer. -/
  | tmrDisarm (n : Stn)
  /-- TMR_MASK (R226): A TMR microword with SUBOP 2 loads the trap enable mask. -/
  | tmrMask (n : Stn)
  /-- TRAP (R226): A TRAP microword raises trap cause SOFT with INFO IMM. -/
  | trap (n : Stn)
  /-- MICRO_TIMER_EXPIRY (R235): The micro-timer expires and raises trap cause TIMER. -/
  | microTimerExpiry (n : Stn)
  /-- TRAP_TAKEN (R236): A pending enabled trap is taken at a microword boundary, writing the trap frame and entering its routine. -/
  | trapTaken (n : Stn)
  /-- SA_HEADER (R75): An SA HEADER block is received and its CRC checked, erasing the previous epoch's samples on failure. -/
  | saHeader (n : Stn) (lane : Fin 2) (b : Block66)
  /-- SERVO_BLOCK (R75): A SERVO_A or SERVO_B block is received, or discarded with the previous values used. -/
  | servoBlock (n : Stn) (lane : Fin 2) (b : Block66)
  /-- SAMPLE_GROUP (R73): A group of three SA data blocks delivering four sample instants is received. -/
  | sampleGroup (n : Stn) (lane : Fin 2) (group : Fin 525) (b : Vector Block66 3)
  /-- CL_EPOCH (R76): At each epoch the controller sends a CL HEADER followed by the blocks that fall due. -/
  | clEpoch (n : Stn)
  /-- MI_FRAME (R79): An MI frame is received with the period's samples and trip status. -/
  | miFrame (n : Stn) (chars : Vector (BitVec 10) 29)
  /-- MOTION_PERIOD (R80): Each PWM period the controller computes the motion loops and sends both copies of the next MO frame. -/
  | motionPeriod (n : Stn)
  /-- INTERLOCK (R81): IL high for 50 ns clears write enable within 1 µs, sets STN_STAT.IL and raises the interlock event. -/
  | interlock (n : Stn) (ns : Nat)
  /-- INTERLOCK_RELEASE (R81): IL low continuously for 10 ms is treated as low again. -/
  | interlockRelease (n : Stn)
  /-- AX_STATUS_POLL (R82): Every 10 ms while the station is enabled the controller sends STATUS on AX. -/
  | axStatusPoll (n : Stn)
  /-- AX_REPLY (R82): A valid loader reply updates STN_AXSTAT and PRESENT and may raise the loader event. -/
  | axReply (n : Stn) (w : BitVec 16)
  /-- AX_REPLY_TIMEOUT (R82): A missing reply counts as none, and three in a row clear PRESENT. -/
  | axReplyTimeout (n : Stn)
  /-- AX_ATTENTION (R82): A loader holding AX low for 200 µs gets STATUS within 1 ms of the release. -/
  | axAttention (n : Stn) (released : Bool)
  /-- LANE_LOST (R86): A lane reaching its loss count is lost and retrained alone by quick training. -/
  | laneLost (n : Stn) (lanes : List (Fin 5))
  /-- TRAINING_ATTEMPT_END (R85): A lane training attempt ends, passing or retrying or marking the lane failed. -/
  | trainingAttemptEnd (n : Stn) (lane : Fin 5) (errors eyeV eyeH : Nat)
  /-- LOOP_SAMPLE (R99): At each sample a loop applies pending changes and runs its mode's law. -/
  | loopSample (n : Stn) (L : Fin 8) (half : Bool)
  /-- DEFECT_TIMEOUT (R98): A defect lasting longer than DEF_MAX clears LOCKED on FOC and TRK. -/
  | defectTimeout (n : Stn)
  /-- LOCK_SET (R109): After LOCK_N × 8 qualifying samples a loop's LOCKED is set. -/
  | lockSet (n : Stn) (L : Fin 8)
  /-- LOCK_CLEARED (R109): After LOST_N failing samples LOCKED falls, LOSTLK is set and the lock-lost event is raised. -/
  | lockCleared (n : Stn) (L : Fin 8)
  /-- TUNE_DONE (R114): A tune completing its counted cycles writes T_u, a and K_u and returns the loop to its mode. -/
  | tuneDone (n : Stn)
  /-- TUNE_TIMEOUT (R115): A tune not complete within TMO × 64 samples ends with STATUS 3. -/
  | tuneTimeout (n : Stn)
  /-- INJECTION_DONE (R116): An injection completing NCYC wraps reports the open-loop gain and phase. -/
  | injectionDone (n : Stn)
  /-- LAYER_JUMP (R112): A sequencer jump request runs the layer jump sequence of Table 4.7. -/
  | layerJump (n : Stn) (layer : Fin 16)
  /-- JUMP_TIMEOUT (R112): A jump not at step 9 within SV_JUMP.TMO fails with STATUS 4. -/
  | jumpTimeout (n : Stn)
  /-- CROSSING_TIMEOUT (R112): Crossings not complete within XTMO of the kick fail the jump with STATUS 3. -/
  | crossingTimeout (n : Stn)
  /-- WOBBLE_ADDRESS (R163): A wobble address is decoded for a frame length and lead spot 4 reports its sync count. -/
  | wobbleAddress (n : Stn) (spot : Fin 8) (word : BitVec 48) (cw : BitVec 36)
  /-- CATCH_MEASURED (R132): After 2 ms in CATCH the rotor is classed as at rest, backward or caught. -/
  | catchMeasured (n : Stn)
  /-- ALIGN_DONE (R133): ALIGN_T elapsed moves the spindle to OPENLOOP. -/
  | alignDone (n : Stn)
  /-- BRAKE_DONE (R135): Back-EMF below VTH for 2 ms moves the spindle from BRAKE to OFF. -/
  | brakeDone (n : Stn)
  /-- ROTOR_LOST (R138): The residual exceeding RES_THR for 16 periods in RUN declares loss and applies the loss reaction. -/
  | rotorLost (n : Stn)
  /-- SPINDLE_LOSS_TIMEOUT (R139): A task whose speed is not valid 500 ms after a loss ends with SPINDLE_LOST. -/
  | spindleLossTimeout (n : Stn)
  /-- SLED_TICK (R142): Each 10 µs tick the profile generator updates acceleration and velocity and ends or stops a move. -/
  | sledTick (n : Stn)
  /-- VIN_SAMPLE (R148): The controller reads VIN at 1 MHz for the bus supervisor. -/
  | vinSample (mv : Nat)
  /-- SELF_PROTECTION (R154): VIN or a local bus at 44 V forces every spindle to PROTECT, clears every enable and inhibits every laser. -/
  | selfProtection
  /-- PROTECTION_RELEASE (R154): VIN and every local bus below 43 V for 2 ms release protection and set spindles OFF. -/
  | protectionRelease
  /-- REGEN_FAULT_CLEAR (R151): VIN and the local bus below CH_OFF for 2 ms return the supervisor to NORMAL. -/
  | regenFaultClear (n : Stn)
  /-- FRAME_DECODE (R176): A frame's decode attempt runs the iteration schedule once its data are known and yields a result class. -/
  | frameDecode (n : Stn) (slot : Fin 72) (spiral : Fin 8)
  /-- OUTER_RECOVERY (R182): Once every frame result of a pass is known, the outer code recovers up to 32 erasures within 500 µs. -/
  | outerRecovery (n : Stn)
  /-- LADDER_PASS (R183): A retry-ladder step makes a further band pass with the changes of its step and soft combining. -/
  | ladderPass (n : Stn)
  /-- CAPTURE_EPOCH (R190): Each captured epoch's samples and index entry are written, or the epoch is dropped into the gap list. -/
  | captureEpoch (n : Stn) (accept : Bool)
  /-- CAPTURE_DRAIN (R24): The capture ring drains to host buffers in order when the link accepts samples. -/
  | captureDrain (id : Nat)
  /-- SLOT_START (R204): At each slot of a band the station writes the slot, commits later slots and reads frames into the slot buffer. -/
  | slotStart (n : Stn) (first : Nat) (refused : List (Nat × Nat))
  /-- SEAL_SIGNED (R210): The seal engine finishes signing a frozen seal record. -/
  | sealSigned (n : Stn)
  /-- VERIFY_RESULT (R203): The trail-look verification result of a written frame becomes known. -/
  | verifyResult (n : Stn) (slot : Fin 72) (spiral : Fin 8)
  /-- PARITY_REBUILD_DONE (R209): A refused outer-parity frame rebuilt from the parison is ready for its home slot. -/
  | parityRebuildDone (n : Stn) (j : Fin 32) (ok : Bool)
  /-- HOLD_POINT_FIXED (R218): Write power goes off for a hold and the hold point h is fixed. -/
  | holdPointFixed (n : Stn)
  /-- HOLD_ADJUST_DONE (R215): The parity and band digest adjustments for the skipped slots of a hold are complete. -/
  | holdAdjustDone (n : Stn)
  /-- LONG_HOLD (R216): A hold lasting 500 ms closes the band early or continues as an ordinary hold. -/
  | longHold (n : Stn)
  /-- HOLD_TIMEOUT (R217): A hold or wait reaching HTMO abandons the band. -/
  | holdTimeout (n : Stn)
  /-- BAND_POSITION_PASSAGE (R202): A waiting band begins at the first passage of its position at which every precondition holds. -/
  | bandPositionPassage (n : Stn) (first : Nat) (refused : List (Nat × Nat))
  /-- PLAN_SLOT_START (R31): In planned mode a slot starts on the first revolution reaching its position at or after its start time, or is
  skipped. -/
  | planSlotStart (n : Stn)
  /-- LIVE_CAL_GAP (R444): In each linking gap with live calibration on, each stream adjusts its data ADC offset trim. -/
  | liveCalGap (n : Stn) (ys : Vector (List Int) 16)
  /-- MEMORY_READ (R394): A port's read of buffer memory corrects single-bit errors or delivers uncorrectable lines poisoned. -/
  | memoryRead (port : Fin 10) (a len : Nat) (wrong : List (Nat × List LineBit)) (fill free : Nat) (go : List (Fin 4))
  /-- MEMORY_WRITE (R392): A port's write of buffer memory writes the line and its check word, merging partial writes. -/
  | memoryWrite (port : Fin 10) (a : Nat) (bytes : Bytes) (mark : Bool) (wrong : List (Nat × List LineBit)) (fill free : Nat) (go : List (Fin 4))
  /-- REFRESH_DUE (R389): Each tREFI a refresh falls due and is issued, postponed under PANIC or forced at the eighth. -/
  | refreshDue (channel : Fin 4) (fill free : Nat)
  /-- URGENT_AGE (R388): A request waiting URG_AGE µs becomes URGENT. -/
  | urgentAge (port : Fin 10)
  /-- TRAINING_ROUND (R390): A memory training round runs on a period, a temperature change or a request. -/
  | trainingRound (temp : Int) (found : Vector (Option Nat) 4)
  /-- TRAINING_ROUND_TIMEOUT (R390): A training round not finished within 1 s is abandoned and keeps its setting. -/
  | trainingRoundTimeout (left : List (Fin 4))
  /-- LEHR_READ (R397): The lehr reads the next line when its interval has passed and its channel is idle. -/
  | lehrRead (wrong : List LineBit)
  /-- LEHR_LAP_OVERRUN (R398): A lap passing LAPMAX minutes raises the lap-overrun event once. -/
  | lehrLapOverrun
  /-- CACHE_ACCESS (R404): An access to a cached region hits or installs a line chosen by the LFSR, handling parity errors. -/
  | cacheAccess (a len : Nat) (ctx : Fin 32) (data : Option Bytes) (wrong : List CacheBit)
  /-- ALLOC (R402): ALLOC takes a buffer from the smallest fitting pool or returns EMPTY. -/
  | alloc (reqs : List (Fin 32 × Nat)) (schuss : Bool)
  /-- SHARE (R402): SHARE adds a holder to a buffer and sets its final owner. -/
  | share (h : Nat) (who new owner : Fin 32) (off len : Nat)
  /-- RELEASE (R402): RELEASE removes a holder that is not the final owner. -/
  | release (h : Nat) (who : Fin 32) (off len : Nat)
  /-- FREE (R402): FREE raises the buffer's generation and returns it to its cullet list. -/
  | free (h : Nat) (who : Fin 32) (off len : Nat)
  /-- SUPPLY_WARNING (R414): VIN falling through VWARN puts every writing station into a hold and raises the supply-warning event. -/
  | supplyWarning (mv : Nat)
  /-- SUPPLY_RECOVERY (R414): VIN above VWARN plus 0.5 V for 2 ms clears WARN and ends every hold cause 0. -/
  | supplyRecovery (mv : Nat)
  /-- VRST_FALL (R416): VIN falling through VRST drops PWR_GOOD and turns every domain but AON OFF at once. -/
  | vrstFall (mv : Nat)
  /-- VRST_RISE (R416): VIN rising through VRST begins the start. -/
  | vrstRise (mv : Nat)
  /-- RAIL_FAULT (R417): A rail leaving regulation drops PWR_GOOD and resets the controller. -/
  | railFault
  /-- AON_POWER_UP (R412): AON gaining power reads the straps, marks the clock unset and resets AON state. -/
  | aonPowerUp (straps : Fin 8)
  /-- DOMAIN_STOP_DONE (R422): The immediate domains of an entry finish stopping and the entry commits or posts its completion. -/
  | domainStopDone
  /-- DOMAIN_STOP_TIMEOUT (R423): A domain not stopped within 1 ms refuses late and the entry aborts. -/
  | domainStopTimeout (d : Fin 27)
  /-- DEFERRED_STOP (R422): After the completion is sent the deferred domains stop and every named domain commits. -/
  | deferredStop
  /-- DOMAIN_WAKE (R424): An access needing a domain not ON wakes it and the domains it needs. -/
  | domainWake (fn : Fn) (space : Space) (off size : Nat)
  /-- DOMAIN_READY (R424): A waking domain becomes ready and the stalled access proceeds. -/
  | domainReady (d : Fin 27)
  /-- LIFT_FRAME (R427): A lift-bus frame is received, and a match wakes the PM_LWAKE domains or asserts WAKE#. -/
  | liftFrame (a check : BitVec 8) (stop : Bool)
  /-- SENSOR_READ (R460): Every 100 ms the bench core reads the sensors, judges the thermal warning and refreshes calibration. -/
  | sensorRead (t : Vector Int 8)
  /-- THERMAL_WARNING_END (R461): Every sensor 5 °C below the level for 1 s ends the thermal warning. -/
  | thermalWarningEnd
  /-- THERMAL_SHUTDOWN (R462): A sensor at 125 °C inhibits lasers, coasts motion and turns every domain but AON OFF. -/
  | thermalShutdown (sensor : Fin 8)
  /-- TRIM_SET_COMMIT (R440): A shadow calibration set comes into force at the first allowed epoch. -/
  | trimSetCommit (n : Stn) (lead : BitVec 22)
  /-- CAL_STEP_TIMEOUT (R442): A calibration step not converged within CAL_CTL.TMO fails and keeps the previous set. -/
  | calStepTimeout (stn : Option Stn)
  /-- WEAR_SAMPLE (R463): Once an hour each wear indicator is sampled and its forecast refitted. -/
  | wearSample (l : List (Nat × Nat))
  /-- WEAR_FLASH_WRITE (R464): Once a day the wear samples are written to SPI flash. -/
  | wearFlashWrite
  /-- ENTROPY_FAILURE (R346): A failing entropy health test raises an event and refuses random values until it passes. -/
  | entropyFailure
  /-- CHANNEL_WORD (R16): A word arrives on a handshake channel and is parity-checked before acceptance. -/
  | channelWord (ch : Nat) (w : ChWord) (rx : ChRx)
  /-- CHANNEL_REPLAY (R17): A replay of a failed word completes, and a fourth failure raises a machine check on its context. -/
  | channelReplay (ch : Nat) (rx : List ChRx)
  /-- START (R477): After T0 the controller starts its converter and clocks and becomes ready for link training. -/
  | start (t7 : Int) (found : Vector (Option Nat) 4) (savedOk : Vector Bool 4)
  /-- DEVICE_READY (R249): ID_DEV.READY becomes 1 and enabled rings begin. -/
  | deviceReady
  /-- AON_POWER_LOSS (R412): VIN falling below 4.0 V leaves the whole controller unpowered, losing the AON pending bits, steering, TSD
  record and clock. -/
  | aonPowerLoss (mv : Nat)
  /-- ENTROPY_SOURCE_PASS (R346): The entropy source passes its health test again and requests for random values are served once more. -/
  | entropySourcePass
  /-- BENCH_CORE_RESTART_DONE (R318): The restarted bench core is running again on the firmware in force, and the commands of R22 that
  waited are served. -/
  | benchCoreRestartDone
  /-- DATA_LINK_UP (R249): The PCIe data link layer comes up, the negotiated width, rate and FLIT mode are shown in LNK_STAT, and
  configuration space answers. -/
  | dataLinkUp (width speed : Nat) (flit : Bool)
  /-- JTAG_ACCESS (R374): An access on the JTAG pins performs boundary scan, or debug or telemetry access as the life-cycle state and
  DBG/TELEM allow, with keys reading as zero. -/
  | jtagAccess (j : Jtag)
  deriving DecidableEq, Repr

end Sys2Proof
end

