-- ==== Sys2Proof/Decode.lean ====
section
/-!
DEFINITION. The opcode table gives no row bits, so no word spells a command.
-/

namespace Sys2Proof

/-- The command that a word spells by the table's bits: none of the table's rows has bits. DESIGN CHOICE: log entry 3. -/
def decodeTableWord (nbits w : Nat) : Option Instr :=
  let _ := nbits
  let _ := w
  none

end Sys2Proof
end

