-- ==== Sys2Proof/Machine/Fixed.lean ====
section
/-!
DEFINITION. The arithmetic that the loops and the motion controller share: rounding to nearest with ties away from zero,
saturation, square roots, and sines, cosines and angles to about 2^-60 (the spec states the formulas over the reals and rounds
their results; a log entry names this precision).
-/

namespace Sys2Proof.Machine

/-- a ÷ b to nearest, ties away from zero (R100). -/
def rnd (a : Int) (b : Nat) : Int := if 0 ≤ a then (2 * a + b) / (2 * b) else -((-(2 * a) + b) / (2 * b))

/-- Saturation to a signed number of `w` bits. -/
def satS (w : Nat) (a : Int) : Int := max (-(2 ^ (w - 1) : Int)) (min (2 ^ (w - 1) - 1) a)

/-- `a` held within lo and hi; lo above hi gives hi. -/
def clampI (lo hi a : Int) : Int := min hi (max lo a)

/-- The whole part of the square root, by halving the interval. -/
def isqrtIn (n : Nat) : Nat → Nat → Nat → Nat
  | 0, lo, _ => lo
  | k + 1, lo, hi =>
    let m := (lo + hi + 1) / 2
    if m * m ≤ n then isqrtIn n k m hi else isqrtIn n k lo (m - 1)

/-- The whole part of the square root of n. DESIGN CHOICE: log entry 13. -/
def isqrt (n : Nat) : Nat := isqrtIn n (Nat.log2 n + 2) 0 (2 ^ (Nat.log2 n / 2 + 1))

/-- π × 2^62. DESIGN CHOICE: log entry 13. -/
def piQ : Nat := 14488038916154245684

/-- Taylor terms: the sum of t^k ÷ k! with alternating signs, from term `term` of index k on, scaled by 2^62. -/
def taylor (t2 : Int) : Nat → Int → Nat → Int
  | 0, _, _ => 0
  | n + 1, term, k => term + taylor t2 n (-(term * t2) / 2 ^ 62 / ((k + 1) * (k + 2) : Nat)) (k + 2)

/-- The angle x ÷ 2^32 turn, x taken within half a turn of 0, in radians scaled by 2^62. -/
def radians (x : Nat) : Int :=
  let y : Int := if x % 2 ^ 32 < 2 ^ 31 then (x % 2 ^ 32 : Nat) else ((x % 2 ^ 32 : Nat) : Int) - 2 ^ 32
  y * (2 * piQ : Nat) / 2 ^ 32

/-- cos and sin of x ÷ 2^32 turn, scaled by 2^40. DESIGN CHOICE: log entry 13. -/
def cosQ (x : Nat) : Int :=
  let t := radians x
  rnd (taylor (t * t / 2 ^ 62) 20 (2 ^ 62) 0) (2 ^ 22)

/-- sin of x ÷ 2^32 turn, scaled by 2^40. DESIGN CHOICE: log entry 13. -/
def sinQ (x : Nat) : Int :=
  let t := radians x
  rnd (taylor (t * t / 2 ^ 62) 20 t 1) (2 ^ 22)

/-- The 16-bit angle nearest to that of the vector (x, y): the one of greatest projection, found bit by bit. -/
def angleIn (x y : Int) : Nat → Nat → Nat → Nat
  | 0, lo, _ => lo
  | k + 1, lo, hi =>
    let m := (lo + hi) / 2
    -- the vector lies at or beyond the angle m when its cross product with it is not negative
    if cosQ (65536 * m + 32768) * y - sinQ (65536 * m + 32768) * x ≥ 0 then angleIn x y k (m + 1) hi else angleIn x y k lo m

/-- The 16-bit angle of the vector (x, y). DESIGN CHOICE: log entry 13. -/
def angleOf (x y : Int) : Nat :=
  if x = 0 ∧ y = 0 then 0
  else if 0 ≤ y then angleIn x y 16 0 32768 % 65536
  else (32768 + angleIn (-x) (-y) 16 0 32768) % 65536

/-- √3 × 2^60. DESIGN CHOICE: log entry 13. -/
def sqrt3Q : Nat := isqrt (3 * 2 ^ 120)

end Sys2Proof.Machine
end

