-- ==== Sys2Proof/Config.lean ====
section
/-!
DEFINITION. What the spec leaves free. Every constant here is opaque: it has no body, so no proof can see its value and a
claim about it holds for every value. Each is applied to the counter `State.fresh`, which a command that draws advances.
-/

namespace Sys2Proof.Config

/-- One bit that the spec leaves open (a pulse that "may be acted on or ignored": R81, R475). DESIGN CHOICE: log entry 5. -/
opaque freeBool : Nat → Bool

/-- A number that the spec leaves open. DESIGN CHOICE: log entry 5. -/
opaque freeNat : Nat → Nat

/-- Byte `i` of draw `k` of data that the spec leaves open (R380: what a refused read returns).
DESIGN CHOICE: log entries 5, 129. -/
opaque freeByte : Nat → Nat → BitVec 8

/-- The factor of the 80 % prediction band of a fit to `n` samples (R464), squared, in 1/2^20: the spec does not state it.
DEDUCED: log entry 161. -/
opaque bandSquare : Nat → Nat

/-- A register word that the spec leaves open. DESIGN CHOICE: log entry 5. -/
opaque freeWord : Nat → BitVec 32

/-- Byte `i` of draw `k` of the entropy source (R346): the spec fixes no random value. DESIGN CHOICE: log entry 6. -/
opaque entropyByte : Nat → Nat → BitVec 8

/-- R226 sets C after a SUB or CMP and does not say in which sense: true, C is the borrow; false, its complement.
DESIGN CHOICE: log entry 80. -/
opaque subCarry : Bool

/-- R226 does not say whether MIN and MAX compare signed numbers. DESIGN CHOICE: log entry 80. -/
opaque minMaxSigned : Bool

/-- How a disarmed micro-timer is written into a suspend frame (R236 gives the timer's place, not this encoding).
DESIGN CHOICE: log entry 11. -/
opaque timerDisarmed : BitVec 32

/-- The microwords (bank addresses and 27-bit words) that an image's payload holds: the spec fixes no payload layout.
DESIGN CHOICE: log entry 10. -/
opaque imageMicro : List (BitVec 8) → List (Nat × Nat)

/-- The nanowords (bank addresses and 136-bit words) that an image's payload holds. DESIGN CHOICE: log entry 10. -/
opaque imageNano : List (BitVec 8) → List (Nat × Nat)

/-- A quotient whose divisor is 0 where the spec states a quotient (R96, R101, R114, R116): numerator, format. -/
opaque divZero : Int → Nat → Int

/-- R101 gives FF_MODE 2 of SPD and FF_MODE 1 of SIQ and SID no term: the output after step 4, and the history's value (loop,
value before). DEDUCED: log entry 24. -/
opaque ffOpen : Nat → Int → Int

/-- The history's value of such an output (step 8). DEDUCED: log entry 24. -/
opaque ffOpenUndo : Nat → Int → Int

/-- R126 gives the angle-tracking PI loop by its bandwidth alone: its two gains, for PLL_BW in Hz, in 2^-48 turn a period for a phase
error of 1/65,536. DEDUCED: log entry 16. -/
opaque trackKp : Nat → Nat

/-- The integral gain, in 2^-48 turn a period and period for a phase error of 1/65,536. DEDUCED: log entry 16. -/
opaque trackKi : Nat → Nat

/-- R233: the limits of the loader steps UNLOCK (5) and OPEN (3), in µs. DESIGN CHOICE: log entry 199. -/
opaque loaderLimit : Nat → Nat

/-- R111: the FOC drive that focuses beyond layer 0, where the sweep begins, Q8.40. DESIGN CHOICE: log entry 194. -/
opaque sweepFrom : Int

/-- R111: the sweep's rate, set in the microcode, Q8.40 an FOC sample. DESIGN CHOICE: log entry 194. -/
opaque sweepStep : Nat

/-- R166: how a channel bit is sliced from the values y of the bits i to i + 3 that it acts on. DESIGN CHOICE: log entry 184. -/
opaque slice : List Int → Bool

/-- R392: the eleven bits of the code over 512 data bits and the poison bit. -/
opaque secded : Nat → Nat

/-- R396: where in the spare rows of the banks spare line i lies. DESIGN CHOICE: log entry 210. -/
opaque sparePlace : Nat → Nat

/-- R392: what the code makes of three or more wrong bits: an error that it cannot correct (none), no error, or the bit that it corrects. -/
opaque eccMany : List Nat → Option (Option Nat)

/-- R158: the phase error of the last two bits, from their values y and targets d, in 1/(20 × 2^32) sample.
DESIGN CHOICE: log entry 184. -/
opaque phaseError : List Int → List Int → Int

/-- R169: the running mean of the envelope, from its last value and the envelope. DESIGN CHOICE: log entry 184. -/
opaque envMean : Int → Int → Int

/-- R172: the step, in 2^-20, by which the neighbour coefficients are refined. DESIGN CHOICE: log entry 184. -/
opaque itiStep : Nat

/-- R173, R176: whether the detector's output takes in its a priori input. DESIGN CHOICE: log entry 184. -/
opaque priorOut : Bool

/-- R173: what a hard decision of an LLR of 0 is. DEDUCED: log entry 50. -/
opaque zeroHard : Bool

/-- R174: whether the fraction of 0.75 × m, for a magnitude m, is rounded up. DEDUCED: log entry 50. -/
opaque normUp : Nat → Bool

/-- R176: whether the decoder's messages stand from one outer iteration to the next. DEDUCED: log entry 50. -/
opaque keepMessages : Bool

/-- R395 counts in XFER the bytes before the first poisoned TLP, and no rule cuts a transfer into TLPs: how far before a poisoned byte,
modulo 512, the TLP that carries it begins. DESIGN CHOICE: log entry 117. -/
opaque tlpHead : Nat → Nat

/-- R436: the factory value, in OTP, of a quantity of the controller's own at one of the five points. DEDUCED: log entry 71. -/
opaque factoryTrim : Nat → Nat → Int

/-- Table 13.6, index 1: the digest of the boot ROM. DESIGN CHOICE: log entry 12. -/
opaque bootRomDigest : List (BitVec 8)

/-- Table 13.6, index 5: the section of a firmware image that carries the loop-core servo programs. DESIGN CHOICE: log entry 10. -/
opaque servoSection : List (BitVec 8) → List (BitVec 8)

/-- Table 13.6, index 7: the OTP configuration words; true: stations 8 to 15 are fused off. DESIGN CHOICE: log entry 12. -/
opaque otpWords : Bool → List (BitVec 8)

end Sys2Proof.Config
end

