-- ==== Sys2Proof/Machine/Regs.lean ====
section
/-!
DEFINITION. The registers (R9 to R12, Table 0.3): for each register its key, its reset word and its fields, as the register
tables of the chapters give them, and the access masks by which a software write acts (R11). A PF register's key is its PF
BAR0 offset; a register of VF v has key v * 2^24 plus its VF BAR0 offset (R254, R270).
-/

namespace Sys2Proof.Machine

/-- A register: where it lies and the word it holds after reset (R12). -/
structure Reg where
  key : Nat
  rst : Word
  deriving DecidableEq, Repr

/-- A field [hi:lo] of a register word (R7). -/
structure Fld where
  hi : Nat
  lo : Nat
  deriving DecidableEq, Repr

/-- The bits of `w` in field `f`, as a number. -/
def fldGet (f : Fld) (w : Word) : Nat := (w.toNat >>> f.lo) % 2 ^ (f.hi + 1 - f.lo)

/-- The mask of field `f`. -/
def fldMask (f : Fld) : Word := BitVec.ofNat 32 ((2 ^ (f.hi + 1 - f.lo) - 1) <<< f.lo)

/-- `w` with field `f` set to `v` (taken modulo the field's width). -/
def fldSet (f : Fld) (w : Word) (v : Nat) : Word :=
  (w &&& ~~~(fldMask f)) ||| BitVec.ofNat 32 ((v % 2 ^ (f.hi + 1 - f.lo)) <<< f.lo)

/-- Station n's window: PF BAR0 0x0010_0000 + n * 0x0001_0000. -/
def stnKey (n off : Nat) : Nat := 0x100000 + 0x10000 * n + off

/-- The queue set-up block of function f (R270): PF BAR0 0x0001_0000, or 0x0040 of a VF's BAR0. -/
def qsKey (f off : Nat) : Nat := if f = 0 then 0x10000 + off else f * 0x1000000 + 0x40 + off

/-- The feature registers of function f (Table 9.6, Table 9.8). -/
def featKey (f off : Nat) : Nat := if f = 0 then 0x10 + off else f * 0x1000000 + off

/-- Rounding to nearest of a / b. -/
def roundDiv (a b : Nat) : Nat := (2 * a + b) / (2 * b)

/-- Table 4.11: SLOPE. -/
def lpSpRst (L : Nat) : Word := if L ≤ 1 then 0x0400#32 else 0x0100#32

/-- Table 4.11: SLEW (SAB only). -/
def lpDrvRst (L : Nat) : Word := if L = 3 then 0x0800#32 else 0#32

/-- Table 4.11: THR, LOST_N, LOCK_N. -/
def lpLockRst (L : Nat) : Word :=
  if L = 0 then 0x04001428#32 else if L = 1 then 0x08000828#32 else if L ≤ 3 then 0x10000402#32 else 0x02001008#32

/-- SV_LAYER: SAP resets to 30,720 - 4,096 m (Table 4.3). -/
def svLayerRst (m : Nat) : Word := BitVec.ofInt 16 (30720 - 4096 * (m : Int)) ++ 0#16

/-- R128: the reset speed curve 1,344 / (2 pi r) rpm in 0.5 rpm units, r = max(2,048 i, 24,000) um, at most 57,997 um. -/
def motCurveRst (i : Nat) : Word :=
  BitVec.ofNat 32 (roundDiv (1344000000 * 1000000000) (3141592654 * min (max (2048 * i) 24000) 57997))

/-- Table 14.2. -/
def memXorLoRst (k : Nat) : Word :=
  [0x10820040#32, 0x21040080#32, 0x42080100#32, 0x84100200#32, 0x08200400#32, 0x10400800#32].getD k 0#32

/-- Table 14.2. -/
def memXorHiRst (k : Nat) : Word := if k = 4 then 1#32 else if k = 5 then 2#32 else 0#32

def memRtRst (i : Nat) : Word := if i = 0 then 32#32 else 128#32

def memLayRst (r : Nat) : Word := if r = 0 then 96#32 else if r = 1 then 384#32 else 2048#32

/-- R399. -/
def poolCntRst (p : Nat) : Word := [65536#32, 258048#32, 16384#32, 4096#32].getD p 0#32

/-- WM resets to 16, FREE to COUNT. -/
def poolStatRst (p : Nat) : Word := 0x10000000#32 ||| poolCntRst p

/-- R459: FAULT resets to 1 for E001 to E006, E008, E019 and station offset 18. -/
def evtSteerRst (e : Nat) : Word :=
  if (1 ≤ e ∧ e ≤ 6) ∨ e = 8 ∨ e = 19 ∨ (128 ≤ e ∧ (e - 128) % 24 = 18) then 0x40000000#32 else 0#32

def wearLimRst (k : Nat) : Word := [900#32, 3500#32, 64#32, 25#32, 1000#32, 80000#32, 200#32].getD k 0#32

/-- COUNT 28, BASE 256 + 28 (v - 1). -/
def vfVecRst (v : Nat) : Word := BitVec.ofNat 32 ((256 + 28 * (v - 1)) <<< 16) ||| 28#32

/-- R258: the PF offers 0x3FF; a VF offers 0x3FF AND its GRANT without bits 0, 1 and 8. -/
def featDevRst (f i : Nat) : Word := if i ≠ 0 then 0#32 else if f = 0 then 0x3FF#32 else 0x2CC#32

/-- QS_LIM: the PF has 256 SQs, 256 CQs and the share of QS_PSCH; a VF mirrors QS_VLIM. -/
def qsLimRst (f : Nat) : Word := if f = 0 then 0x81000100#32 else 0x00100010#32

/-- R91: CL_TXEQ[15:8] RW; RETRIES[7:4] RW; UNFAIL[3:3] W1S; RETRAIN[2:2] W1S; MODE[1:1] RO; ENABLE[0:0] RW. -/
def STN_CTL (n : Nat) : Reg := ⟨stnKey n 0x0, 0x2430#32⟩
abbrev STN_CTL_CL_TXEQ : Fld := ⟨15, 8⟩
abbrev STN_CTL_RETRIES : Fld := ⟨7, 4⟩
abbrev STN_CTL_UNFAIL : Fld := ⟨3, 3⟩
abbrev STN_CTL_RETRAIN : Fld := ⟨2, 2⟩
abbrev STN_CTL_MODE : Fld := ⟨1, 1⟩
abbrev STN_CTL_ENABLE : Fld := ⟨0, 0⟩
/-- R91: MAP[19:18] RO; MI_ST[17:16] RO; MO_ST[15:14] RO; CL_ST[13:12] RO; SA1_ST[11:10] RO; SA0_ST[9:8] RO; REFUSED[5:5] W1C; UNAVAIL[4:4] RO; DEGRADED[3:3] RO; IL[2:2] RO; PRESENT[1:1] RO; SY_RUN[0:0] RO. -/
def STN_STAT (n : Nat) : Reg := ⟨stnKey n 0x4, 0x14#32⟩
abbrev STN_STAT_MAP : Fld := ⟨19, 18⟩
abbrev STN_STAT_MI_ST : Fld := ⟨17, 16⟩
abbrev STN_STAT_MO_ST : Fld := ⟨15, 14⟩
abbrev STN_STAT_CL_ST : Fld := ⟨13, 12⟩
abbrev STN_STAT_SA1_ST : Fld := ⟨11, 10⟩
abbrev STN_STAT_SA0_ST : Fld := ⟨9, 8⟩
abbrev STN_STAT_REFUSED : Fld := ⟨5, 5⟩
abbrev STN_STAT_UNAVAIL : Fld := ⟨4, 4⟩
abbrev STN_STAT_DEGRADED : Fld := ⟨3, 3⟩
abbrev STN_STAT_IL : Fld := ⟨2, 2⟩
abbrev STN_STAT_PRESENT : Fld := ⟨1, 1⟩
abbrev STN_STAT_SY_RUN : Fld := ⟨0, 0⟩
/-- R91: MI_ERR[29:24] RW; MO_ERR[23:18] RW; CL_ERR[17:12] RW; SA1_ERR[11:6] RW; SA0_ERR[5:0] RW. -/
def STN_LERR (n : Nat) : Reg := ⟨stnKey n 0x8, 0x0#32⟩
abbrev STN_LERR_MI_ERR : Fld := ⟨29, 24⟩
abbrev STN_LERR_MO_ERR : Fld := ⟨23, 18⟩
abbrev STN_LERR_CL_ERR : Fld := ⟨17, 12⟩
abbrev STN_LERR_SA1_ERR : Fld := ⟨11, 6⟩
abbrev STN_LERR_SA0_ERR : Fld := ⟨5, 0⟩
/-- R91: SA1_V[31:24] RO; SA1_H[23:16] RO; SA0_V[15:8] RO; SA0_H[7:0] RO. -/
def STN_EYE (n : Nat) : Reg := ⟨stnKey n 0xC, 0x0#32⟩
abbrev STN_EYE_SA1_V : Fld := ⟨31, 24⟩
abbrev STN_EYE_SA1_H : Fld := ⟨23, 16⟩
abbrev STN_EYE_SA0_V : Fld := ⟨15, 8⟩
abbrev STN_EYE_SA0_H : Fld := ⟨7, 0⟩
/-- R91: AGE[31:24] RO; STATUS[11:0] RO. -/
def STN_AXSTAT (n : Nat) : Reg := ⟨stnKey n 0x10, 0xFF000000#32⟩
abbrev STN_AXSTAT_AGE : Fld := ⟨31, 24⟩
abbrev STN_AXSTAT_STATUS : Fld := ⟨11, 0⟩
/-- R120: FF_MODE[11:10] RW; CSEL[9:9] RW; ORDER[8:8] RW; MODE[2:0] RW. -/
def LP_CTL (n L : Nat) : Reg := ⟨stnKey n (0x800 + 0x40 * L), 0x0#32⟩
abbrev LP_CTL_FF_MODE : Fld := ⟨11, 10⟩
abbrev LP_CTL_CSEL : Fld := ⟨9, 9⟩
abbrev LP_CTL_ORDER : Fld := ⟨8, 8⟩
abbrev LP_CTL_MODE : Fld := ⟨2, 0⟩
/-- R120: REFUSED[15:15] W1C; NOPRESET[14:14] W1C; CLIPPED[13:13] RO; SLEWED[12:12] RO; RAMPING[11:11] RO; DEFECT[10:10] RO; LOCKED[9:9] RO; LOSTLK[8:8] W1C; MODE_NOW[2:0] RO. -/
def LP_STAT (n L : Nat) : Reg := ⟨stnKey n (0x804 + 0x40 * L), 0x0#32⟩
abbrev LP_STAT_REFUSED : Fld := ⟨15, 15⟩
abbrev LP_STAT_NOPRESET : Fld := ⟨14, 14⟩
abbrev LP_STAT_CLIPPED : Fld := ⟨13, 13⟩
abbrev LP_STAT_SLEWED : Fld := ⟨12, 12⟩
abbrev LP_STAT_RAMPING : Fld := ⟨11, 11⟩
abbrev LP_STAT_DEFECT : Fld := ⟨10, 10⟩
abbrev LP_STAT_LOCKED : Fld := ⟨9, 9⟩
abbrev LP_STAT_LOSTLK : Fld := ⟨8, 8⟩
abbrev LP_STAT_MODE_NOW : Fld := ⟨2, 0⟩
/-- R120: TARGET[31:16] RW; SLOPE[15:0] RW. -/
def LP_SP (n L : Nat) : Reg := ⟨stnKey n (0x808 + 0x40 * L), lpSpRst L⟩
abbrev LP_SP_TARGET : Fld := ⟨31, 16⟩
abbrev LP_SP_SLOPE : Fld := ⟨15, 0⟩
/-- R120: OUT_MAX[31:16] RW; OUT_MIN[15:0] RW. -/
def LP_LIM (n L : Nat) : Reg := ⟨stnKey n (0x80C + 0x40 * L), 0x7FFF8000#32⟩
abbrev LP_LIM_OUT_MAX : Fld := ⟨31, 16⟩
abbrev LP_LIM_OUT_MIN : Fld := ⟨15, 0⟩
/-- R120: MAN[31:16] RW; SLEW[15:0] RW. -/
def LP_DRV (n L : Nat) : Reg := ⟨stnKey n (0x810 + 0x40 * L), lpDrvRst L⟩
abbrev LP_DRV_MAN : Fld := ⟨31, 16⟩
abbrev LP_DRV_SLEW : Fld := ⟨15, 0⟩
/-- R120: THR[31:16] RW; LOST_N[15:8] RW; LOCK_N[7:0] RW. -/
def LP_LOCK (n L : Nat) : Reg := ⟨stnKey n (0x814 + 0x40 * L), lpLockRst L⟩
abbrev LP_LOCK_THR : Fld := ⟨31, 16⟩
abbrev LP_LOCK_LOST_N : Fld := ⟨15, 8⟩
abbrev LP_LOCK_LOCK_N : Fld := ⟨7, 0⟩
/-- R120: OUT[31:16] RO; ERR[15:0] RO. -/
def LP_MON (n L : Nat) : Reg := ⟨stnKey n (0x818 + 0x40 * L), 0x0#32⟩
abbrev LP_MON_OUT : Fld := ⟨31, 16⟩
abbrev LP_MON_ERR : Fld := ⟨15, 0⟩
/-- R120: REF[31:16] RO; MEAS[15:0] RO. -/
def LP_REF (n L : Nat) : Reg := ⟨stnKey n (0x81C + 0x40 * L), 0x0#32⟩
abbrev LP_REF_REF : Fld := ⟨31, 16⟩
abbrev LP_REF_MEAS : Fld := ⟨15, 0⟩
/-- R121: K_DPP[31:16] RW; DEF_FRAC[15:8] RW; DEF_MAX[7:0] RW. -/
def SV_SENSE (n : Nat) : Reg := ⟨stnKey n 0xA00, 0x18008050#32⟩
abbrev SV_SENSE_K_DPP : Fld := ⟨31, 16⟩
abbrev SV_SENSE_DEF_FRAC : Fld := ⟨15, 8⟩
abbrev SV_SENSE_DEF_MAX : Fld := ⟨7, 0⟩
/-- R121: S_MIN[15:0] RW. -/
def SV_SMIN (n : Nat) : Reg := ⟨stnKey n 0xA04, 0x100#32⟩
abbrev SV_SMIN_S_MIN : Fld := ⟨15, 0⟩
/-- R121: TMO[31:24] RW; XTMO[23:16] RW; STATUS[15:12] RO; CUR[11:8] RO. -/
def SV_JUMP (n : Nat) : Reg := ⟨stnKey n 0xA08, 0x3C640000#32⟩
abbrev SV_JUMP_TMO : Fld := ⟨31, 24⟩
abbrev SV_JUMP_XTMO : Fld := ⟨23, 16⟩
abbrev SV_JUMP_STATUS : Fld := ⟨15, 12⟩
abbrev SV_JUMP_CUR : Fld := ⟨11, 8⟩
/-- R121: AMP[31:16] RW; KICK_T[15:8] RW; BRAKE_T[7:0] RW. -/
def SV_KICK (n : Nat) : Reg := ⟨stnKey n 0xA0C, 0x10002020#32⟩
abbrev SV_KICK_AMP : Fld := ⟨31, 16⟩
abbrev SV_KICK_KICK_T : Fld := ⟨15, 8⟩
abbrev SV_KICK_BRAKE_T : Fld := ⟨7, 0⟩
/-- R121: H[31:16] RW; EPS[15:0] RW. -/
def SV_TUNE (n : Nat) : Reg := ⟨stnKey n 0xA10, 0x0#32⟩
abbrev SV_TUNE_H : Fld := ⟨31, 16⟩
abbrev SV_TUNE_EPS : Fld := ⟨15, 0⟩
/-- R121: TMO[31:16] RW; LOOP[10:8] RW; STATUS[7:4] RO; START[0:0] W1S. -/
def SV_TUNE_CTL (n : Nat) : Reg := ⟨stnKey n 0xA14, 0x1000000#32⟩
abbrev SV_TUNE_CTL_TMO : Fld := ⟨31, 16⟩
abbrev SV_TUNE_CTL_LOOP : Fld := ⟨10, 8⟩
abbrev SV_TUNE_CTL_STATUS : Fld := ⟨7, 4⟩
abbrev SV_TUNE_CTL_START : Fld := ⟨0, 0⟩
/-- R121: KU[31:0] RO. -/
def SV_TUNE_KU (n : Nat) : Reg := ⟨stnKey n 0xA18, 0x0#32⟩
abbrev SV_TUNE_KU_KU : Fld := ⟨31, 0⟩
/-- R121: TU[19:0] RO. -/
def SV_TUNE_TU (n : Nat) : Reg := ⟨stnKey n 0xA1C, 0x0#32⟩
abbrev SV_TUNE_TU_TU : Fld := ⟨19, 0⟩
/-- R121: A[23:0] RO. -/
def SV_TUNE_A (n : Nat) : Reg := ⟨stnKey n 0xA20, 0x0#32⟩
abbrev SV_TUNE_A_A : Fld := ⟨23, 0⟩
/-- R121: AMP[31:16] RW; NCYC[15:8] RW; LOOP[6:4] RW; STATUS[3:1] RO; START[0:0] W1S. -/
def SV_INJ_CTL (n : Nat) : Reg := ⟨stnKey n 0xA24, 0x1000#32⟩
abbrev SV_INJ_CTL_AMP : Fld := ⟨31, 16⟩
abbrev SV_INJ_CTL_NCYC : Fld := ⟨15, 8⟩
abbrev SV_INJ_CTL_LOOP : Fld := ⟨6, 4⟩
abbrev SV_INJ_CTL_STATUS : Fld := ⟨3, 1⟩
abbrev SV_INJ_CTL_START : Fld := ⟨0, 0⟩
/-- R121: FREQ[31:0] RW. -/
def SV_INJ_FREQ (n : Nat) : Reg := ⟨stnKey n 0xA28, 0x0#32⟩
abbrev SV_INJ_FREQ_FREQ : Fld := ⟨31, 0⟩
/-- R121: MAG[31:0] RO. -/
def SV_INJ_MAG (n : Nat) : Reg := ⟨stnKey n 0xA2C, 0x0#32⟩
abbrev SV_INJ_MAG_MAG : Fld := ⟨31, 0⟩
/-- R121: PH[15:0] RO. -/
def SV_INJ_PH (n : Nat) : Reg := ⟨stnKey n 0xA30, 0x0#32⟩
abbrev SV_INJ_PH_PH : Fld := ⟨15, 0⟩
/-- R121: SAP[31:16] RW; FOFS[15:0] RW. -/
def SV_LAYER (n m : Nat) : Reg := ⟨stnKey n (0xA40 + 4 * m), svLayerRst m⟩
abbrev SV_LAYER_SAP : Fld := ⟨31, 16⟩
abbrev SV_LAYER_FOFS : Fld := ⟨15, 0⟩
/-- R155: RGF_REACT[11:10] RW; LOSS_REACT[9:8] RW; SRC[0:0] RW. -/
def MOT_CTL (n : Nat) : Reg := ⟨stnKey n 0x400, 0x0#32⟩
abbrev MOT_CTL_RGF_REACT : Fld := ⟨11, 10⟩
abbrev MOT_CTL_LOSS_REACT : Fld := ⟨9, 8⟩
abbrev MOT_CTL_SRC : Fld := ⟨0, 0⟩
/-- R155: DEMAND[15:0] RW. -/
def MOT_DEMAND (n : Nat) : Reg := ⟨stnKey n 0x404, 0x0#32⟩
abbrev MOT_DEMAND_DEMAND : Fld := ⟨15, 0⟩
/-- R155: T_ON[31:16] RW; T_OFF[15:0] RW. -/
def MOT_HYST (n : Nat) : Reg := ⟨stnKey n 0x408, 0x40002000#32⟩
abbrev MOT_HYST_T_ON : Fld := ⟨31, 16⟩
abbrev MOT_HYST_T_OFF : Fld := ⟨15, 0⟩
/-- R155: SPEED[31:16] RO; DIR[15:15] RO; STATE[14:12] RO; SPD_VALID[11:11] RO; REFUSED[10:10] W1C; MODLIM[9:9] RO; LOST[8:8] W1C; CLAMP[7:7] W1C. -/
def MOT_SPST (n : Nat) : Reg := ⟨stnKey n 0x40C, 0x0#32⟩
abbrev MOT_SPST_SPEED : Fld := ⟨31, 16⟩
abbrev MOT_SPST_DIR : Fld := ⟨15, 15⟩
abbrev MOT_SPST_STATE : Fld := ⟨14, 12⟩
abbrev MOT_SPST_SPD_VALID : Fld := ⟨11, 11⟩
abbrev MOT_SPST_REFUSED : Fld := ⟨10, 10⟩
abbrev MOT_SPST_MODLIM : Fld := ⟨9, 9⟩
abbrev MOT_SPST_LOST : Fld := ⟨8, 8⟩
abbrev MOT_SPST_CLAMP : Fld := ⟨7, 7⟩
/-- R155: COUNT[31:0] RW. -/
def MOT_MLCNT (n : Nat) : Reg := ⟨stnKey n 0x410, 0x0#32⟩
abbrev MOT_MLCNT_COUNT : Fld := ⟨31, 0⟩
/-- R155: DUTY_MAX[31:16] RO; TLOW[15:0] RW. -/
def MOT_MODLIM (n : Nat) : Reg := ⟨stnKey n 0x414, 0xF3B604B0#32⟩
abbrev MOT_MODLIM_DUTY_MAX : Fld := ⟨31, 16⟩
abbrev MOT_MODLIM_TLOW : Fld := ⟨15, 0⟩
/-- R155: RS[31:16] RW; LS[15:0] RW. -/
def MOT_PARAM (n : Nat) : Reg := ⟨stnKey n 0x418, 0x0#32⟩
abbrev MOT_PARAM_RS : Fld := ⟨31, 16⟩
abbrev MOT_PARAM_LS : Fld := ⟨15, 0⟩
/-- R155: I_FS[15:0] RW. -/
def MOT_SCALE (n : Nat) : Reg := ⟨stnKey n 0x41C, 0xFA0#32⟩
abbrev MOT_SCALE_I_FS : Fld := ⟨15, 0⟩
/-- R155: RES_THR[31:16] RW; PLL_BW[15:0] RW. -/
def MOT_OBS (n : Nat) : Reg := ⟨stnKey n 0x420, 0x400000C8#32⟩
abbrev MOT_OBS_RES_THR : Fld := ⟨31, 16⟩
abbrev MOT_OBS_PLL_BW : Fld := ⟨15, 0⟩
/-- R155: ALIGN_T[31:24] RW; OL_ACC[23:12] RW; TRIES[11:8] RW. -/
def MOT_START (n : Nat) : Reg := ⟨stnKey n 0x424, 0x190FA200#32⟩
abbrev MOT_START_ALIGN_T : Fld := ⟨31, 24⟩
abbrev MOT_START_OL_ACC : Fld := ⟨23, 12⟩
abbrev MOT_START_TRIES : Fld := ⟨11, 8⟩
/-- R155: I_ALIGN[31:16] RW; I_OL[15:0] RW. -/
def MOT_ISTART (n : Nat) : Reg := ⟨stnKey n 0x428, 0x20002000#32⟩
abbrev MOT_ISTART_I_ALIGN : Fld := ⟨31, 16⟩
abbrev MOT_ISTART_I_OL : Fld := ⟨15, 0⟩
/-- R155: VTH[31:16] RW; WAIT[15:0] RW. -/
def MOT_CATCH (n : Nat) : Reg := ⟨stnKey n 0x42C, 0x1F407D0#32⟩
abbrev MOT_CATCH_VTH : Fld := ⟨31, 16⟩
abbrev MOT_CATCH_WAIT : Fld := ⟨15, 0⟩
/-- R155: EMF[31:16] RO; THETA[15:0] RO. -/
def MOT_ANGLE (n : Nat) : Reg := ⟨stnKey n 0x430, 0x0#32⟩
abbrev MOT_ANGLE_EMF : Fld := ⟨31, 16⟩
abbrev MOT_ANGLE_THETA : Fld := ⟨15, 0⟩
/-- R155: SPEED[15:0] RW. -/
def MOT_CURVE (n i : Nat) : Reg := ⟨stnKey n (0x440 + 4 * i), motCurveRst i⟩
abbrev MOT_CURVE_SPEED : Fld := ⟨15, 0⟩
/-- R155: MODE[3:2] RW; STOP[1:1] W1S; GO[0:0] W1S. -/
def SLD_CTL (n : Nat) : Reg := ⟨stnKey n 0x500, 0x0#32⟩
abbrev SLD_CTL_MODE : Fld := ⟨3, 2⟩
abbrev SLD_CTL_STOP : Fld := ⟨1, 1⟩
abbrev SLD_CTL_GO : Fld := ⟨0, 0⟩
/-- R155: TARGET[31:0] RW. -/
def SLD_TARGET (n : Nat) : Reg := ⟨stnKey n 0x504, 0x0#32⟩
abbrev SLD_TARGET_TARGET : Fld := ⟨31, 0⟩
/-- R155: POS[31:0] RW. -/
def SLD_POS (n : Nat) : Reg := ⟨stnKey n 0x508, 0x0#32⟩
abbrev SLD_POS_POS : Fld := ⟨31, 0⟩
/-- R155: VMAX[19:0] RW. -/
def SLD_VMAX (n : Nat) : Reg := ⟨stnKey n 0x50C, 0x7A120#32⟩
abbrev SLD_VMAX_VMAX : Fld := ⟨19, 0⟩
/-- R155: JMAX[31:16] RW; AMAX[15:0] RW. -/
def SLD_ALIM (n : Nat) : Reg := ⟨stnKey n 0x510, 0x7D04E20#32⟩
abbrev SLD_ALIM_JMAX : Fld := ⟨31, 16⟩
abbrev SLD_ALIM_AMAX : Fld := ⟨15, 0⟩
/-- R155: BOOST[31:16] RW; HOLD[15:0] RW. -/
def SLD_AMP (n : Nat) : Reg := ⟨stnKey n 0x514, 0x40004000#32⟩
abbrev SLD_AMP_BOOST : Fld := ⟨31, 16⟩
abbrev SLD_AMP_HOLD : Fld := ⟨15, 0⟩
/-- R155: VEL[31:12] RO; LIMIT[3:3] W1C; REFUSED[2:2] W1C; SNOW[1:1] W1C; MOVING[0:0] RO. -/
def SLD_STAT (n : Nat) : Reg := ⟨stnKey n 0x518, 0x0#32⟩
abbrev SLD_STAT_VEL : Fld := ⟨31, 12⟩
abbrev SLD_STAT_LIMIT : Fld := ⟨3, 3⟩
abbrev SLD_STAT_REFUSED : Fld := ⟨2, 2⟩
abbrev SLD_STAT_SNOW : Fld := ⟨1, 1⟩
abbrev SLD_STAT_MOVING : Fld := ⟨0, 0⟩
/-- R155: PMIN[31:0] RW. -/
def SLD_PMIN (n : Nat) : Reg := ⟨stnKey n 0x51C, 0x39A80#32⟩
abbrev SLD_PMIN_PMIN : Fld := ⟨31, 0⟩
/-- R155: PMAX[31:0] RW. -/
def SLD_PMAX (n : Nat) : Reg := ⟨stnKey n 0x520, 0x8D9A0#32⟩
abbrev SLD_PMAX_PMAX : Fld := ⟨31, 0⟩
/-- R155: CH_ON[31:16] RW; CH_OFF[15:0] RW. -/
def BUS_CHOP (n : Nat) : Reg := ⟨stnKey n 0x600, 0xA0289E34#32⟩
abbrev BUS_CHOP_CH_ON : Fld := ⟨31, 16⟩
abbrev BUS_CHOP_CH_OFF : Fld := ⟨15, 0⟩
/-- R155: RGF[31:16] RW; CH_IMIN[15:0] RW. -/
def BUS_RGF (n : Nat) : Reg := ⟨stnKey n 0x604, 0xA41000C8#32⟩
abbrev BUS_RGF_RGF : Fld := ⟨31, 16⟩
abbrev BUS_RGF_CH_IMIN : Fld := ⟨15, 0⟩
/-- R155: VLOC[31:16] RO; STATE[7:5] RO; CHFAULT[4:4] W1C; CHON[3:3] RO; RGF[2:2] W1C; PROTECT[1:1] RO. -/
def BUS_STAT (n : Nat) : Reg := ⟨stnKey n 0x608, 0x0#32⟩
abbrev BUS_STAT_VLOC : Fld := ⟨31, 16⟩
abbrev BUS_STAT_STATE : Fld := ⟨7, 5⟩
abbrev BUS_STAT_CHFAULT : Fld := ⟨4, 4⟩
abbrev BUS_STAT_CHON : Fld := ⟨3, 3⟩
abbrev BUS_STAT_RGF : Fld := ⟨2, 2⟩
abbrev BUS_STAT_PROTECT : Fld := ⟨1, 1⟩
/-- R155: VIN[15:0] RO. -/
def BUS_VIN (n : Nat) : Reg := ⟨stnKey n 0x60C, 0x0#32⟩
abbrev BUS_VIN_VIN : Fld := ⟨15, 0⟩
/-- R193: FORCE_SL[2:2] RW; ITI[1:1] RW; ADAPT[0:0] RW. -/
def RC_CTL (n : Nat) : Reg := ⟨stnKey n 0xC00, 0x3#32⟩
abbrev RC_CTL_FORCE_SL : Fld := ⟨2, 2⟩
abbrev RC_CTL_ITI : Fld := ⟨1, 1⟩
abbrev RC_CTL_ADAPT : Fld := ⟨0, 0⟩
/-- R193: FLOCK[31:16] RO; STEP[7:4] RO; OUTER[3:3] RO; SL[2:2] RO; PASS[1:1] RO. -/
def RC_STAT (n : Nat) : Reg := ⟨stnKey n 0xC04, 0x0#32⟩
abbrev RC_STAT_FLOCK : Fld := ⟨31, 16⟩
abbrev RC_STAT_STEP : Fld := ⟨7, 4⟩
abbrev RC_STAT_OUTER : Fld := ⟨3, 3⟩
abbrev RC_STAT_SL : Fld := ⟨2, 2⟩
abbrev RC_STAT_PASS : Fld := ⟨1, 1⟩
/-- R193: THR[15:12] RW; FLY[11:8] RW; WIN[7:0] RW. -/
def RC_SYNC (n : Nat) : Reg := ⟨stnKey n 0xC08, 0x4410#32⟩
abbrev RC_SYNC_THR : Fld := ⟨15, 12⟩
abbrev RC_SYNC_FLY : Fld := ⟨11, 8⟩
abbrev RC_SYNC_WIN : Fld := ⟨7, 0⟩
/-- R193: KP_A[23:20] RW; KI_A[19:16] RW; KP_T[15:12] RW; KI_T[11:8] RW; FLIM[7:0] RW. -/
def RC_TR (n : Nat) : Reg := ⟨stnKey n 0xC0C, 0x386C64#32⟩
abbrev RC_TR_KP_A : Fld := ⟨23, 20⟩
abbrev RC_TR_KI_A : Fld := ⟨19, 16⟩
abbrev RC_TR_KP_T : Fld := ⟨15, 12⟩
abbrev RC_TR_KI_T : Fld := ⟨11, 8⟩
abbrev RC_TR_FLIM : Fld := ⟨7, 0⟩
/-- R193: MU_G[15:8] RW; MU_C[7:0] RW. -/
def RC_EQ (n : Nat) : Reg := ⟨stnKey n 0xC10, 0x1020#32⟩
abbrev RC_EQ_MU_G : Fld := ⟨15, 8⟩
abbrev RC_EQ_MU_C : Fld := ⟨7, 0⟩
/-- R193: GUARD[23:16] RW; WIN[15:8] RW; FRAC[7:0] RW. -/
def RC_DEF (n : Nat) : Reg := ⟨stnKey n 0xC14, 0x102060#32⟩
abbrev RC_DEF_GUARD : Fld := ⟨23, 16⟩
abbrev RC_DEF_WIN : Fld := ⟨15, 8⟩
abbrev RC_DEF_FRAC : Fld := ⟨7, 0⟩
/-- R193: INNER[7:4] RW; OUTER[3:0] RW. -/
def RC_ITER (n : Nat) : Reg := ⟨stnKey n 0xC18, 0xC4#32⟩
abbrev RC_ITER_INNER : Fld := ⟨7, 4⟩
abbrev RC_ITER_OUTER : Fld := ⟨3, 0⟩
/-- R193: TOFS[31:24] RW; FOFS[23:16] RW; SCHUSS_STEPS[7:4] RW; STEPS[3:0] RW. -/
def RC_RETRY (n : Nat) : Reg := ⟨stnKey n 0xC1C, 0x10200006#32⟩
abbrev RC_RETRY_TOFS : Fld := ⟨31, 24⟩
abbrev RC_RETRY_FOFS : Fld := ⟨23, 16⟩
abbrev RC_RETRY_SCHUSS_STEPS : Fld := ⟨7, 4⟩
abbrev RC_RETRY_STEPS : Fld := ⟨3, 0⟩
/-- R193: ADDR[31:12] RW; VALID[0:0] RW. -/
def RC_ZTAB_LO (n : Nat) : Reg := ⟨stnKey n 0xC20, 0x0#32⟩
abbrev RC_ZTAB_LO_ADDR : Fld := ⟨31, 12⟩
abbrev RC_ZTAB_LO_VALID : Fld := ⟨0, 0⟩
/-- R193: ADDR[1:0] RW. -/
def RC_ZTAB_HI (n : Nat) : Reg := ⟨stnKey n 0xC24, 0x0#32⟩
abbrev RC_ZTAB_HI_ADDR : Fld := ⟨1, 0⟩
/-- R193: CW[31:4] RO; FRAC[3:0] RO. -/
def RC_WOB (n : Nat) : Reg := ⟨stnKey n 0xC28, 0x0#32⟩
abbrev RC_WOB_CW : Fld := ⟨31, 4⟩
abbrev RC_WOB_FRAC : Fld := ⟨3, 0⟩
/-- R193: LAYER[31:28] RO; ZONE[27:22] RO; BPOS[21:11] RO; SLOT[10:4] RO; SPIRAL[3:1] RO. -/
def RC_LASTF (n : Nat) : Reg := ⟨stnKey n 0xC2C, 0x0#32⟩
abbrev RC_LASTF_LAYER : Fld := ⟨31, 28⟩
abbrev RC_LASTF_ZONE : Fld := ⟨27, 22⟩
abbrev RC_LASTF_BPOS : Fld := ⟨21, 11⟩
abbrev RC_LASTF_SLOT : Fld := ⟨10, 4⟩
abbrev RC_LASTF_SPIRAL : Fld := ⟨3, 1⟩
/-- R193: COUNT[31:0] RW. -/
def RC_CNT (n c : Nat) : Reg := ⟨stnKey n (0xC30 + 4 * c), 0x0#32⟩
abbrev RC_CNT_COUNT : Fld := ⟨31, 0⟩
/-- R221: HTMO[31:16] RW; LAT_TRACK[0:0] RW. -/
def WR_CTL (n : Nat) : Reg := ⟨stnKey n 0x1000, 0x1F40001#32⟩
abbrev WR_CTL_HTMO : Fld := ⟨31, 16⟩
abbrev WR_CTL_LAT_TRACK : Fld := ⟨0, 0⟩
/-- R221: HOLD[10:10] RO; WRITING[9:9] RO; PRE_OK[8:8] RO; PRE[7:0] RO. -/
def WR_STAT (n : Nat) : Reg := ⟨stnKey n 0x1004, 0x0#32⟩
abbrev WR_STAT_HOLD : Fld := ⟨10, 10⟩
abbrev WR_STAT_WRITING : Fld := ⟨9, 9⟩
abbrev WR_STAT_PRE_OK : Fld := ⟨8, 8⟩
abbrev WR_STAT_PRE : Fld := ⟨7, 0⟩
/-- R221: DELTA[31:24] RO; LAG[23:16] RW; LAT[15:0] RW. -/
def WR_LAT (n : Nat) : Reg := ⟨stnKey n 0x1008, 0x910060#32⟩
abbrev WR_LAT_DELTA : Fld := ⟨31, 24⟩
abbrev WR_LAT_LAG : Fld := ⟨23, 16⟩
abbrev WR_LAT_LAT : Fld := ⟨15, 0⟩
/-- R221: ADDR[31:12] RW; VALID[0:0] RW. -/
def WR_STAB_LO (n : Nat) : Reg := ⟨stnKey n 0x100C, 0x0#32⟩
abbrev WR_STAB_LO_ADDR : Fld := ⟨31, 12⟩
abbrev WR_STAB_LO_VALID : Fld := ⟨0, 0⟩
/-- R221: ADDR[1:0] RW. -/
def WR_STAB_HI (n : Nat) : Reg := ⟨stnKey n 0x1010, 0x0#32⟩
abbrev WR_STAB_HI_ADDR : Fld := ⟨1, 0⟩
/-- R221: LAYER[31:28] RO; ZONE[27:22] RO; BPOS[21:11] RO; SLOT[10:4] RO. -/
def WR_BAND (n : Nat) : Reg := ⟨stnKey n 0x1014, 0x0#32⟩
abbrev WR_BAND_LAYER : Fld := ⟨31, 28⟩
abbrev WR_BAND_ZONE : Fld := ⟨27, 22⟩
abbrev WR_BAND_BPOS : Fld := ⟨21, 11⟩
abbrev WR_BAND_SLOT : Fld := ⟨10, 4⟩
/-- R221: COUNT[31:24] RW; CAUSE[18:16] RO; TMO[15:15] W1C; LONG[14:14] W1C; HPT[6:0] RO. -/
def WR_HOLD (n : Nat) : Reg := ⟨stnKey n 0x1018, 0x0#32⟩
abbrev WR_HOLD_COUNT : Fld := ⟨31, 24⟩
abbrev WR_HOLD_CAUSE : Fld := ⟨18, 16⟩
abbrev WR_HOLD_TMO : Fld := ⟨15, 15⟩
abbrev WR_HOLD_LONG : Fld := ⟨14, 14⟩
abbrev WR_HOLD_HPT : Fld := ⟨6, 0⟩
/-- R221: USED[15:0] RO. -/
def WR_SPARE (n : Nat) : Reg := ⟨stnKey n 0x101C, 0x0#32⟩
abbrev WR_SPARE_USED : Fld := ⟨15, 0⟩
/-- R221: COUNT[31:0] RW. -/
def WR_CNT (n c : Nat) : Reg := ⟨stnKey n (0x1020 + 4 * c), 0x0#32⟩
abbrev WR_CNT_COUNT : Fld := ⟨31, 0⟩
/-- R247: SEQ[31:16] RWL; OP[7:0] RWL. -/
def TASK_OP (n : Nat) : Reg := ⟨stnKey n 0x100, 0x0#32⟩
abbrev TASK_OP_SEQ : Fld := ⟨31, 16⟩
abbrev TASK_OP_OP : Fld := ⟨7, 0⟩
/-- R247: ARG[31:0] RWL. -/
def TASK_ARG (n k : Nat) : Reg := ⟨stnKey n (0x104 + 4 * k), 0x0#32⟩
abbrev TASK_ARG_ARG : Fld := ⟨31, 0⟩
/-- R247: GO[0:0] RWL. -/
def TASK_GO (n : Nat) : Reg := ⟨stnKey n 0x11C, 0x0#32⟩
abbrev TASK_GO_GO : Fld := ⟨0, 0⟩
/-- R247: SEQ[31:16] RO; RESULT[15:8] RO; STEP[7:4] RO; SUSP[3:3] RO; REFUSED[2:2] W1C; DONE[1:1] W1C; BUSY[0:0] RO. -/
def TASK_STATUS (n : Nat) : Reg := ⟨stnKey n 0x120, 0x0#32⟩
abbrev TASK_STATUS_SEQ : Fld := ⟨31, 16⟩
abbrev TASK_STATUS_RESULT : Fld := ⟨15, 8⟩
abbrev TASK_STATUS_STEP : Fld := ⟨7, 4⟩
abbrev TASK_STATUS_SUSP : Fld := ⟨3, 3⟩
abbrev TASK_STATUS_REFUSED : Fld := ⟨2, 2⟩
abbrev TASK_STATUS_DONE : Fld := ⟨1, 1⟩
abbrev TASK_STATUS_BUSY : Fld := ⟨0, 0⟩
/-- R247: STATE[31:28] RO; SP[27:24] RO; FLAGS[20:16] RO; PC[13:0] RO. -/
def SEQ_STAT (n : Nat) : Reg := ⟨stnKey n 0x124, 0x0#32⟩
abbrev SEQ_STAT_STATE : Fld := ⟨31, 28⟩
abbrev SEQ_STAT_SP : Fld := ⟨27, 24⟩
abbrev SEQ_STAT_FLAGS : Fld := ⟨20, 16⟩
abbrev SEQ_STAT_PC : Fld := ⟨13, 0⟩
/-- R247: DEV[8:8] RO; PEND[1:1] RO; CUR[0:0] RO. -/
def SEQ_BANK (n : Nat) : Reg := ⟨stnKey n 0x128, 0#32⟩
abbrev SEQ_BANK_DEV : Fld := ⟨8, 8⟩
abbrev SEQ_BANK_PEND : Fld := ⟨1, 1⟩
abbrev SEQ_BANK_CUR : Fld := ⟨0, 0⟩
/-- R247: VALID[31:31] W1C; KIND[30:29] RO; STORE[28:28] RO; BANK[27:27] RO; ADDR[13:0] RO. -/
def SEQ_MCHK (n : Nat) : Reg := ⟨stnKey n 0x12C, 0x0#32⟩
abbrev SEQ_MCHK_VALID : Fld := ⟨31, 31⟩
abbrev SEQ_MCHK_KIND : Fld := ⟨30, 29⟩
abbrev SEQ_MCHK_STORE : Fld := ⟨28, 28⟩
abbrev SEQ_MCHK_BANK : Fld := ⟨27, 27⟩
abbrev SEQ_MCHK_ADDR : Fld := ⟨13, 0⟩
/-- R247: PEND[31:16] RO; COUNT[15:4] RW; LAST[3:0] RO. -/
def SEQ_TRAP (n : Nat) : Reg := ⟨stnKey n 0x130, 0x0#32⟩
abbrev SEQ_TRAP_PEND : Fld := ⟨31, 16⟩
abbrev SEQ_TRAP_COUNT : Fld := ⟨15, 4⟩
abbrev SEQ_TRAP_LAST : Fld := ⟨3, 0⟩
/-- R267: PART[31:16] RO; STEP[15:8] RO; READY[0:0] RO. -/
def ID_DEV : Reg := ⟨0x0, 0x16401100#32⟩
abbrev ID_DEV_PART : Fld := ⟨31, 16⟩
abbrev ID_DEV_STEP : Fld := ⟨15, 8⟩
abbrev ID_DEV_READY : Fld := ⟨0, 0⟩
/-- R267: STATIONS[15:0] RO. -/
def ID_STN : Reg := ⟨0x4, 0xFFFF#32⟩
abbrev ID_STN_STATIONS : Fld := ⟨15, 0⟩
/-- R267: RECOV[31:16] RW; FLIT[8:8] RO; WIDTH[7:4] RO; SPEED[3:0] RO. -/
def LNK_STAT : Reg := ⟨0x8, 0x0#32⟩
abbrev LNK_STAT_RECOV : Fld := ⟨31, 16⟩
abbrev LNK_STAT_FLIT : Fld := ⟨8, 8⟩
abbrev LNK_STAT_WIDTH : Fld := ⟨7, 4⟩
abbrev LNK_STAT_SPEED : Fld := ⟨3, 0⟩
/-- R267: SUM[15:5] RO; REFUSED[0:0] W1C. -/
def VFV_STAT : Reg := ⟨0xC, 0xDC80#32⟩
abbrev VFV_STAT_SUM : Fld := ⟨15, 5⟩
abbrev VFV_STAT_REFUSED : Fld := ⟨0, 0⟩
/-- R267: OFFER[31:0] RO. -/
def FEAT_DEV (f i : Nat) : Reg := ⟨featKey f (0x0 + 4 * i), featDevRst f i⟩
abbrev FEAT_DEV_OFFER : Fld := ⟨31, 0⟩
/-- R267: ACCEPT[31:0] RW. -/
def FEAT_DRV (f i : Nat) : Reg := ⟨featKey f (0x10 + 4 * i), 0x0#32⟩
abbrev FEAT_DRV_ACCEPT : Fld := ⟨31, 0⟩
/-- R267: REFUSED[1:1] W1C; LOCK[0:0] RO. -/
def FEAT_STAT (f : Nat) : Reg := ⟨featKey f 0x20, 0x0#32⟩
abbrev FEAT_STAT_REFUSED : Fld := ⟨1, 1⟩
abbrev FEAT_STAT_LOCK : Fld := ⟨0, 0⟩
/-- R267: BASE[26:16] RO; COUNT[6:0] RW. -/
def VF_VEC (v : Nat) : Reg := ⟨0xFC + 4 * v, vfVecRst v⟩
abbrev VF_VEC_BASE : Fld := ⟨26, 16⟩
abbrev VF_VEC_COUNT : Fld := ⟨6, 0⟩
/-- R267: GRANT[9:0] RW. -/
def VF_FEAT (v : Nat) : Reg := ⟨0x1FC + 4 * v, 0x2CC#32⟩
abbrev VF_FEAT_GRANT : Fld := ⟨9, 0⟩
/-- R298: ADDR[31:12] RW; VALID[0:0] RW. -/
def QS_DB_LO (f : Nat) : Reg := ⟨qsKey f (0x0), 0x0#32⟩
abbrev QS_DB_LO_ADDR : Fld := ⟨31, 12⟩
abbrev QS_DB_LO_VALID : Fld := ⟨0, 0⟩
/-- R298: ADDR[31:0] RW. -/
def QS_DB_HI (f : Nat) : Reg := ⟨qsKey f (0x4), 0x0#32⟩
abbrev QS_DB_HI_ADDR : Fld := ⟨31, 0⟩
/-- R298: ADDR[31:0] RW. -/
def QS_SH_HI (f : Nat) : Reg := ⟨qsKey f (0xC), 0x0#32⟩
abbrev QS_SH_HI_ADDR : Fld := ⟨31, 0⟩
/-- R298: ADDR[31:11] RW; VALID[0:0] RW. -/
def QS_SH_LO (f : Nat) : Reg := ⟨qsKey f (0x8), 0x0#32⟩
abbrev QS_SH_LO_ADDR : Fld := ⟨31, 11⟩
abbrev QS_SH_LO_VALID : Fld := ⟨0, 0⟩
/-- R298: PV[31:31] RW; PASID[19:0] RW. -/
def QS_PASID (f : Nat) : Reg := ⟨qsKey f (0x10), 0x0#32⟩
abbrev QS_PASID_PV : Fld := ⟨31, 31⟩
abbrev QS_PASID_PASID : Fld := ⟨19, 0⟩
/-- R298: IDLE_AFTER[31:24] RW; IDLE_POLL[23:12] RW; POLL[11:0] RW. -/
def QS_POLL (f : Nat) : Reg := ⟨qsKey f (0x14), 0xA3E8014#32⟩
abbrev QS_POLL_IDLE_AFTER : Fld := ⟨31, 24⟩
abbrev QS_POLL_IDLE_POLL : Fld := ⟨23, 12⟩
abbrev QS_POLL_POLL : Fld := ⟨11, 0⟩
/-- R298: GO[31:31] W1S; RING[23:16] RW; OP[7:0] RW. -/
def QS_CMD (f : Nat) : Reg := ⟨qsKey f (0x18), 0x0#32⟩
abbrev QS_CMD_GO : Fld := ⟨31, 31⟩
abbrev QS_CMD_RING : Fld := ⟨23, 16⟩
abbrev QS_CMD_OP : Fld := ⟨7, 0⟩
/-- R298: ARG[31:0] RW. -/
def QS_ARG (f i : Nat) : Reg := ⟨qsKey f (0x1C + 4 * i), 0x0#32⟩
abbrev QS_ARG_ARG : Fld := ⟨31, 0⟩
/-- R298: EPOCH[31:16] RO; REFUSED[9:9] W1C; BUSY[8:8] RO; STATUS[7:0] RO. -/
def QS_STAT (f : Nat) : Reg := ⟨qsKey f (0x34), 0x0#32⟩
abbrev QS_STAT_EPOCH : Fld := ⟨31, 16⟩
abbrev QS_STAT_REFUSED : Fld := ⟨9, 9⟩
abbrev QS_STAT_BUSY : Fld := ⟨8, 8⟩
abbrev QS_STAT_STATUS : Fld := ⟨7, 0⟩
/-- R298: CQ_USED[24:16] RO; SQ_USED[8:0] RO. -/
def QS_INFO (f : Nat) : Reg := ⟨qsKey f (0x38), 0x0#32⟩
abbrev QS_INFO_CQ_USED : Fld := ⟨24, 16⟩
abbrev QS_INFO_SQ_USED : Fld := ⟨8, 0⟩
/-- R298: SCH_MAX[31:25] RO; CQ_MAX[24:16] RO; SQ_MAX[8:0] RO. -/
def QS_LIM (f : Nat) : Reg := ⟨qsKey f (0x3C), qsLimRst f⟩
abbrev QS_LIM_SCH_MAX : Fld := ⟨31, 25⟩
abbrev QS_LIM_CQ_MAX : Fld := ⟨24, 16⟩
abbrev QS_LIM_SQ_MAX : Fld := ⟨8, 0⟩
/-- R298: SCH_MAX[31:25] RW; CQ_MAX[24:16] RW; SQ_MAX[8:0] RW. -/
def QS_VLIM (v : Nat) : Reg := ⟨0x110FC + 4 * v, 0x00100010#32⟩
abbrev QS_VLIM_SCH_MAX : Fld := ⟨31, 25⟩
abbrev QS_VLIM_CQ_MAX : Fld := ⟨24, 16⟩
abbrev QS_VLIM_SQ_MAX : Fld := ⟨8, 0⟩
/-- R298: SCH_MAX[6:0] RW. -/
def QS_PSCH : Reg := ⟨0x11000, 0x40#32⟩
abbrev QS_PSCH_SCH_MAX : Fld := ⟨6, 0⟩
/-- R298: PRI_STOP[2:2] RO; SH_FAULT[1:1] W1C; POLL_FAULT[0:0] W1C. -/
def QS_FLT (f : Nat) : Reg := ⟨qsKey f (0x40), 0x0#32⟩
abbrev QS_FLT_PRI_STOP : Fld := ⟨2, 2⟩
abbrev QS_FLT_SH_FAULT : Fld := ⟨1, 1⟩
abbrev QS_FLT_POLL_FAULT : Fld := ⟨0, 0⟩
/-- R298: HEAD[31:16] RO; BADDB[15:8] RW; FAULT[4:4] W1C; STATE[1:0] RO. -/
def SQ_STAT (f k : Nat) : Reg := ⟨qsKey f (0x100 + 4 * k), 0x0#32⟩
abbrev SQ_STAT_HEAD : Fld := ⟨31, 16⟩
abbrev SQ_STAT_BADDB : Fld := ⟨15, 8⟩
abbrev SQ_STAT_FAULT : Fld := ⟨4, 4⟩
abbrev SQ_STAT_STATE : Fld := ⟨1, 0⟩
/-- R298: TAIL[31:16] RO; BADDB[15:8] RW; FULL[5:5] RO; FAULT[4:4] W1C; PHASE[2:2] RO; STATE[1:0] RO. -/
def CQ_STAT (f k : Nat) : Reg := ⟨qsKey f (0x500 + 4 * k), 0x0#32⟩
abbrev CQ_STAT_TAIL : Fld := ⟨31, 16⟩
abbrev CQ_STAT_BADDB : Fld := ⟨15, 8⟩
abbrev CQ_STAT_FULL : Fld := ⟨5, 5⟩
abbrev CQ_STAT_FAULT : Fld := ⟨4, 4⟩
abbrev CQ_STAT_PHASE : Fld := ⟨2, 2⟩
abbrev CQ_STAT_STATE : Fld := ⟨1, 0⟩
/-- R379: BUSY[15:15] RO; RESULT[14:12] RO; OKEK[10:10] RO; OWNER[9:9] RO; CERT[8:8] RO; TELEM[5:5] RO; DBG[4:4] RO; STATE[2:0] RO. -/
def LC_STAT : Reg := ⟨0x60000, 0#32⟩
abbrev LC_STAT_BUSY : Fld := ⟨15, 15⟩
abbrev LC_STAT_RESULT : Fld := ⟨14, 12⟩
abbrev LC_STAT_OKEK : Fld := ⟨10, 10⟩
abbrev LC_STAT_OWNER : Fld := ⟨9, 9⟩
abbrev LC_STAT_CERT : Fld := ⟨8, 8⟩
abbrev LC_STAT_TELEM : Fld := ⟨5, 5⟩
abbrev LC_STAT_DBG : Fld := ⟨4, 4⟩
abbrev LC_STAT_STATE : Fld := ⟨2, 0⟩
/-- R379: GO[31:31] W1S; LEN[28:16] RW; OP[7:0] RW. -/
def LC_CMD : Reg := ⟨0x60004, 0x0#32⟩
abbrev LC_CMD_GO : Fld := ⟨31, 31⟩
abbrev LC_CMD_LEN : Fld := ⟨28, 16⟩
abbrev LC_CMD_OP : Fld := ⟨7, 0⟩
/-- R379: ADDR[31:0] RW. -/
def LC_TOK_LO : Reg := ⟨0x60008, 0x0#32⟩
abbrev LC_TOK_LO_ADDR : Fld := ⟨31, 0⟩
/-- R379: ADDR[31:0] RW. -/
def LC_TOK_HI : Reg := ⟨0x6000C, 0x0#32⟩
abbrev LC_TOK_HI_ADDR : Fld := ⟨31, 0⟩
/-- R379: NONCE[31:0] RO. -/
def LC_NONCE_LO : Reg := ⟨0x60010, 0#32⟩
abbrev LC_NONCE_LO_NONCE : Fld := ⟨31, 0⟩
/-- R379: NONCE[31:0] RO. -/
def LC_NONCE_HI : Reg := ⟨0x60014, 0#32⟩
abbrev LC_NONCE_HI_NONCE : Fld := ⟨31, 0⟩
/-- R379: VALUE[31:0] RW. -/
def CLK_SET_LO : Reg := ⟨0x60020, 0x0#32⟩
abbrev CLK_SET_LO_VALUE : Fld := ⟨31, 0⟩
/-- R379: VALUE[31:0] RW. -/
def CLK_SET_HI : Reg := ⟨0x60024, 0x0#32⟩
abbrev CLK_SET_HI_VALUE : Fld := ⟨31, 0⟩
/-- R379: NOW[31:0] RO. -/
def CLK_NOW_LO : Reg := ⟨0x60028, 0#32⟩
abbrev CLK_NOW_LO_NOW : Fld := ⟨31, 0⟩
/-- R379: NOW[31:0] RO. -/
def CLK_NOW_HI : Reg := ⟨0x6002C, 0#32⟩
abbrev CLK_NOW_HI_NOW : Fld := ⟨31, 0⟩
/-- R379: BACK[1:1] W1C; UNSET[0:0] RO. -/
def CLK_STAT : Reg := ⟨0x60030, 1#32⟩
abbrev CLK_STAT_BACK : Fld := ⟨1, 1⟩
abbrev CLK_STAT_UNSET : Fld := ⟨0, 0⟩
/-- R379: BAD1[7:7] W1C; STG1[6:6] RO; SLOT1[5:5] RO; ROM[4:4] RO; BAD0[3:3] W1C; STG0[2:2] RO; SLOT0[1:1] RO. -/
def FW_STAT : Reg := ⟨0x60040, 0#32⟩
abbrev FW_STAT_BAD1 : Fld := ⟨7, 7⟩
abbrev FW_STAT_STG1 : Fld := ⟨6, 6⟩
abbrev FW_STAT_SLOT1 : Fld := ⟨5, 5⟩
abbrev FW_STAT_ROM : Fld := ⟨4, 4⟩
abbrev FW_STAT_BAD0 : Fld := ⟨3, 3⟩
abbrev FW_STAT_STG0 : Fld := ⟨2, 2⟩
abbrev FW_STAT_SLOT0 : Fld := ⟨1, 1⟩
/-- R379: SVN1[14:8] RO; SVN0[6:0] RO. -/
def FW_SVN : Reg := ⟨0x60044, 0#32⟩
abbrev FW_SVN_SVN1 : Fld := ⟨14, 8⟩
abbrev FW_SVN_SVN0 : Fld := ⟨6, 0⟩
/-- R379: COUNT[31:0] RW. -/
def SEC_AUTHF : Reg := ⟨0x60048, 0x0#32⟩
abbrev SEC_AUTHF_COUNT : Fld := ⟨31, 0⟩
/-- R379: VER[31:0] RO. -/
def FW_VER (t : Nat) : Reg := ⟨0x6004C + 4 * t, 0#32⟩
abbrev FW_VER_VER : Fld := ⟨31, 0⟩
/-- R379: KEY[31:0] RO. -/
def ID_PUB (i : Nat) : Reg := ⟨0x60080 + 4 * i, 0#32⟩
abbrev ID_PUB_KEY : Fld := ⟨31, 0⟩
/-- R411: URG_AGE[31:24] RW; PERIOD[23:16] RW; DTEMP[15:8] RW; TRAIN[2:2] W1S; LOCK[1:1] RO. -/
def MEM_CTL : Reg := ⟨0x50000, 0xA1E0A00#32⟩
abbrev MEM_CTL_URG_AGE : Fld := ⟨31, 24⟩
abbrev MEM_CTL_PERIOD : Fld := ⟨23, 16⟩
abbrev MEM_CTL_DTEMP : Fld := ⟨15, 8⟩
abbrev MEM_CTL_TRAIN : Fld := ⟨2, 2⟩
abbrev MEM_CTL_LOCK : Fld := ⟨1, 1⟩
/-- R411: CH_FAIL[23:20] RO; KEEP[19:16] RO; TEMP[15:8] RO; READY[0:0] RO. -/
def MEM_STAT : Reg := ⟨0x50004, 0x0#32⟩
abbrev MEM_STAT_CH_FAIL : Fld := ⟨23, 20⟩
abbrev MEM_STAT_KEEP : Fld := ⟨19, 16⟩
abbrev MEM_STAT_TEMP : Fld := ⟨15, 8⟩
abbrev MEM_STAT_READY : Fld := ⟨0, 0⟩
/-- R411: ROUNDS[31:16] RW; FAILS[15:0] RW. -/
def MEM_TRAIN : Reg := ⟨0x50008, 0x0#32⟩
abbrev MEM_TRAIN_ROUNDS : Fld := ⟨31, 16⟩
abbrev MEM_TRAIN_FAILS : Fld := ⟨15, 0⟩
/-- R411: FORCED[31:24] RW; PEND[15:0] RO. -/
def MEM_REF : Reg := ⟨0x5000C, 0x0#32⟩
abbrev MEM_REF_FORCED : Fld := ⟨31, 24⟩
abbrev MEM_REF_PEND : Fld := ⟨15, 0⟩
/-- R411: MASK[31:0] RW. -/
def MEM_XOR_LO (k : Nat) : Reg := ⟨0x50010 + 8 * k, memXorLoRst k⟩
abbrev MEM_XOR_LO_MASK : Fld := ⟨31, 0⟩
/-- R411: MASK[1:0] RW. -/
def MEM_XOR_HI (k : Nat) : Reg := ⟨0x50014 + 8 * k, memXorHiRst k⟩
abbrev MEM_XOR_HI_MASK : Fld := ⟨1, 0⟩
/-- R411: PANICS[31:16] RW; LOW[7:0] RW. -/
def MEM_RT (i : Nat) : Reg := ⟨0x50040 + 4 * i, memRtRst i⟩
abbrev MEM_RT_PANICS : Fld := ⟨31, 16⟩
abbrev MEM_RT_LOW : Fld := ⟨7, 0⟩
/-- R411: CE[31:16] RW; UE[15:0] RW. -/
def MEM_ECC : Reg := ⟨0x50048, 0x0#32⟩
abbrev MEM_ECC_CE : Fld := ⟨31, 16⟩
abbrev MEM_ECC_UE : Fld := ⟨15, 0⟩
/-- R411: UE[31:31] RO; LINE[27:0] RO. -/
def MEM_EADDR : Reg := ⟨0x5004C, 0x0#32⟩
abbrev MEM_EADDR_UE : Fld := ⟨31, 31⟩
abbrev MEM_EADDR_LINE : Fld := ⟨27, 0⟩
/-- R411: LAPMAX[31:16] RW; INTERVAL[15:0] RW. -/
def MEM_SCRUB : Reg := ⟨0x50050, 0xB4001C#32⟩
abbrev MEM_SCRUB_LAPMAX : Fld := ⟨31, 16⟩
abbrev MEM_SCRUB_INTERVAL : Fld := ⟨15, 0⟩
/-- R411: LAST[31:16] RO; NOW[15:0] RO. -/
def MEM_LAP : Reg := ⟨0x50054, 0x0#32⟩
abbrev MEM_LAP_LAST : Fld := ⟨31, 16⟩
abbrev MEM_LAP_NOW : Fld := ⟨15, 0⟩
/-- R411: SIZE[12:0] RW. -/
def MEM_LAY (r : Nat) : Reg := ⟨0x50060 + 4 * r, memLayRst r⟩
abbrev MEM_LAY_SIZE : Fld := ⟨12, 0⟩
/-- R411: ADDR[31:2] RW. -/
def MEM_WADDR_LO : Reg := ⟨0x50070, 0x0#32⟩
abbrev MEM_WADDR_LO_ADDR : Fld := ⟨31, 2⟩
/-- R411: ADDR[1:0] RW. -/
def MEM_WADDR_HI : Reg := ⟨0x50074, 0x0#32⟩
abbrev MEM_WADDR_HI_ADDR : Fld := ⟨1, 0⟩
/-- R411: DATA[31:0] RW. -/
def MEM_WDATA : Reg := ⟨0x50078, 0x0#32⟩
abbrev MEM_WDATA_DATA : Fld := ⟨31, 0⟩
/-- R411: POISON[1:1] W1C; ERR[0:0] W1C. -/
def MEM_WSTAT : Reg := ⟨0x5007C, 0x0#32⟩
abbrev MEM_WSTAT_POISON : Fld := ⟨1, 1⟩
abbrev MEM_WSTAT_ERR : Fld := ⟨0, 0⟩
/-- R411: VALID[31:31] RW; LINE[27:0] RW. -/
def MEM_REMAP (i : Nat) : Reg := ⟨0x50080 + 4 * i, 0x0#32⟩
abbrev MEM_REMAP_VALID : Fld := ⟨31, 31⟩
abbrev MEM_REMAP_LINE : Fld := ⟨27, 0⟩
/-- R411: COUNT[22:0] RW. -/
def POOL_CNT (p : Nat) : Reg := ⟨0x50100 + 4 * p, poolCntRst p⟩
abbrev POOL_CNT_COUNT : Fld := ⟨22, 0⟩
/-- R411: WM[31:24] RW; LOW[23:23] RO; FREE[22:0] RO. -/
def POOL_STAT (p : Nat) : Reg := ⟨0x50110 + 4 * p, poolStatRst p⟩
abbrev POOL_STAT_WM : Fld := ⟨31, 24⟩
abbrev POOL_STAT_LOW : Fld := ⟨23, 23⟩
abbrev POOL_STAT_FREE : Fld := ⟨22, 0⟩
/-- R411: COUNT[31:24] RW; WHO[20:16] RO; OP[15:12] RO; WHY[11:8] RO. -/
def POOL_ERR : Reg := ⟨0x50120, 0x0#32⟩
abbrev POOL_ERR_COUNT : Fld := ⟨31, 24⟩
abbrev POOL_ERR_WHO : Fld := ⟨20, 16⟩
abbrev POOL_ERR_OP : Fld := ⟨15, 12⟩
abbrev POOL_ERR_WHY : Fld := ⟨11, 8⟩
/-- R411: SEED[31:16] RW; LOCK15[15:15] RO; LOCK[14:0] RW. -/
def CC_CTL : Reg := ⟨0x50130, 0xACE18000#32⟩
abbrev CC_CTL_SEED : Fld := ⟨31, 16⟩
abbrev CC_CTL_LOCK15 : Fld := ⟨15, 15⟩
abbrev CC_CTL_LOCK : Fld := ⟨14, 0⟩
/-- R411: ADDR[31:6] RW. -/
def CC_MAINT_LO : Reg := ⟨0x50134, 0x0#32⟩
abbrev CC_MAINT_LO_ADDR : Fld := ⟨31, 6⟩
/-- R411: ADDR[1:0] RW. -/
def CC_MAINT_HI : Reg := ⟨0x50138, 0x0#32⟩
abbrev CC_MAINT_HI_ADDR : Fld := ⟨1, 0⟩
/-- R411: GO[31:31] W1S; BUSY[30:30] RO; CTX[24:20] RW; WAY[19:16] RW; LEN[15:4] RW; OP[3:0] RW. -/
def CC_MAINT : Reg := ⟨0x5013C, 0x1100010#32⟩
abbrev CC_MAINT_GO : Fld := ⟨31, 31⟩
abbrev CC_MAINT_BUSY : Fld := ⟨30, 30⟩
abbrev CC_MAINT_CTX : Fld := ⟨24, 20⟩
abbrev CC_MAINT_WAY : Fld := ⟨19, 16⟩
abbrev CC_MAINT_LEN : Fld := ⟨15, 4⟩
abbrev CC_MAINT_OP : Fld := ⟨3, 0⟩
/-- R411: PCLEAN[31:16] RW; PDIRTY[15:8] RW; CTX[4:0] RO. -/
def CC_STAT : Reg := ⟨0x50140, 0x0#32⟩
abbrev CC_STAT_PCLEAN : Fld := ⟨31, 16⟩
abbrev CC_STAT_PDIRTY : Fld := ⟨15, 8⟩
abbrev CC_STAT_CTX : Fld := ⟨4, 0⟩
/-- R432: VWARN[15:0] RW. -/
def PM_VWARN : Reg := ⟨0x30000, 0x2328#32⟩
abbrev PM_VWARN_VWARN : Fld := ⟨15, 0⟩
/-- R432: DIPS[31:16] RW; RECOV[2:2] RO; WARN[1:1] RO; PGOOD[0:0] RO. -/
def PM_SUPPLY : Reg := ⟨0x30004, 0x1#32⟩
abbrev PM_SUPPLY_DIPS : Fld := ⟨31, 16⟩
abbrev PM_SUPPLY_RECOV : Fld := ⟨2, 2⟩
abbrev PM_SUPPLY_WARN : Fld := ⟨1, 1⟩
abbrev PM_SUPPLY_PGOOD : Fld := ⟨0, 0⟩
/-- R432: STATE[31:0] RO. -/
def PM_DSTAT_LO : Reg := ⟨0x30008, 0x55555555#32⟩
abbrev PM_DSTAT_LO_STATE : Fld := ⟨31, 0⟩
/-- R432: STATE[21:0] RO. -/
def PM_DSTAT_HI : Reg := ⟨0x3000C, 0x00155555#32⟩
abbrev PM_DSTAT_HI_STATE : Fld := ⟨21, 0⟩
/-- R432: OUTCOME[31:30] RO; PEND[29:29] RO; REFUSER[20:16] RO; CID[15:0] RO. -/
def PM_LAST : Reg := ⟨0x30010, 0x1F0000#32⟩
abbrev PM_LAST_OUTCOME : Fld := ⟨31, 30⟩
abbrev PM_LAST_PEND : Fld := ⟨29, 29⟩
abbrev PM_LAST_REFUSER : Fld := ⟨20, 16⟩
abbrev PM_LAST_CID : Fld := ⟨15, 0⟩
/-- R432: MASK[26:0] RW. -/
def PM_LWAKE : Reg := ⟨0x30014, 0x66#32⟩
abbrev PM_LWAKE_MASK : Fld := ⟨26, 0⟩
/-- R432: MATCHES[31:16] RW; BAD[15:8] RW; ADDR[2:0] RO. -/
def PM_LIFT : Reg := ⟨0x30018, 0#32⟩
abbrev PM_LIFT_MATCHES : Fld := ⟨31, 16⟩
abbrev PM_LIFT_BAD : Fld := ⟨15, 8⟩
abbrev PM_LIFT_ADDR : Fld := ⟨2, 0⟩
/-- R432: REFUSED[31:24] RW; ABORTED[23:16] RW; LAST[12:8] RO. -/
def PM_ACC (d : Nat) : Reg := ⟨0x30100 + 4 * d, 0x1F00#32⟩
abbrev PM_ACC_REFUSED : Fld := ⟨31, 24⟩
abbrev PM_ACC_ABORTED : Fld := ⟨23, 16⟩
abbrev PM_ACC_LAST : Fld := ⟨12, 8⟩
/-- R450: LIVE[31:16] RO; TMO[15:8] RW; HOLD[0:0] RW. -/
def CAL_CTL : Reg := ⟨0x40000, 0x3200#32⟩
abbrev CAL_CTL_LIVE : Fld := ⟨31, 16⟩
abbrev CAL_CTL_TMO : Fld := ⟨15, 8⟩
abbrev CAL_CTL_HOLD : Fld := ⟨0, 0⟩
/-- R450: STEP[31:16] RO; OUTCOME[11:8] RO; REFRESH[1:1] RO; BUSY[0:0] RO. -/
def CAL_STAT : Reg := ⟨0x40004, 0x2#32⟩
abbrev CAL_STAT_STEP : Fld := ⟨31, 16⟩
abbrev CAL_STAT_OUTCOME : Fld := ⟨11, 8⟩
abbrev CAL_STAT_REFRESH : Fld := ⟨1, 1⟩
abbrev CAL_STAT_BUSY : Fld := ⟨0, 0⟩
/-- R450: COUNT[31:0] RW. -/
def CAL_FAIL : Reg := ⟨0x40008, 0x0#32⟩
abbrev CAL_FAIL_COUNT : Fld := ⟨31, 0⟩
/-- R450: UV[31:0] RO. -/
def CAL_REFIN : Reg := ⟨0x4000C, 0x0#32⟩
abbrev CAL_REFIN_UV : Fld := ⟨31, 0⟩
/-- R450: TEMP[15:0] RO. -/
def CAL_TEMP (i : Nat) : Reg := ⟨0x40010 + 4 * i, 0#32⟩
abbrev CAL_TEMP_TEMP : Fld := ⟨15, 0⟩
/-- R450: STN_UNUS[31:16] RO; CC_UNUS[15:12] RO; SHUT[2:2] RO; RUN[1:1] RO. -/
def BIST_STAT : Reg := ⟨0x40040, 0#32⟩
abbrev BIST_STAT_STN_UNUS : Fld := ⟨31, 16⟩
abbrev BIST_STAT_CC_UNUS : Fld := ⟨15, 12⟩
abbrev BIST_STAT_SHUT : Fld := ⟨2, 2⟩
abbrev BIST_STAT_RUN : Fld := ⟨1, 1⟩
/-- R450: MASK[24:0] RO. -/
def BIST_UNUS : Reg := ⟨0x40044, 0#32⟩
abbrev BIST_UNUS_MASK : Fld := ⟨24, 0⟩
/-- R466: PEND[31:0] W1C. -/
def EVT_PEND (i : Nat) : Reg := ⟨0x20000 + 4 * i, 0x0#32⟩
abbrev EVT_PEND_PEND : Fld := ⟨31, 0⟩
/-- R466: UNDEL[31:16] RW; LOST[15:0] RW. -/
def EVT_LOGSTAT : Reg := ⟨0x20040, 0x0#32⟩
abbrev EVT_LOGSTAT_UNDEL : Fld := ⟨31, 16⟩
abbrev EVT_LOGSTAT_LOST : Fld := ⟨15, 0⟩
/-- R466: EN[31:31] RW; FAULT[30:30] RW; FN[21:16] RW; VEC[7:0] RW. -/
def EVT_STEER (e : Nat) : Reg := ⟨0x20800 + 4 * e, evtSteerRst e⟩
abbrev EVT_STEER_EN : Fld := ⟨31, 31⟩
abbrev EVT_STEER_FAULT : Fld := ⟨30, 30⟩
abbrev EVT_STEER_FN : Fld := ⟨21, 16⟩
abbrev EVT_STEER_VEC : Fld := ⟨7, 0⟩
/-- R466: TSD[31:31] W1C; TSENS[30:28] RO; FATAL[17:0] RO. -/
def HLTH_STAT : Reg := ⟨0x70000, 0#32⟩
abbrev HLTH_STAT_TSD : Fld := ⟨31, 31⟩
abbrev HLTH_STAT_TSENS : Fld := ⟨30, 28⟩
abbrev HLTH_STAT_FATAL : Fld := ⟨17, 0⟩
/-- R466: RECOVER[17:0] W1S. -/
def MC_RECOVER : Reg := ⟨0x70004, 0x0#32⟩
abbrev MC_RECOVER_RECOVER : Fld := ⟨17, 0⟩
/-- R466: REFUSED[31:31] W1C; CTX[20:16] RO; COUNT[15:0] RW. -/
def MC_LAST : Reg := ⟨0x70008, 0x1F0000#32⟩
abbrev MC_LAST_REFUSED : Fld := ⟨31, 31⟩
abbrev MC_LAST_CTX : Fld := ⟨20, 16⟩
abbrev MC_LAST_COUNT : Fld := ⟨15, 0⟩
/-- R466: WARN[23:16] RW; REACT[0:0] RW. -/
def HLTH_THERM : Reg := ⟨0x7000C, 0x690000#32⟩
abbrev HLTH_THERM_WARN : Fld := ⟨23, 16⟩
abbrev HLTH_THERM_REACT : Fld := ⟨0, 0⟩
/-- R466: HOURS[31:0] RW. -/
def HLTH_WARN : Reg := ⟨0x70010, 0x7D0#32⟩
abbrev HLTH_WARN_HOURS : Fld := ⟨31, 0⟩
/-- R466: REACT[7:0] RW. -/
def HLTH_TRIP (n : Nat) : Reg := ⟨0x70040 + 4 * n, 0x5#32⟩
abbrev HLTH_TRIP_REACT : Fld := ⟨7, 0⟩
/-- R466: VALUE[31:0] RO. -/
def WEAR_VAL (w : Nat) : Reg := ⟨0x70100 + 16 * w, 0#32⟩
abbrev WEAR_VAL_VALUE : Fld := ⟨31, 0⟩
/-- R466: VALUE[31:0] RO. -/
def WEAR_P10 (w : Nat) : Reg := ⟨0x70104 + 16 * w, 0xFFFFFFFF#32⟩
abbrev WEAR_P10_VALUE : Fld := ⟨31, 0⟩
/-- R466: VALUE[31:0] RO. -/
def WEAR_P50 (w : Nat) : Reg := ⟨0x70108 + 16 * w, 0xFFFFFFFF#32⟩
abbrev WEAR_P50_VALUE : Fld := ⟨31, 0⟩
/-- R466: VALUE[31:0] RO. -/
def WEAR_P90 (w : Nat) : Reg := ⟨0x7010C + 16 * w, 0xFFFFFFFF#32⟩
abbrev WEAR_P90_VALUE : Fld := ⟨31, 0⟩
/-- R466: LIMIT[31:0] RW. -/
def WEAR_LIM (k : Nat) : Reg := ⟨0x70600 + 4 * k, wearLimRst k⟩
abbrev WEAR_LIM_LIMIT : Fld := ⟨31, 0⟩

/-- R121, Table 4.12: word k of bank b of loop L of station n. -/
def COEF (n L b k : Nat) : Reg := ⟨0x80000 + 0x400 * n + 0x80 * L + 0x40 * b + 4 * k, 0#32⟩

/-- A row of the access table: registers `reg 0 … reg (count - 1)`, `stride` bytes apart from offset `lo`, with the masks of
their RW, W1C, W1S and RWL bits (every other bit is RO or RSV). -/
structure RegRow where
  lo : Nat
  stride : Nat
  count : Nat
  reg : Nat → Reg
  rw : Word
  w1c : Word
  w1s : Word
  rwl : Word

/-- The row of `rows` that holds offset `off`. -/
def rowAt (rows : List RegRow) (off : Nat) : Option RegRow :=
  rows.find? (fun r => r.lo ≤ off && (off - r.lo) % r.stride = 0 && (off - r.lo) / r.stride < r.count)

/-- The access rows of R91. -/
def stnRowsPort (n : Nat) : List RegRow := [
  ⟨0x0, 4, 1, fun _ => STN_CTL n, 0xFFF1#32, 0x0#32, 0xC#32, 0x0#32⟩,
  ⟨0x4, 4, 1, fun _ => STN_STAT n, 0x0#32, 0x20#32, 0x0#32, 0x0#32⟩,
  ⟨0x8, 4, 1, fun _ => STN_LERR n, 0x3FFFFFFF#32, 0x0#32, 0x0#32, 0x0#32⟩,
  ⟨0xC, 4, 1, fun _ => STN_EYE n, 0x0#32, 0x0#32, 0x0#32, 0x0#32⟩,
  ⟨0x10, 4, 1, fun _ => STN_AXSTAT n, 0x0#32, 0x0#32, 0x0#32, 0x0#32⟩]

/-- The access rows of R120. -/
def stnRowsLoop (n : Nat) : List RegRow := [
  ⟨0x800, 64, 8, fun i => LP_CTL n i, 0xF07#32, 0x0#32, 0x0#32, 0x0#32⟩,
  ⟨0x804, 64, 8, fun i => LP_STAT n i, 0x0#32, 0xC100#32, 0x0#32, 0x0#32⟩,
  ⟨0x808, 64, 8, fun i => LP_SP n i, 0xFFFFFFFF#32, 0x0#32, 0x0#32, 0x0#32⟩,
  ⟨0x80C, 64, 8, fun i => LP_LIM n i, 0xFFFFFFFF#32, 0x0#32, 0x0#32, 0x0#32⟩,
  ⟨0x810, 64, 8, fun i => LP_DRV n i, 0xFFFFFFFF#32, 0x0#32, 0x0#32, 0x0#32⟩,
  ⟨0x814, 64, 8, fun i => LP_LOCK n i, 0xFFFFFFFF#32, 0x0#32, 0x0#32, 0x0#32⟩,
  ⟨0x818, 64, 8, fun i => LP_MON n i, 0x0#32, 0x0#32, 0x0#32, 0x0#32⟩,
  ⟨0x81C, 64, 8, fun i => LP_REF n i, 0x0#32, 0x0#32, 0x0#32, 0x0#32⟩]

/-- The access rows of R120. -/
def stnRowsServo (n : Nat) : List RegRow := [
  ⟨0xA00, 4, 1, fun _ => SV_SENSE n, 0xFFFFFFFF#32, 0x0#32, 0x0#32, 0x0#32⟩,
  ⟨0xA04, 4, 1, fun _ => SV_SMIN n, 0xFFFF#32, 0x0#32, 0x0#32, 0x0#32⟩,
  ⟨0xA08, 4, 1, fun _ => SV_JUMP n, 0xFFFF0000#32, 0x0#32, 0x0#32, 0x0#32⟩,
  ⟨0xA0C, 4, 1, fun _ => SV_KICK n, 0xFFFFFFFF#32, 0x0#32, 0x0#32, 0x0#32⟩,
  ⟨0xA10, 4, 1, fun _ => SV_TUNE n, 0xFFFFFFFF#32, 0x0#32, 0x0#32, 0x0#32⟩,
  ⟨0xA14, 4, 1, fun _ => SV_TUNE_CTL n, 0xFFFF0700#32, 0x0#32, 0x1#32, 0x0#32⟩,
  ⟨0xA18, 4, 1, fun _ => SV_TUNE_KU n, 0x0#32, 0x0#32, 0x0#32, 0x0#32⟩,
  ⟨0xA1C, 4, 1, fun _ => SV_TUNE_TU n, 0x0#32, 0x0#32, 0x0#32, 0x0#32⟩,
  ⟨0xA20, 4, 1, fun _ => SV_TUNE_A n, 0x0#32, 0x0#32, 0x0#32, 0x0#32⟩,
  ⟨0xA24, 4, 1, fun _ => SV_INJ_CTL n, 0xFFFFFF70#32, 0x0#32, 0x1#32, 0x0#32⟩,
  ⟨0xA28, 4, 1, fun _ => SV_INJ_FREQ n, 0xFFFFFFFF#32, 0x0#32, 0x0#32, 0x0#32⟩,
  ⟨0xA2C, 4, 1, fun _ => SV_INJ_MAG n, 0x0#32, 0x0#32, 0x0#32, 0x0#32⟩,
  ⟨0xA30, 4, 1, fun _ => SV_INJ_PH n, 0x0#32, 0x0#32, 0x0#32, 0x0#32⟩,
  ⟨0xA40, 4, 16, fun i => SV_LAYER n i, 0xFFFFFFFF#32, 0x0#32, 0x0#32, 0x0#32⟩]

/-- The access rows of R155. -/
def stnRowsMotion (n : Nat) : List RegRow := [
  ⟨0x400, 4, 1, fun _ => MOT_CTL n, 0xF01#32, 0x0#32, 0x0#32, 0x0#32⟩,
  ⟨0x404, 4, 1, fun _ => MOT_DEMAND n, 0xFFFF#32, 0x0#32, 0x0#32, 0x0#32⟩,
  ⟨0x408, 4, 1, fun _ => MOT_HYST n, 0xFFFFFFFF#32, 0x0#32, 0x0#32, 0x0#32⟩,
  ⟨0x40C, 4, 1, fun _ => MOT_SPST n, 0x0#32, 0x580#32, 0x0#32, 0x0#32⟩,
  ⟨0x410, 4, 1, fun _ => MOT_MLCNT n, 0xFFFFFFFF#32, 0x0#32, 0x0#32, 0x0#32⟩,
  ⟨0x414, 4, 1, fun _ => MOT_MODLIM n, 0xFFFF#32, 0x0#32, 0x0#32, 0x0#32⟩,
  ⟨0x418, 4, 1, fun _ => MOT_PARAM n, 0xFFFFFFFF#32, 0x0#32, 0x0#32, 0x0#32⟩,
  ⟨0x41C, 4, 1, fun _ => MOT_SCALE n, 0xFFFF#32, 0x0#32, 0x0#32, 0x0#32⟩,
  ⟨0x420, 4, 1, fun _ => MOT_OBS n, 0xFFFFFFFF#32, 0x0#32, 0x0#32, 0x0#32⟩,
  ⟨0x424, 4, 1, fun _ => MOT_START n, 0xFFFFFF00#32, 0x0#32, 0x0#32, 0x0#32⟩,
  ⟨0x428, 4, 1, fun _ => MOT_ISTART n, 0xFFFFFFFF#32, 0x0#32, 0x0#32, 0x0#32⟩,
  ⟨0x42C, 4, 1, fun _ => MOT_CATCH n, 0xFFFFFFFF#32, 0x0#32, 0x0#32, 0x0#32⟩,
  ⟨0x430, 4, 1, fun _ => MOT_ANGLE n, 0x0#32, 0x0#32, 0x0#32, 0x0#32⟩,
  ⟨0x440, 4, 33, fun i => MOT_CURVE n i, 0xFFFF#32, 0x0#32, 0x0#32, 0x0#32⟩,
  ⟨0x500, 4, 1, fun _ => SLD_CTL n, 0xC#32, 0x0#32, 0x3#32, 0x0#32⟩,
  ⟨0x504, 4, 1, fun _ => SLD_TARGET n, 0xFFFFFFFF#32, 0x0#32, 0x0#32, 0x0#32⟩,
  ⟨0x508, 4, 1, fun _ => SLD_POS n, 0xFFFFFFFF#32, 0x0#32, 0x0#32, 0x0#32⟩,
  ⟨0x50C, 4, 1, fun _ => SLD_VMAX n, 0xFFFFF#32, 0x0#32, 0x0#32, 0x0#32⟩,
  ⟨0x510, 4, 1, fun _ => SLD_ALIM n, 0xFFFFFFFF#32, 0x0#32, 0x0#32, 0x0#32⟩,
  ⟨0x514, 4, 1, fun _ => SLD_AMP n, 0xFFFFFFFF#32, 0x0#32, 0x0#32, 0x0#32⟩,
  ⟨0x518, 4, 1, fun _ => SLD_STAT n, 0x0#32, 0xE#32, 0x0#32, 0x0#32⟩,
  ⟨0x51C, 4, 1, fun _ => SLD_PMIN n, 0xFFFFFFFF#32, 0x0#32, 0x0#32, 0x0#32⟩,
  ⟨0x520, 4, 1, fun _ => SLD_PMAX n, 0xFFFFFFFF#32, 0x0#32, 0x0#32, 0x0#32⟩,
  ⟨0x600, 4, 1, fun _ => BUS_CHOP n, 0xFFFFFFFF#32, 0x0#32, 0x0#32, 0x0#32⟩,
  ⟨0x604, 4, 1, fun _ => BUS_RGF n, 0xFFFFFFFF#32, 0x0#32, 0x0#32, 0x0#32⟩,
  ⟨0x608, 4, 1, fun _ => BUS_STAT n, 0x0#32, 0x14#32, 0x0#32, 0x0#32⟩,
  ⟨0x60C, 4, 1, fun _ => BUS_VIN n, 0x0#32, 0x0#32, 0x0#32, 0x0#32⟩]

/-- The access rows of R193. -/
def stnRowsRead (n : Nat) : List RegRow := [
  ⟨0xC00, 4, 1, fun _ => RC_CTL n, 0x7#32, 0x0#32, 0x0#32, 0x0#32⟩,
  ⟨0xC04, 4, 1, fun _ => RC_STAT n, 0x0#32, 0x0#32, 0x0#32, 0x0#32⟩,
  ⟨0xC08, 4, 1, fun _ => RC_SYNC n, 0xFFFF#32, 0x0#32, 0x0#32, 0x0#32⟩,
  ⟨0xC0C, 4, 1, fun _ => RC_TR n, 0xFFFFFF#32, 0x0#32, 0x0#32, 0x0#32⟩,
  ⟨0xC10, 4, 1, fun _ => RC_EQ n, 0xFFFF#32, 0x0#32, 0x0#32, 0x0#32⟩,
  ⟨0xC14, 4, 1, fun _ => RC_DEF n, 0xFFFFFF#32, 0x0#32, 0x0#32, 0x0#32⟩,
  ⟨0xC18, 4, 1, fun _ => RC_ITER n, 0xFF#32, 0x0#32, 0x0#32, 0x0#32⟩,
  ⟨0xC1C, 4, 1, fun _ => RC_RETRY n, 0xFFFF00FF#32, 0x0#32, 0x0#32, 0x0#32⟩,
  ⟨0xC20, 4, 1, fun _ => RC_ZTAB_LO n, 0xFFFFF001#32, 0x0#32, 0x0#32, 0x0#32⟩,
  ⟨0xC24, 4, 1, fun _ => RC_ZTAB_HI n, 0x3#32, 0x0#32, 0x0#32, 0x0#32⟩,
  ⟨0xC28, 4, 1, fun _ => RC_WOB n, 0x0#32, 0x0#32, 0x0#32, 0x0#32⟩,
  ⟨0xC2C, 4, 1, fun _ => RC_LASTF n, 0x0#32, 0x0#32, 0x0#32, 0x0#32⟩,
  ⟨0xC30, 4, 5, fun i => RC_CNT n i, 0xFFFFFFFF#32, 0x0#32, 0x0#32, 0x0#32⟩]

/-- The access rows of R221. -/
def stnRowsWrite (n : Nat) : List RegRow := [
  ⟨0x1000, 4, 1, fun _ => WR_CTL n, 0xFFFF0001#32, 0x0#32, 0x0#32, 0x0#32⟩,
  ⟨0x1004, 4, 1, fun _ => WR_STAT n, 0x0#32, 0x0#32, 0x0#32, 0x0#32⟩,
  ⟨0x1008, 4, 1, fun _ => WR_LAT n, 0xFFFFFF#32, 0x0#32, 0x0#32, 0x0#32⟩,
  ⟨0x100C, 4, 1, fun _ => WR_STAB_LO n, 0xFFFFF001#32, 0x0#32, 0x0#32, 0x0#32⟩,
  ⟨0x1010, 4, 1, fun _ => WR_STAB_HI n, 0x3#32, 0x0#32, 0x0#32, 0x0#32⟩,
  ⟨0x1014, 4, 1, fun _ => WR_BAND n, 0x0#32, 0x0#32, 0x0#32, 0x0#32⟩,
  ⟨0x1018, 4, 1, fun _ => WR_HOLD n, 0xFF000000#32, 0xC000#32, 0x0#32, 0x0#32⟩,
  ⟨0x101C, 4, 1, fun _ => WR_SPARE n, 0x0#32, 0x0#32, 0x0#32, 0x0#32⟩,
  ⟨0x1020, 4, 7, fun i => WR_CNT n i, 0xFFFFFFFF#32, 0x0#32, 0x0#32, 0x0#32⟩]

/-- The access rows of R247. -/
def stnRowsSeq (n : Nat) : List RegRow := [
  ⟨0x100, 4, 1, fun _ => TASK_OP n, 0x0#32, 0x0#32, 0x0#32, 0xFFFF00FF#32⟩,
  ⟨0x104, 4, 6, fun i => TASK_ARG n i, 0x0#32, 0x0#32, 0x0#32, 0xFFFFFFFF#32⟩,
  ⟨0x11C, 4, 1, fun _ => TASK_GO n, 0x0#32, 0x0#32, 0x0#32, 0x1#32⟩,
  ⟨0x120, 4, 1, fun _ => TASK_STATUS n, 0x0#32, 0x6#32, 0x0#32, 0x0#32⟩,
  ⟨0x124, 4, 1, fun _ => SEQ_STAT n, 0x0#32, 0x0#32, 0x0#32, 0x0#32⟩,
  ⟨0x128, 4, 1, fun _ => SEQ_BANK n, 0x0#32, 0x0#32, 0x0#32, 0x0#32⟩,
  ⟨0x12C, 4, 1, fun _ => SEQ_MCHK n, 0x0#32, 0x80000000#32, 0x0#32, 0x0#32⟩,
  ⟨0x130, 4, 1, fun _ => SEQ_TRAP n, 0xFFF0#32, 0x0#32, 0x0#32, 0x0#32⟩]

/-- The access rows of R267. -/
def pfRowsId : List RegRow := [
  ⟨0x0, 4, 1, fun _ => ID_DEV, 0x0#32, 0x0#32, 0x0#32, 0x0#32⟩,
  ⟨0x4, 4, 1, fun _ => ID_STN, 0x0#32, 0x0#32, 0x0#32, 0x0#32⟩,
  ⟨0x8, 4, 1, fun _ => LNK_STAT, 0xFFFF0000#32, 0x0#32, 0x0#32, 0x0#32⟩,
  ⟨0xC, 4, 1, fun _ => VFV_STAT, 0x0#32, 0x1#32, 0x0#32, 0x0#32⟩,
  ⟨0x100, 4, 63, fun i => VF_VEC (i + 1), 0x7F#32, 0x0#32, 0x0#32, 0x0#32⟩,
  ⟨0x200, 4, 63, fun i => VF_FEAT (i + 1), 0x3FF#32, 0x0#32, 0x0#32, 0x0#32⟩]

/-- The access rows of R267, R268. -/
def featRows (f : Nat) : List RegRow := [
  ⟨0x0, 4, 4, fun i => FEAT_DEV f i, 0x0#32, 0x0#32, 0x0#32, 0x0#32⟩,
  ⟨0x10, 4, 4, fun i => FEAT_DRV f i, 0xFFFFFFFF#32, 0x0#32, 0x0#32, 0x0#32⟩,
  ⟨0x20, 4, 1, fun _ => FEAT_STAT f, 0x0#32, 0x2#32, 0x0#32, 0x0#32⟩]

/-- The access rows of R298. -/
def qsRows (f : Nat) : List RegRow := [
  ⟨0x0, 4, 1, fun _ => QS_DB_LO f, 0xFFFFF001#32, 0x0#32, 0x0#32, 0x0#32⟩,
  ⟨0x4, 4, 1, fun _ => QS_DB_HI f, 0xFFFFFFFF#32, 0x0#32, 0x0#32, 0x0#32⟩,
  ⟨0xC, 4, 1, fun _ => QS_SH_HI f, 0xFFFFFFFF#32, 0x0#32, 0x0#32, 0x0#32⟩,
  ⟨0x8, 4, 1, fun _ => QS_SH_LO f, 0xFFFFF801#32, 0x0#32, 0x0#32, 0x0#32⟩,
  ⟨0x10, 4, 1, fun _ => QS_PASID f, 0x800FFFFF#32, 0x0#32, 0x0#32, 0x0#32⟩,
  ⟨0x14, 4, 1, fun _ => QS_POLL f, 0xFFFFFFFF#32, 0x0#32, 0x0#32, 0x0#32⟩,
  ⟨0x18, 4, 1, fun _ => QS_CMD f, 0xFF00FF#32, 0x0#32, 0x80000000#32, 0x0#32⟩,
  ⟨0x1C, 4, 6, fun i => QS_ARG f i, 0xFFFFFFFF#32, 0x0#32, 0x0#32, 0x0#32⟩,
  ⟨0x34, 4, 1, fun _ => QS_STAT f, 0x0#32, 0x200#32, 0x0#32, 0x0#32⟩,
  ⟨0x38, 4, 1, fun _ => QS_INFO f, 0x0#32, 0x0#32, 0x0#32, 0x0#32⟩,
  ⟨0x3C, 4, 1, fun _ => QS_LIM f, 0x0#32, 0x0#32, 0x0#32, 0x0#32⟩,
  ⟨0x40, 4, 1, fun _ => QS_FLT f, 0x0#32, 0x3#32, 0x0#32, 0x0#32⟩,
  ⟨0x100, 4, 256, fun i => SQ_STAT f i, 0xFF00#32, 0x10#32, 0x0#32, 0x0#32⟩,
  ⟨0x500, 4, 256, fun i => CQ_STAT f i, 0xFF00#32, 0x10#32, 0x0#32, 0x0#32⟩]

/-- The access rows of R298. -/
def pfRowsShare : List RegRow := [
  ⟨0x11100, 4, 63, fun i => QS_VLIM (i + 1), 0xFFFF01FF#32, 0x0#32, 0x0#32, 0x0#32⟩,
  ⟨0x11000, 4, 1, fun _ => QS_PSCH, 0x7F#32, 0x0#32, 0x0#32, 0x0#32⟩]

/-- The access rows of R379. -/
def pfRowsSec : List RegRow := [
  ⟨0x60000, 4, 1, fun _ => LC_STAT, 0x0#32, 0x0#32, 0x0#32, 0x0#32⟩,
  ⟨0x60004, 4, 1, fun _ => LC_CMD, 0x1FFF00FF#32, 0x0#32, 0x80000000#32, 0x0#32⟩,
  ⟨0x60008, 4, 1, fun _ => LC_TOK_LO, 0xFFFFFFFF#32, 0x0#32, 0x0#32, 0x0#32⟩,
  ⟨0x6000C, 4, 1, fun _ => LC_TOK_HI, 0xFFFFFFFF#32, 0x0#32, 0x0#32, 0x0#32⟩,
  ⟨0x60010, 4, 1, fun _ => LC_NONCE_LO, 0x0#32, 0x0#32, 0x0#32, 0x0#32⟩,
  ⟨0x60014, 4, 1, fun _ => LC_NONCE_HI, 0x0#32, 0x0#32, 0x0#32, 0x0#32⟩,
  ⟨0x60020, 4, 1, fun _ => CLK_SET_LO, 0xFFFFFFFF#32, 0x0#32, 0x0#32, 0x0#32⟩,
  ⟨0x60024, 4, 1, fun _ => CLK_SET_HI, 0xFFFFFFFF#32, 0x0#32, 0x0#32, 0x0#32⟩,
  ⟨0x60028, 4, 1, fun _ => CLK_NOW_LO, 0x0#32, 0x0#32, 0x0#32, 0x0#32⟩,
  ⟨0x6002C, 4, 1, fun _ => CLK_NOW_HI, 0x0#32, 0x0#32, 0x0#32, 0x0#32⟩,
  ⟨0x60030, 4, 1, fun _ => CLK_STAT, 0x0#32, 0x2#32, 0x0#32, 0x0#32⟩,
  ⟨0x60040, 4, 1, fun _ => FW_STAT, 0x0#32, 0x88#32, 0x0#32, 0x0#32⟩,
  ⟨0x60044, 4, 1, fun _ => FW_SVN, 0x0#32, 0x0#32, 0x0#32, 0x0#32⟩,
  ⟨0x60048, 4, 1, fun _ => SEC_AUTHF, 0xFFFFFFFF#32, 0x0#32, 0x0#32, 0x0#32⟩,
  ⟨0x6004C, 4, 2, fun i => FW_VER i, 0x0#32, 0x0#32, 0x0#32, 0x0#32⟩,
  ⟨0x60080, 4, 8, fun i => ID_PUB i, 0x0#32, 0x0#32, 0x0#32, 0x0#32⟩]

/-- The access rows of R411. -/
def pfRowsMem : List RegRow := [
  ⟨0x50000, 4, 1, fun _ => MEM_CTL, 0xFFFFFF00#32, 0x0#32, 0x4#32, 0x0#32⟩,
  ⟨0x50004, 4, 1, fun _ => MEM_STAT, 0x0#32, 0x0#32, 0x0#32, 0x0#32⟩,
  ⟨0x50008, 4, 1, fun _ => MEM_TRAIN, 0xFFFFFFFF#32, 0x0#32, 0x0#32, 0x0#32⟩,
  ⟨0x5000C, 4, 1, fun _ => MEM_REF, 0xFF000000#32, 0x0#32, 0x0#32, 0x0#32⟩,
  ⟨0x50010, 8, 6, fun i => MEM_XOR_LO i, 0xFFFFFFFF#32, 0x0#32, 0x0#32, 0x0#32⟩,
  ⟨0x50014, 8, 6, fun i => MEM_XOR_HI i, 0x3#32, 0x0#32, 0x0#32, 0x0#32⟩,
  ⟨0x50040, 4, 2, fun i => MEM_RT i, 0xFFFF00FF#32, 0x0#32, 0x0#32, 0x0#32⟩,
  ⟨0x50048, 4, 1, fun _ => MEM_ECC, 0xFFFFFFFF#32, 0x0#32, 0x0#32, 0x0#32⟩,
  ⟨0x5004C, 4, 1, fun _ => MEM_EADDR, 0x0#32, 0x0#32, 0x0#32, 0x0#32⟩,
  ⟨0x50050, 4, 1, fun _ => MEM_SCRUB, 0xFFFFFFFF#32, 0x0#32, 0x0#32, 0x0#32⟩,
  ⟨0x50054, 4, 1, fun _ => MEM_LAP, 0x0#32, 0x0#32, 0x0#32, 0x0#32⟩,
  ⟨0x50060, 4, 3, fun i => MEM_LAY i, 0x1FFF#32, 0x0#32, 0x0#32, 0x0#32⟩,
  ⟨0x50070, 4, 1, fun _ => MEM_WADDR_LO, 0xFFFFFFFC#32, 0x0#32, 0x0#32, 0x0#32⟩,
  ⟨0x50074, 4, 1, fun _ => MEM_WADDR_HI, 0x3#32, 0x0#32, 0x0#32, 0x0#32⟩,
  ⟨0x50078, 4, 1, fun _ => MEM_WDATA, 0xFFFFFFFF#32, 0x0#32, 0x0#32, 0x0#32⟩,
  ⟨0x5007C, 4, 1, fun _ => MEM_WSTAT, 0x0#32, 0x3#32, 0x0#32, 0x0#32⟩,
  ⟨0x50080, 4, 32, fun i => MEM_REMAP i, 0x8FFFFFFF#32, 0x0#32, 0x0#32, 0x0#32⟩,
  ⟨0x50100, 4, 4, fun i => POOL_CNT i, 0x7FFFFF#32, 0x0#32, 0x0#32, 0x0#32⟩,
  ⟨0x50110, 4, 4, fun i => POOL_STAT i, 0xFF000000#32, 0x0#32, 0x0#32, 0x0#32⟩,
  ⟨0x50120, 4, 1, fun _ => POOL_ERR, 0xFF000000#32, 0x0#32, 0x0#32, 0x0#32⟩,
  ⟨0x50130, 4, 1, fun _ => CC_CTL, 0xFFFF7FFF#32, 0x0#32, 0x0#32, 0x0#32⟩,
  ⟨0x50134, 4, 1, fun _ => CC_MAINT_LO, 0xFFFFFFC0#32, 0x0#32, 0x0#32, 0x0#32⟩,
  ⟨0x50138, 4, 1, fun _ => CC_MAINT_HI, 0x3#32, 0x0#32, 0x0#32, 0x0#32⟩,
  ⟨0x5013C, 4, 1, fun _ => CC_MAINT, 0x1FFFFFF#32, 0x0#32, 0x80000000#32, 0x0#32⟩,
  ⟨0x50140, 4, 1, fun _ => CC_STAT, 0xFFFFFF00#32, 0x0#32, 0x0#32, 0x0#32⟩]

/-- The access rows of R432. -/
def pfRowsPower : List RegRow := [
  ⟨0x30000, 4, 1, fun _ => PM_VWARN, 0xFFFF#32, 0x0#32, 0x0#32, 0x0#32⟩,
  ⟨0x30004, 4, 1, fun _ => PM_SUPPLY, 0xFFFF0000#32, 0x0#32, 0x0#32, 0x0#32⟩,
  ⟨0x30008, 4, 1, fun _ => PM_DSTAT_LO, 0x0#32, 0x0#32, 0x0#32, 0x0#32⟩,
  ⟨0x3000C, 4, 1, fun _ => PM_DSTAT_HI, 0x0#32, 0x0#32, 0x0#32, 0x0#32⟩,
  ⟨0x30010, 4, 1, fun _ => PM_LAST, 0x0#32, 0x0#32, 0x0#32, 0x0#32⟩,
  ⟨0x30014, 4, 1, fun _ => PM_LWAKE, 0x7FFFFFF#32, 0x0#32, 0x0#32, 0x0#32⟩,
  ⟨0x30018, 4, 1, fun _ => PM_LIFT, 0xFFFFFF00#32, 0x0#32, 0x0#32, 0x0#32⟩,
  ⟨0x30100, 4, 27, fun i => PM_ACC i, 0xFFFF0000#32, 0x0#32, 0x0#32, 0x0#32⟩]

/-- The access rows of R450. -/
def pfRowsCal : List RegRow := [
  ⟨0x40000, 4, 1, fun _ => CAL_CTL, 0xFF01#32, 0x0#32, 0x0#32, 0x0#32⟩,
  ⟨0x40004, 4, 1, fun _ => CAL_STAT, 0x0#32, 0x0#32, 0x0#32, 0x0#32⟩,
  ⟨0x40008, 4, 1, fun _ => CAL_FAIL, 0xFFFFFFFF#32, 0x0#32, 0x0#32, 0x0#32⟩,
  ⟨0x4000C, 4, 1, fun _ => CAL_REFIN, 0x0#32, 0x0#32, 0x0#32, 0x0#32⟩,
  ⟨0x40010, 4, 8, fun i => CAL_TEMP i, 0x0#32, 0x0#32, 0x0#32, 0x0#32⟩,
  ⟨0x40040, 4, 1, fun _ => BIST_STAT, 0x0#32, 0x0#32, 0x0#32, 0x0#32⟩,
  ⟨0x40044, 4, 1, fun _ => BIST_UNUS, 0x0#32, 0x0#32, 0x0#32, 0x0#32⟩]

/-- The access rows of R466. -/
def pfRowsEvt : List RegRow := [
  ⟨0x20000, 4, 16, fun i => EVT_PEND i, 0x0#32, 0xFFFFFFFF#32, 0x0#32, 0x0#32⟩,
  ⟨0x20040, 4, 1, fun _ => EVT_LOGSTAT, 0xFFFFFFFF#32, 0x0#32, 0x0#32, 0x0#32⟩,
  ⟨0x20800, 4, 512, fun i => EVT_STEER i, 0xC03F00FF#32, 0x0#32, 0x0#32, 0x0#32⟩,
  ⟨0x70000, 4, 1, fun _ => HLTH_STAT, 0x0#32, 0x80000000#32, 0x0#32, 0x0#32⟩,
  ⟨0x70004, 4, 1, fun _ => MC_RECOVER, 0x0#32, 0x0#32, 0x3FFFF#32, 0x0#32⟩,
  ⟨0x70008, 4, 1, fun _ => MC_LAST, 0xFFFF#32, 0x80000000#32, 0x0#32, 0x0#32⟩,
  ⟨0x7000C, 4, 1, fun _ => HLTH_THERM, 0xFF0001#32, 0x0#32, 0x0#32, 0x0#32⟩,
  ⟨0x70010, 4, 1, fun _ => HLTH_WARN, 0xFFFFFFFF#32, 0x0#32, 0x0#32, 0x0#32⟩,
  ⟨0x70040, 4, 16, fun i => HLTH_TRIP i, 0xFF#32, 0x0#32, 0x0#32, 0x0#32⟩,
  ⟨0x70100, 16, 74, fun i => WEAR_VAL i, 0x0#32, 0x0#32, 0x0#32, 0x0#32⟩,
  ⟨0x70104, 16, 74, fun i => WEAR_P10 i, 0x0#32, 0x0#32, 0x0#32, 0x0#32⟩,
  ⟨0x70108, 16, 74, fun i => WEAR_P50 i, 0x0#32, 0x0#32, 0x0#32, 0x0#32⟩,
  ⟨0x7010C, 16, 74, fun i => WEAR_P90 i, 0x0#32, 0x0#32, 0x0#32, 0x0#32⟩,
  ⟨0x70600, 4, 7, fun i => WEAR_LIM i, 0xFFFFFFFF#32, 0x0#32, 0x0#32, 0x0#32⟩]

/-- The servo coefficient windows (R121): every word is one RW field. -/
def coefRow (off : Nat) : Option RegRow :=
  if off < 0x4000 ∧ off % 0x40 < 0x20 ∧ off % 4 = 0 then
    some ⟨0x80000 + off, 4, 1, fun _ => COEF (off / 0x400) (off % 0x400 / 0x80) (off % 0x80 / 0x40) (off % 0x40 / 4),
      0xFFFFFFFF#32, 0#32, 0#32, 0#32⟩
  else none

/-- The access row of station n at window offset `off` (Table 3.13). -/
def stnRow (n off : Nat) : Option RegRow :=
  if off < 0x100 then rowAt (stnRowsPort n) off
  else if off < 0x400 then rowAt (stnRowsSeq n) off
  else if off < 0x800 then rowAt (stnRowsMotion n) off
  else if off < 0xA00 then rowAt (stnRowsLoop n) off
  else if off < 0xC00 then rowAt (stnRowsServo n) off
  else if off < 0x1000 then rowAt (stnRowsRead n) off
  else if off < 0x1400 then rowAt (stnRowsWrite n) off
  else none

/-- The access row of a PF BAR0 offset (Table 0.4); none where no register lies (R10). -/
def pfRow (off : Nat) : Option RegRow :=
  if off < 0x10000 then
    (if 0x10 ≤ off ∧ off < 0x34 then rowAt (featRows 0) (off - 0x10) else rowAt pfRowsId off)
  else if off < 0x11000 then rowAt (qsRows 0) (off - 0x10000)
  else if off < 0x20000 then rowAt pfRowsShare off
  else if off < 0x30000 then rowAt pfRowsEvt off
  else if off < 0x40000 then rowAt pfRowsPower off
  else if off < 0x50000 then rowAt pfRowsCal off
  else if off < 0x60000 then rowAt pfRowsMem off
  else if off < 0x70000 then rowAt pfRowsSec off
  else if off < 0x80000 then rowAt pfRowsEvt off
  else if off < 0x90000 then coefRow (off - 0x80000)
  else if off < 0x100000 then none
  else if off < 0x200000 then stnRow ((off - 0x100000) / 0x10000) (off % 0x10000)
  else none

/-- The access row of a VF BAR0 offset (R254, R268, R298). -/
def vfRow (f off : Nat) : Option RegRow :=
  if off < 0x40 then rowAt (featRows f) off
  else if off < 0x940 then rowAt (qsRows f) (off - 0x40)
  else none

/-- The access row of offset `off` of function `f`'s BAR0, and the index of the register in it. -/
def regRow (f off : Nat) : Option (RegRow × Reg × Nat) :=
  let o := if f = 0 then (if off < 0x10000 ∧ 0x10 ≤ off ∧ off < 0x34 then off - 0x10
             else if 0x10000 ≤ off ∧ off < 0x11000 then off - 0x10000
             else if 0x100000 ≤ off then off % 0x10000 else off)
           else if off < 0x40 then off else off - 0x40
  match (if f = 0 then pfRow off else vfRow f off) with
  | none => none
  | some r => let i := (o - r.lo) / r.stride; some (r, r.reg i, i)

end Sys2Proof.Machine
end

