-- ==== Sys2Proof/Machine/Format.lean ====
section
/-!
DEFINITION. The Bruhorn recording format (ch. 2): zones, the wobble address, frames and the code, the trailer, the band layout,
the outer code, the seal record and the lead-in records; and the checkpoint stream (R338), which is laid out in frames.
-/

namespace Sys2Proof.Machine

/-! ## Zones and positions -/

/-- R42: T(z); zone L is numbered 63 (Table 2.3). -/
def zoneT (z : Nat) : Nat := if z = 63 then 300 else if z ≤ 15 then 554 else 553

/-- R42: S(z), as an octo-turn counted from the start of the lead-in (octo-turn -300). -/
def zoneS (z : Nat) : Nat := if z = 63 then 0 else 300 + 553 * z + min z 16

/-- R42: the outer radius in nanometres. -/
def zoneROut (z : Nat) : Nat := 23616000 + (zoneS z + zoneT z) * 1280

/-- R43: C(z), the revolution length in channel bits. -/
def zoneC (z : Nat) : Nat := 2 * 31415926535897932 * zoneROut z / (56 * 10000000000000000)

/-- R43: the zone speed, 24 × 10^9 ÷ C(z) rpm, in 1/512 rpm to nearest. -/
def zoneSpeed (z : Nat) : Nat := (24000000000 * 512 * 2 + zoneC z) / (2 * zoneC z)

/-- R44: B(z), the band positions of a zone. -/
def zoneB (z : Nat) : Nat := zoneT z * zoneC z / 2930512

/-- The channel bits of a frame length and of a band position (R44, R46). -/
def frameBits : Nat := 40144
def bandBits : Nat := 2930512

/-- A location packed as WR_BAND: layer, zone and band position. -/
def packLoc (layer zone bpos : Nat) : Nat := layer * 2 ^ 28 + zone * 2 ^ 22 + bpos * 2 ^ 11

def locLayer (l : Nat) : Nat := l / 2 ^ 28 % 16
def locZone (l : Nat) : Nat := l / 2 ^ 22 % 64
def locBpos (l : Nat) : Nat := l / 2 ^ 11 % 2048

/-- R40: zones in track-path order: outwards on even layers, inwards on odd ones. -/
def nextZone (layer z : Nat) : Option Nat :=
  if layer % 2 = 0 then (if z < 47 then some (z + 1) else none) else (if z = 0 then none else some (z - 1))

/-- R336: the position after `loc` on its layer; ZONE 63 when the layer is full. -/
def nextLoc (loc : Nat) : Nat :=
  let y := locLayer loc
  let z := locZone loc
  if z = 63 then loc
  else if locBpos loc + 1 < zoneB z then packLoc y z (locBpos loc + 1)
  else match nextZone y z with
    | some z' => packLoc y z' 0
    | none => packLoc y 63 0

/-- The first position of a layer's data zone. -/
def firstLoc (layer : Nat) : Nat := packLoc layer (if layer % 2 = 0 then 0 else 47) 0

/-- Positions from a frontier to the end of its layer. -/
def freeOnLayer (loc : Nat) : Nat :=
  let z := locZone loc
  if z = 63 then 0
  else
    let later := (List.range 48).filter (fun k => if locLayer loc % 2 = 0 then z < k else k < z)
    (zoneB z - locBpos loc) + (later.map zoneB).sum

/-- R40, R64: is `a` before `b` on one layer in track-path order? -/
def locBefore (a b : Nat) : Bool :=
  if locZone b = 63 then locZone a != 63
  else if locZone a = 63 then false
  else if locZone a = locZone b then locBpos a < locBpos b
  else if locLayer a % 2 = 0 then locZone a < locZone b else locZone b < locZone a

/-! ## Checks -/

/-- CRC-16, polynomial 0x1021, initial 0xFFFF, of the top `k` bits of a number, most significant first. DEDUCED: log entry 26. -/
def crc16 : Nat → Nat → BitVec 16 → BitVec 16
  | 0, _, c => c
  | k + 1, n, c =>
    let b := n.testBit k
    crc16 k n ((c <<< 1) ^^^ (if c.getLsbD 15 != b then 0x1021#16 else 0#16))

/-- R45, Table 2.3: is a 48-bit wobble word's CRC right? -/
def wobbleOk (w : Nat) : Bool := decide ((crc16 32 (w / 65536) 0xFFFF#16).toNat = w % 65536)

/-- The fields of Table 2.3: LAYER, ZONE, BPOS, FPOS and SPIRAL. -/
def wobbleLayer (w : Nat) : Nat := w / 2 ^ 44 % 16
def wobbleZone (w : Nat) : Nat := w / 2 ^ 38 % 64
def wobbleBpos (w : Nat) : Nat := w / 2 ^ 27 % 2048
def wobbleFpos (w : Nat) : Nat := w / 2 ^ 20 % 128
def wobbleSpiral (w : Nat) : Nat := w / 2 ^ 17 % 8

/-- CRC-32 of IEEE 802.3 (R52). -/
def crc32 (bs : Bytes) : Nat :=
  let step (c : BitVec 32) (b : Byte) : BitVec 32 :=
    (List.range 8).foldl (fun c _ => (c >>> 1) ^^^ (if c.getLsbD 0 then 0xEDB88320#32 else 0#32)) (c ^^^ b.setWidth 32)
  (~~~(bs.foldl step 0xFFFFFFFF#32)).toNat

/-! ## The code -/

/-- Bit 7 - k of byte b is information bit 8b + k (R48). -/
def bytesToBits (bs : Bytes) : List Bool := bs.flatMap (fun b => (List.range 8).map (fun k => b.getLsbD (7 - k)))
def bitsToByte (l : List Bool) : Byte := BitVec.ofNat 8 (l.foldl (fun n b => 2 * n + if b then 1 else 0) 0)
def bitsToBytes (l : List Bool) : Bytes :=
  (List.range (l.length / 8)).map (fun i => bitsToByte ((l.drop (8 * i)).take 8))

/-- R49: the shift of block (i, j), if the block is nonzero. -/
def codeShift (i j : Nat) : Option Nat :=
  if j < 64 then
    if i = j % 8 ∨ i = (j + 2) % 8 ∨ i = (j + 3) % 8 ∨ i = (j + 5) % 8 then some (((i + 1) * (j + 1) * (j + 7) + 13 * i) % 520)
    else none
  else if j < 71 then (if i = j - 64 ∨ i = j - 63 then some 0 else none)
  else if i = 7 then some 0 else none

/-- A 520-bit block turned by `p`: position ρ of the result is position (ρ + p) mod 520. -/
def turn (p : Nat) (b : BitVec 520) : BitVec 520 := b.rotateRight p

/-- R50: the syndrome of block row i over the information blocks. -/
def codeSyn (i : Nat) (blks : List (BitVec 520)) : BitVec 520 :=
  (List.zip (List.range 64) blks).foldl (fun a jb => match codeShift i jb.1 with
    | some p => a ^^^ turn p jb.2
    | none => a) 0

/-- The 520-bit blocks of a bit string, position b in bit b. -/
def toBlocks (l : List Bool) : List (BitVec 520) :=
  (List.range (l.length / 520)).map (fun j =>
    BitVec.ofNat 520 (((l.drop (520 * j)).take 520).reverse.foldl (fun n b => 2 * n + if b then 1 else 0) 0))

/-- R50: the eight parity blocks. -/
def codeParity (blks : List (BitVec 520)) : List (BitVec 520) :=
  ((List.range 8).foldl (fun (acc : List (BitVec 520)) i => (codeSyn i blks ^^^ acc.headD 0) :: acc) []).reverse

/-- R48, R50: the 37,440-bit codeword of 4,160 information bytes. -/
def codeword (info : Bytes) : List Bool :=
  let u := bytesToBits info
  u ++ (codeParity (toBlocks u)).flatMap (fun p => (List.range 520).map p.getLsbD)

/-- H c = 0 (R49). -/
def isCodeword (l : List Bool) : Bool :=
  let bl := toBlocks l
  (List.range 8).all (fun i => (List.zip (List.range 72) bl).foldl (fun a jb => match codeShift i jb.1 with
    | some p => a ^^^ turn p jb.2
    | none => a) 0#520 == 0)

/-- The state of the 16-to-17 encoder: the last bit sent, its run so far, and the running digital sum (R51). -/
structure RunSt where
  last : Bool
  run : Nat
  rds : Int
  deriving DecidableEq, Repr

/-- Bits appended: the state after them and the longest run reached. -/
def runFeed (r : RunSt) (l : List Bool) : RunSt × Nat :=
  l.foldl (fun (acc : RunSt × Nat) b =>
    let run := if b = acc.1.last then acc.1.run + 1 else 1
    (⟨b, run, acc.1.rds + if b then 1 else -1⟩, max acc.2 run)) (r, 0)

/-- R51: the channel word for one data word. -/
def sendWord (r : RunSt) (w : List Bool) : List Bool × RunSt :=
  let a := false :: w
  let b := true :: w.map (!·)
  let ra := runFeed r a
  let rb := runFeed r b
  if ra.2 > 17 then (b, rb.1)
  else if rb.2 > 17 then (a, ra.1)
  else if rb.1.rds.natAbs < ra.1.rds.natAbs then (b, rb.1) else (a, ra.1)

/-- R51: the data field of a frame. -/
def dataField (c : List Bool) : List Bool :=
  ((List.range 2340).foldl (fun (acc : List Bool × RunSt) w =>
    let r := sendWord acc.2 ((c.drop (16 * w)).take 16)
    (acc.1 ++ r.1, r.2)) ([], ⟨false, 0, 0⟩)).1

/-- R51: the data word of a channel word. -/
def recvWord : List Bool → List Bool
  | [] => []
  | p :: w => if p then w.map (!·) else w

/-- The 48 bits of the sync mark (Table 2.4). -/
def syncMark : List Bool := (List.range 48).map (fun i => (0xFFFFF0000069 : Nat).testBit (47 - i))

/-- Table 2.4: the 40,144 channel bits of a frame. -/
def channelBits (info : Bytes) : List Bool :=
  (List.replicate 24 [true, true, true, true, true, false, false, false, false, false]).flatten
  ++ syncMark ++ dataField (codeword info) ++ List.replicate 76 false

/-! ## The board record (Table 18.8) -/

/-- R474: magic, format version and CRC are right; else the record counts as absent. -/
def boardOk (b : Bytes) : Bool :=
  b.length == 324 && leNat (slice b 0 4) == 0x44424B56 && leNat (slice b 4 2) == 1 && leNat (slice b 320 4) == crc32 (b.take 320)

/-- The gain of station n's spindle (0), sled (1) or chopper (2) current channels in µA per code; 0 means 1,000. -/
def boardGain (b : Bytes) (n k : Nat) : Nat := let g := leNat (slice b (64 + 16 * n + 4 * k) 4); if g = 0 then 1000 else g

/-! ## Frames -/

/-- Table 2.5. -/
structure Trailer where
  vba : Nat
  ver : Nat
  vault : Nat
  seq : Nat
  slot : Nat
  kind : Nat
  tag : Bytes
  deriving DecidableEq, Repr

/-- Trailer bytes 0 to 43. -/
def trailerHead (t : Trailer) : Bytes :=
  leBytes 8 t.vba ++ leBytes 4 t.ver ++ leBytes 4 t.vault ++ leBytes 8 t.seq ++ leBytes 2 t.slot ++ leBytes 2 t.kind
  ++ t.tag.take 16 ++ zeros (16 - (t.tag.take 16).length)

/-- R48, R52: the information bytes of a frame. -/
def frameInfo (user : Bytes) (t : Trailer) : Bytes :=
  user ++ trailerHead t ++ leBytes 4 (crc32 (user ++ trailerHead t)) ++ zeros 16

/-- The trailer that information bytes carry. -/
def readTrailer (info : Bytes) : Trailer :=
  let t := info.drop 4096
  ⟨leNat (slice t 0 8), leNat (slice t 8 4), leNat (slice t 12 4), leNat (slice t 16 8), leNat (slice t 24 2),
   leNat (slice t 26 2), slice t 28 16⟩

/-- R52: the CRC of information bytes is right. -/
def crcOk (info : Bytes) : Bool := decide (leNat (slice info 4140 4) = crc32 (info.take 4140))

/-- R52, R65: the information bytes of frame 8t + s of a record band: `kind` is 2 for the identity record, 3 for the binding record. -/
def leadFrame (kind i : Nat) (record : Bytes) : Bytes :=
  frameInfo (record.take 4096 ++ zeros (4096 - record.length)) ⟨0, 0, 0, 0, i, kind, zeros 16⟩

/-- R178: the check of a lead-in frame that has been decoded at slot index `i`. -/
def leadOk (i : Nat) (info : Bytes) : Bool := info.length == 4160 && crcOk info && (readTrailer info).slot == i

/-- R65: the record of a record band, from what its frames 0 to 63 decoded to (empty: not decoded): the first copy that passes. -/
def leadRecord (frames : List Bytes) : Option Bytes :=
  ((List.zip (List.range 64) frames).find? (fun f => leadOk f.1 f.2)).map (fun f => f.2.take 4096)

/-- R77: eight spirals' channel bits as data blocks, 8 bits of each spiral in each block. -/
def slotBlocks (cols : List (List Bool)) : List Nat :=
  (List.range 5018).map (fun j => ((List.range 8).map (fun k => ((List.range 8).map (fun i =>
    if (cols.getD k []).getD (8 * j + i) false then 2 ^ (8 * k + i) else 0)).sum)).sum)

/-- R54: slot and spiral of data frame d. -/
def homeSlot (d : Nat) : Nat × Nat := (d / 8, (d + 3 * (d / 8)) % 8)

/-- The data index whose home is slot t of spiral s (t below 64). -/
def homeIndex (t s : Nat) : Nat := 8 * t + (s + 5 * t) % 8

/-- R54: slot and spiral of outer-parity frame j. -/
def paritySlot (j : Nat) : Nat × Nat := (64 + j / 8, j % 8)

/-! ## The outer code (R56, R57) -/

/-- Multiplication by α in GF(2^16) modulo x^16 + x^12 + x^3 + x + 1. -/
def gfX (a : BitVec 16) : BitVec 16 := (a <<< 1) ^^^ (if a.getLsbD 15 then 0x100B#16 else 0#16)

def gfMul (a b : BitVec 16) : BitVec 16 :=
  ((List.range 16).foldl (fun (p : BitVec 16 × BitVec 16) i =>
    (if b.getLsbD i then p.1 ^^^ p.2 else p.1, gfX p.2)) (0#16, a)).1

def gfPow (a : BitVec 16) : Nat → BitVec 16
  | 0 => 1#16
  | k + 1 => gfMul a (gfPow a k)

/-- g(x): coefficients from x^31 down, the leading 1 left out. -/
def rsGen : List (BitVec 16) :=
  ((List.range 32).foldl (fun (g : List (BitVec 16)) i =>
    List.zipWith (· ^^^ ·) (g ++ [0]) (0 :: g.map (gfMul (gfPow 2#16 i)))) [1#16]).drop 1

/-- The remainder of the message polynomial (highest coefficient first) times x^32 by g. -/
def rsParity (msg : List (BitVec 16)) : List (BitVec 16) :=
  msg.foldl (fun (r : List (BitVec 16)) m =>
    let f := r.headD 0 ^^^ m
    List.zipWith (· ^^^ ·) (r.drop 1 ++ [0]) (rsGen.map (gfMul f))) (List.replicate 32 0#16)

/-- Symbol p of a frame's information bytes. -/
def symbol (info : Bytes) (p : Nat) : BitVec 16 := (info.getD (2 * p + 1) 0) ++ (info.getD (2 * p) 0)

/-- The 32 parity frames of a band: an unwritten or skipped data index counts as zeros (R57, R215). -/
def parityFrames (frames : List (Option Bytes)) : List Bytes :=
  let cols := (List.range 2080).map (fun p => rsParity ((List.range 512).map (fun d => match frames.getD d none with
    | some f => symbol f p
    | none => 0#16)))
  (List.range 32).map (fun k => cols.flatMap (fun (c : List (BitVec 16)) =>
    [(c.getD k 0#16).setWidth 8, (c.getD k 0#16 >>> 8).setWidth 8]))

/-! ## Seal, binding and identity records -/

/-- One relocation entry (Table 2.9). -/
structure Reloc where
  slot : Nat
  spiral : Nat
  spareSlot : Nat
  spareSpiral : Nat
  cause : Nat
  deriving DecidableEq, Repr

/-- Table 2.9, written. -/
def relocBytes (r : Reloc) : Bytes := leBytes 1 r.slot ++ leBytes 1 r.spiral ++ leBytes 1 r.spareSlot ++ leBytes 1 r.spareSpiral
  ++ leBytes 1 r.cause ++ zeros 3

/-- Table 2.9, read: cause 2 is read as 0. -/
def readReloc (b : Bytes) : Reloc :=
  let c := leNat (slice b 4 1)
  ⟨leNat (slice b 0 1), leNat (slice b 1 1), leNat (slice b 2 1), leNat (slice b 3 1), if c = 2 then 0 else c⟩

/-- The content of a seal record (Table 2.7) but for its signature. -/
structure SealRec where
  n : Nat
  vault : Nat
  key : Nat
  discId : Nat
  seq : Nat
  loc : Nat
  flags : Nat
  time : Nat
  digest : Bytes
  prev : Bytes
  /-- (VBA, VERSION) of data indices 0 to n - 1 (Table 2.8) -/
  entries : List (Nat × Nat)
  relocs : List Reloc
  deriving DecidableEq, Repr

def fit (k : Nat) (b : Bytes) : Bytes := b.take k ++ zeros (k - b.length)

/-- Record bytes 0 to 16,575. -/
def sealBody (r : SealRec) : Bytes :=
  [0x42#8, 0x52#8, 0x53#8, 0x4C#8] ++ leBytes 2 1 ++ leBytes 2 r.n ++ leBytes 4 r.vault ++ leBytes 4 r.key ++ leBytes 16 r.discId
  ++ leBytes 8 r.seq ++ leBytes 1 (locLayer r.loc) ++ leBytes 1 (locZone r.loc) ++ leBytes 2 (locBpos r.loc)
  ++ leBytes 2 r.relocs.length ++ leBytes 2 r.flags ++ leBytes 8 r.time ++ zeros 8 ++ fit 64 r.digest ++ fit 64 r.prev ++ zeros 64
  ++ fit 8192 ((List.zip (List.range 512) r.entries).flatMap (fun e => leBytes 8 e.2.1 ++ leBytes 4 e.2.2 ++ leBytes 2 e.1 ++ zeros 2))
  ++ fit 256 (r.relocs.flatMap relocBytes) ++ zeros 7872

/-- Table 2.7: the whole record, signed (R61, R356). -/
def sealRecord (seed : Bytes) (r : SealRec) : Bytes := sealBody r ++ edSign seed (sealBody r)

/-- What a record read back says. -/
def readSeal (b : Bytes) : SealRec :=
  let n := leNat (slice b 6 2)
  ⟨n, leNat (slice b 8 4), leNat (slice b 12 4), leNat (slice b 16 16), leNat (slice b 32 8),
   packLoc (leNat (slice b 40 1)) (leNat (slice b 41 1)) (leNat (slice b 42 2)), leNat (slice b 46 2), leNat (slice b 48 8),
   slice b 64 64, slice b 128 64,
   (List.range n).map (fun e => (leNat (slice b (256 + 16 * e) 8), leNat (slice b (264 + 16 * e) 4))),
   (List.range (leNat (slice b 44 2))).map (fun i => readReloc (slice b (8448 + 8 * i) 8))⟩

/-- R62, R353: a record carries a valid signature under `pub`, and key index 0. -/
def sealValid (pub b : Bytes) : Bool :=
  decide (b.length = 16640 ∧ leNat (slice b 12 4) = 0)
  && edVerify pub (b.take 16576) (b.drop 16576)

/-- R62: the record from its parts: part q is the frame of spiral q, or else that of spiral q + 4. -/
def builtSeal (at' : Nat → Option Bytes) : Option Bytes :=
  let part (q : Nat) : Option Bytes := match at' q with
    | some b => some b
    | none => at' (q + 4)
  match part 0, part 1, part 2, part 3 with
  | some a, some b, some c, some d => some (a ++ b ++ c ++ d)
  | _, _, _, _ => none

/-- R61: the band digest over the recorded user bytes. -/
def bandDigest (users : List Bytes) : Bytes := sha512 users.flatten

/-- Table 2.11: the vault binding record, signed. -/
def bindingRecord (seed pub : Bytes) (vault idx discId time seq : Nat) : Bytes :=
  let b := [0x42#8, 0x52#8, 0x42#8, 0x44#8] ++ leBytes 2 1 ++ zeros 2 ++ leBytes 4 vault ++ leBytes 4 idx ++ leBytes 16 discId
    ++ leBytes 8 time ++ fit 32 pub ++ leBytes 8 seq ++ zeros 16
  b ++ edSign seed b

/-- R66: is a binding record's signature valid under the key it carries? -/
def bindingValid (b : Bytes) : Bool :=
  decide (b.length = 160) && edVerify (slice b 40 32) (b.take 96) (b.drop 96)

/-- R66, Table 2.10: is an identity record one that the controller can use? -/
def identityOk (b : Bytes) : Bool :=
  decide (b.take 4 = [0x42#8, 0x52#8, 0x49#8, 0x44#8] ∧ leNat (slice b 4 2) = 1 ∧ leNat (slice b 6 1) = 16 ∧ leNat (slice b 7 1) = 48)

/-- Table 13.2: the vault record, signed by the seal key. -/
def vaultRecord (sealSeed sealPub wrapData wrapSeal kcvB : Bytes) (id pfx nblk time : Nat) : Bytes :=
  let b := [0x42#8, 0x52#8, 0x56#8, 0x52#8] ++ leBytes 2 1 ++ zeros 2 ++ leBytes 4 id ++ leBytes 4 pfx ++ leBytes 8 nblk
    ++ leBytes 8 time ++ fit 8 kcvB ++ fit 40 wrapData ++ fit 40 wrapSeal ++ fit 32 sealPub ++ zeros 40
  b ++ edSign sealSeed b

/-! ## Checkpoints (R338) -/

/-- One band of a checkpoint stream. -/
structure CkBand where
  seq : Nat
  loc : Nat
  n : Nat
  flags : Nat
  relocs : List Bytes
  entries : List (Nat × Nat × Nat)
  deriving DecidableEq, Repr

/-- Table 12.3; entries are (VBA, VERSION, data index). -/
def ckDescriptor (b : CkBand) : Bytes :=
  let es := b.entries.filter (fun e => e.2.1 != 0)
  leBytes 8 b.seq ++ leBytes 4 b.loc ++ leBytes 2 b.n ++ leBytes 2 b.relocs.length ++ leBytes 2 es.length ++ leBytes 2 b.flags ++ zeros 4
  ++ b.relocs.flatten ++ es.flatMap (fun e => leBytes 8 e.1 ++ leBytes 4 e.2.1 ++ leBytes 2 e.2.2 ++ zeros 2)

/-- R338, Table 12.2: the checkpoint's byte stream, zero-padded to whole blocks. DEDUCED: log entry 63. -/
def ckStream (idx count no vault prevLoc prevBands : Nat) (frontier : List Nat) (bands : List CkBand) (dropped : List (Nat × Nat)) : Bytes :=
  let body := bands.flatMap ckDescriptor ++ dropped.flatMap (fun d => leBytes 8 d.1 ++ leBytes 4 d.2 ++ zeros 4)
  let head := [0x42#8, 0x52#8, 0x43#8, 0x4B#8] ++ leBytes 2 1 ++ leBytes 1 idx ++ leBytes 1 count ++ leBytes 4 no ++ leBytes 4 vault
    ++ leBytes 8 (128 + body.length) ++ leBytes 4 bands.length ++ leBytes 4 dropped.length ++ leBytes 4 prevLoc ++ leBytes 4 prevBands
    ++ zeros 8 ++ fit 64 (frontier.flatMap (leBytes 4)) ++ zeros 16
  let b := head ++ body
  b ++ zeros ((4096 - b.length % 4096) % 4096)

/-- Table 12.2 as read. -/
structure CkHead where
  idx : Nat
  count : Nat
  no : Nat
  vault : Nat
  length : Nat
  descs : Nat
  drops : Nat
  prevLoc : Nat
  prevBands : Nat
  frontier : List Nat
  deriving DecidableEq, Repr

def readCkHead (b : Bytes) : CkHead :=
  ⟨leNat (slice b 6 1), leNat (slice b 7 1), leNat (slice b 8 4), leNat (slice b 12 4), leNat (slice b 16 8), leNat (slice b 24 4),
   leNat (slice b 28 4), leNat (slice b 32 4), leNat (slice b 36 4), (List.range 16).map (fun y => leNat (slice b (48 + 4 * y) 4))⟩

/-- Table 12.2: magic and format version. -/
def ckMagic (b : Bytes) : Bool := b.take 4 == [0x42#8, 0x52#8, 0x43#8, 0x4B#8] && leNat (slice b 4 2) == 1

/-- Table 12.3 as read: a number of descriptors, and the bytes behind them. -/
def readCkBands : Nat → Bytes → List CkBand × Bytes
  | 0, b => ([], b)
  | k + 1, b =>
    let r := leNat (slice b 14 2)
    let m := leNat (slice b 16 2)
    let es := (chunks 16 (slice b (24 + 8 * r) (16 * m))).map (fun e => (leNat (slice e 0 8), leNat (slice e 8 4), leNat (slice e 12 2)))
    let l := readCkBands k (b.drop (24 + 8 * r + 16 * m))
    (⟨leNat (slice b 0 8), leNat (slice b 8 4), leNat (slice b 12 2), leNat (slice b 18 2), chunks 8 (slice b 24 (8 * r)), es⟩ :: l.1, l.2)

/-- R338: a checkpoint stream as read: header, descriptors and dropped list. -/
def readCheckpoint (b : Bytes) : CkHead × List CkBand × List (Nat × Nat) :=
  let h := readCkHead b
  let l := readCkBands h.descs (b.drop 128)
  (h, l.1, (chunks 16 (l.2.take (16 * h.drops))).map (fun e => (leNat (slice e 0 8), leNat (slice e 8 4))))

/-- R338: bands that a checkpoint of `blocks` blocks takes. -/
def ckBandCount (blocks : Nat) : Nat := (blocks + 511) / 512

end Sys2Proof.Machine
end

