-- ==== Sys2Proof/Machine/WriteTypes.lean ====
section
/-!
DEFINITION. The data of writing: parisons (R194), a band being written (R195 to R213) and its hold (R214 to R218).
-/

namespace Sys2Proof.Machine

/-- A block at the gather stage or in a parison (R194, R206). -/
structure PBlock where
  /-- the WRITE it belongs to -/
  cmd : Nat
  vba : Nat
  ver : Nat
  /-- the recorded user bytes (ciphertext, R349) and the tag -/
  ct : Bytes
  tag : Bytes
  /-- when it first arrived at the gather stage (R206, R317) -/
  arrived : Nat
  /-- bands it has failed in (R213) -/
  failed : Nat
  /-- it has been unplaced (R206) -/
  again : Bool
  /-- the parison it was last unplaced from, and its data index there (R206) -/
  home : Nat × Nat
  deriving DecidableEq, Repr

/-- A parison (R194). A checkpoint's bands are parisons whose blocks belong to no command. -/
structure Parison where
  id : Nat
  vault : Nat
  blocks : List PBlock
  /-- R317: it is to be written -/
  due : Bool
  /-- the disc index it has been placed on (R487), with its BAND_WRITE queued -/
  disc : Option Nat
  /-- the checkpoint it belongs to (R337): number, and whether it is the last band -/
  ckpt : Option (Nat × Bool)
  deriving DecidableEq, Repr

/-- A write hold (R214 to R217). -/
structure Hold where
  /-- causes in force (Table 7.5) -/
  causes : List Nat
  since : Nat
  /-- once the hold point h is fixed (R218): h + 1, the first slot not written completely -/
  cut : Option Nat
  /-- every precondition holds again, which ends the hold (R214): writing waits for its passage -/
  recovered : Bool
  /-- R215: the adjustments are complete -/
  adjusted : Bool
  /-- R216: it has lasted 500 ms, or is a second hold -/
  long : Bool
  /-- R215: the octo-turns that the head has been stepped back -/
  back : Nat
  deriving DecidableEq, Repr

/-- A spare assignment (R205): the copy of the frame homed at (slot, spiral) lies in spare slot 68 or 69 of that spiral. -/
structure Spare where
  d : Nat
  slot : Nat
  spiral : Nat
  spare : Nat
  withdrawn : Bool
  deriving DecidableEq, Repr

/-- A band being written, or waiting before slot 0 (R202). -/
structure BandWrite where
  par : Parison
  loc : Nat
  disc : Nat
  /-- the vault's seal key, kept until the band is sealed or void (R210, R345), and the disc ID -/
  seed : Bytes
  discId : Nat
  /-- R333: taken when the first slot is written -/
  seq : Option Nat
  /-- the band's data frames: indices 0 to n - 1 -/
  n : Nat
  /-- the next slot to start, 0 to 71 -/
  slot : Nat
  /-- R202: waiting since this time; none once begun -/
  waitSince : Option Nat
  hold : Option Hold
  /-- holds so far (R216), and whether the hold is over but the resumed slot has not passed -/
  holds : Nat
  /-- relocation entries of cause 1 stand for these slots (R215) -/
  cause1 : List Nat
  /-- slots skipped in holds (R215) -/
  skipped : List Nat
  early : Bool
  spares : List Spare
  /-- data indices verified, and data indices whose frame or copy failed for good -/
  verified : List Nat
  lost : List Nat
  /-- frames whose verification result is still to come: (slot, spiral) -/
  awaited : List (Nat × Nat)
  /-- what those frames were written with: their information bytes (R203) -/
  wrote : List ((Nat × Nat) × Bytes)
  /-- seal parts that passed (R211) -/
  sealOk : List Nat
  /-- refused outer-parity frames being rebuilt, and those refused for good (R209) -/
  rebuilding : List Nat
  noParity : List Nat
  /-- the latest freeze: its time, the record and whether it is signed (R210) -/
  frozen : Option (Nat × SealRec)
  /-- when that record was signed -/
  signed : Option Nat
  /-- R219: sum of the verified frames' offsets in 1/64 channel bit, and their number -/
  offSum : Int
  offCnt : Nat
  /-- R182, R206: data indices unplaced from the band's ledger (entry 0) by a hold -/
  holes : List Nat
  /-- R31, R200: the strategy table that its plan slot names; 0: WR_STAB's -/
  stab : Nat := 0
  /-- R195: the frames of the slots below this one have been read into the slot buffer -/
  readTo : Nat := 0
  /-- R211: seal parts refused -/
  sealRefused : List Nat := []
  /-- R195: the seal of the latest freeze is committed to slot 70 -/
  sealReady : Bool := false
  /-- R203: the channel-clock counts at which the first bits of the slots written were meant to land -/
  starts : List (Nat × Nat) := []
  deriving DecidableEq, Repr

end Sys2Proof.Machine
end

