-- ==== Sys2Proof/Machine/HostState.lean ====
section
/-!
DEFINITION. The parts of the state that belong to the whole block and not to one station. Each field's docstring gives its
width, the rule that names it, its reset value and its meaning; what a register shows is held in the registers only.
-/

namespace Sys2Proof.Machine

/-- The balls outside the links (R416, R459, R427, R475). -/
structure Pins where
  /-- [1; R416, R417; reset 1] PWR_GOOD is high -/
  pwrGood : Bool := true
  /-- [1; R459; reset 0] FAULT# is driven low -/
  faultLow : Bool := false
  /-- [1; R257, R427; reset 0] WAKE# is asserted -/
  wakeLow : Bool := false
  /-- [1; R250; reset 0] PERST# is asserted -/
  perst : Bool := false
  /-- [1; R417; reset 0] RESET# is asserted -/
  rst : Bool := false
  /-- [3; R427; reset DESIGN CHOICE 0, log entry 8] the levels of LFT_A2 to LFT_A0 -/
  straps : Nat := 0
  deriving DecidableEq, Repr

/-- AON state and the supply (R412 to R416, R354, R355). -/
structure Aon where
  /-- [1; R412; reset 1] AON has power -/
  powered : Bool := true
  /-- [mV; R148, R413; reset DESIGN CHOICE 24000, log entry 8] VIN as last compared -/
  vin : Nat := 24000
  /-- [63; R354, R355; reset 0] microseconds of the clock -/
  clock : Nat := 0
  /-- [1; R462; reset 0] a start waits for sensor 7 -/
  lockout : Bool := false
  /-- [1; R462; reset 0] E008 is to be raised at the next start -/
  tsdDue : Bool := false
  /-- [Nat; R478; reset 0] lift-bus matches whose E012 record waits for the start -/
  e012Due : Nat := 0
  /-- [1; R478; reset 0] the first of them made the bit rise: its message waits for the start -/
  e012Msg : Bool := false
  deriving DecidableEq, Repr

/-- The power manager (R418 to R431); domain states are PM_DSTAT's. -/
structure Power where
  /-- [queue; R422; reset none] the entry in progress -/
  entry : Option PmEntry := none
  /-- [list; R422; reset empty] DOMAIN_SETs whose step 1 waits, by command -/
  queue : List Nat := []
  /-- [list; R424; reset empty] waking domains, with whether each wakes from OFF -/
  waking : List (Nat × Bool) := []
  /-- [list; R13, R424; reset empty] accesses stalled on a domain, oldest first -/
  stalled : List Access := []
  /-- [list; R421; reset empty] domains that have stopped for the entry -/
  stopped : List Nat := []
  /-- [1; R154; reset 0] electrical self-protection is in force -/
  protect : Bool := false
  /-- [1; R421, R248; reset 0] ASPM L1 is enabled on the link -/
  aspm : Bool := false
  /-- [1; R421, R248; reset 0] the L1.2 substate is enabled on the link -/
  l12 : Bool := false
  deriving DecidableEq, Repr

/-- What the DOE mailbox holds (R263). -/
inductive Doe where
  | idle
  /-- a request is in progress -/
  | busy
  /-- a response has not been read -/
  | ready (resp : SpdmResp)
  deriving DecidableEq, Repr

/-- PCI Express state of the whole device (ch. 9). -/
structure Pcie where
  /-- [1; R253; reset 0] VF Enable -/
  vfEnable : Bool := false
  /-- [Nat; R253; reset 0] NumVFs -/
  numVfs : Nat := 0
  /-- [1; R261; reset 0] PASID Enable of the PF -/
  pasidEn : Bool := false
  /-- [1; R249; reset 0] the data link layer is up -/
  linkUp : Bool := false
  /-- [times; R251; reset empty] entries to Recovery within the last second -/
  recov : List Nat := []
  /-- [1; R251; reset 0] the event of the present burst has been raised -/
  recovRaised : Bool := false
  /-- [1; R251; reset 0] software has written the target rate of Link Control 2 -/
  rateSet : Bool := false
  /-- [1; R265; reset 0] the IDE stream is Secure -/
  ideSecure : Bool := false
  /-- [12 keys; R265; reset empty] the keys of the IDE stream: key 6 × set + 2 × sub-stream + direction (0 PR, 1 NPR, 2 CPL) -/
  ideKeys : SMap Bytes := []
  /-- [1; R265; reset 0] the key set in use -/
  ideKeySet : Bool := false
  /-- [list; R453, R425, R265; reset empty] messages held back: (function, vector) -/
  heldMsgs : List (Nat × Nat) := []
  /-- [4,096 entries; R260; reset empty] translations held: (function, PASID, page) -/
  atc : List (Nat × Option Nat × Nat) := []
  /-- [list; R260; reset empty] invalidations that wait for reads: (function, PASID, page) and the reads in flight into it -/
  invals : List ((Nat × Option Nat × Nat) × List HostRead) := []
  /-- [list; R262; reset empty] commands whose page requests wait for capacity, in order of arrival -/
  prQueue : List Nat := []
  /-- [list; R297; reset empty] page requests outstanding whose commands have ended: (command, function) -/
  prLost : List (Nat × Nat) := []
  /-- [Doe; R263; reset idle] the DOE mailbox -/
  doe : Doe := .idle
  /-- [at most 2; R264, R364; reset empty] secure sessions: the session and how often its keys have been updated -/
  sessions : List (Nat × Nat) := []
  /-- [1; R477; reset 0] the part is ready for link training -/
  trainReady : Bool := false
  deriving DecidableEq, Repr

/-- Rings (ch. 10), keyed 256 × function + ring number. -/
structure Rings where
  /-- [1,024 contexts; R270; reset none] submission rings -/
  sqs : SMap Sq := []
  /-- [1,024 contexts; R270; reset none] completion rings -/
  cqs : SMap Cq := []
  /-- [16 each; R273; reset 0] epochs of SQ numbers and of CQ numbers -/
  sqEpoch : SMap Nat := []
  cqEpoch : SMap Nat := []
  /-- [Nat; R300; reset 0] the round of polls in flight or last made -/
  round : Nat := 0
  /-- [list; R275; reset empty] DELETE_SQs in progress: (function, ring) -/
  deleting : List (Nat × Nat) := []
  deriving DecidableEq, Repr

/-- Samples that wait in the capture ring (R24): the capture, where they lie in the ring, how many bytes, their places at the host, and the
index entry (R191) that follows them. -/
structure RingEntry where
  /-- the capture command the samples belong to -/
  cmd : Nat
  /-- where they lie in the ring -/
  at' : Nat
  /-- how many bytes -/
  len : Nat
  /-- their places at the host: address and length -/
  segs : List (Nat × Nat)
  /-- where the index entry goes (R191) -/
  idxAt : Nat
  /-- the index entry's bytes (R191) -/
  idx : Bytes
  deriving DecidableEq, Repr

/-- Commands and tasks (ch. 11). -/
structure Work where
  /-- [list; R24; reset empty] what waits in the capture ring, oldest first -/
  ring : List RingEntry := []
  /-- [34; R24; reset 0] the place in the capture ring at which the next bytes are put -/
  ringAt : Nat := 0
  /-- [Nat; R300; reset 0] the next place in the admission order -/
  nextId : Nat := 0
  /-- [list; R300; reset empty] outstanding commands in admission order -/
  cmds : List Cmd := []
  /-- [Nat; reset 0] the next task number -/
  nextTask : Nat := 0
  /-- [list; R319; reset empty] tasks waiting for stations -/
  tasks : List Task := []
  /-- [one a station; R229; reset none] the task each gaffer holds -/
  inHand : SMap Task := []
  /-- [one a station; R234; reset none] the task each gaffer has suspended -/
  suspended : SMap Task := []
  /-- [Nat a station; R319; reset 0] STANDARD tasks served since the last BULK task -/
  stdRun : SMap Nat := []
  /-- [map; R313; reset empty] (function, SQ, vault, VBA) to (admission number, version) of the ended WRITEs of that SQ that
  recorded the block and may still be a READ's source -/
  written : List ((Nat × Nat × Nat × Nat) × Nat × Nat) := []
  /-- [list; R320; reset empty] handles given up, to be freed at the end of the step -/
  toFree : List Nat := []
  /-- [1; R242; reset 0] dispatch is held for a microcode activation -/
  hold : Bool := false
  /-- [Nat; R242; reset none] the FW_ACTIVATE of microcode that runs -/
  activation : Option Nat := none
  deriving DecidableEq, Repr

/-- Security (ch. 13): OTP, SPI flash and engine state that no register shows. -/
structure Sec where
  /-- [324 bytes; R474, Table 18.8; reset DESIGN CHOICE empty, log entry 8] the board record in SPI flash, written by the board maker; the
  controller never writes it -/
  board : Bytes := []
  /-- [256; Table 13.1; reset DESIGN CHOICE none (BLANK), log entry 8] the OTP seed -/
  seed : Option Bytes := none
  /-- [8; R347; reset 0] KEK generation -/
  kekGen : Nat := 0
  /-- [512 each; R372, R365; reset none] digests in OTP: maker authority, firmware, owner -/
  makerDig : Option Bytes := none
  fwDig : Option Bytes := none
  ownerDig : Option Bytes := none
  /-- [64; R362; reset 0] Device Serial Number in OTP -/
  serial : Nat := 0
  /-- [40 bytes; R366; reset none] owner KEK in flash, wrapped under the device KEK -/
  okek : Option Bytes := none
  /-- [1,024 entries; R328; reset empty] vault directory in flash: (VAULT_ID, function) -/
  dir : List (Nat × Nat) := []
  /-- [4,096 bytes; R362; reset empty] certificate chain in flash -/
  cert : Bytes := []
  /-- [2 × 2 slots; R368, R473; reset empty] images in flash that passed, keyed 2 × target + slot -/
  images : SMap Bytes := []
  /-- [3; R372, Table 13.13; reset DESIGN CHOICE 0 (BLANK), log entry 8] the life-cycle state in OTP -/
  lc : Nat := 0
  /-- [7 each; R369, Table 13.13; reset 0] the FW_SVN counts in OTP: firmware, microcode -/
  svn : List Nat := [0, 0]
  /-- [1 each; R368, Table 13.13; reset 0] the flash slots in force: firmware, microcode -/
  slot : List Nat := [0, 0]
  /-- [1 each; R368, R369; reset 0] the slot not in force holds a staged image that passed -/
  staged : List Bool := [false, false]
  /-- [bytes; R363, R370; reset empty] the bench firmware image in force, as loaded; empty in the boot ROM -/
  running : Bytes := []
  /-- [33; R379; reset none] the high half of the clock that a read of CLK_NOW_LO has latched for the next read of CLK_NOW_HI -/
  clkHi : Option Nat := none
  /-- [1; R346; reset 1] the entropy source passes its health test -/
  entropyOk : Bool := true
  /-- [1; R318; reset 1] the bench core is running -/
  benchUp : Bool := true
  /-- [1; R374; reset 0] JTAG has halted the bench core -/
  benchHalt : Bool := false
  deriving DecidableEq, Repr

/-- The micro-store and the nano-store (R223), a pair for banks A and B: a listed word holds its parity bits above its bits.
DESIGN CHOICE: log entry 9. -/
structure Stores where
  /-- [16,384 x 27 a bank; R223; unlisted: 0, which fails its parity (DESIGN CHOICE, log entry 9)] microwords: bits 23:0 and parity 26:24 -/
  microA : SMap Nat := []
  microB : SMap Nat := []
  /-- [4,096 x 136 a bank; R223; unlisted: 0, which fails its parity (DESIGN CHOICE, log entry 9)] nanowords: bits 127:0, parity 135:128 -/
  nanoA : SMap Nat := []
  nanoB : SMap Nat := []
  /-- [1 each; R241, R370; reset 0] the bank holds an image that passed -/
  okA : Bool := false
  okB : Bool := false
  /-- [bytes; R368, Table 13.6; reset empty] the images in the banks -/
  imgA : Bytes := []
  imgB : Bytes := []
  deriving DecidableEq, Repr

/-- The ledger (ch. 12) and the gather stage (ch. 7). -/
structure Ledger where
  /-- [list; R194, R317; reset empty] parisons not yet with a station, oldest first -/
  parisons : List Parison := []
  /-- [Nat; reset 0] the next parison number -/
  nextPar : Nat := 0
  /-- [256 vaults; R327; reset none] mounted vaults -/
  vaults : List Vault := []
  /-- [list; R344; reset empty] vaults whose mount runs -/
  mounting : List Nat := []
  /-- [list; R345; reset empty] vaults whose map is released while a band of theirs is still written: their seals' last digests -/
  released : List Vault := []
  deriving DecidableEq, Repr

/-- Events, wear and machine checks (ch. 17). DEDUCED: log entry 134. -/
structure Evt where
  /-- [1,024 records; R455; reset empty] the event log, oldest first -/
  log : List EvtRec := []
  /-- [Nat; Table 11.5; reset 0] records lost since the last LOG_READ of it -/
  lost : Nat := 0
  /-- [1; Table 16.8, R459; reset 0] BIST marked the CORE SRAMs unusable -/
  coreSramBad : Bool := false
  /-- [1; R461; reset 0] the thermal warning stands -/
  thermal : Bool := false
  /-- [count; R461; reset 0] sensor reads since the last that found a sensor less than 5 °C below the warning level -/
  cool : Nat := 0
  /-- [sum, count; R463; reset empty] what the hour's sources have given for an indicator -/
  wearSum : SMap (Nat × Nat) := []
  /-- [Nat; R463; reset 0] wear samplings so far: the hour of the next sample -/
  hour : Nat := 0
  /-- [720 a indicator; R464; reset empty] wear samples, oldest first, with their hour -/
  wear : SMap (List (Nat × Nat)) := []
  /-- [same; R464; reset empty] the samples last written to flash -/
  wearFlash : SMap (List (Nat × Nat)) := []
  /-- [set; R465; reset empty] indicators whose P10 is below the threshold -/
  warned : List Nat := []
  deriving DecidableEq, Repr

/-- Calibration of the controller and the BIST record (ch. 16). -/
structure Cal where
  /-- [user deltas; R436; reset none] (point x 65,536 + quantity) to delta, as SPI flash holds them -/
  deltas : SMap Int := []
  /-- [controller trims; R439; reset 0, the factory values being read-only in OTP] words in force -/
  trims : SMap Int := []
  /-- [id, step; R441; reset none] a device-wide step whose measurement runs -/
  running : Option (Nat × Nat) := none
  /-- [16-byte entries; R449; reset empty] the BIST record in SPI flash, and its time stamp -/
  bist : List BistEnt := []
  bistTime : Nat := 0
  /-- [16, 4, 25; R448, Table 16.9; reset 0] the unusable marks of the record -/
  badStn : List Nat := []
  badCc : List Nat := []
  badOther : List Nat := []
  /-- [disc identity, layer; R65, R220; reset empty] calibration band positions written, by disc and layer -/
  used : SMap Nat := []
  deriving DecidableEq, Repr

/-- One handshake channel. -/
structure Chan where
  /-- [8 words; R17; reset empty] words not yet acknowledged, oldest first -/
  buf : List ChWord := []
  /-- [Nat; R18; reset 0] failed checks of the oldest word -/
  fails : Nat := 0
  /-- [1; R17; reset 0] a replay of the buffer's words is asked for -/
  replay : Bool := false
  /-- [Nat; R18; reset 0] replays and machine checks counted -/
  replays : Nat := 0
  checks : Nat := 0
  deriving DecidableEq, Repr

/-- Buffer memory: (address, byte) pairs, addresses strictly rising, none 0; an unlisted byte reads as 0. -/
abbrev Memory := SMap Byte

/-- The canonical form of a memory. -/
def Memory.wf (m : Memory) : Bool := SMap.sorted m && m.all (fun e => e.2 != 0#8)

/-- One buffer pool (R399, R400). -/
structure Pool where
  /-- [Nat; R399; reset 0] buffers never yet taken are this index and those above it -/
  next : Nat := 0
  /-- [list; R399; reset empty] the tail of the cullet list: buffers freed, oldest first -/
  freed : List Nat := []
  /-- [8 a buffer; R400; reset 0] generations -/
  gens : SMap Nat := []
  /-- [set and ID a buffer; R401; reset none] holder set and final owner of each buffer in use -/
  holders : SMap (List Nat × Nat) := []
  deriving DecidableEq, Repr

/-- One line of the control cache (R404, R407). -/
structure CLine where
  /-- line address (byte address / 64) -/
  line : Nat
  data : Bytes
  dirty : Bool
  owner : Nat
  poison : Bool
  deriving DecidableEq, Repr

/-- A request of a port to buffer memory (R386 to R388): what it reads, or the bytes it writes, the lines whose bits have failed, and the
lines that the channels have still to access. -/
structure MemReq where
  port : Nat
  a : Nat
  len : Nat
  data : Option Bytes
  wrong : List (Nat × List LineBit)
  /-- it has waited URG_AGE µs (R388) -/
  urgent : Bool
  /-- R394: the bytes written were computed from poisoned data -/
  mark : Bool
  /-- lines not accessed yet, by address -/
  left : List Nat
  deriving DecidableEq, Repr

/-- Buffer memory, pools and the control cache (ch. 14). -/
structure Mem where
  /-- [15 GiB; R380; reset DESIGN CHOICE all 0, log entry 7] contents by logical address -/
  data : Memory := []
  /-- [set of lines; R392; reset empty] lines whose poison bit is set -/
  poison : List Nat := []
  /-- [32 a line; R385, R392; reset as for a line of zeros] check words, keyed by their place: bank, row, line and word; one not listed is that
  of a line of zeros without the mark -/
  check : SMap Nat := []
  /-- [13, 13, 13, 23 x 4; R381; reset 96, 384, 2048 and R399] the layout in force: MEM_LAY 0 to 2, POOL_CNT 0 to 3 -/
  layout : List Nat := [96, 384, 2048, 65536, 258048, 16384, 4096]
  /-- [34 x 6; R384; reset Table 14.2] selector masks in force -/
  xor : List Nat := [0x10820040, 0x21040080, 0x42080100, 0x84100200, 0x108200400, 0x210400800]
  /-- [64 banks; R386; reset all closed] open rows, keyed by bank: the row, and whether it closes by itself -/
  rows : SMap (Nat × Bool) := []
  /-- [list; R387; reset empty] requests that wait for their channel, oldest first -/
  waiting : List MemReq := []
  /-- [15; R388; reset DEDUCED 0, nothing waits, log entry 121] bytes that wait in RT0's FIFO -/
  rt0 : Nat := 0
  /-- [17; R388; reset DEDUCED 65,536, all of it free, log entry 121] bytes free in RT1's FIFO -/
  rt1 : Nat := 65536
  /-- [1; R390; reset 0] a training round that TRAIN has started runs -/
  round : Bool := false
  /-- [µs; R390; reset 0] when the last round, or the training at start, ended -/
  trainedAt : Nat := 0
  /-- [4 settings; R390; reset none] training settings in force and those saved in flash, a channel each -/
  settings : List (Option Nat) := [none, none, none, none]
  saved : List (Option Nat) := [none, none, none, none]
  /-- [28; R397; reset 0] the next line the lehr reads -/
  lehr : Nat := 0
  /-- [µs; R398; reset 0] the time of the lap in progress, with MEM ON -/
  lapTime : Nat := 0
  /-- [1; R398; reset 0] the lap in progress has raised its overrun event -/
  lapRaised : Bool := false
  /-- [4 pools; R399; reset all free] -/
  pools : List Pool := [{}, {}, {}, {}]
  /-- [5; R403; reset 0] the rotating grant pointer -/
  grant : Nat := 0
  /-- [2,048 x 16 lines; R404; reset empty] the control cache, keyed 16 x set + way -/
  cache : SMap CLine := []
  /-- [16; R405; reset 0xACE1] the victim LFSR -/
  lfsr : Nat := 0xACE1
  /-- [15; R406; reset 0] locks waiting for a PRELOAD to end -/
  lockDue : Nat := 0
  deriving DecidableEq, Repr

end Sys2Proof.Machine
end

