-- ==== Sys2Proof/Machine/Station.lean ====
section
/-!
DEFINITION. The hidden state of one station (chs. 3 to 8 and 16); what its registers show is held in the registers. Loop
quantities are integers in the formats of Table 4.4: Q1.23 counts 2^-23, Q8.40 counts 2^-40.
-/

namespace Sys2Proof.Machine

/-- The station port (ch. 3). -/
structure Port where
  /-- [5; R85; reset 0] attempts made in the present training of SA0, SA1, CL, MO, MI -/
  attempts : List Nat := [0, 0, 0, 0, 0]
  /-- [5; R84; reset 0] the present training of each lane is full, not quick -/
  full : List Bool := [false, false, false, false, false]
  /-- [1; R84; reset 0] receiver settings are saved -/
  saved : Bool := false
  /-- [2; R74; reset 0] the lane map the CL HEADER requests -/
  mapWant : Nat := 0
  /-- [1; R86; reset 0] a RETRAIN waits for the end of the band being written -/
  retrainDue : Bool := false
  /-- [1; R77, R81; reset 0] the CL write-enable flag -/
  writeEnable : Bool := false
  /-- [16, 32; R70; reset 0] the epochs begun since SY started: the next one's number modulo 2^16, and its channel-clock count, 2,000 each,
  modulo 2^32 -/
  epochs : Nat := 0
  /-- [58; R71; reset DESIGN CHOICE 0, log entry 8] the last 58 scrambled bits sent on CL, oldest at bit 0 -/
  clScr : Nat := 0
  /-- [1; R79; reset DESIGN CHOICE 0 (negative), log entry 8] the running disparity of MO -/
  moRd : Bool := false
  /-- [1; R89; reset 0] SA0 and SA1 are in training for one cause -/
  pair : Bool := false
  /-- [2 x 16; R89; reset none] the epoch in which SA0, SA1 were lost -/
  lostIn : List (Option Nat) := [none, none]
  /-- [2 x 16; R72; reset 0xFFFF] CRC-16 of the data blocks received on SA0, SA1 in the epoch in progress -/
  saCrc : List (BitVec 16) := [0xFFFF#16, 0xFFFF#16]
  /-- [2 x 16; R72; reset 0xFFFF] the same over the blocks that have come since the epoch in progress began -/
  saNext : List (BitVec 16) := [0xFFFF#16, 0xFFFF#16]
  /-- [2 x 16; R72; reset 0] the epoch numbers of the last HEADERs -/
  saEpoch : List Nat := [0, 0]
  /-- [1; R72; reset 0] write enable applied, as the last HEADER reports it -/
  writeApplied : Bool := false
  /-- [2 x Nat; R86; reset 0] HEADER CRC failures in a row, and epochs in a row without a HEADER -/
  hdrBad : List Nat := [0, 0]
  hdrNone : List Nat := [0, 0]
  /-- [2; R86; reset 0] the blocks received on SA0, SA1, and which of the last 1,024 had an invalid sync header -/
  syncs : List (Nat × List Nat) := [(0, []), (0, [])]
  /-- [Nat each; R85; reset 0] epochs in a row that report CL well, MI frames in a row without a failed MO frame, and valid MI frames in
  a row -/
  clGood : Nat := 0
  moGood : Nat := 0
  miGood : Nat := 0
  /-- [16; R85, R91; reset none] the last epoch whose report of CL has been taken -/
  clSeen : Option Nat := none
  /-- [Nat each; R86; reset 0] MI frames in a row with a failed MO frame, and periods in a row without a valid MI frame -/
  moBad : Nat := 0
  miNone : Nat := 0
  /-- [1; R86; reset 0] a valid MI frame has come in this period -/
  miSeen : Bool := false
  /-- [8; R79; reset 0] the period number of the last valid MI frame -/
  miPeriod : Nat := 0
  /-- [Nat; R95; reset 0] epochs framed since training -/
  framed : Nat := 0
  /-- [1; R95; reset 0] the epoch in progress was framed on the servo lane after training -/
  inFrame : Bool := false
  /-- [16 x 8 x 12; R73; reset 0] the servo channels of the epoch's instants, and the last instant received (R75) -/
  instants : List (List Int) := List.replicate 16 (List.replicate 8 0)
  last : List Int := List.replicate 8 0
  /-- [8; R95; reset 0] sums of the servo channels over the 20-epoch group in progress -/
  slowSum : List Int := List.replicate 8 0
  /-- [8; R95; reset 0] the sums of the last whole group -/
  slowDone : List Int := List.replicate 8 0
  /-- [8 each; R78; reset 0] sequence fields of ACT_FAST and ACT_SLOW -/
  seqFast : Nat := 0
  seqSlow : Nat := 0
  /-- [queue; R76, R77, R200; reset empty] blocks waiting for CL: a data block or not, and its 64 payload bits -/
  clQueue : List (Bool × Nat) := []
  /-- [16; R76; reset 0xFFFF] CRC-16 of the data blocks sent in the epoch in progress -/
  clCrc : BitVec 16 := 0xFFFF#16
  /-- [32; R77; reset none] the name C of the next write-data bit while write data flows -/
  nextBit : Option Nat := none
  /-- [32; R77; reset none] the name of the write-data bit that is next to leave on CL, while one is expected -/
  flow : Option Nat := none
  /-- [Nat; R76; reset 0] the block times left in the epoch in progress on CL -/
  clLeft : Nat := 0
  /-- [1; R36, R154, R240; reset 0] every laser of the station is inhibited -/
  laserOff : Bool := false
  /-- [1; R458; reset 0] a trip reaction of choice 2 stands, as a failed lane (Table 3.12) -/
  tripFail : Bool := false
  /-- [Nat; R82; reset 0] polls in a row without a reply -/
  misses : Nat := 0
  /-- [1; R82, R233; reset 0] a valid reply has come since the task's last loader command -/
  axNew : Bool := false
  /-- [1; R82; reset 0] the loader holds AX low: transactions wait for its release -/
  axHeld : Bool := false
  /-- [list of 12; R82; reset empty] transactions that wait for its release: command and argument -/
  axQueue : List Nat := []
  /-- [Nat; R91; reset 0] microseconds since the last valid reply, modulo 10,000 -/
  axAge : Nat := 0
  deriving DecidableEq, Repr

/-- One servo loop (R92). DEDUCED: log entry 22. -/
structure Loop where
  /-- [24; R102; reset 0] the set-point r, Q1.23 -/
  r : Int := 0
  /-- [3 x 48; R99; reset 0] error history e[k-1], e[k-2], e[k-3], Q8.40 -/
  eh : List Int := [0, 0, 0]
  /-- [3 x 48; R99; reset 0] output history u[k-1], u[k-2], u[k-3], Q8.40 -/
  uh : List Int := [0, 0, 0]
  /-- [48; R99; reset 0] the last output y, Q8.40 -/
  y : Int := 0
  /-- [24; R96; reset 0] the measured quantity of the last sample, Q1.23 -/
  m : Int := 0
  /-- [Nat; R109; reset 0] samples in a row that qualify, and samples in a row that fail -/
  good : Nat := 0
  bad : Nat := 0
  /-- [3; R104; reset none] a mode change for the next sample -/
  newMode : Option Nat := none
  /-- [1; R98, R104; reset 0] that change is the station's sequencer's -/
  newHw : Bool := false
  /-- [1; R107; reset 0] the bank in force -/
  sel : Nat := 0
  /-- [1; R103; reset 0] the ramp starts from the next measured value (entry into AUTO) -/
  enter : Bool := false
  /-- [1; R98; reset 0] the loop is in defect hold -/
  held : Bool := false
  /-- [1; R98; reset 0] that hold has outlasted DEF_MAX: it lasts until the loop's mode changes -/
  stuck : Bool := false
  /-- [48; R115; reset none] u0, the output that a return to MANUAL from TUNE restores, Q8.40 -/
  restore : Option Int := none
  deriving DecidableEq, Repr

/-- A relay tune in progress (R113, R114). -/
structure Tune where
  loop : Nat
  /-- the mode to return to -/
  back : Nat
  u0 : Int
  /-- the relay's first sample is still to come -/
  first : Bool
  high : Bool
  /-- low-to-high switches so far -/
  switches : Nat
  /-- samples since the start, and samples in the counted cycles -/
  total : Nat
  counted : Nat
  /-- highest and lowest e of the cycle in progress, Q1.23 -/
  hi : Int
  lo : Int
  /-- sum of (highest - lowest) over the counted cycles -/
  span : Int
  deriving DecidableEq, Repr

/-- An injection in progress (R116): the sums are scaled by 2^40 x 2^40. -/
structure Inj where
  loop : Nat
  phase : Nat
  wraps : Nat
  vc : Int
  vs : Int
  yc : Int
  ys : Int
  deriving DecidableEq, Repr

/-- A layer jump in progress (Table 4.7). -/
structure Jump where
  fromL : Nat
  toL : Nat
  /-- the step of Table 4.7 in progress, 2 to 9 -/
  step : Nat
  /-- U_f, Q8.40 -/
  uf : Int
  /-- FOC samples left of the kick or the brake -/
  left : Nat
  /-- rising FE zero crossings counted -/
  count : Nat
  deriving DecidableEq, Repr

/-- R111: what acquires: FOC sweeps from an output (Q8.40), or TRK waits for a TE zero crossing. -/
inductive Sweep where
  | foc (out : Int)
  | trk
  deriving DecidableEq, Repr

/-- The optical servo loops of a station (ch. 4). -/
structure Servo where
  /-- [8; R92] the loops -/
  loops : Vector Loop 8 := Vector.replicate 8 {}
  /-- [Int; R98; reset 0] the running sum level S_avg, scaled by 2^32 -/
  sAvg : Int := 0
  /-- [1; R98; reset 0] a defect lasts -/
  defect : Bool := false
  /-- [Nat; R98; reset 0] its FOC samples so far, and those in a row above the level -/
  defLen : Nat := 0
  defGood : Nat := 0
  /-- [1; R98; reset 0] the defect has outlasted DEF_MAX -/
  defStuck : Bool := false
  /-- [Int; R146; reset 0] sum of the TRK drive words since SLD's last sample, and their number -/
  trkSum : Int := 0
  trkN : Nat := 0
  /-- [Int; R96; reset 0] the sum S of the last FOC sample -/
  sum : Int := 0
  /-- [1; R119; reset 0] a task has begun, and no loop sample has come since -/
  taking : Bool := false
  /-- [1; R111; reset none] focus acquisition: FOC sweeps, or TRK waits for its crossing -/
  seek : Option Sweep := none
  /-- [24 each; R112; reset 0] FE and TE of the last FOC sample -/
  fe : Int := 0
  te : Int := 0
  /-- [Tune; R113; reset none] -/
  tune : Option Tune := none
  /-- [Inj; R116; reset none] -/
  inj : Option Inj := none
  /-- [Jump; R112; reset none] -/
  jump : Option Jump := none
  deriving DecidableEq, Repr

/-- The spindle (ch. 5). -/
structure Spindle where
  /-- [1; R129; reset 0] the latched on-off command -/
  on : Bool := false
  /-- [Nat; R133, R134; reset 0] failed attempts of the start in progress -/
  tries : Nat := 0
  /-- [ms; R132; reset 0] time in CATCH -/
  inCatch : Nat := 0
  /-- [Nat; R127, R133; reset 0] periods in a row with the residual above, and at most, RES_THR -/
  resBad : Nat := 0
  resGood : Nat := 0
  /-- [48; R133; reset 0] the forced angle, in 2^-48 turn -/
  thetaF : Nat := 0
  /-- [rpm x 40,000; R133; reset 0] the forced speed -/
  speedF : Nat := 0
  /-- [48; R126; reset 0] the observer's angle, in 2^-48 turn -/
  theta : Nat := 0
  /-- [2^-48 turn a period, signed; R126; reset 0] the output of the tracking loop, the electrical speed, and its integral part -/
  speedE : Int := 0
  pll : Int := 0
  /-- [rpm x 512, signed; R126; reset 0] the observer's speed -/
  omega : Int := 0
  /-- [16, 16, 16; R123; reset 0] phase currents of the last MI frame, mA -/
  cur : List Int := [0, 0, 0]
  /-- [16, 16, 16; R126; reset 0] those of the MI frame before -/
  curLast : List Int := [0, 0, 0]
  /-- [7; R132; reset 0] MI frames measured since CATCH began to measure -/
  catchN : Nat := 0
  /-- [mV; R132; reset 0] the sum of their magnitudes |e| -/
  catchMag : Nat := 0
  /-- [16; R132; reset 0] the rotor angle in the last of them -/
  catchAngle : Nat := 0
  /-- [1/65,536 turn, signed; R132; reset 0] the sum of the angle's advances -/
  catchTurn : Int := 0
  /-- [6; R79; reset 0] duties U, V, W, sled A, B and chopper of the last MO frame -/
  duties : List Int := [0, 0, 0, 0, 0, 0]
  /-- [3; R126; reset 0] the spindle duties of the MO frame before, which applied up to the last current sample -/
  dutiesLast : List Int := [0, 0, 0]
  /-- [8; R79; reset 0] the number of the PWM period in progress -/
  period : Nat := 0
  /-- [8; R79, R458; reset 0] the trip status of the last MI frame -/
  trips : Nat := 0
  /-- [1; R150; reset 0] the chopper is commanded on because the local bus was at least CH_ON -/
  chopDue : Bool := false
  /-- [1; R83; reset 0] the next MO frame carries the resume flag -/
  resume : Bool := false
  /-- [36; R125; reset none] the expected wobble count c_e, 1/16 channel clock; none: the next c_w sets it -/
  ce : Option Int := none
  /-- [Int; R125; reset 0] the wobble phase error, 1/16 channel bit -/
  phi : Int := 0
  /-- [1; R125; reset none] a change of SRC for the next SPD sample -/
  newSrc : Option Nat := none
  /-- [1; R125; reset 0] the source in force -/
  src : Nat := 0
  /-- [6; R137; reset none] the zone the sequencer has named as its target -/
  zone : Option Nat := none
  /-- [µs; R139; reset none] when loss was declared with a task in hand -/
  lostAt : Option Nat := none
  /-- [1; R140; reset 0] the spindle was decelerating when loss was declared in this period -/
  lossDecel : Bool := false
  deriving DecidableEq, Repr

/-- The sled's profile generator (R142 to R146). -/
structure Sled where
  /-- [40; R142; reset 0] the magnitude of the velocity word -/
  v : Nat := 0
  /-- [1; R142; reset 0] the direction of motion is towards smaller radius -/
  neg : Bool := false
  /-- [Int; R142; reset 0] the acceleration word along the motion -/
  acc : Int := 0
  /-- [40; R142; reset 0] the rate multiplier's accumulator -/
  frac : Nat := 0
  /-- [32; R143; reset none] the target of the move in progress -/
  target : Option Int := none
  /-- [1; R145; reset 0] a snowplough stop is in progress -/
  snow : Bool := false
  /-- [1; R143; reset 0] the last microsteps of a move are being crossed -/
  creep : Bool := false
  /-- [1; R145, R146; reset 0] the sled follows the lens: MODE = FOLLOW was written, and no snowplough stop has ended it -/
  follow : Bool := false
  deriving DecidableEq, Repr

/-- The gaffer (Table 8.1) beyond what SEQ_STAT, SEQ_BANK and SEQ_TRAP show: PC, SP and the flags are SEQ_STAT's. -/
structure Gaffer where
  /-- [8 x 32; R222; reset 0] M0 to M7 -/
  m : List Word := List.replicate 8 0#32
  /-- [4 x 16; R222; reset 0] LC0 to LC3 -/
  lc : List Nat := [0, 0, 0, 0]
  /-- [8 x 14; R222; reset 0] the call stack's entries -/
  stack : List Nat := List.replicate 8 0
  /-- [16; R222; reset 0] the trap enable mask -/
  mask : Nat := 0
  /-- [32; R222; reset none] the micro-timer: the time at which it expires -/
  timer : Option Nat := none
  /-- [Nat; R228; reset none] a WAIT stalls: the time at which it runs out, none without limit -/
  wait : Option (Option Nat) := none
  /-- [Nat; R228; reset none] the WAIT that a trap interrupted: its remaining µs -/
  waitLeft : Option (Option Nat) := none
  /-- [1; R237; reset 0] between trap entry and RTT or END -/
  inTrap : Bool := false
  /-- [1; R237; reset 0] an RTT has just run -/
  afterRtt : Bool := false
  /-- [32 a cause; R235; reset 0] INFO of the causes pending -/
  info : SMap Nat := []
  /-- [1; R234; reset 0] condition bit 14 -/
  preempt : Bool := false
  deriving DecidableEq, Repr

/-- What a frame position of a band pass has given (R179): its class, its information bytes, whether it was read single-look, whether a
ladder pass was needed, and its raw error count (R175). -/
structure FrameRes where
  slot : Nat
  spiral : Nat
  cls : Nat
  info : Option Bytes
  single : Bool
  step : Nat
  raw : Nat := 0
  deriving DecidableEq, Repr

/-- A requested frame that has failed (Table 6.7): its place, passes combined, flags, position used, syndrome weight, LLR sums.
DEDUCED: log entry 53. -/
structure SoftRes where
  slot : Nat
  spiral : Nat
  passes : Nat
  flags : Nat
  pos : Int
  synd : Nat
  llr : List Int
  deriving DecidableEq, Repr

/-- The level correction and taps with which a stream reads a frame (R160 to R162). -/
structure StreamEq where
  gain : Nat
  offset : Int
  asym : Int
  taps : List Int
  deriving DecidableEq, Repr

/-- The samples of one row in one epoch (R73, R75): row 0 leads, 1 trails; the 48-bit words of its instants. -/
structure PastEpoch where
  /-- 0: SA0's row leads; 1: SA1's trails -/
  row : Nat
  /-- the epoch's number -/
  no : Nat
  /-- its samples are erased (R75) -/
  erased : Bool
  /-- the word of each instant (R73) -/
  data : SMap Nat
  deriving DecidableEq, Repr

/-- One channel bit of a stream (R158 to R172): its instant in 1/16 channel clock, its level-corrected value y and the equaliser's less
the offset in 2^-20 sample LSB, erased (R75), in a defect (R169), as sliced, the target it was judged against, and σ² in 2^-40. -/
structure RcBit where
  /-- its instant, in 1/16 channel clock (R158) -/
  at' : Int
  /-- level-corrected (R160), in 2^-20 LSB -/
  y : Int
  /-- equalised (R160), less the offset, in 2^-20 LSB -/
  x : Int
  /-- erased (R75) -/
  lost : Bool
  /-- in a defect (R169) -/
  faint : Bool
  /-- sliced as a mark (R160) -/
  mark : Bool
  /-- the target it was judged against (R160) -/
  d : Int
  /-- σ² over the bits up to it, in 2^-40 (R172) -/
  var : Nat
  deriving DecidableEq, Repr

/-- One stream (R156 to R161, R165, R169, R172). DESIGN CHOICE: log entry 183. -/
structure Stream where
  /-- [Int; R158; reset none] where the next bit is taken, in 1/(20 x 2^32) sample; none: not running -/
  pos : Option Int := none
  /-- [Int each; R158; reset nominal] the step, and the loop's integral part, in the same unit -/
  step : Int := 21 * 2 ^ 32
  integ : Int := 0
  /-- [Nat; R159; reset 0] the channel bits counted -/
  count : Nat := 0
  /-- [274; R160; reset empty] the last interpolated samples, newest first: value in 2^-20 LSB, erased, position -/
  ss : List (Int × Bool × Int) := []
  /-- [list; R160; reset empty] the bits so far, newest first: the first is bit count - 8 -/
  bits : List RcBit := []
  /-- [Int each; R161; reset nominal] G, O, A and the taps in force, with 20 fraction bits beyond their formats -/
  gain : Int := 4096 * 2 ^ 20
  offset : Int := 0
  asym : Int := 0
  taps : List Int := (List.range 15).map (fun i => if i = 7 then 16384 * 2 ^ 20 else 0)
  /-- [Int; R169; reset 0] the running mean of the envelope -/
  mean : Int := 0
  /-- [4,096; R172; reset empty] squared errors, newest first, in 2^-40 -/
  sq : List Nat := []
  /-- [Int; R158, R161; reset none] the bit behind the sync mark of the frame in progress, once it has been found -/
  found : Option Int := none
  /-- [Q1.15 each; R172; reset 0] the neighbour coefficients -/
  gIn : Int := 0
  gOut : Int := 0
  /-- [Nat, Int; R165, R168; reset none] the slot and reference point of the last frame whose position is fixed -/
  ref : Option (Nat × Int) := none
  /-- [1/16 channel bit; R165; reset 145] the lag measured on the last frame of a trail stream -/
  lag : Int := 2320
  deriving DecidableEq, Repr

/-- One stream's look at the frame of a slot: the predicted reference point as a bit number (none: no source, R165), the number of the first
bit held, the bits in order, each with its erasure or defect mark, and where the search found the mark, from the predicted point. -/
structure Look where
  q : Nat
  pred : Option Int
  first : Int
  bits : List (RcBit × Bool)
  found : Option Int
  deriving DecidableEq, Repr

/-- A band pass, with the ladder it belongs to (R180 to R184). DEDUCED: log entry 54. -/
structure Pass where
  loc : Nat
  /-- the ledger's description of the band: n, relocation entries and (d, VBA, version); BAND_SEQ and vault -/
  n : Nat
  relocs : List Bytes
  entries : List LEntry
  seq : Nat
  vault : Nat
  /-- data indices that are requested -/
  want : List Nat
  /-- bit 0 seal check, bit 1 soft export (ARG4) -/
  flags : Nat
  /-- the ladder step in progress, 0 for the first pass, and the steps allowed -/
  step : Nat
  steps : Nat
  /-- frames of this pass whose results are still to come -/
  left : List (Nat × Nat)
  /-- 0 frames are read, 1 outer recovery is due, 2 a ladder pass is due -/
  phase : Nat
  got : List FrameRes
  /-- the loop whose target this step moves, and its own target (Table 6.5) -/
  moved : Option (Nat × Int)
  /-- frames that have failed so far, for soft export (R188) -/
  soft : List SoftRes
  /-- R193: the zone table's address and RC_ZTAB_LO.VALID as they stood when the pass began -/
  ztab : Nat
  zvalid : Bool
  deriving DecidableEq, Repr

/-- A capture in progress (R189 to R191). -/
structure Capture where
  cmd : Nat
  /-- the next epoch's number, and the epochs asked for -/
  k : Nat
  epochs : Nat
  compand : Bool
  loc : Nat
  /-- the run of dropped epochs not yet recorded: first, count, cause -/
  gap : Option (Nat × Nat × Nat)
  gaps : Nat
  dropped : Nat
  /-- R308: it is to stop at the next epoch boundary, with this reason -/
  stop : Option Nat
  deriving DecidableEq, Repr

/-- The read channel (ch. 6). -/
structure ReadCh where
  /-- [Pass; R180; reset none] the band pass in progress -/
  pass : Option Pass := none
  /-- [Capture; R189; reset none] -/
  cap : Option Capture := none
  /-- [Pass, Capture; R234; reset none] those of the suspended task -/
  passKept : Option Pass := none
  capKept : Option Capture := none
  /-- [2 x 2,100 x 48; R73; reset empty, unlisted 0] samples of the epoch in progress, keyed 2,100 x lane + instant -/
  samples : SMap Nat := []
  /-- [rows x epochs; R75, R156; reset empty] the samples of past epochs, newest first -/
  past : List PastEpoch := []
  /-- [16; R156; reset idle] the streams -/
  streams : Vector Stream 16 := Vector.replicate 16 {}
  /-- [7; R165; reset none] the slot whose looks are held, and its looks -/
  lookSlot : Option Nat := none
  looks : List Look := []
  /-- [1/16 channel clock; R163, R165; reset empty] wobble syncs of the pass's band, keyed 8 x frame length + spiral -/
  syncs : SMap Int := []
  /-- [7, 1/16 channel clock; R163; reset empty] the frame length and instant of each lead spot's last wobble sync -/
  lastSync : SMap (Nat × Int) := []
  /-- [48; R163; reset none] the last wobble address whose CRC passed, and the number of such addresses -/
  wobble : Option Nat := none
  wobbles : Nat := 0
  deriving DecidableEq, Repr

/-- One slot of a station's band plan (Table 11.6). -/
structure PlanSlot where
  /-- the slot reads -/
  read : Bool
  /-- 0.5 rpm -/
  speed : Nat
  /-- packed as WR_BAND, with the starting slot in bits 10:4 -/
  loc : Nat
  vault : Nat
  disc : Nat
  /-- in the format of the seal time stamp -/
  start : Nat
  /-- µs -/
  dur : Nat
  /-- strategy table address, 0 for WR_STAB -/
  stab : Nat
  deriving DecidableEq, Repr

/-- Calibration of a station (ch. 16). -/
structure StnCal where
  /-- [10 each; R439, Table 16.3; reset nominal, unlisted 0] trim words in force at the head front end -/
  trims : SMap Int := []
  /-- [set; R439; reset none] a shadow set waiting for its epoch -/
  shadow : Option (SMap Int) := none
  /-- [16 each; R434; reset nominal] correction set of the power stage: (offset, gain / 65,536) of each MI channel -/
  pd : SMap (Int × Int) := []
  /-- [16; R444; reset 0] live deltas of the streams -/
  live : List Int := List.replicate 16 0
  /-- [1; R442; reset 0] a station step measures -/
  measuring : Bool := false
  /-- [user deltas; R436; reset none] (point, trim address) to delta, as SPI flash holds them -/
  deltas : SMap Int := []
  deriving DecidableEq, Repr

/-- Where a task stands on its way to a location (R111, R112, R130, R244 to R246). -/
inductive WayStep where
  /-- the spindle is to reach RUN -/
  | spin
  /-- FOC and TRK are to lock -/
  | focus
  /-- a wobble address is awaited -/
  | address
  /-- the sled runs home -/
  | homing
  /-- the sled is to move, moves, and TRK is to lock again -/
  | move
  | moving
  | close
  /-- the layer is to change, and changes -/
  | jump
  | jumping
  /-- the speed is to become valid -/
  | speed
  | there
  | lost
  deriving DecidableEq, Repr

/-- The way of a task to a location. -/
structure Way where
  /-- the location it leads to (R130) -/
  loc : Nat
  /-- it is LOAD's search for a first address -/
  first : Bool
  /-- the step it is in (R244 to R246) -/
  step : WayStep
  /-- when the step began -/
  since : Nat
  /-- the wobble addresses read by then -/
  seen : Nat
  /-- LOAD has homed the sled (R244) -/
  homed : Bool
  /-- recoveries of the jump in progress (R246) -/
  again : Nat
  deriving DecidableEq, Repr

/-- One station. -/
structure Station where
  port : Port := {}
  servo : Servo := {}
  spin : Spindle := {}
  sled : Sled := {}
  gaf : Gaffer := {}
  read : ReadCh := {}
  cal : StnCal := {}
  /-- [Way; R130, R244 to R246; reset none] how far the task in hand has come to its location -/
  way : Option Way := none
  /-- [8, µs; R233; reset none] the loader step of the task in hand: its AX command, and when it began -/
  loader : Option (Nat × Nat) := none
  /-- [1; R231; reset 0] a RETIRE has run -/
  retired : Bool := false
  /-- [1; R29; reset 0] the station is in planned mode (STN_CTL.MODE shows it) -/
  planned : Bool := false
  /-- [1; R29; reset none] a mode change for the next band boundary -/
  wantPlanned : Option Bool := none
  /-- [65,536 slots; R305; reset empty] the slots of the plan still to run -/
  plan : List PlanSlot := []
  /-- [PlanSlot; R31; reset none] the plan slot in hand, whether it has begun, and whether the plan was replaced meanwhile (R305) -/
  slotRun : Option PlanSlot := none
  slotOn : Bool := false
  planNew : Bool := false
  /-- [1; R31; reset 0] the start time of the read slot in hand has come, and its starting frame position has not -/
  slotDue : Bool := false
  /-- [16; R31, R33; reset none] the speed that the last plan slot commands, in 0.5 rpm -/
  slotSpeed : Option Nat := none
  /-- [1; R33; reset 0] the plan has run out -/
  planOut : Bool := false
  /-- [Nat; R31; reset 0] when the running slot began -/
  slotSince : Nat := 0
  /-- [BandWrite; R195; reset none] the band being written -/
  write : Option BandWrite := none
  /-- [BandWrite; R234; reset none] the band of a suspended BAND_WRITE -/
  writeKept : Option BandWrite := none
  /-- [34, 4, 6; R200, R31; reset none] the strategy set last sent since training: its plan slot's table (0: WR_STAB's), layer and zone -/
  setSent : Option (Nat × Nat × Nat) := none
  /-- [1; R244, R344; reset 0] a disc is loaded -/
  loaded : Bool := false
  /-- [256 bytes; R244, Table 2.10; reset empty] the identity record that LOAD read -/
  ident : Bytes := []
  /-- [1; R448; reset 0] BIST has marked the station unusable -/
  unusable : Bool := false
  deriving DecidableEq, Repr

end Sys2Proof.Machine
end

