-- ==== Sys2Proof/Machine/State.lean ====
section
/-!
DEFINITION. The state of the block, the reasons for which a command does not complete, and the state after reset. Every field of the
parts (HostState.lean, Station.lean, Types.lean) has a docstring that gives its width, the rule that names it and its reset value.
-/

namespace Sys2Proof.Machine

/-- Reasons for which a command ends the machine. There are none: every behaviour that the spec describes ends in a state, and an error is
a status, an event or a machine check (R20, R302, R452). -/
inductive Fault where
  deriving DecidableEq, Repr

/-- Reasons for which a command is turned away. -/
inductive Refusal where
  /-- the arm of `mnemonic` has no meaning yet; raised by `exec`; safe -/
  | notModelled (mnemonic : String)
  /-- the capsule's bytes spell another command of the table (Table 11.1); raised by `capsuleRow`; safe: the other command's row carries
  those bytes -/
  | illFormed
  deriving DecidableEq, Repr

/-- The block. -/
structure State where
  /-- [1; R1; reset VK1640] the part: fixed for good, no step changes it -/
  part : Part := .vk1640
  /-- [Nat; the model's own; reset DESIGN CHOICE 0, log entry 1] microseconds counted by the model, for ages and timers -/
  now : Nat := 0
  /-- [Nat; the model's own; reset DESIGN CHOICE 0, log entry 5] free values drawn so far -/
  fresh : Nat := 0
  /-- [registers; R11, R12; reset each register's own] every register, keyed by function x 2^24 + BAR0 offset; one that is not listed holds
  its reset value -/
  regs : SMap Word := []
  pins : Pins := {}
  aon : Aon := {}
  power : Power := {}
  pcie : Pcie := {}
  /-- [64; R253] the functions -/
  fns : Vector Func 64 := Vector.replicate 64 {}
  rings : Rings := {}
  work : Work := {}
  sec : Sec := {}
  stores : Stores := {}
  ledger : Ledger := {}
  evt : Evt := {}
  cal : Cal := {}
  mem : Mem := {}
  /-- [channels; R16; reset empty] the handshake channels, by number -/
  chans : SMap Chan := []
  /-- [16; R1] the stations -/
  stn : Vector Station 16 := Vector.replicate 16 {}
  /-- [list; the model's own; reset DESIGN CHOICE empty, log entry 15] what has left the block, oldest first -/
  out : List Out := []
  /-- [queue; the model's own; reset empty] the commands that wait, first in, first out -/
  pending : List Instr := []
  deriving DecidableEq, Repr

/-- The block right after reset (R12, R420): every register and every other piece of state at its reset value, no domain of the VK1640
OFF, memory with nothing listed, and no command waiting. DESIGN CHOICE: log entries 7, 8. -/
def State.reset : State := {}

end Sys2Proof.Machine
end

