-- ==== Sys2Proof/Machine/Ops.lean ====
section
/-!
DEFINITION. The named operations over the state that every family uses: reading and writing registers and their fields, the
outbox, free values, power domains, commands and their ends.
-/

namespace Sys2Proof.Machine

/-- What a step answers. -/
abbrev Res := Host.Outcome State Fault Refusal

/-! ## Registers -/

/-- The word register `r` holds. -/
def State.reg (s : State) (r : Reg) : Word := SMap.getD s.regs r.rst r.key

/-- Register `r` takes `w`. -/
def State.setReg (s : State) (r : Reg) (w : Word) : State := { s with regs := SMap.put s.regs r.rst r.key w }

/-- Field `f` of register `r`. -/
def State.fld (s : State) (r : Reg) (f : Fld) : Nat := fldGet f (s.reg r)

/-- Field `f` of register `r` takes `v`. -/
def State.setFld (s : State) (r : Reg) (f : Fld) (v : Nat) : State := s.setReg r (fldSet f (s.reg r) v)

/-- A one-bit field as a truth value. -/
def State.bit (s : State) (r : Reg) (f : Fld) : Bool := s.fld r f != 0

def State.setBit (s : State) (r : Reg) (f : Fld) (b : Bool) : State := s.setFld r f (if b then 1 else 0)

/-- A saturating counter field rises by `k`. -/
def State.bump (s : State) (r : Reg) (f : Fld) (k : Nat) : State :=
  s.setFld r f (min (s.fld r f + k) (2 ^ (f.hi + 1 - f.lo) - 1))

/-- A field read as a two's-complement number. -/
def State.fldInt (s : State) (r : Reg) (f : Fld) : Int :=
  let v := s.fld r f
  let n := f.hi + 1 - f.lo
  if v < 2 ^ (n - 1) then (v : Int) else (v : Int) - 2 ^ n

/-- A field takes a signed number in two's complement. -/
def State.setFldInt (s : State) (r : Reg) (f : Fld) (v : Int) : State :=
  s.setFld r f (v % 2 ^ (f.hi + 1 - f.lo)).toNat

/-- Every register whose key satisfies `p` takes its reset value (R12). -/
def State.resetRegs (s : State) (p : Nat → Bool) : State := { s with regs := SMap.drop p s.regs }

/-- A range of keys. -/
def inRange (lo n k : Nat) : Bool := lo ≤ k && k < lo + n

/-! ## Outputs, free values -/

/-- `o` leaves the block. DESIGN CHOICE: log entry 15. -/
def State.emit (s : State) (o : Out) : State := { s with out := s.out ++ [o] }

/-- Several, in order. -/
def State.emits (s : State) (os : List Out) : State := { s with out := s.out ++ os }

/-- One free bit. DESIGN CHOICE: log entry 5. -/
def State.drawBool (s : State) : Bool × State := (Config.freeBool s.fresh, { s with fresh := s.fresh + 1 })

/-- One free number. DESIGN CHOICE: log entry 5. -/
def State.drawNat (s : State) : Nat × State := (Config.freeNat s.fresh, { s with fresh := s.fresh + 1 })

/-- `n` bytes of the entropy source (R346). DESIGN CHOICE: log entry 6. -/
def State.entropy (s : State) (n : Nat) : Bytes × State :=
  ((List.range n).map (Config.entropyByte s.fresh), { s with fresh := s.fresh + 1 })

/-- The time stamp of this moment (R354): bit 63 says that the clock has not been set. DEDUCED: log entry 168. -/
def State.stamp (s : State) : Nat :=
  s.aon.clock % 2 ^ 63 + if s.bit CLK_STAT CLK_STAT_UNSET then 2 ^ 63 else 0

/-! ## Sub-structures -/

def State.func (s : State) (f : Fn) : Func := s.fns[f]

def State.setFunc (s : State) (f : Fn) (g : Func → Func) : State := { s with fns := s.fns.set f (g s.fns[f]) }

def State.station (s : State) (n : Stn) : Station := s.stn[n]

def State.setStn (s : State) (n : Stn) (g : Station → Station) : State := { s with stn := s.stn.set n (g s.stn[n]) }

/-- Station `k` as an index, wrapped. -/
def toStn (k : Nat) : Stn := Fin.ofNat 16 k
/-- Function `k` as an index, wrapped. -/
def toFn (k : Nat) : Fn := Fin.ofNat 64 k

/-- Stations of the part (R1). -/
def State.stations (s : State) : Nat := match s.part with
  | .vk1640 => 16
  | .vk1608 => 8

/-- R1, Table 0.1: the fused domains of the VK1608: STN8 to STN15, CC2, CC3. -/
def fusedDom (p : Part) (d : Nat) : Bool := match p with
  | .vk1640 => false
  | .vk1608 => decide (d = 9 ∨ d = 10 ∨ 19 ≤ d)

/-! ## Domains (Table 15.2) -/

def domAON : Nat := 0
def domHOST : Nat := 1
def domCORE : Nat := 2
def domCRYPTO : Nat := 3
def domSEAL : Nat := 4
def domCACHE : Nat := 5
def domMEM : Nat := 6
def domCC (k : Nat) : Nat := 7 + k
def domSTN (n : Nat) : Nat := 11 + n

/-- The state of domain `d` as PM_DSTAT shows it: 0 changing, 1 ON, 2 RET, 3 OFF (R420); a fused domain is OFF for good
(Table 0.1). -/
def State.dom (s : State) (d : Nat) : Nat :=
  if fusedDom s.part d then 3
  else if d < 16 then fldGet ⟨2 * d + 1, 2 * d⟩ (s.reg PM_DSTAT_LO) else fldGet ⟨2 * (d - 16) + 1, 2 * (d - 16)⟩ (s.reg PM_DSTAT_HI)

def State.setDom (s : State) (d v : Nat) : State :=
  if d < 16 then s.setFld PM_DSTAT_LO ⟨2 * d + 1, 2 * d⟩ v else s.setFld PM_DSTAT_HI ⟨2 * (d - 16) + 1, 2 * (d - 16)⟩ v

def State.isOn (s : State) (d : Nat) : Bool := s.dom d == 1

/-- Table 15.2: what domain `d` needs ON while it is ON. -/
def domNeeds (d : Nat) : List Nat :=
  if d = 2 then [5]
  else if d = 5 then [6]
  else if d = 3 ∨ d = 4 then [2, 6]
  else if 7 ≤ d ∧ d ≤ 10 then [2, 6]
  else if 11 ≤ d ∧ d ≤ 26 then [7 + (d - 11) / 4, 2, 6]
  else []

/-- Domain `d` with all it needs, directly or through others. -/
def domClosure (d : Nat) : List Nat :=
  let l1 := d :: domNeeds d
  let l2 := l1 ++ l1.flatMap domNeeds
  let l3 := l2 ++ l2.flatMap domNeeds
  (l3 ++ l3.flatMap domNeeds).eraseDups

/-- The register keys a domain holds (R12). -/
def domHolds (d key : Nat) : Bool :=
  if d = 1 then key < 0x20000 || 0x1000000 ≤ key
  else if d = 2 then inRange 0x40000 0x10000 key || inRange 0x60000 0x20000 key
  else if d = 5 then inRange 0x50130 0x20 key
  else if d = 6 then inRange 0x50000 0x130 key || inRange 0x50150 0xFEB0 key
  else if 7 ≤ d ∧ d ≤ 10 then inRange (0x80000 + 0x1000 * (d - 7)) 0x1000 key
  else if 11 ≤ d ∧ d ≤ 26 then inRange (stnKey (d - 11) 0) 0x10000 key
  else false

/-- The domain that a register access reaches. DESIGN CHOICE: log entry 171. -/
def regDom (fn off : Nat) : Nat :=
  if fn ≠ 0 then 1
  else if off < 0x20000 then 1
  else if off < 0x40000 then 0
  else if off < 0x50000 then 2
  else if off < 0x60000 then (if inRange 0x50130 0x20 off then 5 else 6)
  else if off < 0x80000 then 2
  else if off < 0x90000 then (if off < 0x84000 then 7 + (off - 0x80000) / 0x1000 else 1)
  else if 0x100000 ≤ off ∧ off < 0x200000 then 11 + (off - 0x100000) / 0x10000
  else 1

/-! ## Rings -/

def ringKey (f k : Nat) : Nat := 256 * f + k

def State.sq? (s : State) (f k : Nat) : Option Sq := SMap.get? s.rings.sqs (ringKey f k)
def State.cq? (s : State) (f k : Nat) : Option Cq := SMap.get? s.rings.cqs (ringKey f k)
def State.putSq (s : State) (f k : Nat) (q : Sq) : State := { s with rings.sqs := SMap.ins (ringKey f k) q s.rings.sqs }
def State.putCq (s : State) (f k : Nat) (q : Cq) : State := { s with rings.cqs := SMap.ins (ringKey f k) q s.rings.cqs }

/-- Does function `f` have a ring? -/
def State.hasRing (s : State) (f : Nat) : Bool :=
  s.rings.sqs.any (fun e => e.1 / 256 == f) || s.rings.cqs.any (fun e => e.1 / 256 == f)

/-- Feature bit `b` is accepted by function `f` (R258): stored and locked in. DEDUCED: log entry 150. -/
def State.accepted (s : State) (f b : Nat) : Bool :=
  s.bit (FEAT_STAT f) FEAT_STAT_LOCK && (s.reg (FEAT_DRV f 0)).getLsbD b

def featPlanned : Nat := 0
def featLivecal : Nat := 1
def featPri : Nat := 2
def featSchuss : Nat := 3
def featForensic : Nat := 4
def featCompand : Nat := 5
def featVersions : Nat := 6
def featXferRdy : Nat := 7
def featIde : Nat := 8
def featChained : Nat := 9

/-- A function exists: the PF, or a VF while VF Enable is 1 (R253). -/
def State.fnExists (s : State) (f : Nat) : Bool := f == 0 || (s.pcie.vfEnable && decide (f ≤ s.pcie.numVfs))

/-- R265: with F_IDE accepted, DMA, polls and messages are held unless the stream is Secure. -/
def State.ideHeld (s : State) : Bool := s.accepted 0 featIde && !s.pcie.ideSecure

/-! ## Commands -/

def State.cmd? (s : State) (id : Nat) : Option Cmd := s.work.cmds.find? (fun c => c.id == id)

def State.setCmd (s : State) (id : Nat) (g : Cmd → Cmd) : State :=
  { s with work.cmds := s.work.cmds.map (fun c => if c.id = id then g c else c) }

/-- The class of a ring: 0 STANDARD, 1 SCHUSS, 2 BULK. DEDUCED: log entry 37. -/
def State.cmdCls (s : State) (c : Cmd) : Nat := match s.sq? c.fn c.sq with
  | some q => if c.mute then 0 else q.cls
  | none => 0

/-- A task ends or leaves: it no longer waits. -/
def State.dropTasks (s : State) (p : Task → Bool) : State :=
  { s with work.tasks := s.work.tasks.filter (fun t => !p t) }

/-- A VAULT_UNMOUNT that has not started goes no further: its vault is no longer being closed. -/
def State.reopen (s : State) (p : Cmd → Bool) : State :=
  let ids := (s.work.cmds.filter (fun c => p c && capOPC c.caps == 0x0A && !c.ended && !c.started)).map (fun c => capVAULT c.caps)
  if ids.isEmpty then s
  else { s with ledger.vaults := s.ledger.vaults.map (fun v => if ids.contains v.id then { v with closing := false } else v) }

/-- R309: SQ (f, k) is frozen: admitted commands that have not started are held and release their buffers. -/
def State.freezeSq (s : State) (f k : Nat) : State :=
  let s := s.setFld (SQ_STAT f k) SQ_STAT_STATE 3
  let held (c : Cmd) : Bool := c.fn == f && c.sq == k && !c.started && !c.ended
  let s := s.reopen held
  let ids := (s.work.cmds.filter held).map (·.id)
  let bufs := (s.work.cmds.filter held).flatMap (·.bufs)
  let s := { s with work.toFree := s.work.toFree ++ bufs }
  { s with work.cmds := s.work.cmds.map (fun c => if held c then { c with held := true, reserved := false, bufs := [] } else c),
           work.tasks := s.work.tasks.filter (fun t => !(t.cmds.any ids.contains)) }

/-- R287, R296: CQ (f, k) has room for an entry. -/
def State.cqRoom (s : State) (f k : Nat) (q : Cq) : Bool :=
  !s.bit (CQ_STAT f k) CQ_STAT_FAULT && decide ((s.fld (CQ_STAT f k) CQ_STAT_TAIL + 1) % q.size ≠ q.head)

/-- R296: entry `e` carries a head whose shadow could not be written, and is not written yet. -/
def State.shBlocks (s : State) (f : Nat) (e : Entry) : Bool :=
  (s.func (toFn f)).shWait && (match s.sq? f e.sq with | some x => x.shadowDue | none => false)

/-- CQ_STAT.FULL: entries wait for room (R287) or for a shadow (R296); the function is then ACTIVE (R280). -/
def State.setFull (s : State) (f k : Nat) : State := match s.cq? f k with
  | none => s
  | some q =>
    let full := match q.waiting with | [] => false | e :: _ => !s.cqRoom f k q || s.shBlocks f e
    let s := s.setBit (CQ_STAT f k) CQ_STAT_FULL full
    if full then s.setFunc (toFn f) (fun g => { g with idle := false }) else s

/-- The final entry of a capsule or command, put behind its CQ's waiting entries (R285, R287). -/
def State.pushEntry (s : State) (f cq : Nat) (e : Entry) : State := match s.cq? f cq with
  | none => s
  | some q => (s.putCq f cq { q with waiting := q.waiting ++ [e] }).setFull f cq

/-- R311: which statuses are logged. -/
def isLogged (st : Status) : Bool :=
  isFailure st && st != .queueFrozen && st != .abortedByReset && st != .abortedByHost

/-- R309: which statuses freeze a CHAINED ring. -/
def freezes (st : Status) : Bool := isFailure st && st != .queueFrozen && st != .abortedByReset

/-- R313: of the WRITEs of one SQ that recorded a block and have ended, `e` may still be a READ's source: no later one stands between it and every
READ outstanding and to come. -/
def State.stillSource (s : State) (l : List ((Nat × Nat × Nat × Nat) × Nat × Nat)) (e : (Nat × Nat × Nat × Nat) × Nat × Nat) : Bool :=
  !l.any (fun x => x.1 == e.1 && decide (e.2.1 < x.2.1) && !s.work.cmds.any (fun r =>
    capOPC r.caps == 1 && !r.ended && r.fn == e.1.1 && r.sq == e.1.2.1 && decide (e.2.1 < r.id ∧ r.id < x.2.1)))

/-- R313: a WRITE that ends leaves each block it has recorded as one that a READ of its SQ may take. -/
def State.noteWritten (s : State) (c : Cmd) : State :=
  if capOPC c.caps ≠ 2 then s
  else
    let new := c.blocks.filterMap (fun b => match b.at' with
      | .recorded _ => some ((c.fn, c.sq, capVAULT c.caps, b.vba), c.id, b.ver)
      | _ => none)
    if new.isEmpty then s
    else
      let l := s.work.written ++ new
      { s with work.written := l.filter (s.stillSource l) }

/-- R341: a WRITE's completion has been posted: the bands that hold its blocks are not among those of which no command's was. -/
def State.told (s : State) (c : Cmd) : State :=
  let qs := c.blocks.filterMap (fun b => match b.at' with | .recorded q => some q | _ => none)
  if qs.isEmpty then s
  else { s with ledger.vaults := s.ledger.vaults.map (fun v =>
    if v.id = capVAULT c.caps then { v with unposted := v.unposted.filter (fun e => !qs.contains e.seq) } else v) }

/-- R341: bands of which no command is left that may still post its completion join the sealed-since-last-completion list. -/
def State.untold (s : State) : State :=
  let live (v : Vault) (e : Since) : Bool := s.work.cmds.any (fun c => !c.mute && capVAULT c.caps == v.id && c.blocks.any (fun b => b.at' == .recorded e.seq))
  { s with ledger.vaults := s.ledger.vaults.map (fun v =>
    { v with sealed := v.sealed ++ v.unposted.filter (fun e => !live v e), unposted := v.unposted.filter (live v) }) }

/-- R297: a command gives up its page request; one that is outstanding holds its capacity until it is answered. -/
def State.dropPr (s : State) (id : Nat) : State := match s.cmd? id with
  | none => s
  | some c =>
    let s := s.setCmd id (fun c => { c with parked := false, pr := .none })
    if c.pr = .outstanding then { s with pcie.prLost := s.pcie.prLost ++ [(id, c.fn)] } else s

/-- XFER of a final entry: the bytes moved (Table 10.3); with DATA_POISONED those before the first poisoned TLP (R395).
DESIGN CHOICE: log entry 117. -/
def Cmd.xfer (c : Cmd) (st : Status) : Nat :=
  if st = .dataPoisoned then c.poison.foldl (fun n p => min n (p.1 - Config.tlpHead p.1 % 512)) c.off else c.off

/-- RES0 and RES1 of the final entry (R304); of a WRITE (R23, Table 10.3): the last sealed band that holds one of its blocks, and the
version recorded for its first block. -/
def Cmd.results (c : Cmd) : Nat × Nat :=
  if capOPC c.caps ≠ 2 then (c.res0, c.res1)
  else
    (c.blocks.foldl (fun q b => match b.at' with | .recorded k => max q k | _ => q) 0,
     match c.blocks with | b :: _ => (match b.at' with | .recorded _ => b.ver | _ => 0) | [] => 0)

/-- R311: the first VBA that a command's failure affects: of a WRITE, the first block not recorded; of a READ, the first block not in hand, else
the one at which its data stopped; 0 where it names no blocks. DEDUCED: log entry 230. -/
def Cmd.badVba (c : Cmd) (st : Status) : Nat :=
  let open' (b : WBlock) : Bool := match b.at' with
    | .recorded _ => false
    | .gathered => capOPC c.caps == 2
    | _ => true
  if !([1, 2, 3].contains (capOPC c.caps)) then 0
  else match c.blocks.find? open' with
    | some b => b.vba
    | none => cap c.caps 24 8 + min (c.xfer st) (capDLEN c.caps - 1) / 4096

/-- Command `id` ends with status `st` (R285, R309): its final entry goes to its CQ; a CHAINED ring is frozen by the first
failure; a muted command (R255) leaves without an entry. -/
def State.finish (s : State) (id : Nat) (st : Status) : State := match s.cmd? id with
  | none => s
  | some c =>
    if c.ended then s
    else
      let s := ((s.reopen (fun c => c.id == id)).dropTasks (fun t => t.cmds == [id])).dropPr id
      let s := if c.mute then s else s.noteWritten c
      if c.mute then
        let s := { s with work.toFree := s.work.toFree ++ c.bufs }
        { s with work.cmds := s.work.cmds.filter (fun d => d.id != id) }
      else
        match s.sq? c.fn c.sq with
        | none => { s with work.cmds := s.work.cmds.filter (fun d => d.id != id) }
        | some q =>
          let froze := q.chained && freezes st && s.fld (SQ_STAT c.fn c.sq) SQ_STAT_STATE == 1
          let rec' : ErrRec := ⟨c.sq, c.cid, capOPC c.caps, st, c.station, froze, c.badVba st, c.bandSeq, c.xfer st, c.detail, c.errAddr, s.stamp⟩
          let e : Entry := ⟨id, c.fn, c.sq, c.cid, st, 0, c.results.1, c.results.2, c.xfer st,
            (if st = .dmaFault then c.errAddr else 0), if isLogged st then some rec' else none⟩
          let s := s.setCmd id (fun c => { c with ended := true, status := st, reserved := false, parked := false })
          let s := { s with work.toFree := s.work.toFree ++ c.bufs }
          let s := s.pushEntry c.fn q.cq e
          if froze then s.freezeSq c.fn c.sq else s

/-- Command `id` ends with the first of R302's list among what it has met and `st`. -/
def State.finishWith (s : State) (id : Nat) (st : Status) : State := match s.cmd? id with
  | none => s
  | some c => s.finish id (worse c.status st)

/-- A capsule that fails a check ends at once, without an admitted command (R299). DEDUCED: log entry 113. -/
def State.reject (s : State) (f k : Nat) (c : Capsule) (st : Status) : State := match s.sq? f k with
  | none => s
  | some q =>
    let froze := q.chained && freezes st && s.fld (SQ_STAT f k) SQ_STAT_STATE == 1
    let rec' : ErrRec := ⟨k, capCID c, capOPC c, st, 0xFF, froze, (if [1, 2, 3].contains (capOPC c) then cap c 24 8 else 0), 0, 0, 0, 0, s.stamp⟩
    let e : Entry := ⟨s.work.nextId, f, k, capCID c, st, 0, 0, 0, 0, 0, if isLogged st then some rec' else none⟩
    let s := { s with work.nextId := s.work.nextId + 1 }
    let s := s.pushEntry f q.cq e
    if froze then s.freezeSq f k else s

/-- An outcome that command `id` has met is kept for its end (R302). -/
def State.note (s : State) (id : Nat) (st : Status) : State :=
  s.setCmd id (fun c => { c with status := worse c.status st })

/-- An outcome that command `id` has met in the band numbered `q` (0: none), with the station event `ev` that led to it (0: none): both are
kept for the error log while the outcome stands before the others (R302, R311). DEDUCED: log entry 230. -/
def State.noteAt (s : State) (id q ev : Nat) (st : Status) : State :=
  s.setCmd id (fun c => if statusRank c.status ≤ statusRank st then c else { c with status := st, bandSeq := q, detail := ev })

/-- R311: the station event of a station that is degraded or unavailable; 0 where it is neither. DEDUCED: log entry 230. -/
def State.lossEvent (s : State) (n : Nat) : Nat :=
  if s.bit (STN_STAT n) STN_STAT_UNAVAIL || s.bit (STN_STAT n) STN_STAT_DEGRADED then 19 else 0

/-- A task joins the waiting tasks of its station. -/
def State.addTask (s : State) (stn : Nat) (kind : TaskKind) (cmds : List Nat) (cls order : Nat) (args : List Nat)
    (first : Bool) : State :=
  let t : Task := ⟨s.work.nextTask, stn, kind, cmds, cls, order, args, first, [], false⟩
  { s with work.nextTask := s.work.nextTask + 1, work.tasks := s.work.tasks ++ [t] }

/-- The task station `n`'s gaffer holds. -/
def State.inHand? (s : State) (n : Nat) : Option Task := SMap.get? s.work.inHand n

/-- Context `c` is in FATAL (HLTH_STAT.FATAL, Table 1.2). -/
def State.fatal (s : State) (c : Nat) : Bool := (s.reg HLTH_STAT).getLsbD c

def ctxLEDGER : Nat := 16
def ctxBENCH : Nat := 17
def ctxCOMMAND : Nat := 18

/-- The bench core serves requests: running, not in FATAL and not held in the boot ROM (R22, R318, R370). -/
def State.benchOk (s : State) : Bool := !s.fatal ctxBENCH && s.sec.benchUp && !s.bit FW_STAT FW_STAT_ROM

/-! ## Power: waking a domain (R424, R428) -/

/-- R431: the entry in progress is recorded in PM_LAST and counted in PM_ACC of each domain it names. -/
def State.account (s : State) (e : PmEntry) (outcome refuser : Nat) : State :=
  let s := s.setReg PM_LAST (BitVec.ofNat 32 (outcome * 2 ^ 30 + refuser * 2 ^ 16 + e.cid % 65536))
  e.named.foldl (fun s dn =>
    let s := if outcome = 2 then s.bump (PM_ACC dn.1) PM_ACC_REFUSED 1
             else if outcome = 3 then s.bump (PM_ACC dn.1) PM_ACC_ABORTED 1 else s
    if outcome = 1 then s else s.setFld (PM_ACC dn.1) PM_ACC_LAST refuser) s

/-- R423, R428: the entry ends without a commit; the domains that had stopped return to ON and its command, unless already
completed, ends with INVALID_FIELD. DEDUCED: log entry 140. -/
def State.abortEntry (s : State) (refuser : Nat) : State := match s.power.entry with
  | none => s
  | some e =>
    let s := s.account e 3 refuser
    let s := { s with power.entry := none, power.stopped := [] }
    s.finish e.cmd .invalidField

/-- One domain begins to wake if it is in RET or OFF (R424); HOST leaves OFF only at a start, a fused domain never. -/
def State.wakeOne (s : State) (d : Nat) : State :=
  if fusedDom s.part d then s
  else if s.dom d = 2 ∨ (s.dom d = 3 ∧ d ≠ domHOST) then
    let off := s.dom d == 3
    let s := s.setDom d 0
    { s with power.waking := s.power.waking ++ [(d, off)] }
  else s

/-- R428: a demand for a named domain between step 2 and the commit aborts the entry. -/
def State.demand (s : State) (d : Nat) : State := match s.power.entry with
  | none => s
  | some e =>
    if (e.stage = .stopping ∨ e.stage = .deferred) ∧ e.named.any (fun x => (domClosure d).contains x.1) then s.abortEntry 30
    else s

/-- An access needs domain `d` (R424, R425): an entry that names it aborts, and it wakes with all it needs. -/
def State.wake (s : State) (d : Nat) : State := (domClosure d).foldl (fun s x => s.wakeOne x) (s.demand d)

/-- Every domain of `ds` is ON. -/
def State.allOn (s : State) (ds : List Nat) : Bool := ds.all s.isOn

end Sys2Proof.Machine
end

