-- ==== Sys2Proof/Machine/Events.lean ====
section
/-!
DEFINITION. Raising events (R451 to R455), MSI-X messages (R453, R454), FAULT# (R459), machine checks (R20, R456) as far as
they need no station.
-/

namespace Sys2Proof.Machine

/-- The vectors of function `f` (R266): 256 for the PF, VF_VEC.COUNT for a VF. -/
def State.vecCount (s : State) (f : Nat) : Nat := if f = 0 then 256 else s.fld (VF_VEC f) VF_VEC_COUNT

/-- One MSI-X table entry; unlisted entries hold address 0, data 0 and Mask 1. -/
def State.msixEnt (s : State) (f : Fn) (v : Nat) : MsixEnt := SMap.getD (s.func f).msix ⟨0, 0, true⟩ v

/-- Vector `v` of `f` is masked by its own bit or by the Function Mask (R453). -/
def State.vecMasked (s : State) (f : Fn) (v : Nat) : Bool := (s.msixEnt f v).masked || (s.func f).funcMask

/-- A message for vector `v` of `f` leaves now. -/
def State.msixOut (s : State) (f : Fn) (v : Nat) : State :=
  s.emit (.msix f.val v (s.msixEnt f v).addr (s.msixEnt f v).data)

/-- R453: no message can be sent: the function is disabled, in D3hot or has MSI-X Enable 0, or the vector does not exist. -/
def State.undeliverable (s : State) (f : Fn) (v : Nat) : Bool :=
  !s.fnExists f.val || (s.func f).d3hot || !(s.func f).msixEn || decide (s.vecCount f.val ≤ v)

/-- R453, R425, R265: a deliverable message is held in the PBA while masked, held back while HOST or CORE is not ON (which
wakes them) or the IDE stream is not Secure, and otherwise sent. -/
def State.postMsg (s : State) (f : Fn) (v : Nat) : State :=
  if s.vecMasked f v then s.setFunc f (fun g => { g with pba := if g.pba.contains v then g.pba else g.pba ++ [v] })
  else if !s.isOn domHOST || !s.isOn domCORE then
    let s := { s with pcie.heldMsgs := s.pcie.heldMsgs ++ [(f.val, v)] }
    (s.wake domHOST).wake domCORE
  else if s.ideHeld then { s with pcie.heldMsgs := s.pcie.heldMsgs ++ [(f.val, v)] }
  else s.msixOut f v

/-- A message of an event (R453): an undelivered one is counted. -/
def State.eventMsg (s : State) (f : Fn) (v : Nat) : State :=
  if s.undeliverable f v then s.bump EVT_LOGSTAT EVT_LOGSTAT_UNDEL 1 else s.postMsg f v

/-- A message of a completion ring (R288): none can be sent where R453 calls it undelivered. -/
def State.ringMsg (s : State) (f : Fn) (v : Nat) : State :=
  if s.undeliverable f v then s else s.postMsg f v

/-- The messages held back leave once nothing holds them (R453, R265, R478). -/
def State.releaseMsgs (s : State) : State :=
  if s.isOn domHOST && s.isOn domCORE && !s.ideHeld then
    let held := s.pcie.heldMsgs
    let s := { s with pcie.heldMsgs := [] }
    held.foldl (fun s m => if s.undeliverable (toFn m.1) m.2 then s else s.postMsg (toFn m.1) m.2) s
  else s

/-- Event `e` is pending. -/
def State.pending? (s : State) (e : Nat) : Bool := (s.reg (EVT_PEND (e / 32))).getLsbD (e % 32)

def State.setPending (s : State) (e : Nat) : State :=
  s.setReg (EVT_PEND (e / 32)) (s.reg (EVT_PEND (e / 32)) ||| (1#32 <<< (e % 32)))

/-- R455: a raise is logged: merged into the newest record of the same event within 1 ms, else a new record; the oldest of
1,024 is overwritten; with the bench core in FATAL nothing is written and the raise counts as lost. DEDUCED: log entry 168. -/
def State.logEvent (s : State) (e ctx fn : Nat) (detail : List Nat) : State :=
  let rec' : EvtRec := ⟨e, 1, ctx, fn, s.stamp, detail⟩
  if s.fatal ctxBENCH then s.bump EVT_LOGSTAT EVT_LOGSTAT_LOST 1
  else
    match s.evt.log.getLast? with
    | some r =>
      if r.event = e ∧ r.time ≤ s.stamp ∧ s.stamp < r.time + 1000 then
        { s with evt.log := s.evt.log.dropLast ++ [{ r with merged := min (r.merged + 1) 65535 }] }
      else if s.evt.log.length ≥ 1024 then
        let s := { s with evt.log := s.evt.log.drop 1 ++ [rec'], evt.lost := s.evt.lost + 1 }
        s.bump EVT_LOGSTAT EVT_LOGSTAT_LOST 1
      else { s with evt.log := s.evt.log ++ [rec'] }
    | none => { s with evt.log := [rec'] }

/-- R451, R452, R453: event `e` is raised: its bit is set, a record is written, and a rise of the bit sends its steered
message. Sources of fused stations are never raised (Table 0.1). DEDUCED: log entry 170. -/
def State.raiseIn (s : State) (e ctx fn : Nat) (detail : List Nat) : State :=
  if s.part = .vk1608 ∧ 320 ≤ e then s
  else
    let was := s.pending? e
    let s := (s.setPending e).logEvent e ctx fn detail
    if !was && s.bit (EVT_STEER e) EVT_STEER_EN then
      s.eventMsg (toFn (s.fld (EVT_STEER e) EVT_STEER_FN)) (s.fld (EVT_STEER e) EVT_STEER_VEC)
    else s

/-- A device-wide event. DEDUCED: log entry 170. -/
def State.raise (s : State) (e : Nat) (detail : List Nat) : State := s.raiseIn e 31 0xFF detail

/-- R451: the source of station `n` with offset `i`. -/
def stnEvent (n i : Nat) : Nat := 128 + 24 * n + i

/-- A station event; its record names the station first. DEDUCED: log entry 170. -/
def State.raiseStn (s : State) (n i : Nat) (detail : List Nat) : State := s.raiseIn (stnEvent n i) n 0xFF (n :: detail)

/-- R454: a ring fault of function `f` raises E034 and sends one message on the function's vector 0. -/
def State.ringFault (s : State) (f : Nat) (detail : List Nat) : State :=
  (s.raiseIn 34 31 f detail).eventMsg (toFn f) 0

/-- R459: FAULT# is low: a pending event has FAULT set, the CORE SRAMs are unusable, or TSD is 1. DEDUCED: log entry 169. -/
def State.faultCause (s : State) : Bool :=
  (List.range 16).any (fun i => s.reg (EVT_PEND i) != 0 &&
    (List.range 32).any (fun j => (s.reg (EVT_PEND i)).getLsbD j && s.bit (EVT_STEER (32 * i + j)) EVT_STEER_FAULT))
  || s.evt.coreSramBad || s.bit HLTH_STAT HLTH_STAT_TSD

/-- FAULT# follows its causes (R459). DEDUCED: log entry 169. -/
def State.settle (s : State) : State := { s with pins.faultLow := s.faultCause }

/-- R463: a source of wear indicator `w` gives `x` in this hour. -/
def State.addWear (s : State) (w x : Nat) : State :=
  let e := SMap.getD s.evt.wearSum (0, 0) w
  { s with evt.wearSum := SMap.put s.evt.wearSum (0, 0) w (e.1 + x, e.2 + 1) }

/-- R456: a machine check is counted and its context named. -/
def State.countCheck (s : State) (ctx : Nat) : State :=
  (s.bump MC_LAST MC_LAST_COUNT 1).setFld MC_LAST MC_LAST_CTX ctx

/-- Context `c` enters FATAL (HLTH_STAT.FATAL). -/
def State.setFatal (s : State) (c : Nat) : State := s.setReg HLTH_STAT (s.reg HLTH_STAT ||| (1#32 <<< c))
def State.clearFatal (s : State) (c : Nat) : State := s.setReg HLTH_STAT (s.reg HLTH_STAT &&& ~~~(1#32 <<< c))

end Sys2Proof.Machine
end

