-- ==== Sys2Proof/Machine/Memory.lean ====
section
/-!
DEFINITION. Buffer memory, its layout and selectors (R380 to R385), ECC and poison (R392 to R394), pools (R399 to R403) and
the control cache (R404 to R410), and the end of every command's meaning.
-/

namespace Sys2Proof.Machine

/-! ## Bytes of buffer memory -/

/-- The byte at address `a`. DESIGN CHOICE: log entry 7. -/
def Memory.byte (m : Memory) (a : Nat) : Byte := SMap.getD m 0#8 a

/-- `m` with byte `a` set to `b`. -/
def Memory.put (m : Memory) (a : Nat) (b : Byte) : Memory := SMap.put m 0#8 a b

def Memory.read (m : Memory) (a n : Nat) : Bytes := (List.range n).map (fun i => m.byte (a + i))

def Memory.write (m : Memory) (a : Nat) : Bytes → Memory
  | [] => m
  | b :: bs => Memory.write (m.put a b) (a + 1) bs

/-- R380: the end of the address space, 15 × 2^30. -/
def memEnd : Nat := 0x3C0000000

/-! ## Where a line lies (R384, R385, R396) -/

/-- R384: the selector s_k of an address under a mask. -/
def selector (mask a : Nat) : Bool := (List.range 34).foldl (fun b i => if mask.testBit i && a.testBit i then !b else b) false

/-- R384: (channel, bank group, bank) of an address under six masks. DESIGN CHOICE: log entry 210. -/
def memPlace (masks : List Nat) (a : Nat) : Nat × Nat × Nat :=
  let b (k : Nat) : Nat := if selector (masks.getD k 0) a then 1 else 0
  (b 0 + 2 * b 1, b 2 + 2 * b 3, b 4 + 2 * b 5)

/-- Page hints (R386). -/
inductive Hint where
  | open' | close | auto
  deriving DecidableEq, Repr

/-- R386: the hint of a port's requests: OPEN for the write-out, the capture ring and the carve clusters, CLOSE for the ledger engine and the lehr,
AUTO for every other. DEDUCED: log entry 209. -/
def portHint (port : Nat) : Hint :=
  if port = 3 ∨ port = 5 ∨ port = 6 then .open' else if port = 8 ∨ port = 9 then .close else .auto

/-- R384: the bank of a line as a number: channel, bank group and bank. -/
def bankOf (masks : List Nat) (line : Nat) : Nat := let p := memPlace masks (64 * line); p.1 + 4 * p.2.1 + 16 * p.2.2

/-- R384: the row of a line within its bank. -/
def memRow (line : Nat) : Nat := line / 2048

/-- R385: row, line and word of a data line's check word. -/
def checkPlace (a : Nat) : Nat × Nat × Nat :=
  let l := a / 4096 % 32
  let r := a / 131072
  (122880 + r / 16, 2 * (r % 16) + l / 16, l % 16)

/-- R396: the line of the banks that holds line `l`: its own, or the spare that it is redirected to. -/
def State.physLine (s : State) (l : Nat) : Nat :=
  match (List.range 32).find? (fun i => s.bit (MEM_REMAP i) MEM_REMAP_VALID && s.fld (MEM_REMAP i) MEM_REMAP_LINE == l) with
  | some i => 130560 * 2048 + Config.sparePlace i % (512 * 2048)
  | none => l

/-- The bank that holds line `l`, its row there, and its channel. -/
def State.bank (s : State) (l : Nat) : Nat := bankOf s.mem.xor (s.physLine l)
def State.rowAt (s : State) (l : Nat) : Nat := memRow (s.physLine l)
def State.channelOf (s : State) (l : Nat) : Nat := s.bank l % 4

/-- The lines of the bytes [a, a + n). -/
def linesOf (a n : Nat) : List Nat := if n = 0 then [] else (List.range ((a + n + 63) / 64 - a / 64)).map (fun i => a / 64 + i)

/-! ## Check words (R385, R392) -/

/-- R392: the check word of a line: code, poison bit and address tag. DESIGN CHOICE: log entry 210. -/
def checkWord (data : Bytes) (poison : Bool) (line : Nat) : Nat :=
  let p := if poison then 1 else 0
  Config.secded (leNat data + p * 2 ^ 512) % 2 ^ 11 + p * 2 ^ 11 + line % 2 ^ 20 * 2 ^ 12

/-- R385: the number of the place of line `l`'s check word: its bank, row, line and word. -/
def State.checkKey (s : State) (l : Nat) : Nat :=
  let p := checkPlace (64 * s.physLine l)
  ((s.bank l * 131072 + p.1) * 32 + p.2.1) * 16 + p.2.2

/-- Line `l` carries the poison bit. -/
def State.poisoned (s : State) (l : Nat) : Bool := s.mem.poison.contains l

/-- R392: the check word of line `l` is written for the data and the poison bit that the line has. DESIGN CHOICE: log entry 210. -/
def State.sealLine (s : State) (l : Nat) : State :=
  { s with mem.check := SMap.ins (s.checkKey l) (checkWord (s.mem.data.read (64 * l) 64) (s.poisoned l) l) s.mem.check }

def State.setPoison (s : State) (l : Nat) (b : Bool) : State :=
  ({ s with mem.poison := if b then (if s.mem.poison.contains l then s.mem.poison else s.mem.poison ++ [l])
                          else s.mem.poison.filter (fun x => x != l) } : State).sealLine l

/-- R392: bytes are written, and the check words of their lines; a line written whole loses its poison mark, a line written in part keeps
it. -/
def State.memWrite (s : State) (a : Nat) (bs : Bytes) : State :=
  let full := s.mem.poison.filter (fun l => a ≤ 64 * l && 64 * l + 64 ≤ a + bs.length)
  (linesOf a bs.length).foldl (fun (s : State) l => s.sealLine l)
    { s with mem.data := s.mem.data.write a bs, mem.poison := s.mem.poison.filter (fun l => !full.contains l) }

/-- The bytes [a, a + n) are overwritten with zeros. -/
def State.wipe (s : State) (a n : Nat) : State :=
  let ls := linesOf a n
  let keys := if s.mem.check.isEmpty then [] else ls.map (fun l => s.checkKey l)
  { s with
    mem.data := s.mem.data.filter (fun e => e.1 < a || a + n ≤ e.1)
    mem.poison := s.mem.poison.filter (fun l => !(decide (a ≤ 64 * l) && decide (64 * l + 64 ≤ a + n)))
    mem.check := s.mem.check.filter (fun e => !keys.contains e.1) }

/-- Poison in any line of a range. -/
def State.rangePoisoned (s : State) (a n : Nat) : Bool := s.mem.poison.any (fun l => a < 64 * l + 64 && 64 * l < a + n)

/-- R392 to R394: what a read makes of the bits of a line and its check word that it gets wrong: 0 no error, 1 corrected, 2 uncorrectable, and the
bits that stay wrong. The code corrects one bit and finds two; the address tag, bits 524 on, is compared.
DESIGN CHOICE: log entry 210. -/
def eccOf (flips : List Nat) : Nat × List Nat :=
  let f := flips.eraseDups
  if f.any (fun k => decide (524 ≤ k)) then (2, f)
  else match f with
    | [] => (0, [])
    | [_] => (1, [])
    | [_, _] => (2, f)
    | _ => match Config.eccMany f with
      | none => (2, f)
      | some none => (0, f)
      | some (some k) => (1, if f.contains k then f.filter (fun x => x != k) else k :: f)

/-- Bytes with some of their bits, numbered from bit 0 of the first, inverted. -/
def flipBits (ks : List Nat) (bs : Bytes) : Bytes :=
  (List.zip (List.range bs.length) bs).map (fun x => ks.foldl (fun (b : Byte) k => if k / 8 = x.1 then b ^^^ (1#8 <<< (k % 8)) else b) x.2)

/-- R393, R394: a read of line `l` meets an error: 1 corrected, 2 uncorrectable. -/
def State.eccError (s : State) (l err : Nat) : State :=
  if err = 1 then ((s.bump MEM_ECC MEM_ECC_CE 1).setReg MEM_EADDR (BitVec.ofNat 32 (l % 2 ^ 28))).addWear 64 1
  else if err = 2 then
    (((s.bump MEM_ECC MEM_ECC_UE 1).setReg MEM_EADDR (BitVec.ofNat 32 (2 ^ 31 + l % 2 ^ 28))).setPoison l true).raise 15 [l]
  else s

/-- R392 to R394: line `l` is read, `flips` being the bits of it and of its check word that have failed: it stands corrected, or as read.
DESIGN CHOICE: log entry 210. -/
def State.eccLine (s : State) (l : Nat) (flips : List Nat) : State :=
  let (k, stay) := eccOf flips
  let bad := stay.filter (fun x => decide (x < 512))
  let s : State := if bad.isEmpty then s else { s with mem.data := s.mem.data.write (64 * l) (flipBits bad (s.mem.data.read (64 * l) 64)) }
  let s := (if stay.contains 523 then s.setPoison l (!s.poisoned l) else s).eccError l k
  if flips.isEmpty then s else s.sealLine l

/-- The lines of [a, a + n) that are read, each with its failed bits. -/
def State.eccLines (s : State) (a n : Nat) (wrong : List (Nat × List LineBit)) : State :=
  (wrong.filter (fun x => decide (a < 64 * x.1 + 64 ∧ 64 * x.1 < a + n))).foldl (fun (s : State) x => s.eccLine x.1 (x.2.map (·.val))) s

/-! ## Layout and selectors -/

def mib2 : Nat := 2097152

/-- Base and size of region r of Table 14.1 in the layout in force: 0 bench, 1 table, 2 capture ring, 3 ledger, 4 pools. -/
def State.region (s : State) (r : Nat) : Nat × Nat :=
  let z (i : Nat) : Nat := mib2 * s.mem.layout.getD i 0
  let t := 0x4000000
  if r = 0 then (0, t)
  else if r = 1 then (t, z 0)
  else if r = 2 then (t + z 0, z 1)
  else if r = 3 then (t + z 0 + z 1, z 2)
  else (t + z 0 + z 1 + z 2, memEnd - (t + z 0 + z 1 + z 2))

def State.inRegion (s : State) (r a n : Nat) : Bool := decide ((s.region r).1 ≤ a ∧ a + n ≤ (s.region r).1 + (s.region r).2)

def poolSize (p : Nat) : Nat := [256, 4096, 65536, 2097152].getD p 2097152

/-- R381: the bytes that the regions and pools would take with the values `v` (MEM_LAY 0 to 2, POOL_CNT 0 to 3). -/
def layoutBytes (v : List Nat) : Nat :=
  0x4000000 + mib2 * (v.getD 0 0 + v.getD 1 0 + v.getD 2 0)
  + 256 * v.getD 3 0 + 4096 * v.getD 4 0 + 65536 * v.getD 5 0 + 2097152 * v.getD 6 0

/-- The values the layout registers hold. -/
def State.layoutRegs (s : State) : List Nat :=
  [s.fld (MEM_LAY 0) MEM_LAY_SIZE, s.fld (MEM_LAY 1) MEM_LAY_SIZE, s.fld (MEM_LAY 2) MEM_LAY_SIZE,
   s.fld (POOL_CNT 0) POOL_CNT_COUNT, s.fld (POOL_CNT 1) POOL_CNT_COUNT, s.fld (POOL_CNT 2) POOL_CNT_COUNT,
   s.fld (POOL_CNT 3) POOL_CNT_COUNT]

/-- R381, R399: a write of MEM_LAY(i), i below 3, or POOL_CNT(i - 3). -/
def State.writeLayout (s : State) (i : Nat) (w : Word) : State :=
  let v := if i < 3 then fldGet MEM_LAY_SIZE w else fldGet POOL_CNT_COUNT w
  if s.bit MEM_CTL MEM_CTL_LOCK || decide (layoutBytes (s.layoutRegs.set i v) > memEnd ∨ (i = 6 ∧ v < 65) ∨ (3 ≤ i ∧ v > 4194304)) then
    s.raise 17 []
  else if i < 3 then s.setFld (MEM_LAY i) MEM_LAY_SIZE v
  else (s.setFld (POOL_CNT (i - 3)) POOL_CNT_COUNT v).setFld (POOL_STAT (i - 3)) POOL_STAT_FREE v

/-- R384: a write of MEM_XOR_LO(k) or MEM_XOR_HI(k). -/
def State.writeXor (s : State) (k : Nat) (hi : Bool) (w : Word) : State :=
  let ok := if hi then decide (w.toNat < 4) else decide (w.toNat % 4096 = 2 ^ (6 + k))
  if s.bit MEM_CTL MEM_CTL_LOCK || !ok then s.raise 17 []
  else if hi then s.setReg (MEM_XOR_HI k) w else s.setReg (MEM_XOR_LO k) w

/-- A row hit: the line's row is open. -/
def State.rowHit (s : State) (line : Nat) : Bool := match SMap.get? s.mem.rows (s.bank line) with
  | some (r, _) => r == s.rowAt line
  | none => false

/-- R386: an access to a line opens its row, in place of another, and leaves it open or closes it as the hint says.
DEDUCED: log entry 209. -/
def State.touchLine (s : State) (h : Hint) (line : Nat) : State :=
  let b := s.bank line
  match h with
  | .open' => { s with mem.rows := SMap.ins b (s.rowAt line, false) s.mem.rows }
  | .close => { s with mem.rows := SMap.del b s.mem.rows }
  | .auto => { s with mem.rows := SMap.ins b (s.rowAt line, true) s.mem.rows }

/-- R386: a request that waits for the line's bank misses the line's row. DEDUCED: log entry 214. -/
def State.missWaits (s : State) (line : Nat) : Bool :=
  s.mem.waiting.any (fun r => r.left.any (fun x => s.bank x == s.bank line && s.rowAt x != s.rowAt line))

/-- R386: the hint with which a port's access to a line takes effect: AUTO closes the row for a waiting request that misses it.
DEDUCED: log entry 209. -/
def State.hintFor (s : State) (port line : Nat) : Hint :=
  if portHint port = .auto ∧ s.missWaits line then .close else portHint port

/-- R386: a request that has come to wait closes the rows that AUTO has left open and that it misses. DEDUCED: log entry 209. -/
def State.missCloses (s : State) (r : MemReq) : State :=
  let miss (b row : Nat) : Bool := r.left.any (fun x => s.bank x == b && s.rowAt x != row)
  { s with mem.rows := s.mem.rows.filter (fun e => !(e.2.2 && miss e.1 e.2.1)) }

/-- The lines of a port's request are accessed (R386). -/
def State.touch (s : State) (port a n : Nat) : State :=
  (linesOf a n).foldl (fun (s : State) l => s.touchLine (s.hintFor port l) l) s

/-- R386: rows left open by AUTO close 64 memory clocks after the last hit. DESIGN CHOICE: log entry 1. DEDUCED: log entry 209. -/
def State.closeRows (s : State) : State := { s with mem.rows := s.mem.rows.filter (fun e => !e.2.2) }

/-- R396: line `l` is copied to the place that `change` gives it, with its poison bit: its old place is read, and its new one and the check
word there are written. -/
def State.moveLine (s : State) (l : Nat) (change : State → State) : State :=
  let s := change (s.touchLine .auto l)
  (s.touchLine .auto l).sealLine l

/-- R396: a write of MEM_REMAP(i). -/
def State.writeRemap (s : State) (i : Nat) (w : Word) : State :=
  let v := fldGet MEM_REMAP_VALID w
  let l := fldGet MEM_REMAP_LINE w
  if s.bit (MEM_REMAP i) MEM_REMAP_VALID then
    if v = 0 then s.moveLine (s.fld (MEM_REMAP i) MEM_REMAP_LINE) (fun s => s.setFld (MEM_REMAP i) MEM_REMAP_VALID 0) else s
  else if v = 0 then s.setFld (MEM_REMAP i) MEM_REMAP_LINE l
  else if (List.range 32).any (fun j => j != i && s.bit (MEM_REMAP j) MEM_REMAP_VALID && s.fld (MEM_REMAP j) MEM_REMAP_LINE == l) then
    s.raise 20 [i]
  else (s.setFld (MEM_REMAP i) MEM_REMAP_LINE l).moveLine l (fun s => s.setFld (MEM_REMAP i) MEM_REMAP_VALID 1)

/-! ## Pools -/

/-- The buffers of pool p that are free. -/
def State.poolFree (s : State) (p : Nat) : Nat :=
  let q := s.mem.pools.getD p {}
  (s.mem.layout.getD (3 + p) 0 - q.next) + q.freed.length

/-- POOL_STAT shows FREE and LOW; a rise to the watermark raises its event (R403). -/
def State.poolStat (s : State) (p : Nat) : State :=
  let free := s.poolFree p
  let low := decide (256 * free < s.fld (POOL_STAT p) POOL_STAT_WM * s.mem.layout.getD (3 + p) 0)
  let was := s.bit (POOL_STAT p) POOL_STAT_LOW
  let s := (s.setFld (POOL_STAT p) POOL_STAT_FREE free).setBit (POOL_STAT p) POOL_STAT_LOW low
  if was && !low then s.raise (24 + p) [] else s

/-- The smallest pool whose buffers hold `size` bytes (R399). -/
def poolFor (size : Nat) : Option Nat :=
  if size ≤ 256 then some 0 else if size ≤ 4096 then some 1 else if size ≤ 65536 then some 2
  else if size ≤ 2097152 then some 3 else none

/-- R402: a refused pool operation. DEDUCED: log entry 119. -/
def State.poolRefuse (s : State) (who op why : Nat) : State :=
  let s := s.bump POOL_ERR POOL_ERR_COUNT 1
  let s := ((s.setFld POOL_ERR POOL_ERR_WHO who).setFld POOL_ERR POOL_ERR_OP op).setFld POOL_ERR POOL_ERR_WHY why
  s.raise 23 [who, why]

def State.setPool (s : State) (p : Nat) (q : Pool) : State := { s with mem.pools := s.mem.pools.set p q }

/-- The handle of buffer `i` of pool `p` (R400). -/
def mkHandle (p i gen : Nat) : Nat := p * 2 ^ 30 + i * 256 + gen
def hPool (h : Nat) : Nat := h / 2 ^ 30 % 4
def hIndex (h : Nat) : Nat := h / 256 % 2 ^ 22
def hGen (h : Nat) : Nat := h % 256

/-- ALLOC (Table 14.6, R399): the head of the cullet list of the smallest fitting pool, or EMPTY. DEDUCED: log entry 120. -/
def State.alloc (s : State) (size who : Nat) (schuss : Bool) : Option Nat × State := match poolFor size with
  | none => (none, s.poolRefuse who 0 6)
  | some p =>
    let q := s.mem.pools.getD p {}
    let keep := if p = 3 ∧ ¬ schuss then 64 else 0
    if s.poolFree p ≤ keep then (none, s)
    else
      let take : Nat × Pool := if q.next < s.mem.layout.getD (3 + p) 0 then (q.next, { q with next := q.next + 1 })
        else (q.freed.headD 0, { q with freed := q.freed.drop 1 })
      let i := take.1
      let q := { take.2 with holders := SMap.ins i ([who], who) take.2.holders }
      (some (mkHandle p i (SMap.getD q.gens 0 i)), (s.setPool p q).poolStat p)

/-- R400 check 2: an offset and a length within a buffer. -/
def offsetOk (h off len : Nat) : Bool := decide (off % 64 = 0 ∧ off + len ≤ poolSize (hPool h))

/-- R400: the reason a handle fails its checks, if any, and its buffer's holders. DEDUCED: log entry 119. -/
def State.checkHandle (s : State) (h : Nat) (off len : Nat := 0) : Option Nat :=
  let q := s.mem.pools.getD (hPool h) {}
  if s.mem.layout.getD (3 + hPool h) 0 ≤ hIndex h then some 0
  else if !offsetOk h off len then some 1
  else if SMap.getD q.gens 0 (hIndex h) ≠ hGen h then some 2
  else none

def State.holdersOf (s : State) (h : Nat) : List Nat × Nat :=
  SMap.getD (s.mem.pools.getD (hPool h) {}).holders ([], 32) (hIndex h)

def State.setHolders (s : State) (h : Nat) (v : List Nat × Nat) : State :=
  let q := s.mem.pools.getD (hPool h) {}
  s.setPool (hPool h) { q with holders := SMap.ins (hIndex h) v q.holders }

/-- SHARE (Table 14.6). -/
def State.share (s : State) (h who new owner : Nat) (off len : Nat := 0) : State := match s.checkHandle h off len with
  | some why => s.poolRefuse who 1 why
  | none =>
    let (hs, _) := s.holdersOf h
    if !hs.contains who then s.poolRefuse who 1 3
    else if owner ≠ who ∧ owner ≠ new then s.poolRefuse who 1 4
    else s.setHolders h (if hs.contains new then hs else hs ++ [new], owner)

/-- RELEASE (Table 14.6). -/
def State.release (s : State) (h who : Nat) (off len : Nat := 0) : State := match s.checkHandle h off len with
  | some why => s.poolRefuse who 2 why
  | none =>
    let (hs, o) := s.holdersOf h
    if !hs.contains who then s.poolRefuse who 2 3
    else if o = who then s.poolRefuse who 2 4
    else s.setHolders h (hs.filter (fun x => x != who), o)

/-- FREE (Table 14.6): the generation rises and the buffer joins the tail of its cullet list. DEDUCED: log entry 120. -/
def State.freeBuf (s : State) (h who : Nat) (off len : Nat := 0) : State := match s.checkHandle h off len with
  | some why => s.poolRefuse who 3 why
  | none =>
    let (hs, o) := s.holdersOf h
    if o ≠ who then s.poolRefuse who 3 4
    else if hs ≠ [who] then s.poolRefuse who 3 (if hs.contains who then 5 else 3)
    else
      let p := hPool h
      let i := hIndex h
      let q := s.mem.pools.getD p {}
      let q := { q with freed := q.freed ++ [i], holders := SMap.del i q.holders, gens := SMap.put q.gens 0 i ((hGen h + 1) % 256) }
      (s.setPool p q).poolStat p

/-- The dispatcher's requester ID (Table 14.5). -/
def reqDispatcher : Nat := 1

/-- R320: the ALLOC sizes that `n` bytes of buffer take: whole 2 MiB buffers and one for the rest. DEDUCED: log entry 36. -/
def bufSizes (n : Nat) : List Nat := List.replicate (n / mib2) mib2 ++ if n % mib2 = 0 then [] else [n % mib2]

/-- R320: all the buffers of a command at once, or none. DEDUCED: log entry 36. -/
def State.allocAll (s : State) (sizes : List Nat) (schuss : Bool) : Option (List Nat) × State :=
  let r := sizes.foldl (fun (acc : Option (List Nat) × State) z => match acc.1 with
    | none => acc
    | some hs => match acc.2.alloc z reqDispatcher schuss with
      | (some h, s) => (some (hs ++ [h]), s)
      | (none, s) => (none, s)) (some [], s)
  match r.1 with
  | some hs => (some hs, r.2)
  | none => (none, s)

/-- R320: could the class ever reserve `sizes` with every buffer free? -/
def State.everFits (s : State) (sizes : List Nat) (schuss : Bool) : Bool :=
  (List.range 4).all (fun p => decide ((sizes.filter (fun z => poolFor z == some p)).length
    ≤ s.mem.layout.getD (3 + p) 0 - (if p = 3 ∧ ¬ schuss then 64 else 0)))

/-! ## The control cache -/

/-- R404: bench area, table area and ledger region are cached. -/
def State.cacheable (s : State) (a : Nat) : Bool := s.inRegion 0 a 1 || s.inRegion 1 a 1 || s.inRegion 3 a 1

def cacheSet (line : Nat) : Nat := line % 2048

/-- The way that holds a line. -/
def State.cacheWay (s : State) (line : Nat) : Option Nat :=
  (List.range 16).find? (fun w => match SMap.get? s.mem.cache (16 * cacheSet line + w) with
    | some c => c.line == line | none => false)

def State.setLine (s : State) (w : Nat) (c : CLine) : State :=
  { s with mem.cache := SMap.ins (16 * cacheSet c.line + w) c s.mem.cache }
def State.dropLine (s : State) (line w : Nat) : State :=
  { s with mem.cache := SMap.del (16 * cacheSet line + w) s.mem.cache }

/-- A dirty line goes back to buffer memory. -/
def State.writeBack (s : State) (c : CLine) : State :=
  if c.dirty then
    let s := (s.touch 7 (64 * c.line) 64).memWrite (64 * c.line) c.data
    s.setPoison c.line c.poison
  else s

/-- R236, R406, Table 16.8: the way that holds the locked frames: 15, or 14 with way 15 unusable. -/
def State.frameWay (s : State) : Nat := if (s.reg BIST_UNUS).getLsbD 23 then 14 else 15

/-- R406: way `w` is locked. -/
def State.wayLocked (s : State) (w : Nat) : Bool := w == 15 || w == s.frameWay || (s.reg CC_CTL).getLsbD w

/-- R406, Table 16.8: way `w` takes no part in replacement: it is locked, unusable, or a PRELOAD fills it. -/
def State.wayBusy (s : State) (w : Nat) : Bool :=
  s.wayLocked w || (s.reg BIST_UNUS).getLsbD (8 + w)
  || (s.bit CC_MAINT CC_MAINT_BUSY && s.fld CC_MAINT CC_MAINT_OP == 4 && s.fld CC_MAINT CC_MAINT_WAY == w)

/-- R405: one step of the LFSR x^16 + x^14 + x^13 + x^11 + 1. -/
def lfsrStep (l : Nat) : Nat :=
  let b := (l.testBit 0 ^^ l.testBit 2 ^^ l.testBit 3 ^^ l.testBit 5)
  l / 2 + if b then 32768 else 0

/-- R405: the victim way: bits 3:0 of the LFSR, or the next higher usable way, modulo 16. -/
def State.victim (s : State) : Nat :=
  let w0 := s.mem.lfsr % 16
  match ((List.range 16).map (fun i => (w0 + i) % 16)).find? (fun w => !s.wayBusy w) with
  | some w => w
  | none => w0

/-- A line is filled into way `w` from buffer memory with owner `ctx`. -/
def State.fillLine (s : State) (line w ctx : Nat) : State :=
  let s := match SMap.get? s.mem.cache (16 * cacheSet line + w) with
    | some old => s.writeBack old
    | none => s
  (s.touch 7 (64 * line) 64).setLine w ⟨line, s.mem.data.read (64 * line) 64, false, ctx, s.poisoned line⟩

/-- R404, R405: a line is found, or installed in the victim way. -/
def State.cacheGet (s : State) (line ctx : Nat) : Nat × State := match s.cacheWay line with
  | some w => (w, s)
  | none =>
    let w := s.victim
    let s := { s with mem.lfsr := lfsrStep s.mem.lfsr }
    (w, s.fillLine line w ctx)

def State.lineAt (s : State) (line w : Nat) : CLine :=
  SMap.getD s.mem.cache ⟨line, zeros 64, false, 0, false⟩ (16 * cacheSet line + w)

def patch (d : Bytes) (off : Nat) (bs : Bytes) : Bytes := d.take off ++ bs ++ d.drop (off + bs.length)

/-- A cached write within one line; a bench core write takes ownership (R407), and a write of the whole line clears the mark (R394). -/
def State.cacheWrite (s : State) (a ctx : Nat) (bs : Bytes) : State :=
  let (w, s) := s.cacheGet (a / 64) ctx
  let c := s.lineAt (a / 64) w
  s.setLine w { c with data := patch c.data (a % 64) bs, dirty := true, owner := if ctx = ctxBENCH then ctxBENCH else c.owner,
                         poison := c.poison && decide (bs.length < 64) }

/-- A cached read within one line: the bytes and the line's poison mark. -/
def State.cacheRead (s : State) (a n ctx : Nat) : Bytes × Bool × State :=
  let (w, s) := s.cacheGet (a / 64) ctx
  let c := s.lineAt (a / 64) w
  (slice c.data (a % 64) n, c.poison, s)

/-- What a table read sees (R382, R383): the cached copy if there is one, else buffer memory. -/
def State.tableRead (s : State) (a n : Nat) : Bytes :=
  (List.range n).map (fun i => match s.cacheWay ((a + i) / 64) with
    | some w => (s.lineAt ((a + i) / 64) w).data.getD ((a + i) % 64) 0
    | none => s.mem.data.byte (a + i))

/-- R382, R383: the mark that a table read sees: the cached copy's if there is one. -/
def State.tablePoisoned (s : State) (a n : Nat) : Bool :=
  (linesOf a n).any (fun l => match s.cacheWay l with
    | some w => (s.lineAt l w).poison
    | none => s.poisoned l)

/-- R409: the lines of a maintenance operation. -/
def State.maintLines (s : State) : List Nat :=
  let a := (s.fld CC_MAINT_LO CC_MAINT_LO_ADDR + 2 ^ 26 * s.fld CC_MAINT_HI CC_MAINT_HI_ADDR)
  (List.range (max 1 (s.fld CC_MAINT CC_MAINT_LEN))).map (fun i => a + i)

/-- R409: one line under CLEAN (bit 0 of `op`) and INVALIDATE (bit 1 of `op`). -/
def State.maintLine (s : State) (op line : Nat) : State := match s.cacheWay line with
  | none => s
  | some w =>
    let c := s.lineAt line w
    let locked := s.wayLocked w
    if op = 1 then (s.writeBack c).setLine w { c with dirty := false }
    else if locked then s
    else if op = 2 then s.dropLine line w
    else (s.writeBack c).dropLine line w

/-- R409, R406: the operation that CC_MAINT names acts; BUSY falls at CC_MAINT_DONE. A PRELOAD of a region that is never cached (R404) fills
nothing, and one beyond the address space is refused (R380). DEDUCED: log entry 118. -/
def State.maintRun (s : State) : State :=
  let op := s.fld CC_MAINT CC_MAINT_OP
  if 1 ≤ op ∧ op ≤ 3 then s.maintLines.foldl (fun s l => s.maintLine op l) s
  else if op = 4 then
    s.maintLines.foldl (fun s l =>
      let way := s.fld CC_MAINT CC_MAINT_WAY
      if memEnd ≤ 64 * l then s.raise 16 [7]
      else if !s.cacheable (64 * l) then s
      else if (match s.cacheWay l with | some w => w != way && s.wayLocked w | none => false) then s
      else
      let s := match s.cacheWay l with | some w => (s.writeBack (s.lineAt l w)).dropLine l w | none => s
      s.fillLine l (s.fld CC_MAINT CC_MAINT_WAY) (s.fld CC_MAINT CC_MAINT_CTX)) s
  else s

/-- R409: a write of CC_MAINT; GO while BUSY is discarded. -/
def State.writeMaint (s : State) (w : Word) : State :=
  if s.bit CC_MAINT CC_MAINT_BUSY then s
  else
    let s := s.setReg CC_MAINT (w &&& 0x01FFFFFF#32)
    let op := fldGet CC_MAINT_OP w
    if fldGet CC_MAINT_GO w = 0 ∨ op = 0 ∨ 4 < op ∨ (op = 4 ∧ fldGet CC_MAINT_WAY w = 15) then s
    else (s.setBit CC_MAINT CC_MAINT_BUSY true).maintRun

/-- R405, R406: a write of CC_CTL. DEDUCED: log entry 126. -/
def State.writeCcCtl (s : State) (w : Word) : State :=
  let seed := fldGet CC_CTL_SEED w
  let lock := fldGet CC_CTL_LOCK w
  if lock = 0x7FFF then s.raise 28 []
  else
    let s : State := { (s.setFld CC_CTL CC_CTL_SEED seed) with mem.lfsr := if seed = 0 then 0xACE1 else seed }
    let filling : Nat := if s.bit CC_MAINT CC_MAINT_BUSY = true ∧ s.fld CC_MAINT CC_MAINT_OP = 4 then 2 ^ s.fld CC_MAINT CC_MAINT_WAY else 0
    let due := lock &&& filling &&& (0x7FFF - s.fld CC_CTL CC_CTL_LOCK)
    { (s.setFld CC_CTL CC_CTL_LOCK (lock - due)) with mem.lockDue := due }

/-- R236, R406: the frames of every station are preloaded into their way. -/
def State.loadFrames (s : State) : State :=
  (List.range 48).foldl (fun s i => s.fillLine (0x1000 / 64 + i) s.frameWay (i / 3)) s

/-! ## The window (R383) -/

def State.waddr (s : State) : Nat := 4 * s.fld MEM_WADDR_LO MEM_WADDR_LO_ADDR + 2 ^ 32 * s.fld MEM_WADDR_HI MEM_WADDR_HI_ADDR

def State.setWaddr (s : State) (a : Nat) : State :=
  (s.setReg MEM_WADDR_LO (BitVec.ofNat 32 (a % 2 ^ 32))).setReg MEM_WADDR_HI (BitVec.ofNat 32 (a / 2 ^ 32 % 4))

/-- R383: a window write: buffer memory and any cached copy take it, and the address advances. -/
def State.windowWrite (s : State) (w : Word) : State :=
  let a := s.waddr
  let s := if s.inRegion 1 a 4 then
      let bs := leBytes 4 w.toNat
      let s := (s.touch 7 a 4).memWrite a bs
      let s := s.setReg MEM_WDATA w
      match s.cacheWay (a / 64) with
      | some k => let c := s.lineAt (a / 64) k; s.setLine k { c with data := patch c.data (a % 64) bs }
      | none => s
    else s.setBit MEM_WSTAT MEM_WSTAT_ERR true
  s.setWaddr (a + 4)

/-- R383: a window read: the data and the address's advance. -/
def State.windowRead (s : State) : Word × State :=
  let a := s.waddr
  if s.inRegion 1 a 4 then
    let w := BitVec.ofNat 32 (leNat (s.tableRead a 4))
    let s := if s.tablePoisoned a 4 then s.setBit MEM_WSTAT MEM_WSTAT_POISON true else s
    let s := if (s.cacheWay (a / 64)).isNone then s.touch 7 a 4 else s
    (w, (s.setReg MEM_WDATA w).setWaddr (a + 4))
  else (0xFFFFFFFF#32, (s.setBit MEM_WSTAT MEM_WSTAT_ERR true).setWaddr (a + 4))

/-! ## The end of every command's meaning -/

/-- Buffers given up in this step join their cullet lists (R320, R402). -/
def State.reap (s : State) : State :=
  let hs := s.work.toFree
  hs.foldl (fun s h => s.freeBuf h reqDispatcher) { s with work.toFree := [] }

/-- A capture is outstanding. -/
def State.capturing (s : State) : Bool := s.work.cmds.any (fun c => capOPC c.caps == 0x18 && c.started && !c.ended)

/-- R381: the layout locks with the first ring, and the layout that stands is brought into force with every buffer free; it
unlocks when no ring, mounted vault or capture is left. -/
def State.layoutLock (s : State) : State :=
  let rings := !s.rings.sqs.isEmpty || !s.rings.cqs.isEmpty
  if rings && !s.bit MEM_CTL MEM_CTL_LOCK then
    let s := { s with mem.layout := s.layoutRegs, mem.pools := [{}, {}, {}, {}] }
    let s := (List.range 4).foldl (fun s p => s.setFld (POOL_STAT p) POOL_STAT_FREE (s.poolFree p)) s
    s.setBit MEM_CTL MEM_CTL_LOCK true
  else if !rings && s.bit MEM_CTL MEM_CTL_LOCK && s.ledger.vaults.isEmpty && !s.capturing then s.setBit MEM_CTL MEM_CTL_LOCK false
  else s

end Sys2Proof.Machine
end

