-- ==== Sys2Proof/Machine/Rings.lean ====
section
/-!
DEFINITION. Ring set-up (R270 to R276), doorbells and polls (R277 to R281), completion entries and their messages (R285 to
R288), ring faults (R296), and what waits for entries to be posted (R275, R310, R315, R316).
-/

namespace Sys2Proof.Machine

/-- Rings of function `f` in existence. -/
def State.sqUsed (s : State) (f : Nat) : Nat := (s.rings.sqs.filter (fun e => e.1 / 256 == f)).length
def State.cqUsed (s : State) (f : Nat) : Nat := (s.rings.cqs.filter (fun e => e.1 / 256 == f)).length

/-- QS_INFO shows the rings in existence; LOCK clears when none is left (R258). -/
def State.ringCount (s : State) (f : Nat) : State :=
  let s := (s.setFld (QS_INFO f) QS_INFO_SQ_USED (s.sqUsed f)).setFld (QS_INFO f) QS_INFO_CQ_USED (s.cqUsed f)
  if s.hasRing f then s else s.setBit (FEAT_STAT f) FEAT_STAT_LOCK false

/-- R273: the next epoch: 0xFFFF is followed by 0x0001. -/
def nextEpoch (e : Nat) : Nat := if e ≥ 65535 then 1 else e + 1

/-- Argument i of the set-up operation (Table 10.1). -/
def State.qsArg (s : State) (f i : Nat) : Nat := (s.reg (QS_ARG f i)).toNat

/-- ARG0, ARG1, ARG2 and ARG5 are as Table 10.1 requires. -/
def State.argsOk (s : State) (f : Nat) : Bool :=
  decide (s.qsArg f 0 % 4096 = 0 ∧ 16 ≤ s.qsArg f 2 ∧ s.qsArg f 2 ≤ 65536
    ∧ s.qsArg f 5 &&& 0x7FF00000 = 0)

/-- R271: an operation ends: BUSY clears and STATUS reports. -/
def State.qsDone (s : State) (f : Nat) (st : Status) : State :=
  (s.setBit (QS_STAT f) QS_STAT_BUSY false).setFld (QS_STAT f) QS_STAT_STATUS (statusCode st)

/-- R258: the first ring locks the features, before the create is checked. -/
def State.lockFeatures (s : State) (f : Nat) : State := s.setBit (FEAT_STAT f) FEAT_STAT_LOCK true

/-- R261, R265: checks common to both kinds of create. -/
def State.createOk (s : State) (f : Nat) : Bool :=
  s.argsOk f && s.bit (QS_DB_LO f) QS_DB_LO_VALID
  && (decide (s.qsArg f 5 < 2 ^ 31) || s.pcie.pasidEn)
  && !s.ideHeld

def State.argPasid (s : State) (f : Nat) : Option Nat :=
  if s.qsArg f 5 ≥ 2 ^ 31 then some (s.qsArg f 5 % 2 ^ 20) else none

/-- CREATE_CQ (R272, R273). `word` is the doorbell word that stands in host memory, 0 where none is given.
DESIGN CHOICE: log entry 114. -/
def State.createCq (s : State) (f k : Nat) (word : Option (BitVec 64)) : State :=
  let s := s.lockFeatures f
  let a3 := s.qsArg f 3
  if !s.createOk f || (s.cq? f k).isSome || decide (s.fld (QS_LIM f) QS_LIM_CQ_MAX < s.cqUsed f + 1)
      || decide (a3 &&& 0x7F00FF00 ≠ 0 ∨ 65536 ≤ s.qsArg f 4 ∨ s.vecCount f ≤ a3 % 256) then
    (s.qsDone f .invalidField).ringCount f
  else if s.rings.cqs.length ≥ 1024 then (s.qsDone f .bufferExhausted).ringCount f
  else
    let ep := nextEpoch (SMap.getD s.rings.cqEpoch 0 (ringKey f k))
    let q : Cq := ⟨s.qsArg f 0 + 2 ^ 32 * s.qsArg f 1, s.qsArg f 2, decide (2 ^ 31 ≤ a3), a3 / 65536 % 256, a3 % 256,
      s.qsArg f 4, s.argPasid f, 0, some (word.getD 0), [], 0, false⟩
    let s := { s with rings.cqEpoch := SMap.put s.rings.cqEpoch 0 (ringKey f k) ep }
    let s := (s.putCq f k q).setReg (CQ_STAT f k) 0x5#32
    ((s.qsDone f .ok).setFld (QS_STAT f) QS_STAT_EPOCH ep).ringCount f

/-- CREATE_SQ (R272, R273). DESIGN CHOICE: log entry 114. -/
def State.createSq (s : State) (f k : Nat) (word : Option (BitVec 64)) : State :=
  let s := s.lockFeatures f
  let a3 := s.qsArg f 3
  let cls := a3 / 256 % 4
  let chained := decide (a3 / 1024 % 2 = 1)
  if !s.createOk f || (s.sq? f k).isSome || decide (s.fld (QS_LIM f) QS_LIM_SQ_MAX < s.sqUsed f + 1)
      || !s.bit (QS_SH_LO f) QS_SH_LO_VALID
      || decide (2048 ≤ a3 ∨ s.qsArg f 4 ≠ 0 ∨ cls = 3) || (s.cq? f (a3 % 256)).isNone
      || (decide (cls = 1) && !s.accepted f featSchuss) || (chained && !s.accepted f featChained) then
    (s.qsDone f .invalidField).ringCount f
  else if s.rings.sqs.length ≥ 1024 then (s.qsDone f .bufferExhausted).ringCount f
  else
    let ep := nextEpoch (SMap.getD s.rings.sqEpoch 0 (ringKey f k))
    let q : Sq := ⟨s.qsArg f 0 + 2 ^ 32 * s.qsArg f 1, s.qsArg f 2, a3 % 256, cls, chained, s.argPasid f, 0, some (word.getD 0), false, false, 0, []⟩
    let s := { s with rings.sqEpoch := SMap.put s.rings.sqEpoch 0 (ringKey f k) ep }
    let s := (s.putSq f k q).setReg (SQ_STAT f k) 0x1#32
    ((s.qsDone f .ok).setFld (QS_STAT f) QS_STAT_EPOCH ep).ringCount f

/-- Commands of SQ (f, k) whose final entry is not posted. -/
def State.ofSq (s : State) (f k : Nat) : List Cmd := s.work.cmds.filter (fun c => c.fn == f && c.sq == k && !c.mute)

/-- R275: a DELETE_SQ whose commands have all posted frees its ring. -/
def State.freeDeleted (s : State) : State :=
  s.rings.deleting.foldl (fun s d =>
    let busy := s.work.cmds.any (fun c => c.fn == d.1 && c.sq == d.2 && !c.mute) ||
      (match s.sq? d.1 d.2 with | some q => q.fetch != 0 | none => false) ||
      s.rings.cqs.any (fun e => e.1 / 256 == d.1 && e.2.waiting.any (fun w => w.sq == d.2))
    if busy then s
    else
      let s := { s with rings.sqs := SMap.del (ringKey d.1 d.2) s.rings.sqs,
                        rings.deleting := s.rings.deleting.filter (fun x => x != d),
                        work.written := s.work.written.filter (fun e => !(e.1.1 == d.1 && e.1.2.1 == d.2)) }
      ((s.setFld (SQ_STAT d.1 d.2) SQ_STAT_STATE 0).qsDone d.1 .ok).ringCount d.1) s

/-- DELETE_SQ (R275): fetching stops; commands read but not started end with ABORTED_BY_HOST, a capsule whose read is in flight once it is there
(R297). -/
def State.deleteSq (s : State) (f k : Nat) : State := match s.sq? f k with
  | none => s.qsDone f .invalidField
  | some q =>
    let s := if q.fetch = 0 then s else s.putSq f k { q with fetch := 2 }
    let s := s.setFld (SQ_STAT f k) SQ_STAT_STATE 2
    let ids := ((s.ofSq f k).filter (fun c => !c.started && !c.ended)).map (·.id)
    let s := ids.foldl (fun s i => s.finish i .abortedByHost) s
    let s := { s with rings.deleting := s.rings.deleting ++ [(f, k)] }
    s.freeDeleted

/-- DELETE_CQ (R275). -/
def State.deleteCq (s : State) (f k : Nat) : State :=
  if (s.cq? f k).isNone || s.rings.sqs.any (fun e => e.1 / 256 == f && e.2.cq == k) then s.qsDone f .invalidField
  else
    let s := { s with rings.cqs := SMap.del (ringKey f k) s.rings.cqs }
    ((s.setFld (CQ_STAT f k) CQ_STAT_STATE 0).qsDone f .ok).ringCount f

/-- A write of QS_CMD (R271): refused while BUSY; with GO the operation runs. -/
def State.qsCmd (s : State) (f : Nat) (w : Word) (word : Option (BitVec 64)) : State :=
  if s.bit (QS_STAT f) QS_STAT_BUSY then s.setBit (QS_STAT f) QS_STAT_REFUSED true
  else
    let s := s.setReg (QS_CMD f) (w &&& 0x00FF00FF#32)
    let k := fldGet QS_CMD_RING w
    let op := fldGet QS_CMD_OP w
    if fldGet QS_CMD_GO w = 0 then s
    else
      let s := s.setBit (QS_STAT f) QS_STAT_BUSY true
      if op = 1 then s.createCq f k word
      else if op = 2 then s.createSq f k word
      else if op = 3 then s.deleteSq f k
      else if op = 4 then s.deleteCq f k
      else s.qsDone f .invalidOpcode

/-! ## Polls and doorbells -/

/-- R249, R257, R265, R296, R425: function `f` may be polled. -/
def State.mayPoll (s : State) (f : Fn) : Bool :=
  s.fnExists f.val && !(s.func f).d3hot && s.bit ID_DEV ID_DEV_READY && s.isOn domHOST && s.isOn domCORE && !s.ideHeld
  && !s.bit (QS_FLT f.val) QS_FLT_POLL_FAULT && s.hasRing f.val

def State.dbBase (s : State) (f : Nat) : Nat :=
  (s.reg (QS_DB_LO f)).toNat / 4096 * 4096 + 2 ^ 32 * (s.reg (QS_DB_HI f)).toNat
def State.shBase (s : State) (f : Nat) : Nat :=
  (s.reg (QS_SH_LO f)).toNat / 2048 * 2048 + 2 ^ 32 * (s.reg (QS_SH_HI f)).toNat
def State.qsPasid (s : State) (f : Nat) : Option Nat :=
  if s.bit (QS_PASID f) QS_PASID_PV then some (s.fld (QS_PASID f) QS_PASID_PASID) else none

/-- R260: a translation is held for the page, or the function uses none. -/
def State.holds (s : State) (f : Nat) (pasid : Option Nat) (page : Nat) : Bool :=
  !(s.func (toFn f)).ats || s.pcie.atc.contains (f, pasid, page)

/-- R280: a poll reads every doorbell word of every enabled ring of the function; `sch` says that it is one of the ACTIVE-interval
polls of an IDLE function, which read the words of SCHUSS SQs only. Polls that overlap are of one round (R300). Where no translation of the doorbell area is held, the poll waits for one (R260).
DEDUCED: log entry 233. -/
def State.poll (s : State) (f : Fn) (sch : Bool := false) : State :=
  if !s.mayPoll f then s
  else if !s.holds f.val (s.qsPasid f.val) (s.dbBase f.val / 4096) then
    (s.setFunc f (fun g => { g with pollOwed := true })).emit (.atsReq f.val (s.qsPasid f.val) (s.dbBase f.val / 4096))
  else
    let addr (base key : Nat) : Nat := s.dbBase f.val + base + 8 * (key % 256)
    let few := sch && (s.func f).idle
    let sq := (s.rings.sqs.filter (fun e => e.1 / 256 == f.val && (!few || e.2.cls == 1))).map (fun e => addr 0 e.1)
    let cq := (s.rings.cqs.filter (fun e => e.1 / 256 == f.val && !few)).map (fun e => addr 0x800 e.1)
    let rest := (List.range 64).any (fun g => g != f.val && decide (0 < (s.func (toFn g)).pollLeft))
    let s : State := { s with rings.round := if rest then s.rings.round else s.rings.round + 1 }
    let s := s.setFunc f (fun g => { g with pollLeft := (sq ++ cq).length, pollOwed := false, pollRound := s.rings.round })
    (sq ++ cq).foldl (fun s a => s.emit (.hostRead f.val (s.qsPasid f.val) a 8)) s

/-- R281: a nudge makes the function ACTIVE, wakes HOST and CORE (R425), and starts a poll, or owes one after that in flight, or once the
IDE stream is Secure again (R265). -/
def State.nudge (s : State) (f : Fn) : State :=
  let s := (s.wake domHOST).wake domCORE
  let s := s.setFunc f (fun g => { g with idle := false })
  if (s.func f).pollLeft > 0 || !s.isOn domHOST || !s.isOn domCORE || s.ideHeld then s.setFunc f (fun g => { g with pollOwed := true })
  else s.poll f

/-- One read of the poll in flight has been answered; the last one starts the poll that is owed (R281). -/
def State.pollAnswered (s : State) (f : Fn) : State :=
  let s := s.setFunc f (fun g => { g with pollLeft := g.pollLeft - 1 })
  if (s.func f).pollLeft = 0 && (s.func f).pollOwed then s.poll f else s

/-- R278: does SQ `q` with epoch `ep` and head `hd` take `w`? -/
def sqTakes (q : Sq) (ep hd : Nat) (w : BitVec 64) : Bool :=
  let idx := w.toNat % 65536
  decide (w.toNat / 65536 = ep ∧ idx < q.size ∧ (q.tail + q.size - hd) % q.size ≤ (idx + q.size - hd) % q.size)

/-- R278: does CQ `q` with epoch `ep` and tail `tl` take `w`? -/
def cqTakes (q : Cq) (ep tl : Nat) (w : BitVec 64) : Bool :=
  let idx := w.toNat % 65536
  decide (w.toNat / 65536 = ep ∧ idx < q.size ∧ (idx + q.size - q.head) % q.size ≤ (tl + q.size - q.head) % q.size)

/-- R289: the XFER_READY entries at slots the head has passed hand their commands on: `passed` names those commands. -/
def State.xrdyPassed (s : State) (ids : List Nat) : State :=
  { s with work.cmds := s.work.cmds.map (fun c => if ids.contains c.id then { c with xrdyTaken := true } else c) }

/-- R278: the read completion for a doorbell word of a CQ. A command whose XFER_READY entry lies in a slot that the head
passes has its pages resident (R290). -/
def State.cqDoorbell (s : State) (f : Fn) (k : Nat) (w : BitVec 64) : State := match s.cq? f.val k with
  | none => s
  | some q =>
    if q.lastWord = some w ∧ q.ignored = false then s
    else if cqTakes q (SMap.getD s.rings.cqEpoch 0 (ringKey f.val k)) (s.fld (CQ_STAT f.val k) CQ_STAT_TAIL) w then
      let hd := w.toNat % 65536
      let s := s.putCq f.val k { q with head := hd, lastWord := some w, ignored := false }
      let s := if q.lastWord = some w then s else s.setFunc f (fun g => { g with idle := false })
      let ids := (s.work.cmds.filter (fun c => c.fn == f.val && c.xrdyPosted && !c.xrdyTaken &&
        (match s.sq? c.fn c.sq with | some sq => sq.cq == k | none => false) &&
        decide ((c.xrdySlot + q.size - q.head) % q.size < (hd + q.size - q.head) % q.size))).map (·.id)
      (s.xrdyPassed ids).setFull f.val k
    else
      let s := if q.lastWord = some w then s else (s.bump (CQ_STAT f.val k) CQ_STAT_BADDB 1).setFunc f (fun g => { g with idle := false })
      s.putCq f.val k { q with lastWord := some w, ignored := true }

/-- R278: the read completion for a doorbell word of an SQ. A value read before is judged again only where it was ignored. -/
def State.sqDoorbell (s : State) (f : Fn) (k : Nat) (w : BitVec 64) : State := match s.sq? f.val k with
  | none => s
  | some q =>
    if q.lastWord = some w ∧ q.ignored = false then s
    else if sqTakes q (SMap.getD s.rings.sqEpoch 0 (ringKey f.val k)) (s.fld (SQ_STAT f.val k) SQ_STAT_HEAD) w then
      let idx := w.toNat % 65536
      let found := if idx = q.tail then q.found else q.found ++ [((s.func f).pollRound, idx)]
      let s := s.putSq f.val k { q with tail := idx, lastWord := some w, ignored := false, found := found }
      if q.lastWord = some w then s else s.setFunc f (fun g => { g with idle := false })
    else
      let s := if q.lastWord = some w then s else (s.bump (SQ_STAT f.val k) SQ_STAT_BADDB 1).setFunc f (fun g => { g with idle := false })
      s.putSq f.val k { q with lastWord := some w, ignored := true }

/-! ## Head shadows and completion entries -/

/-- The page in which the shadow of SQ (f, k) lies. -/
def State.shPage (s : State) (f k : Nat) : Nat := (s.shBase f + 8 * k) / 4096

/-- The shadow of SQ (f, k) is due, and no translation of its page is held. -/
def State.shadowWaits (s : State) (f k : Nat) : Bool := match s.sq? f k with
  | none => false
  | some q => q.shadowDue && !s.holds f (s.qsPasid f) (s.shPage f k)

/-- R257, R286, R287, R296: the function may write to its rings' host memory now. -/
def State.mayPost (s : State) (f : Fn) : Bool :=
  s.fnExists f.val && !(s.func f).d3hot && s.isOn domHOST && s.isOn domCORE && !s.ideHeld

/-- R296: a shadow has been written: entries that waited for it wait no more. -/
def State.shadowsDone (s : State) (f : Nat) : State :=
  if !(s.func (toFn f)).shWait then s
  else
    let s := if s.rings.sqs.any (fun e => e.1 / 256 == f && e.2.shadowDue) then s else s.setFunc (toFn f) (fun g => { g with shWait := false })
    (s.rings.cqs.filter (fun e => e.1 / 256 == f)).foldl (fun (s : State) e => s.setFull f (e.1 % 256)) s

/-- R279: the shadow of SQ (f, k) is written in the layout of R277; it waits while the function makes no DMA (R257), while SH_FAULT stands (R296), or
while no translation of its page is held (R260). -/
def State.writeShadow (s : State) (f k : Nat) : State := match s.sq? f k with
  | none => s
  | some q =>
    if !q.shadowDue || !s.mayPost (toFn f) || s.bit (QS_FLT f) QS_FLT_SH_FAULT then s
    else if !s.holds f (s.qsPasid f) (s.shPage f k) then s.emit (.atsReq f (s.qsPasid f) (s.shPage f k))
    else
      let w := SMap.getD s.rings.sqEpoch 0 (ringKey f k) * 65536 + s.fld (SQ_STAT f k) SQ_STAT_HEAD
      ((s.putSq f k { q with shadowDue := false }).emit (.hostWrite f (s.qsPasid f) (s.shBase f + 8 * k) (leBytes 8 w))).shadowsDone f

/-- Table 10.3: the 32 bytes of an entry. -/
def entryBytes (e : Entry) (sqHead phase : Nat) : Bytes :=
  leBytes 8 e.res0 ++ leBytes 4 e.res1 ++ leBytes 2 e.sq ++ leBytes 2 sqHead ++ leBytes 2 e.cid
  ++ leBytes 1 (statusCode e.status) ++ leBytes 1 (phase + 2 * e.kind + if e.log.isSome then 8 else 0)
  ++ leBytes 4 e.xfer ++ leBytes 8 e.errAddr

/-- R311: a record joins the function's error log; the oldest of 256 is overwritten and E039 raised. -/
def State.logError (s : State) (f : Fn) (r : ErrRec) : State :=
  if (s.func f).errLog.length ≥ 256 then
    (s.setFunc f (fun g => { g with errLog := g.errLog.drop 1 ++ [r], errLost := g.errLost + 1 })).raiseIn 39 31 f.val []
  else s.setFunc f (fun g => { g with errLog := g.errLog ++ [r] })

/-- R315, R316: is command `d` one that the FENCE or FLUSH `c` waits on?. DEDUCED: log entry 152. -/
def waitsOn (c d : Cmd) : Bool :=
  decide (d.id < c.id) && !d.held &&
  (if capOPC c.caps = 5 then capOPC d.caps != 0x18 else capOPC d.caps == 2)

/-- R310, R297: what a QUEUE_RESET waits on is still to come: a command, an entry of a capsule that it cut off, or such a capsule itself. -/
def State.resetWaits (s : State) (c : Cmd) : Bool :=
  s.work.cmds.any (fun d => c.waits.contains d.id)
  || s.rings.cqs.any (fun e => e.1 / 256 == c.fn && e.2.waiting.any (fun w => c.waits.contains w.cmd))
  || (match s.sq? c.fn (cap c.caps 24 2) with | some q => q.fetch == 3 | none => false)

/-- FENCEs, FLUSHes and QUEUE_RESETs that wait for nothing more end (R310, R315, R316). -/
def State.releaseWaits (s : State) : State :=
  let ready := s.work.cmds.filter (fun c => !c.ended &&
    ((capOPC c.caps == 4 || capOPC c.caps == 5) && !(s.work.cmds.any (waitsOn c)) ||
     capOPC c.caps == 0x30 && c.started && !s.resetWaits c))
  (ready.map (·.id)).foldl (fun s i => s.finish i .ok) s

/-- R316: a WRITE's entry is posted: each FLUSH that waited on it counts it; one held on a frozen SQ counts nowhere. -/
def State.countFlush (s : State) (e : Entry) (opc : Nat) : State :=
  if opc ≠ 2 || (match s.cmd? e.cmd with | some c => c.held | none => false) then s
  else { s with work.cmds := s.work.cmds.map (fun c => if capOPC c.caps = 4 ∧ ¬ c.ended ∧ e.cmd < c.id then
    { c with res0 := c.res0 + 1, res1 := c.res1 + if isFailure e.status then 1 else 0 } else c) }

/-- R288: the messages owed by CQ (f, k) after an entry of kind `kind`. -/
def State.signal (s : State) (f : Fn) (k kind : Nat) : State := match s.cq? f.val k with
  | none => s
  | some q =>
    let n := q.unsignalled + 1
    if !q.ien then s
    else if kind = 1 ∨ max q.ccount 1 ≤ n then (s.putCq f.val k { q with unsignalled := 0 }).ringMsg f q.vec
    else s.putCq f.val k { q with unsignalled := n }

/-- The page in which the next entry of a CQ lies. -/
def State.cqPage (s : State) (f k : Nat) (q : Cq) : Nat := (q.base + 32 * s.fld (CQ_STAT f k) CQ_STAT_TAIL) / 4096

/-- The page in which the next capsule of an SQ lies. -/
def State.capPage (s : State) (f k : Nat) (q : Sq) : Nat := (q.base + 64 * s.fld (SQ_STAT f k) SQ_STAT_HEAD) / 4096

/-- R286 to R288, R296, R311: the oldest entry waiting on CQ (f, k) is written at the tail, if there is room. `ok` is false
when the write of the entry fails. The SQ's shadow is written first (R279); both wait for their translations (R260). -/
def State.postEntry (s : State) (f : Fn) (k : Nat) (ok : Bool) : State := match s.cq? f.val k with
  | none => s
  | some q => match q.waiting with
    | [] => s
    | e :: rest =>
      if !s.isOn domHOST || !s.isOn domCORE then (s.wake domHOST).wake domCORE
      else if !s.mayPost f || !s.cqRoom f.val k q then s.setFull f.val k
      else if s.bit (QS_FLT f.val) QS_FLT_SH_FAULT && (match s.sq? f.val e.sq with | some x => x.shadowDue | none => false) then
        s.setFull f.val k
      else if !ok then
        ((s.setBit (CQ_STAT f.val k) CQ_STAT_FAULT true).setFull f.val k).ringFault f.val [k]
      else if s.shadowWaits f.val e.sq then s.writeShadow f.val e.sq
      else if !s.holds f.val q.pasid (s.cqPage f.val k q) then s.emit (.atsReq f.val q.pasid (s.cqPage f.val k q))
      else
        let s := s.writeShadow f.val e.sq
        let s := match e.log with | some r => s.logError f r | none => s
        let tl := s.fld (CQ_STAT f.val k) CQ_STAT_TAIL
        let ph := s.fld (CQ_STAT f.val k) CQ_STAT_PHASE
        let s := s.emit (.hostWrite f.val q.pasid (q.base + 32 * tl) (entryBytes e (s.fld (SQ_STAT f.val e.sq) SQ_STAT_HEAD) ph))
        let tl' := (tl + 1) % q.size
        let s := s.setFld (CQ_STAT f.val k) CQ_STAT_TAIL tl'
        let s := if tl' = 0 then s.setFld (CQ_STAT f.val k) CQ_STAT_PHASE (1 - ph) else s
        let s := s.putCq f.val k { q with waiting := rest }
        let s := (s.signal f k e.kind).setFull f.val k
        if e.kind = 1 then s.setCmd e.cmd (fun c => { c with xrdyPosted := true, xrdySlot := tl })
        else
          let opc := match s.cmd? e.cmd with | some c => capOPC c.caps | none => 0
          let s := s.countFlush e opc
          let s := match s.cmd? e.cmd with | some c => s.told c | none => s
          let s := { s with work.cmds := s.work.cmds.filter (fun c => c.id != e.cmd) }
          s.releaseWaits.freeDeleted

/-- R288: CTIME has passed since the first entry not yet signalled. -/
def State.coalesce (s : State) (f : Fn) (k : Nat) : State := match s.cq? f.val k with
  | none => s
  | some q => if q.ien && decide (q.unsignalled > 0) then (s.putCq f.val k { q with unsignalled := 0 }).ringMsg f q.vec else s

/-- R280: a function becomes IDLE when none of its CQs is FULL. -/
def State.goIdle (s : State) (f : Fn) : State :=
  if (s.rings.cqs.filter (fun e => e.1 / 256 == f.val)).all (fun e => !s.bit (CQ_STAT f.val (e.1 % 256)) CQ_STAT_FULL) then
    s.setFunc f (fun g => { g with idle := true })
  else s

end Sys2Proof.Machine
end

