-- ==== Sys2Proof/Machine/Dma.lean ====
section
/-!
DEFINITION. Host DMA (R283, R291 to R295), address translation and page requests (R260 to R262), and the failing of a
command whose transfer cannot go on (R252, R293, R294), and the poison that data for the host carries (R395).
-/

namespace Sys2Proof.Machine

/-! ## Buffers of a command -/

/-- R399: the address of a buffer; the pools lie from pool 3 to pool 0. -/
def State.bufAddr (s : State) (h : Nat) : Nat :=
  let before := ([3, 2, 1, 0].takeWhile (fun p => p != hPool h)).map (fun p => poolSize p * s.mem.layout.getD (3 + p) 0)
  (s.region 4).1 + before.sum + hIndex h * poolSize (hPool h)

/-- The data bytes [off, off + n) of a command lie in a poisoned line of its buffers. DEDUCED: log entry 116. -/
def State.dataPoisoned (s : State) (c : Cmd) (off n : Nat) : Bool :=
  (List.zip (List.range c.bufs.length) c.bufs).any (fun b =>
    let lo := max off (b.1 * mib2)
    let hi := min (off + n) (b.1 * mib2 + mib2)
    decide (lo < hi) && s.rangePoisoned (s.bufAddr b.2 + (lo - b.1 * mib2)) (hi - lo))

/-- R360: the first `n` bytes of a command's buffers, where its output is held, are overwritten with zeros. -/
def State.wipeHeld (s : State) (c : Cmd) (n : Nat) : State :=
  (List.zip (List.range c.bufs.length) c.bufs).foldl (fun (s : State) b => s.wipe (s.bufAddr b.2) (min (n - b.1 * mib2) (poolSize (hPool b.2)))) s

/-- R395: the poisoned lines under a command's data: where in the data each begins, and its length. DEDUCED: log entry 116. -/
def State.poisonedLines (s : State) (c : Cmd) : List (Nat × Nat) :=
  (List.zip (List.range c.bufs.length) c.bufs).flatMap (fun b => s.mem.poison.filterMap (fun l =>
    let a := s.bufAddr b.2
    if a ≤ 64 * l ∧ 64 * l < a + poolSize (hPool b.2) then some (b.1 * mib2 + (64 * l - a), 64) else none))

/-- R395: parts of the data of command `id` for the host carry the poison mark. -/
def State.markPoison (s : State) (id : Nat) (ps : List (Nat × Nat)) : State :=
  (s.setCmd id (fun c => { c with poison := c.poison ++ ps })).note id .dataPoisoned

/-- R395: all that command `id` has still to send was computed from poisoned data. DEDUCED: log entry 116. -/
def State.poisonAll (s : State) (id : Nat) : State := match s.cmd? id with
  | none => s
  | some c => s.markPoison id [(c.off, 2 ^ 64)]

/-- R395: of the next `n` bytes that command `c` sends, those that carry the mark leave in poisoned TLPs. -/
def State.sendPoison (s : State) (c : Cmd) (n : Nat) : State :=
  let all := c.poison ++ if capOPC c.caps = 1 ∨ capOPC c.caps = 3 then s.poisonedLines c else []
  let bad := (all.filterMap (fun p =>
    let lo := max c.off p.1
    let hi := min (c.off + n) (p.1 + p.2)
    if lo < hi then some (lo, hi - lo) else none)).eraseDups
  if bad.isEmpty then s
  else (bad.foldl (fun (s : State) p => s.emit (.tlpPoison c.fn c.sq c.cid p.1 p.2)) s).markPoison c.id bad

/-! ## Transfers -/

/-- The PASID of a command: its ring's (R291). -/
def State.cmdPasid (s : State) (c : Cmd) : Option Nat := match s.sq? c.fn c.sq with
  | some q => q.pasid
  | none => none

/-- The next request of a transfer: within one 4 KiB page, in address order (R291). -/
def nextChunk : List (Nat × Nat) → Option (Nat × Nat)
  | [] => none
  | (_, 0) :: r => nextChunk r
  | (a, l) :: _ => some (a, min l (4096 - a % 4096))

/-- The segments after `k` bytes have moved. -/
def advance : List (Nat × Nat) → Nat → List (Nat × Nat)
  | [], _ => []
  | (a, l) :: r, k => if k < l then (a + k, l - k) :: r else advance r (k - l)

def segBytes (l : List (Nat × Nat)) : Nat := (l.map (·.2)).sum

/-- The segments that the phase of `c` moves. -/
def Cmd.segs (c : Cmd) : List (Nat × Nat) := if c.phase = 2 then c.segsOut else if c.phase ≤ 1 then c.segsIn else []

/-- R255, R257, R265: DMA of the function may move. -/
def State.mayDma (s : State) (f : Nat) : Bool :=
  s.fnExists f && !(s.func (toFn f)).d3hot && s.isOn domHOST && !s.ideHeld

/-- Data that a command has for the host is sent page by page while translations are held; where one is missing it is
requested (R291). -/
def State.sendOut (s : State) (f : Nat) (pasid : Option Nat) : Nat → List (Nat × Nat) → Bytes → State × List (Nat × Nat) × Bytes
  | 0, segs, bs => (s, segs, bs)
  | k + 1, segs, bs => match nextChunk segs with
    | none => (s, segs, [])
    | some (a, l) =>
      if bs.isEmpty then (s, segs, bs)
      else if !s.holds f pasid (a / 4096) then (s.emit (.atsReq f pasid (a / 4096)), segs, bs)
      else
        let n := min l bs.length
        (s.emit (.hostWrite f pasid a (bs.take n))).sendOut f pasid k (advance segs n) (bs.drop n)

/-- R260: the request of command `id` into a page whose translation is being invalidated is still out. -/
def State.stillOut (s : State) (f : Nat) (pasid : Option Nat) (page id : Nat) : Bool :=
  s.pcie.invals.any (fun e => e.1 == (f, pasid, page) && e.2.contains (.command id))

/-- Command `id`'s transfer goes on as far as it can (R291): a read request or a translation request is issued, or data
leaves for the host, poisoned where it carries the mark (R395); a command whose work is done and whose data has left ends (R286).
DEDUCED: log entries 115, 235. -/
def State.pump (s : State) (id : Nat) : State := match s.cmd? id with
  | none => s
  | some c =>
    if c.ended || c.held || c.parked || (!s.mayDma c.fn && !c.mute) then s
    else if c.phase ≤ 1 then
      match nextChunk c.segsIn with
      | none => s
      | some (a, l) =>
        if c.mute || s.stillOut c.fn (s.cmdPasid c) (a / 4096) id then s
        else if s.holds c.fn (s.cmdPasid c) (a / 4096) then
          (s.setCmd id (fun d => { d with started := d.started || capOPC d.caps != 2, fails := 0 })).emit (.hostRead c.fn (s.cmdPasid c) a l)
        else s.emit (.atsReq c.fn (s.cmdPasid c) (a / 4096))
    else if c.mute then (if c.outDone then s.finish id .ok else s)
    else
      let (s, segs, rest) := s.sendOut c.fn (s.cmdPasid c) (c.outBytes.length + 1) c.segsOut c.outBytes
      let s := s.setCmd id (fun d => { d with segsOut := segs, outBytes := rest })
      let s := s.setCmd id (fun d => { d with off := c.off + (c.outBytes.length - rest.length) })
      let s := if rest.length < c.outBytes.length then s.setCmd id (fun d => { d with started := true, fails := 0 }) else s
      let s := s.sendPoison c (c.outBytes.length - rest.length)
      if rest.isEmpty && c.outDone then s.finishWith id .ok else s

/-- The result of a command is `bs`: it goes to the host and the command ends when it has left. -/
def State.result (s : State) (id : Nat) (bs : Bytes) : State :=
  (s.setCmd id (fun c => { c with phase := 2, outBytes := c.outBytes ++ bs, outDone := true })).pump id

/-- R252, R294: the blocks of a WRITE not yet placed are dropped; it ends at once if no block is in a parison. -/
def State.failWrite (s : State) (id : Nat) (st : Status) : State :=
  let s := s.note id st
  let drop (b : WBlock) : WBlock := match b.at' with
    | .waiting => { b with at' := .dropped }
    | .gathered => { b with at' := .dropped }
    | _ => b
  let s := (s.dropPr id).setCmd id (fun c => { c with phase := 3, reserved := false })
  let s := s.setCmd id (fun c => { c with blocks := c.blocks.map drop })
  match s.cmd? id with
  | none => s
  | some c => if c.blocks.any (fun b => match b.at' with | .placed _ => true | _ => false) then s else s.finishWith id st

/-- A command fails with `st`. -/
def State.fail (s : State) (id : Nat) (st : Status) : State := match s.cmd? id with
  | none => s
  | some c => if capOPC c.caps = 2 ∧ ¬ c.ended then s.failWrite id st
              else s.finishWith id st

/-- Page requests outstanding, of the functions that `p` names (R262, R297). -/
def State.prCount (s : State) (p : Nat → Bool) : Nat :=
  (s.work.cmds.filter (fun c => p c.fn && c.pr == .outstanding)).length + (s.pcie.prLost.filter (fun x => p x.2)).length

/-- R262, R293: function `f` may make page requests. -/
def State.prAllowed (s : State) (f : Nat) : Bool :=
  (s.func (toFn f)).pri && s.accepted f featPri && !s.bit (QS_FLT f) QS_FLT_PRI_STOP

/-- R262: a page request may be issued for function `f` now; while R293 allows none, those that wait go on waiting.
DEDUCED: log entry 234. -/
def State.prRoom (s : State) (f : Nat) : Bool :=
  s.prAllowed f && decide (s.prCount (fun _ => true) < 512 ∧ s.prCount (fun g => g == f) < (s.func (toFn f)).priAlloc)

/-- The page of a transfer's next byte. -/
def Cmd.page (c : Cmd) : Nat := match nextChunk c.segs with
  | some (a, _) => a / 4096
  | none => 0

/-- R262: a page request for a page of command `id`: issued if there is capacity, else waiting in order of arrival. -/
def State.askFor (s : State) (id page : Nat) : State := match s.cmd? id with
  | none => s
  | some c =>
    if s.prRoom c.fn then
      (s.setCmd id (fun c => { c with pr := .outstanding })).emit (.pageReq c.fn (s.cmdPasid c) page)
    else
      let s := s.setCmd id (fun c => { c with pr := .waiting })
      { s with pcie.prQueue := s.pcie.prQueue ++ [id] }

/-- R292: a page request for the next page of command `id`'s transfer. -/
def State.askPage (s : State) (id : Nat) : State := match s.cmd? id with
  | none => s
  | some c => s.askFor id c.page

/-- R295: a page of a capture's area, into which it moves nothing at present, has no translation: the page is asked for if there is capacity.
DEDUCED: log entries 55, 234. -/
def State.askCapture (s : State) (f : Nat) (pasid : Option Nat) (page : Nat) : State :=
  let mine (c : Cmd) : Bool := capOPC c.caps == 0x18 && c.fn == f && !c.ended && !c.mute && c.pr == .none && s.cmdPasid c == pasid
    && (nextChunk c.segs).isNone && c.segsIn.any (fun g => decide (g.1 / 4096 ≤ page ∧ page ≤ (g.1 + g.2 - 1) / 4096))
  if !s.prRoom f then s
  else ((s.work.cmds.filter mine).map (·.id)).foldl (fun (s : State) i => s.askFor i page) s

/-- The waiting page requests for which there is capacity are issued, in order of arrival. DEDUCED: log entry 234. -/
def State.servePr (s : State) : State :=
  s.pcie.prQueue.foldl (fun (s : State) id =>
    let now : Bool := match s.cmd? id with | some c => s.prRoom c.fn && c.pr == .waiting | none => true
    if now then
      ({ s with pcie.prQueue := s.pcie.prQueue.filter (fun x => x != id) } : State).askPage id
    else s) s

/-- R262, R292, R293: the translation for command `id` has failed. -/
def State.xlateFailed (s : State) (id : Nat) : State := match s.cmd? id with
  | none => s
  | some c =>
    let addr := match nextChunk c.segs with | some (a, _) => a | none => 0
    if !s.prAllowed c.fn || decide (c.fails ≥ 4) then
      (s.setCmd id (fun c => { c with errAddr := addr })).fail id .dmaFault
    else (s.setCmd id (fun c => { c with parked := true })).askPage id

/-- R319, R321: commands in the order in which the engines serve them: SCHUSS, then aged ones, then the others, each in admission order. -/
def State.inTurn (s : State) (l : List Cmd) : List Nat :=
  let sch (c : Cmd) : Bool := s.cmdCls c == 1
  ((l.filter sch) ++ (l.filter (fun c => !sch c && c.aged)) ++ (l.filter (fun c => !sch c && !c.aged))).map (·.id)

/-- R260, R291: a translation response for a page of function `f`. -/
def State.xlateDone (s : State) (f : Fn) (pasid : Option Nat) (page : Nat) (ok : Bool) : State :=
  let ids := s.inTurn (s.work.cmds.filter (fun c => c.fn == f.val && !c.ended && !c.mute && !c.parked && c.phase ≤ 2 &&
    s.cmdPasid c == pasid && (nextChunk c.segs).isSome && c.page == page))
  if ok then
    let l := s.pcie.atc.filter (fun t => t != (f.val, pasid, page)) ++ [(f.val, pasid, page)]
    let s := { s with pcie.atc := l.drop (l.length - 4096) }
    ids.foldl (fun s i => (s.setCmd i (fun c => { c with fails := 0 })).pump i) s
  else ids.foldl (fun (s : State) i => (s.setCmd i (fun c => { c with fails := if c.fails = 0 then 0 else c.fails + 1 })).xlateFailed i) (s.askCapture f.val pasid page)

/-- R293: the answer to the page request of command `id`. `code` 0 is Success, 1 Invalid Request, 15 Response Failure.
DESIGN CHOICE: log entry 2. -/
def State.pageResponse (s : State) (id code : Nat) : State :=
  let s : State := { s with pcie.prLost := s.pcie.prLost.filter (fun x => x.1 != id) }
  match s.cmd? id with
  | none => s.servePr
  | some c =>
    if c.pr ≠ .outstanding then s.servePr
    else
      let s := s.setCmd id (fun c => { c with pr := .none, parked := false })
      let addr := match nextChunk c.segs with | some (a, _) => a | none => 0
      let s := if code = 0 then (s.setCmd id (fun c => { c with fails := max 1 c.fails })).pump id
        else
          let s := if code = 1 then s else s.setBit (QS_FLT c.fn) QS_FLT_PRI_STOP true
          (s.setCmd id (fun c => { c with errAddr := addr })).fail id .dmaFault
      s.servePr

/-- A read of command `c` is out in a page whose translation is held, or was when it was made. -/
def State.reading (s : State) (c : Cmd) : Bool :=
  !c.ended && !c.held && !c.mute && !c.parked && decide (c.phase ≤ 1) && (nextChunk c.segsIn).isSome
  && (s.holds c.fn (s.cmdPasid c) c.page || s.stillOut c.fn (s.cmdPasid c) c.page c.id)

/-- The read is still out, into the page of `k`. -/
def State.readOut (s : State) (k : Nat × Option Nat × Nat) (r : HostRead) : Bool := match r with
  | .command i => (match s.cmd? i with
    | some c => s.reading c && decide ((c.fn, s.cmdPasid c, c.page) = k)
    | none => false)
  | .capsule f q => (match s.sq? f.val q.val with | some x => x.fetch != 0 | none => false)
  | .doorbell f => decide (0 < (s.func f).pollLeft)

/-- R260: invalidations whose reads have all been answered are completed. -/
def State.settleInvals (s : State) : State :=
  let left := s.pcie.invals.map (fun e => (e.1, e.2.filter (s.readOut e.1)))
  (left.filter (fun e => e.2.isEmpty)).foldl (fun (s : State) e => s.emit (.atsDone e.1.1 e.1.2.2))
    { s with pcie.invals := left.filter (fun e => !e.2.isEmpty) }

/-- R260: the reads in flight into a page of function `f`: its commands', its capsules' and its doorbell words'. -/
def State.readsInto (s : State) (f : Nat) (pasid : Option Nat) (page : Nat) : List HostRead :=
  if !(s.func (toFn f)).ats then []
  else
    (s.work.cmds.filter (fun c => c.fn == f && s.cmdPasid c == pasid && c.page == page && s.reading c)).map (fun c => .command c.id)
    ++ (s.rings.sqs.filter (fun e => e.1 / 256 == f && e.2.fetch != 0 && e.2.pasid == pasid && s.capPage f (e.1 % 256) e.2 == page)).map
      (fun e => .capsule (toFn f) (Fin.ofNat 256 (e.1 % 256)))
    ++ (if 0 < (s.func (toFn f)).pollLeft ∧ s.qsPasid f = pasid ∧ s.dbBase f / 4096 = page then [.doorbell (toFn f)] else [])

/-- R260, R297: an invalidation ends every translation of the page at once; it is completed once the reads in flight into the page have their
completions. Writes have been sent, and parked transfers hold none. -/
def State.invalidate (s : State) (f : Nat) (pasid : Option Nat) (page : Nat) : State :=
  ({ s with pcie.atc := s.pcie.atc.filter (fun t => t != (f, pasid, page)),
            pcie.invals := s.pcie.invals ++ [((f, pasid, page), s.readsInto f pasid page)] } : State).settleInvals

/-- R283: the segments that a list spells, if it is well formed and its lengths sum to `dlen`. -/
def parseList (bs : Bytes) (dlen : Nat) : Option (List (Nat × Nat)) :=
  let rows := chunks 16 bs
  let segs := rows.map (fun r => (leNat (slice r 0 8), leNat (slice r 8 4)))
  if rows.all (fun r => leNat (slice r 8 4) != 0 && leNat (slice r 12 4) == 0) && segBytes segs == dlen then some segs else none

/-- Bytes arrive from the host for command `id` (at most one request's worth). DEDUCED: log entry 115. -/
def State.takeIn (s : State) (id : Nat) (bs : Bytes) : State := match s.cmd? id with
  | none => s
  | some c => match nextChunk c.segsIn with
    | none => s
    | some (_, l) =>
      let bs := bs.take l
      let done := (c.inBytes ++ bs).length
      let off := if c.phase = 1 then done - c.lead else c.off
      s.setCmd id (fun c => { c with segsIn := advance c.segsIn bs.length, inBytes := c.inBytes ++ bs, off := off })

end Sys2Proof.Machine
end

