-- ==== Sys2Proof/Machine/Gather.lean ====
section
/-!
DEFINITION. The gather stage and the placing of parisons (R194, R206, R317, R487), the ends of WRITEs (R23, R212, R213), what
the ledger records of a band (R332 to R334) and checkpoints (R336 to R338).
-/

namespace Sys2Proof.Machine

/-! ## Vaults -/

def State.vault? (s : State) (id : Nat) : Option Vault := s.ledger.vaults.find? (fun v => v.id == id)

def State.setVault (s : State) (id : Nat) (g : Vault → Vault) : State :=
  { s with ledger.vaults := s.ledger.vaults.map (fun v => if v.id = id then g v else v) }

def State.setDisc (s : State) (id idx : Nat) (g : Disc → Disc) : State :=
  s.setVault id (fun v => { v with discs := v.discs.map (fun d => if d.idx = idx then g d else d) })

def State.disc? (s : State) (id idx : Nat) : Option Disc := match s.vault? id with
  | some v => v.discs.find? (fun d => d.idx == idx)
  | none => none

/-- Band positions free across a disc's layers (R336). -/
def Disc.free (d : Disc) : Nat := (d.frontier.map freeOnLayer).sum

/-- The band positions written on a disc, each a band that counts or is void (R336). -/
def Disc.positions (d : Disc) : Nat := ((List.range 16).map (fun y => freeOnLayer (firstLoc y))).sum - d.free

/-- R336: C, the bands of a full checkpoint with the dropped list as it stands. DEDUCED: log entry 63. -/
def Disc.ckptNeed (d : Disc) : Nat := ckBandCount ((34701440 + 16 * d.dropped.length + 4095) / 4096)

/-- R336: full for data. -/
def Disc.full (d : Disc) : Bool := decide (d.free < 2 * d.ckptNeed)

/-- The next position to write: the first layer, in order, that is not full (the controller's choice, R30).
DEDUCED: log entry 62. -/
def Disc.nextPos (d : Disc) : Option Nat := d.frontier.find? (fun l => locZone l != 63)

/-- The frontiers after the next position has been begun. -/
def advanceFrontier (f : List Nat) : List Nat := match f.find? (fun l => locZone l != 63) with
  | some l => f.map (fun x => if x = l then nextLoc l else x)
  | none => f

/-! ## Stations -/

/-- Table 3.12: the station is normal. -/
def State.normal (s : State) (n : Nat) : Bool := !s.bit (STN_STAT n) STN_STAT_UNAVAIL && !s.bit (STN_STAT n) STN_STAT_DEGRADED

/-- R370: a microcode bank in force holds an image that passed. -/
def State.bankOk (s : State) (b : Nat) : Bool := if b = 0 then s.stores.okA else s.stores.okB

/-- The station can take a band of a vault (R487): it is normal, and its gaffer has microcode (R370). -/
def State.usable (s : State) (n : Nat) : Bool :=
  s.normal n && !s.fatal n && !(s.station (toStn n)).retired && s.bankOk (s.fld (SEQ_BANK n) SEQ_BANK_DEV)

/-! ## The ends of WRITEs -/

def BlockAt.settled : BlockAt → Bool
  | .recorded _ => true
  | .dropped => true
  | _ => false

/-- R23, R212: a WRITE ends once every block is recorded, or dropped for a status it has met. -/
def State.checkWriteCmd (s : State) (id : Nat) : State := match s.cmd? id with
  | none => s
  | some c =>
    if capOPC c.caps = 2 ∧ ¬ c.ended ∧ c.blocks ≠ [] ∧ c.blocks.all (fun b => b.at'.settled) then s.finishWith id .ok else s

/-- A block of command `id` goes to `at'`. -/
def State.moveBlock (s : State) (id vba : Nat) (place : BlockAt) : State :=
  s.setCmd id (fun c => { c with blocks := c.blocks.map (fun b => if b.vba = vba then { b with at' := place } else b) })

/-- The blocks of every command placed in parison `p` are dropped. -/
def State.dropPlaced (s : State) (p : Nat) : State :=
  let drop (b : WBlock) : WBlock := if b.at' = .placed p then { b with at' := .dropped } else b
  { s with work.cmds := s.work.cmds.map (fun c => { c with blocks := c.blocks.map drop }) }

/-- The commands with a block placed in parison `p`. -/
def State.cmdsIn (s : State) (p : Nat) : List Nat :=
  (s.work.cmds.filter (fun c => c.blocks.any (fun b => b.at' == .placed p))).map (·.id)

/-- R487, R217: the commands of parison `p` drop its blocks and their blocks not yet placed, and end with `st`, met in band `q` after station
event `ev` (R311). -/
def State.failParison (s : State) (p q ev : Nat) (st : Status) : State :=
  let ids := s.cmdsIn p
  let s := s.dropPlaced p
  ids.foldl (fun s i => ((s.noteAt i q ev st).failWrite i st).checkWriteCmd i) s

/-! ## Placing parisons (R487) -/

/-- R487: an attached disc that can take a band: not full, in a usable station. -/
def State.canTake (s : State) (d : Disc) : Bool := match d.stn with
  | some n => !d.full && s.usable n
  | none => false

/-- R329 step 4: a disc being bound begins no band before the other discs have taken their checkpoints. -/
def State.bindWait (s : State) (vault : Nat) (d : Disc) : Bool := d.firstSeq.isSome && s.ledger.mounting.contains vault

/-- The discs of a vault that can take a band now, in stations in planned mode or not. DEDUCED: log entry 61. -/
def State.targets (s : State) (v : Vault) (planned : Bool) : List Disc :=
  v.discs.filter (fun d => s.canTake d && (s.station (toStn (d.stn.getD 0))).planned == planned && !s.bindWait v.id d)

/-- R487: a due parison is placed on a disc, waits for a plan's write slot or for a disc being bound, or ends its WRITEs; without a map it
ends them (R345). DEDUCED: log entry 61. -/
def State.placeParison (s : State) (p : Parison) : State := match (if s.fatal ctxLEDGER then none else s.vault? p.vault) with
  | none =>
    let s : State := { s with ledger.parisons := s.ledger.parisons.filter (fun x => x.id != p.id) }
    s.failParison p.id 0 0 .internal
  | some v => match s.targets v false with
    | d :: _ =>
      let s : State := { s with ledger.parisons := s.ledger.parisons.map (fun (x : Parison) => if x.id = p.id then { x with due := true, disc := some d.idx } else x) }
      let order := (s.cmdsIn p.id).foldl min s.work.nextId
      let l := (s.cmdsIn p.id).filterMap (fun i => (s.cmd? i).map s.cmdCls)
      let cls := if l.contains 1 then 1 else if l.contains 0 || l.isEmpty then 0 else 2
      s.addTask (d.stn.getD 0) .bandWrite [] cls order [0, p.id] false
    | [] =>
      if v.discs.any s.canTake then
        { s with ledger.parisons := s.ledger.parisons.map (fun (x : Parison) => if x.id = p.id then { x with due := true } else x) }
      else
        let attached := v.discs.filter (fun d => d.stn.isSome)
        let open' := attached.filter (fun d => !d.full)
        let st : Status :=
          if !attached.isEmpty && open'.isEmpty then .mediumFull
          else if !open'.isEmpty && open'.all (fun d => s.bit (STN_STAT (d.stn.getD 0)) STN_STAT_DEGRADED
              && !s.fatal (d.stn.getD 0) && !s.bit (STN_STAT (d.stn.getD 0)) STN_STAT_UNAVAIL) then .stationDegraded
          else .stationUnavailable
        let s : State := { s with ledger.parisons := s.ledger.parisons.filter (fun x => x.id != p.id) }
        s.failParison p.id 0 (if st = .mediumFull then 0 else (v.discs.map (fun d => s.lossEvent (d.stn.getD 16))).foldl max 0) st

/-- R317: a parison begins writing. -/
def State.beginParison (s : State) (id : Nat) : State := match s.ledger.parisons.find? (fun p => p.id == id) with
  | none => s
  | some p => if p.due ∨ p.blocks = [] then s else s.placeParison p

/-- R33, R487: the due parisons that waited for a plan's write slot or for a disc being bound are placed again: the station may have returned to
adaptive mode, or be no longer able to take a band. -/
def State.placeDue (s : State) : State :=
  (s.ledger.parisons.filter (fun p => p.due && p.disc.isNone && p.ckpt.isNone)).foldl (fun (s : State) p => s.placeParison p) s

/-- R206: `b` goes ahead of block `x`: it has been unplaced and `x` never, or both left one band and its data index is lower. -/
def PBlock.ahead (b x : PBlock) : Bool := b.again && (!x.again || b.home.1 == x.home.1 && decide (b.home.2 < x.home.2))

/-- R206: unplaced blocks go ahead of blocks never placed, in the order in which they were unplaced, those of one band in data-index order. -/
def insBlock (b : PBlock) (l : List PBlock) : List PBlock := l.takeWhile (fun x => !b.ahead x) ++ b :: l.dropWhile (fun x => !b.ahead x)

/-- R206: the block's command has failed or ended, or the map is gone: the block is dropped. -/
def State.dropDead (s : State) (vault : Nat) (b : PBlock) : State × Bool :=
  let dead := match s.cmd? b.cmd with
    | some c => isFailure c.status || c.ended
    | none => true
  if dead then ((s.moveBlock b.cmd b.vba .dropped).checkWriteCmd b.cmd, false)
  else if s.fatal ctxLEDGER || (s.vault? vault).isNone then
    (((s.moveBlock b.cmd b.vba .dropped).failWrite b.cmd .internal).checkWriteCmd b.cmd, false)
  else (s, true)

/-- The blocks of parison `p` are placed in it. -/
def State.placedIn (s : State) (p : Nat) (bs : List PBlock) : State :=
  bs.foldl (fun (s : State) b => (s.moveBlock b.cmd b.vba (.placed p)).setCmd b.cmd (fun c => { c with started := true })) s

/-- R317: a FLUSH, a FENCE or the vault's VAULT_UNMOUNT admitted after command `id` waits. -/
def State.flushed (s : State) (vault id : Nat) : Bool := s.work.cmds.any (fun c => decide (id < c.id) && !c.ended && !c.held && !c.mute &&
  ([4, 5].contains (capOPC c.caps) || capOPC c.caps == 0x0A && capVAULT c.caps == vault))

/-- R317: a parison of 512 blocks, with a block that has waited GATHER_AGE, or with one on which a FLUSH, FENCE or VAULT_UNMOUNT waits, begins
writing. -/
def State.beginRipe (s : State) (vault p : Nat) : State :=
  let age := match s.vault? vault with | some v => v.age | none => 50
  match s.ledger.parisons.find? (fun x => x.id == p) with
  | some x =>
    if x.blocks.length ≥ 512 ∨ x.blocks.any (fun b => decide (b.arrived + 1000 * age ≤ s.now) || s.flushed vault b.cmd) then s.beginParison p else s
  | none => s

/-- R206, R317: blocks join their vault's gathering parison together, in R206's order; what is more than 512 goes into the next one. -/
def State.placeBlocks (s : State) (vault : Nat) (bs : List PBlock) : State :=
  let (s, live) := bs.foldl (fun (a : State × List PBlock) b => let r := a.1.dropDead vault b; (r.1, if r.2 then a.2 ++ [b] else a.2)) (s, [])
  if live.isEmpty then s
  else
    let open? := s.ledger.parisons.find? (fun p => p.vault == vault && !p.due && p.ckpt.isNone && decide (p.blocks.length < 512))
    let all := live.foldl (fun l b => insBlock b l) (match open? with | some p => p.blocks | none => [])
    let (first, rest) := (all.take 512, all.drop 512)
    let (pid, s) : Nat × State := match open? with
      | some p => (p.id, { s with ledger.parisons := s.ledger.parisons.map (fun (x : Parison) => if x.id = p.id then { x with blocks := first } else x) })
      | none =>
        let p : Parison := ⟨s.ledger.nextPar, vault, first, false, none, none⟩
        (p.id, { s with ledger.parisons := s.ledger.parisons ++ [p], ledger.nextPar := s.ledger.nextPar + 1 })
    let s := s.placedIn pid first
    if rest.isEmpty then s.beginRipe vault pid
    else
      let q : Parison := ⟨s.ledger.nextPar, vault, rest, false, none, none⟩
      let s : State := { s with ledger.parisons := s.ledger.parisons ++ [q], ledger.nextPar := s.ledger.nextPar + 1 }
      ((s.placedIn q.id rest).beginRipe vault pid).beginRipe vault q.id

/-- R206, R213: blocks of a band are unplaced together; with each, whether its count of failed bands rises. The band is numbered `q`; `ev` is its event (R311).
DEDUCED: log entry 57. -/
def State.unplace (s : State) (n vault q ev : Nat) (bs : List (PBlock × Bool)) : State :=
  let s := s.bump (WR_CNT n 3) WR_CNT_COUNT bs.length
  let bs := bs.map (fun e => { e.1 with failed := e.1.failed + (if e.2 then 1 else 0), again := true })
  let s := (bs.filter (fun b => decide (3 ≤ b.failed))).foldl (fun (s : State) b =>
    (((s.moveBlock b.cmd b.vba .dropped).noteAt b.cmd q ev .writeVerifyFail).failWrite b.cmd .writeVerifyFail).checkWriteCmd b.cmd) s
  s.placeBlocks vault (bs.filter (fun b => decide (b.failed < 3)))

/-- R349: a block whose bytes have all arrived is encrypted and goes to the gather stage. -/
def State.gatherBlock (s : State) (id : Nat) (vault : Nat) (w : WBlock) : State := match s.vault? vault with
  | none => s
  | some v =>
    let iv := beBytes 4 v.pfx ++ beBytes 6 (w.vba % 2 ^ 48) ++ beBytes 2 w.ver
    let aad := leBytes 8 w.vba ++ leBytes 4 w.ver ++ leBytes 4 vault
    let (ct, tag) := gcmEnc v.dataKey iv aad w.data
    s.placeBlocks vault [⟨id, w.vba, w.ver, ct, tag, s.now, 0, false, (0, 0)⟩]

/-- R317: the parisons that hold a block of a command admitted before `id` begin (FLUSH, FENCE, VAULT_UNMOUNT). -/
def State.flushBefore (s : State) (id : Nat) (vault : Option Nat) : State :=
  let ps := s.ledger.parisons.filter (fun p => !p.due && p.blocks.any (fun b => decide (b.cmd < id)) &&
    (match vault with | some v => p.vault == v | none => true))
  ps.foldl (fun s p => s.beginParison p.id) s

/-! ## Checkpoints -/

/-- A band as the checkpoint lists it; one that still holds a block of an outstanding command is uncovered (R337). -/
def State.ckBand (s : State) (vault : Nat) (b : Band) : CkBand :=
  let unc := s.work.cmds.any (fun c => capVAULT c.caps == vault && c.blocks.any (fun x => x.at' == .recorded b.seq))
  let void := decide (b.flags / 4 % 2 = 1)
  let flags := if void then b.flags else if unc then b.flags % 8 + 8 else b.flags
  if void || unc then ⟨b.seq, b.loc, 0, flags, [], []⟩
  else ⟨b.seq, b.loc, b.n, flags, b.relocs, b.entries.map (fun e => (e.vba, e.ver, e.d))⟩

/-- R337, R338: a checkpoint of a disc begins: its stream is cut into parisons whose BAND_WRITEs go ahead of data bands. A band that it lists as
uncovered, and one that is not over yet, is left to the next checkpoint.
With too few positions none is written and bit 1 of the disc's flags is set (R336); in LEDGER FATAL none is written (R345).
DEDUCED: log entry 63. -/
def State.checkpoint (s : State) (vault idx : Nat) : State :=
  if s.fatal ctxLEDGER then s
  else match s.vault? vault, s.disc? vault idx with
  | some v, some d => match d.stn with
    | none => s
    | some n =>
      let no := d.ckptTry + 1
      let size := ckStream idx v.discs.length no vault d.ckptLoc d.ckptBands d.frontier (d.fresh.map (s.ckBand vault)) d.dropped
      let bands := ckBandCount ((size.length + 4095) / 4096)
      let front := (List.range bands).foldl (fun f _ => advanceFrontier f) d.frontier
      let stream := ckStream idx v.discs.length no vault d.ckptLoc d.ckptBands front (d.fresh.map (s.ckBand vault)) d.dropped
      let blks := chunks 4096 stream
      if d.free < bands then s.setDisc vault idx (fun d => { d with closed := true, ckptDue := false })
      else
        let s := s.setDisc vault idx (fun d => { d with
          ckptTry := no, ckptDue := false, ckptFirst := 0, ckptCnt := 0,
          ckptCov := ((d.fresh.map (s.ckBand vault)).filter (fun b => !b.flags.testBit 3)).map (·.seq) })
        (List.range bands).foldl (fun s k =>
          let bs := (List.zip (List.range 512) ((blks.drop (512 * k)).take 512)).map (fun e =>
            (⟨2 ^ 64, 2 ^ 63 + 512 * k + e.1, no, e.2, zeros 16, s.now, 0, false, (0, 0)⟩ : PBlock))
          let p : Parison := ⟨s.ledger.nextPar, vault, bs, true, some idx, some (no, k + 1 == bands)⟩
          let s : State := { s with ledger.parisons := s.ledger.parisons ++ [p], ledger.nextPar := s.ledger.nextPar + 1 }
          s.addTask n .bandWrite [] 1 0 [0, p.id] true) s
  | _, _ => s

/-- The VAULT_UNMOUNTs of a vault that run on note OK_DEGRADED (R336, R342). -/
def State.unmountDegrades (s : State) (vault : Nat) : State :=
  (s.work.cmds.filter (fun (c : Cmd) => !c.ended && !c.held && capVAULT c.caps == vault && capOPC c.caps == 0x0A)).foldl
    (fun (s : State) (c : Cmd) => s.note c.id .okDegraded) s

/-- A disc's checkpoint has failed: the rest of it is dropped and it is written again under the next number (R337), where the disc's station can
(R342) and it has the positions (R336). -/
def State.redoCheckpoint (s : State) (vault idx : Nat) : State :=
  let mine (p : Parison) : Bool := p.vault == vault && p.ckpt.isSome && p.disc == some idx
  let ids := (s.ledger.parisons.filter mine).map (·.id)
  let s : State := { s with
      ledger.parisons := s.ledger.parisons.filter (fun p => !mine p),
      work.tasks := s.work.tasks.filter (fun (t : Task) => !(t.kind == .bandWrite && ids.contains (t.args.getD 1 0))) }
  let ok := match s.disc? vault idx with
    | some d => (match d.stn with | some n => s.usable n | none => false)
    | none => false
  let s := if ok then s.checkpoint vault idx else s
  if ok && !(match s.disc? vault idx with | some d => d.closed | none => false) then s else s.unmountDegrades vault

/-- R332: recorded entries pass the versions of a dropped list. -/
def Disc.passed (l : List LEntry) (d : Disc) : Disc :=
  { d with dropped := d.dropped.filter (fun x => !l.any (fun e => e.vba == x.1 && decide (x.2 ≤ e.ver))) }

/-- R332: versions written to a disc in frames that are not recorded join its dropped list, unless a higher version is recorded. -/
def State.dropVersions (s : State) (vault idx : Nat) (l : List (Nat × Nat)) : State := match s.vault? vault with
  | none => s
  | some v =>
    let recorded (x : Nat × Nat) : Bool := v.bands.any (fun b => b.entries.any (fun e => e.vba == x.1 && decide (x.2 ≤ e.ver)))
    s.setDisc vault idx (fun d => { d with dropped := d.dropped ++ l.filter (fun x => !recorded x && !d.dropped.contains x) })

end Sys2Proof.Machine
end

