-- ==== Sys2Proof/Machine/Gaffer.lean ====
section
/-!
DEFINITION. The gaffer as the dispatcher sees it (R229 to R234), its frames in the control cache (R236), trap causes raised by
the station (R235), the end of a task and what it means for the commands it serves (R232, R307), and the switch of a station
to another microcode bank (R242, R243).
-/

namespace Sys2Proof.Machine

/-- R229: the gaffer holds a task. -/
def State.holdsTask (s : State) (n : Nat) : Bool :=
  s.bit (TASK_STATUS n) TASK_STATUS_BUSY || s.bit (TASK_STATUS n) TASK_STATUS_SUSP

/-- A trap cause becomes pending with its INFO (R235). -/
def State.trapCause (s : State) (n c info : Nat) : State :=
  let s := s.setFld (SEQ_TRAP n) SEQ_TRAP_PEND (s.fld (SEQ_TRAP n) SEQ_TRAP_PEND ||| 2 ^ c)
  s.setStn (toStn n) (fun t => { t with gaf.info := SMap.ins c info t.gaf.info })

def State.clearCause (s : State) (n c : Nat) : State :=
  let p := s.fld (SEQ_TRAP n) SEQ_TRAP_PEND
  s.setFld (SEQ_TRAP n) SEQ_TRAP_PEND (if p.testBit c then p - 2 ^ c else p)

/-- The operation code of a task (Table 8.6). -/
def taskOp : TaskKind → Nat
  | .load => 1 | .park => 2 | .stow => 3 | .retire => 4 | .seek => 5 | .bandWrite => 6 | .bandRead => 7 | .capture => 8
  | .calStep => 9 | .spin => 10 | .mode => 0

def opTask (k : Nat) : Option TaskKind :=
  [TaskKind.load, .park, .stow, .retire, .seek, .bandWrite, .bandRead, .capture, .calStep, .spin].find? (fun t => taskOp t == k)

/-- The station is unavailable (Table 3.12) or FATAL. -/
def State.unusableStn (s : State) (n : Nat) : Bool := s.bit (STN_STAT n) STN_STAT_UNAVAIL || s.fatal n

/-! ## Frames (R236, Table 8.8) -/

/-- The cache line number of line `k` of station n's frames: 0 the trap frame, 1 and 2 the suspend frame (R406). -/
def frameLine (n k : Nat) : Nat := (0x1000 + 0xC0 * n) / 64 + k

/-- Line 0 of a frame: the gaffer's state with `pc` as its PC. -/
def State.frame0 (s : State) (n pc cause info : Nat) : Bytes :=
  let g := (s.station (toStn n)).gaf
  leBytes 4 (pc % 2 ^ 14 + 2 ^ 14 * s.fld (SEQ_STAT n) SEQ_STAT_SP + 2 ^ 18 * s.fld (SEQ_STAT n) SEQ_STAT_FLAGS + 2 ^ 24 * cause)
  ++ leBytes 4 info ++ g.m.flatMap (fun w => leBytes 4 w.toNat) ++ g.lc.flatMap (leBytes 2) ++ g.stack.flatMap (leBytes 2)

/-- What line 0 of a frame says is restored. -/
def State.restore0 (s : State) (n : Nat) (b : Bytes) : State :=
  let w := leNat (slice b 0 4)
  let s := s.setFld (SEQ_STAT n) SEQ_STAT_PC (w % 2 ^ 14)
  let s := s.setFld (SEQ_STAT n) SEQ_STAT_SP (w / 2 ^ 14 % 16)
  let s := s.setFld (SEQ_STAT n) SEQ_STAT_FLAGS (w / 2 ^ 18 % 32)
  s.setStn (toStn n) (fun t => { t with
    gaf.m := (List.range 8).map (fun i => BitVec.ofNat 32 (leNat (slice b (8 + 4 * i) 4))),
    gaf.lc := (List.range 4).map (fun i => leNat (slice b (40 + 2 * i) 2)),
    gaf.stack := (List.range 8).map (fun i => leNat (slice b (48 + 2 * i) 2) % 2 ^ 14) })

/-- A frame line is written, in its locked way, with the station as the writer. -/
def State.writeFrame (s : State) (n k : Nat) (b : Bytes) : State :=
  s.setLine s.frameWay ⟨frameLine n k, b, true, n, false⟩

def State.readFrame (s : State) (n k : Nat) : Bytes := (s.lineAt (frameLine n k) s.frameWay).data

/-- The micro-timer's remaining time in µs (R222); how a disarmed timer is written is free. DESIGN CHOICE: log entry 11. -/
def State.timerWord (s : State) (n : Nat) : Nat := match (s.station (toStn n)).gaf.timer with
  | some t => (t - s.now) % 2 ^ 32
  | none => Config.timerDisarmed.toNat

/-- R234: the suspend frame is written, PC being that of the microword after the SUSPEND. -/
def State.saveSuspend (s : State) (n pc : Nat) : State :=
  let g := (s.station (toStn n)).gaf
  let l1 := leBytes 4 (s.reg (TASK_OP n)).toNat ++ (List.range 6).flatMap (fun k => leBytes 4 (s.reg (TASK_ARG n k)).toNat)
    ++ leBytes 4 g.mask ++ leBytes 4 (s.timerWord n) ++ zeros 28
  (s.writeFrame n 1 (s.frame0 n pc 0 0)).writeFrame n 2 l1

/-- Table 6.5: the loop whose target a ladder step moves, and by how much of the Q1.15 target (R183). -/
def State.ladderShift (s : State) (n step : Nat) : Option (Nat × Int) :=
  let f : Int := s.fld (RC_RETRY n) RC_RETRY_FOFS
  let t : Int := s.fld (RC_RETRY n) RC_RETRY_TOFS
  if step = 3 then some (0, 32 * f) else if step = 4 then some (0, -(32 * f)) else if step = 5 then some (1, 32 * t)
  else if step = 6 then some (1, -(32 * t)) else none

/-- The controller moves the set-point target of FOC or TRK; LP_STAT.RAMPING shows whether r differs from it (R102). -/
def State.moveTarget (s : State) (n L : Nat) (v : Int) : State :=
  let r := ((s.station (toStn n)).servo.loops[Fin.ofNat 8 L]).r
  (s.setFldInt (LP_SP n L) LP_SP_TARGET v).setBit (LP_STAT n L) LP_STAT_RAMPING (r != satS 16 v * 2 ^ 8)

/-- R183: the step's target offset is applied, and the target without it kept. -/
def State.ladderMove (s : State) (n : Nat) (p : Pass) : State × Pass := match s.ladderShift n p.step with
  | none => (s, { p with moved := none })
  | some (L, d) =>
    let base := s.fldInt (LP_SP n L) LP_SP_TARGET
    (s.moveTarget n L (satS 16 (base + d)), { p with moved := some (L, base) })

/-- The target that the pass's ladder step moved goes back (R183). -/
def State.unmove (s : State) (n : Nat) : State := match (s.station (toStn n)).read.pass with
  | none => s
  | some p => match p.moved with
    | none => s
    | some (L, v) => (s.moveTarget n L v).setStn (toStn n) (fun t => { t with read.pass := some { p with moved := none } })

/-- R186: single-look reading is in force. -/
def State.singleLook (s : State) (n : Nat) : Bool := s.bit (RC_CTL n) RC_CTL_FORCE_SL || s.bit (STN_STAT n) STN_STAT_DEGRADED

/-- RC_STAT.SL shows whether single-look reading is in force (R193). -/
def State.showSl (s : State) (n : Nat) : State := s.setBit (RC_STAT n) RC_STAT_SL (s.singleLook n)

/-- A band pass begins on station n: its streams begin anew (R159, R165). -/
def ReadCh.fresh (r : ReadCh) : ReadCh :=
  { r with streams := Vector.replicate 16 {}, lookSlot := none, looks := [], syncs := [], lastSync := [] }

/-- R162: the zone table's address. -/
def State.ztabReg (s : State) (n : Nat) : Nat := s.fld (RC_ZTAB_LO n) RC_ZTAB_LO_ADDR * 4096 + s.fld (RC_ZTAB_HI n) RC_ZTAB_HI_ADDR * 2 ^ 32

/-- R184, R193: a pass that was cut short begins again, with its offset, with its ladder step shown and with the zone table then in use. -/
def State.passAgain (s : State) (n : Nat) : State := match (s.station (toStn n)).read.pass with
  | none => s
  | some p =>
    let (s, p) := if p.phase = 0 then s.ladderMove n { p with ztab := s.ztabReg n, zvalid := s.bit (RC_ZTAB_LO n) RC_ZTAB_LO_VALID } else (s, p)
    let s := s.setStn (toStn n) (fun t => { t with read := { t.read.fresh with pass := some p } })
    let s := (s.setBit (RC_STAT n) RC_STAT_PASS true).setFld (RC_STAT n) RC_STAT_STEP p.step
    (s.setBit (RC_STAT n) RC_STAT_OUTER (p.phase == 1)).showSl n

/-- R234 step 5: the suspend frame and the task registers are restored, SUSP and DONE cleared and BUSY set. -/
def State.resumeSuspended (s : State) (n : Nat) : State :=
  let b := s.readFrame n 2
  let s := s.restore0 n (s.readFrame n 1)
  let s := s.setReg (TASK_OP n) (BitVec.ofNat 32 (leNat (slice b 0 4)))
  let s := (List.range 6).foldl (fun s k => s.setReg (TASK_ARG n k) (BitVec.ofNat 32 (leNat (slice b (4 + 4 * k) 4)))) s
  let tw := leNat (slice b 32 4)
  let s := s.setStn (toStn n) (fun t => { t with
    gaf.mask := leNat (slice b 28 4) % 2 ^ 16,
    gaf.timer := if BitVec.ofNat 32 tw = Config.timerDisarmed then none else some (s.now + tw),
    gaf.wait := none, gaf.waitLeft := none, gaf.inTrap := false, gaf.afterRtt := false, gaf.preempt := false,
    way := none, loader := none })
  let s := ((s.setBit (TASK_STATUS n) TASK_STATUS_SUSP false).setBit (TASK_STATUS n) TASK_STATUS_DONE false).setBit
    (TASK_STATUS n) TASK_STATUS_BUSY true
  let s := s.setFld (SEQ_STAT n) SEQ_STAT_STATE 1
  let s := s.setStn (toStn n) (fun t => { t with
    read.pass := t.read.passKept, read.passKept := none, read.cap := t.read.capKept, read.capKept := none,
    write := t.writeKept, writeKept := none })
  let s := s.passAgain n
  match SMap.get? s.work.suspended n with
  | none => s
  | some t => { s with work.inHand := SMap.ins n t s.work.inHand, work.suspended := SMap.del n s.work.suspended }

/-- R184: a ladder pass that a pre-emption cuts short is run again whole; the first pass goes on likewise. -/
def Pass.again (p : Pass) (left : List (Nat × Nat)) : Pass := if p.phase = 0 then { p with left := left } else p

/-- R234: TASK SUSPEND. The task in hand is put aside with what it was doing, and the gaffer can be handed one task. -/
def State.suspend (s : State) (n pc : Nat) (left : List (Nat × Nat)) : State :=
  if s.bit (TASK_STATUS n) TASK_STATUS_SUSP || !s.bit (TASK_STATUS n) TASK_STATUS_BUSY then s
  else
    let s := (s.saveSuspend n pc).unmove n
    let s := (s.setBit (TASK_STATUS n) TASK_STATUS_SUSP true).setBit (TASK_STATUS n) TASK_STATUS_BUSY false
    let s := (s.setFld (SEQ_STAT n) SEQ_STAT_STATE 4).setReg (RC_STAT n) (fldSet RC_STAT_STEP (fldSet RC_STAT_OUTER (fldSet RC_STAT_PASS (s.reg (RC_STAT n)) 0) 0) 0)
    let s := s.setStn (toStn n) (fun t => { t with
      gaf.preempt := false, gaf.wait := none, gaf.waitLeft := none,
      read.passKept := t.read.pass.map (fun p => p.again left), read.pass := none, read.capKept := t.read.cap, read.cap := none,
      writeKept := t.write.map (fun b => { b with waitSince := none }), write := none })
    match s.inHand? n with
    | none => s
    | some t => { s with work.suspended := SMap.ins n t s.work.suspended, work.inHand := SMap.del n s.work.inHand }

/-! ## Activation (R242, R243) -/

/-- FW_ACTIVATE of microcode completes when no PEND remains. DEDUCED: log entry 45. -/
def State.checkActivation (s : State) : State := match s.work.activation with
  | none => s
  | some id =>
    if (List.range 16).any (fun n => s.bit (SEQ_BANK n) SEQ_BANK_PEND) then s
    else ({ s with work.activation := none, work.hold := false } : State).finishWith id .ok

/-- A station switches at its band boundary. DEDUCED: log entry 45. -/
def State.switchBank (s : State) (n : Nat) : State :=
  if s.bit (SEQ_BANK n) SEQ_BANK_PEND then
    ((s.setFld (SEQ_BANK n) SEQ_BANK_CUR (s.fld (SEQ_BANK n) SEQ_BANK_DEV)).setBit (SEQ_BANK n) SEQ_BANK_PEND false).checkActivation
  else s

/-! ## Reads served by tasks -/

/-- A task of command `id` still waits, runs or is suspended. -/
def State.hasTask (s : State) (id : Nat) : Bool :=
  s.work.tasks.any (fun t => t.cmds.contains id) || s.work.inHand.any (fun e => e.2.cmds.contains id)
  || s.work.suspended.any (fun e => e.2.cmds.contains id)

/-- The records of soft export that fit their buffer (R188, Table 11.3). DEDUCED: log entry 53. -/
def softOut (c : Cmd) : Bytes := ((c.records.filterMap id).take (cap c.caps 48 4 / 37504)).flatten

/-- The command is READ or READ_VERSION. -/
def isRead (c : Cmd) : Bool := capOPC c.caps == 1 || capOPC c.caps == 3

/-- A READ all of whose blocks are in hand sends them to the host in VBA order and ends (R313, R286); one that has met a
failure ends with it once no task serves it, its soft-export records written; data that only carries the poison mark goes to the host
all the same (R395). DEDUCED: log entry 43. -/
def State.finishRead (s : State) (id : Nat) : State := match s.cmd? id with
  | none => s
  | some c =>
    if c.ended || s.hasTask id || c.outDone then s
    else
      let soft := softOut c
      let seg := if soft.isEmpty then [] else [(cap c.caps 40 8, soft.length)]
      let k := soft.length / 37504
      let whole := c.blocks.all (fun b => b.at' == .gathered)
      let toCome := c.blocks.any (fun b => match b.at' with | .forward _ => true | _ => false)
      if isFailure c.status && !(c.status == .dataPoisoned && (whole || toCome)) then
        if soft.isEmpty then s.finishWith id c.status
        else (s.setCmd id (fun c => { c with segsOut := seg, res0 := c.res0 + k * 2 ^ 32 })).result id soft
      else if whole then
        (s.setCmd id (fun c => { c with segsOut := c.segsOut ++ seg, res0 := c.res0 + k * 2 ^ 32 })).result id (c.blocks.flatMap (·.data) ++ soft)
      else s

/-! ## Seal exports (R357) -/

/-- Table 13.4: the state of band number `q`, its band, and the record as built. -/
def exportEntry (v : Vault) (q : Nat) (r : Option Bytes) : Nat × Option Band × Bytes :=
  match v.bands.find? (fun b => b.seq == q && b.flags / 4 % 2 == 0) with
  | none => (1, none, [])
  | some b => match r with
    | none => (2, some b, [])
    | some [] => (3, some b, [])
    | some x => (if sealValid v.sealPub x && (readSeal x).key == 0 then 0 else 4, some b, x)

/-- One 16,672-byte entry of an export. -/
def exportBytes (q : Nat) (e : Nat × Option Band × Bytes) : Bytes :=
  leBytes 8 q ++ leBytes 4 (match e.2.1 with | some b => b.loc | none => 0)
  ++ leBytes 1 (match e.2.1 with | some b => b.disc | none => 0xFF) ++ leBytes 1 e.1 ++ zeros 18 ++ fit 16640 e.2.2

/-- A SEAL_EXPORT none of whose bands is still to be read writes its header and entries, as far as they fit, and ends.
DEDUCED: log entry 56. -/
def State.finishExport (s : State) (id : Nat) : State := match s.cmd? id with
  | none => s
  | some c =>
    if c.ended || s.hasTask id || c.outDone then s
    else match s.ledger.vaults.find? (fun v => v.id == capVAULT c.caps) with
      | none => s.finishWith id .internal
      | some v =>
        let first := cap c.caps 24 8
        let es := (List.zip (List.range c.records.length) c.records).map (fun e => (first + e.1, exportEntry v (first + e.1) e.2))
        let head := [0x42#8, 0x52#8, 0x53#8, 0x58#8] ++ leBytes 2 1 ++ zeros 2 ++ leBytes 4 v.id ++ leBytes 4 es.length
          ++ leBytes 8 first ++ fit 32 v.sealPub ++ zeros 72
        let s := es.foldl (fun (s : State) e => if e.2.1 = 2 then s.note id .stationUnavailable
          else if e.2.1 = 3 then s.note id .mediumReadError
          else if e.2.1 = 4 then s.note id .sealMismatch else s) s
        let room := capDLEN c.caps
        let bs := if room < 128 then [] else head ++ (es.take ((room - 128) / 16672)).flatMap (fun e => exportBytes e.1 e.2)
        (s.setCmd id (fun c => { c with res1 := bs.length })).result id bs

/-! ## Captures -/

def State.rd (s : State) (n : Nat) : ReadCh := (s.station (toStn n)).read

def State.setRd (s : State) (n : Nat) (g : ReadCh → ReadCh) : State := s.setStn (toStn n) (fun t => { t with read := g t.read })

/-- Bytes of a capture join those on their way to the host. -/
def State.capOut (s : State) (id : Nat) (segs : List (Nat × Nat)) (bs : Bytes) : State :=
  s.setCmd id (fun c => { c with phase := 2, segsOut := c.segsOut ++ segs, outBytes := c.outBytes ++ bs })

/-- R191: the run of dropped epochs is entered in the gap list, if the list has room; the gaps so far. -/
def State.closeGap (s : State) (c : Capture) : State × Nat := match c.gap with
  | none => (s, c.gaps)
  | some (k, m, why) => match s.cmd? c.cmd with
    | none => (s, c.gaps + 1)
    | some x =>
      if cap x.caps 56 4 < 16 * (c.gaps + 1) then (s, c.gaps + 1)
      else (s.capOut c.cmd [(cap x.caps 48 8 + 16 * c.gaps, 16)] (leBytes 4 k ++ leBytes 4 m ++ leBytes 1 why ++ zeros 7), c.gaps + 1)

/-- A capture ends (R191, R307, R308, Table 11.5): its last gap is entered, RES0 and RES1 count, and it completes once its
bytes have left the capture ring and the controller. -/
def State.captureDone (s : State) (n : Nat) (c : Capture) (st : Status) : State :=
  let (s, gaps) := s.closeGap c
  let s := s.setCmd c.cmd (fun x => { x with
    phase := 2, outDone := !(s.work.ring.any (fun e => e.cmd == c.cmd)), station := n, res0 := c.k - c.dropped, res1 := gaps })
  let s := if c.dropped > 0 then s.note c.cmd .okDegraded else s
  (s.note c.cmd st).pump c.cmd

/-! ## The end of a task -/

/-- R232, R302, R307: RESULT `st` reaches the commands that the task serves. -/
def State.taskResult (s : State) (t : Task) (st : Status) : State :=
  let s := if st = .stationUnavailable then t.cmds.foldl (fun (s : State) i => s.noteAt i 0 (s.lossEvent t.stn) st) s else s
  match t.kind with
  | .bandRead => t.cmds.foldl (fun s i =>
      let s := (s.note i st).setCmd i (fun c => { c with station := t.stn })
      if (match s.cmd? i with | some c => capOPC c.caps == 0x10 | none => false) then s.finishExport i else s.finishRead i) s
  | .bandWrite => s
  | .load => t.cmds.foldl (fun s i =>
      let s := s.setCmd i (fun c => { c with station := t.stn })
      if isFailure st then s.finishWith i st else (s.note i st).result i ((s.station (toStn t.stn)).ident.take 32)) s
  | .capture =>
    let caps := (s.rd t.stn).cap.toList ++ (s.rd t.stn).capKept.toList
    t.cmds.foldl (fun s i => match caps.find? (fun c => c.cmd == i) with
      | some c => s.captureDone t.stn c st
      | none => (s.setCmd i (fun c => { c with station := t.stn })).finishWith i st) s
  | _ => t.cmds.foldl (fun s i => (s.setCmd i (fun c => { c with station := t.stn })).finishWith i st) s

/-- R33: the plan slot that ran is over; a plan that has run out is reported. DEDUCED: log entry 66. -/
def State.slotOver (s : State) (n : Nat) : State :=
  let s := s.setStn (toStn n) (fun t => { t with slotRun := none, slotOn := false, planNew := false, slotDue := false })
  if (s.station (toStn n)).plan.isEmpty then (s.setStn (toStn n) (fun t => { t with planOut := true })).raiseStn n 17 [] else s

/-- R31, R305: a write slot ends with its task; a read slot ends when its time is over, when the plan has been replaced, or when
no read of the station waits. DEDUCED: log entry 66. -/
def State.slotEnd (s : State) (n : Nat) (t : Option Task) : State := match (s.station (toStn n)).slotRun, t with
  | some p, some t =>
    if !(s.station (toStn n)).slotOn then s
    else
    let late := decide (p.dur ≤ s.now - (s.station (toStn n)).slotSince)
    if !p.read then (if t.kind = .bandWrite then s.slotOver n else s)
    else if t.kind = .bandRead && (late || (s.station (toStn n)).planNew || !(s.work.tasks.any (fun x => x.stn == n && x.kind == .bandRead))) then s.slotOver n
    else s
  | _, _ => s

/-- R29: a change of mode takes effect at a band boundary. -/
def State.applyMode (s : State) (n : Nat) : State := match (s.station (toStn n)).wantPlanned with
  | none => s
  | some b =>
    let s := s.setStn (toStn n) (fun t => { t with
      planned := b, wantPlanned := none, slotSpeed := if b then t.slotSpeed else none, planOut := b && t.planOut,
      slotRun := if b then t.slotRun else none, slotOn := b && t.slotOn, planNew := b && t.planNew, slotDue := b && t.slotDue })
    s.setBit (STN_CTL n) STN_CTL_MODE b

/-- R232: the task in hand ends with RESULT `st`; a suspended one is then restored (R234). DEDUCED: log entries 45, 48. -/
def State.endTask (s : State) (n : Nat) (st : Status) : State :=
  if !s.bit (TASK_STATUS n) TASK_STATUS_BUSY then s
  else
    let t? := s.inHand? n
    let s := s.setFld (TASK_STATUS n) TASK_STATUS_RESULT (statusCode st)
    let s := s.setFld (TASK_STATUS n) TASK_STATUS_SEQ (s.fld (TASK_OP n) TASK_OP_SEQ)
    let s := (s.setBit (TASK_STATUS n) TASK_STATUS_DONE true).setBit (TASK_STATUS n) TASK_STATUS_BUSY false
    let s := s.setFld (SEQ_STAT n) SEQ_STAT_STATE (if s.fatal n then 5 else if s.bit (TASK_STATUS n) TASK_STATUS_SUSP then 4 else 0)
    let s := s.clearCause n 13
    let s := s.setStn (toStn n) (fun g => { g with
      gaf.inTrap := false, gaf.afterRtt := false, gaf.wait := none, gaf.waitLeft := none, gaf.preempt := false,
      spin.lostAt := none, servo.taking := false })
    let s := ({ s with work.inHand := SMap.del n s.work.inHand } : State).unmove n
    let s := match t? with
      | some t => s.taskResult t st
      | none => s
    let s := s.setRd n (fun r => { r with pass := none, cap := none })
    let s := ((s.setBit (RC_STAT n) RC_STAT_PASS false).setBit (RC_STAT n) RC_STAT_OUTER false).setFld (RC_STAT n) RC_STAT_STEP 0
    let s := (s.slotEnd n t?).showSl n
    let s := s.applyMode n
    if s.bit (TASK_STATUS n) TASK_STATUS_SUSP then (if s.fatal n then s else s.resumeSuspended n)
    else s.switchBank n

/-- Does the gaffer hold a task of this kind? -/
def State.inTask (s : State) (n : Nat) (k : TaskKind) : Bool :=
  s.bit (TASK_STATUS n) TASK_STATUS_BUSY && s.fld (TASK_OP n) TASK_OP_OP == taskOp k

/-! ## Handing a task over (R229 to R231) -/

/-- R230: a GO is refused. DEDUCED: log entry 47. -/
def State.goRefused (s : State) (n : Nat) : Bool :=
  s.bit (TASK_STATUS n) TASK_STATUS_BUSY || (opTask (s.fld (TASK_OP n) TASK_OP_OP)).isNone || s.unusableStn n || (s.station (toStn n)).retired
  || !s.bankOk (if s.bit (TASK_STATUS n) TASK_STATUS_SUSP then s.fld (SEQ_BANK n) SEQ_BANK_CUR else s.fld (SEQ_BANK n) SEQ_BANK_DEV)

/-- R119, R443: the task in TASK_OP uses an optical loop: every kind but SPIN, and of the calibration steps those that read or write the
disc. DEDUCED: log entry 218. -/
def State.usesOptics (s : State) (n : Nat) : Bool :=
  let op := s.fld (TASK_OP n) TASK_OP_OP
  if op = taskOp .calStep then 0x12 ≤ (s.reg (TASK_ARG n 0)).toNat && (s.reg (TASK_ARG n 0)).toNat ≤ 0x14 else op != taskOp .spin

/-- R230, R231: TASK_GO is set. DEDUCED: log entry 47. -/
def State.go (s : State) (n : Nat) : State :=
  if s.goRefused n then s.setBit (TASK_STATUS n) TASK_STATUS_REFUSED true
  else
    let s := if s.bit (TASK_STATUS n) TASK_STATUS_SUSP then s
      else s.setFld (SEQ_BANK n) SEQ_BANK_CUR (s.fld (SEQ_BANK n) SEQ_BANK_DEV)
    let s := s.setBit (TASK_STATUS n) TASK_STATUS_BUSY true
    let s := s.setReg (SEQ_STAT n) (BitVec.ofNat 32 (2 ^ 28 + 0x100 + 4 * s.fld (TASK_OP n) TASK_OP_OP))
    s.setStn (toStn n) (fun t => { t with
      gaf.m := List.replicate 8 0#32, gaf.lc := [0, 0, 0, 0], gaf.mask := 0, gaf.timer := none,
      gaf.wait := none, gaf.waitLeft := none, gaf.inTrap := false, gaf.afterRtt := false,
      way := none, loader := none, servo.taking := s.usesOptics n })

/-- R487: a parison that was placed but not begun is placed again; the checkpoint that it is part of is written again (R337, R342). -/
def State.returnParison (s : State) (p : Parison) : State :=
  if p.ckpt.isSome then s.redoCheckpoint p.vault (p.disc.getD 0)
  else
    let p : Parison := { p with disc := none, due := true }
    let rest := s.ledger.parisons.filter (fun x => x.id != p.id)
    ({ s with ledger.parisons := p :: rest } : State).placeParison p

/-- The parison that a BAND_WRITE task is to write. -/
def State.taskParison (s : State) (t : Task) : Option Parison :=
  s.ledger.parisons.find? (fun p => p.id == t.args.getD 1 0)

/-- R230: a GO of the dispatcher that is refused is reported: its commands end with STATION_UNAVAILABLE, its parison is placed again.
DEDUCED: log entry 47. -/
def State.handRefused (s : State) (n : Nat) (t : Task) : State :=
  if t.kind = .bandWrite then (match s.taskParison t with | some p => s.returnParison p | none => s)
  else s.taskResult { t with stn := n } .stationUnavailable

/-- The handle of a band's description (Table 8.6): 0 names none. DEDUCED: log entry 202. -/
def bandHandle (b : Band) : Nat := (b.seq + 1) % 2 ^ 32

/-- The band at a location of the disc that station n holds. -/
def State.bandAt (s : State) (n loc : Nat) : Option (Vault × Band) :=
  s.ledger.vaults.findSome? (fun v => match v.discs.find? (fun d => d.stn == some n) with
    | some d => (v.bands.find? (fun b => b.disc == d.idx && b.loc / 2048 == loc / 2048)).map (fun b => (v, b))
    | none => none)

/-- Table 8.6: the arguments of a task; a BAND_READ's ARG1 and ARG2 are the handles of its requests and of its band.
DEDUCED: log entry 202. -/
def State.taskArgs (s : State) (n : Nat) (t : Task) : List Nat :=
  if t.kind = .bandRead then
    (t.args.set 1 (t.id % 2 ^ 32)).set 2 (match s.bandAt n (t.args.getD 0 0) with | some (_, b) => bandHandle b | none => 0)
  else t.args

/-- R229: the dispatcher writes the task registers of station n and sets GO. -/
def State.handOver (s : State) (n : Nat) (t : Task) : State :=
  let s := s.setReg (TASK_OP n) (BitVec.ofNat 32 (t.id % 65536 * 65536 + taskOp t.kind))
  let s := (List.range 6).foldl (fun s k => s.setReg (TASK_ARG n k) (BitVec.ofNat 32 ((s.taskArgs n t).getD k 0))) s
  let s : State := { s with work.tasks := s.work.tasks.filter (fun x => x.id != t.id) }
  if s.goRefused n then (s.go n).handRefused n t
  else
    let s := t.cmds.foldl (fun (s : State) i => s.setCmd i (fun c => { c with started := true })) s
    ({ s with work.inHand := SMap.ins n t s.work.inHand } : State).go n

/-! ## Queued work of a station that cannot do it -/

/-- Table 3.12, R240: the tasks that wait for station n end with STATION_UNAVAILABLE, or return their parisons. -/
def State.failQueued (s : State) (n : Nat) (st : Status) : State :=
  let mine := s.work.tasks.filter (fun t => t.stn == n)
  let s := { s with work.tasks := s.work.tasks.filter (fun t => t.stn != n) }
  mine.foldl (fun s t => if t.kind = .bandWrite then (match s.taskParison t with | some p => s.returnParison p | none => s)
    else s.taskResult t st) s

/-- R88, Table 3.12: a degraded station begins no band: the parisons queued for it return. -/
def State.returnQueued (s : State) (n : Nat) : State :=
  let mine := s.work.tasks.filter (fun t => t.stn == n && t.kind == .bandWrite)
  let s := { s with work.tasks := s.work.tasks.filter (fun t => !(t.stn == n && t.kind == .bandWrite)) }
  mine.foldl (fun s t => match s.taskParison t with | some p => s.returnParison p | none => s) s

end Sys2Proof.Machine
end

