-- ==== Sys2Proof/Machine/Lines.lean ====
section
/-!
DEFINITION. How the links of a station port are coded: 64b/66b with its scrambler on SA0, SA1 and CL (R71), 8b/10b on MO and MI (R79),
and the Manchester bits and CRC-4 of AX (R82).
-/

namespace Sys2Proof.Machine

/-! ## 64b/66b (R71) -/

/-- The sync header of a block: 0b01 for data, 0b10 for control. -/
def syncOf (data : Bool) : Nat := if data then 1 else 2

/-- R71: 64 payload bits scrambled by x^58 + x^39 + 1 behind the last 58 bits sent, `h`, oldest at bit 0; with the last 58 bits after
them. -/
def scramble (h x : Nat) : Nat × Nat :=
  let a := (x ^^^ (h >>> 19) ^^^ h) % 2 ^ 39
  let h1 := (h >>> 39) + a * 2 ^ 19
  let b := ((x >>> 39) ^^^ (h1 >>> 19) ^^^ h1) % 2 ^ 25
  (a + b * 2 ^ 39, (h1 >>> 25) + b * 2 ^ 33)

/-- R71: the payload of 64 received bits `y` behind the 58 bits `h`. -/
def descramble (h y : Nat) : Nat :=
  let z := h + y * 2 ^ 58
  (y ^^^ (z >>> 19) ^^^ z) % 2 ^ 64

/-- The payload of a received block. -/
def Block66.payload (b : Block66) : Nat := descramble b.before.toNat b.bits.toNat

/-- A sync header that is neither 0b01 nor 0b10 is invalid (R75, R86). -/
def Block66.valid (b : Block66) : Bool := b.sync.toNat == 1 || b.sync.toNat == 2

def Block66.isControl (b : Block66) : Bool := b.sync.toNat == 2

/-- Bits [lo + w - 1 : lo] of a control block's payload (Tables 3.3, 3.6). -/
def Block66.field (b : Block66) (lo w : Nat) : Nat := b.payload / 2 ^ lo % 2 ^ w

/-- The 64 payload bits in the order in which they are sent, bit 0 first (R71). DEDUCED: log entry 26. -/
def sentBits (x : Nat) : Nat := (List.range 64).foldl (fun a i => 2 * a + (if x.testBit i then 1 else 0)) 0

/-- R72, R76: the CRC-16 of data blocks, carried on over one more payload. -/
def blockCrc (c : BitVec 16) (payload : Nat) : BitVec 16 := crc16 64 (sentBits payload) c

/-! ## 8b/10b (R79, IEEE 802.3 Clause 36) -/

/-- The 6-bit codes abcdei of the values EDCBA at running disparity −, `a` most significant. -/
def code6 : List Nat := [0x27, 0x1D, 0x2D, 0x31, 0x35, 0x29, 0x19, 0x38, 0x39, 0x25, 0x15, 0x34, 0x0D, 0x2C, 0x1C, 0x17] ++
  [0x1B, 0x23, 0x13, 0x32, 0x0B, 0x2A, 0x1A, 0x3A, 0x33, 0x26, 0x16, 0x36, 0x0E, 0x2E, 0x1E, 0x2B]

/-- The 4-bit codes fghj of the values HGF at running disparity −. -/
def code4 : List Nat := [0xB, 0x9, 0x5, 0xC, 0xD, 0xA, 0x6, 0xE]

/-- How many of the low `n` bits of `x` are 1. -/
def onesIn (n x : Nat) : Nat := ((List.range n).filter (fun i => x.testBit i)).length

/-- Running disparity after a code of `n` bits: true is +. -/
def disparity (n code : Nat) (rd : Bool) : Bool :=
  if n < 2 * onesIn n code then true else if 2 * onesIn n code < n then false else rd

/-- The 6-bit code of `x` at disparity `rd`: an unbalanced one, and 7's, is complemented at +. -/
def enc6 (rd : Bool) (x : Nat) : Nat :=
  let c := code6.getD x 0
  if rd && (onesIn 6 c != 3 || x == 7) then 63 - c else c

/-- The 4-bit code of `y` behind the value `x`, at the disparity after `x`'s code; 7 has an alternate form behind some values. -/
def enc4 (rd : Bool) (x y : Nat) : Nat :=
  let alt := y == 7 && (if rd then x == 11 || x == 13 || x == 14 else x == 17 || x == 18 || x == 20)
  let c := if alt then 0x7 else code4.getD y 0
  if rd && (onesIn 4 c != 2 || y == 3) then 15 - c else c

/-- The 10 bits of a byte, the first sent most significant, and the disparity after it. -/
def enc8b10b (rd : Bool) (b : Nat) : Nat × Bool :=
  let c := enc6 rd (b % 32)
  let r := disparity 6 c rd
  let d := enc4 r (b % 32) (b / 32)
  (c * 16 + d, disparity 4 d r)

/-- The comma K28.5. -/
def commaK (rd : Bool) : Nat × Bool := (if rd then 0x305 else 0x0FA, !rd)

/-- R79: the characters of a frame: the comma, then its bytes. -/
def frameChars (rd : Bool) (bs : Bytes) : List Nat × Bool :=
  bs.foldl (fun (a : List Nat × Bool) b => let r := enc8b10b a.2 b.toNat; (a.1 ++ [r.1], r.2)) ([(commaK rd).1], (commaK rd).2)

/-- The byte that a character spells at running disparity `rd`, and the disparity after it. -/
def dec8b10b (rd : Bool) (c : Nat) : Option (Byte × Bool) :=
  match (List.range 32).find? (fun x => enc6 rd x == c / 16) with
  | none => none
  | some x =>
    let r := disparity 6 (c / 16) rd
    match (List.range 8).find? (fun y => enc4 r x y == c % 16) with
    | none => none
    | some y => some (BitVec.ofNat 8 (32 * y + x), disparity 4 (c % 16) r)

/-- The bytes that characters spell one after the other from disparity `rd`. -/
def decChars : Bool → List Nat → Option Bytes
  | _, [] => some []
  | rd, c :: l => match dec8b10b rd c with
    | none => none
    | some (b, r) => (decChars r l).map (fun bs => b :: bs)

/-- The bytes of a received frame of `n` bytes behind its comma, if every character is one of the column that the running disparity
calls for and its CRC-16 over the bytes before it holds (R79). -/
def frameBytes (n : Nat) (cs : List Nat) : Option Bytes := match cs with
  | [] => none
  | k :: l =>
    if k != 0x0FA && k != 0x305 then none
    else match decChars (k == 0x0FA) l with
      | none => none
      | some bs =>
        if l.length == n && (crc16 (8 * (n - 2)) (beNat (bs.take (n - 2))) 0xFFFF#16).toNat == leNat (bs.drop (n - 2)) then some bs else none

/-! ## AX (R82) -/

/-- CRC-4 of 12 bits, x^4 + x + 1, initial value 0. -/
def crc4 (x : Nat) : Nat := (List.range 12).foldl (fun c i =>
  let b := (if x.testBit (11 - i) then 1 else 0)
  let t := 2 * c % 16
  if (c / 8 + b) % 2 = 1 then t ^^^ 3 else t) 0

/-- The 16 bits of a transmission: 12 bits, then their CRC-4. -/
def axWord (x : Nat) : Nat := x % 4096 * 16 + crc4 (x % 4096)

/-- R82: the levels of the line, in steps of 10 µs: the start pulse, then the bits, the first most significant, a 1 low-then-high, a 0
high-then-low. -/
def axLevels (w : Nat) : List Bool :=
  [false, false] ++ (List.range 16).flatMap (fun i => if w.testBit (15 - i) then [false, true] else [true, false])

end Sys2Proof.Machine
end

