-- ==== Sys2Proof/Machine/WriteOut.lean ====
section
/-!
DEFINITION. Writing a band (ch. 7): preconditions (R201, R202), slots (R195, R196, R204), frames that fail (R205 to R209), the
seal (R210, R211), what a sealed or void band means for its blocks (R206, R212, R213, R334, R337) and the write hold (R214 to
R218).
-/

namespace Sys2Proof.Machine

/-! ## CL blocks and lanes -/

/-- A control block: its type and its fields, (value, width), least significant first (R71, Table 3.6). -/
def clBlock (type : Nat) (fields : List (Nat × Nat)) : Nat :=
  (fields.foldl (fun (a : Nat × Nat) f => (a.1 + (f.1 % 2 ^ f.2) * 2 ^ a.2, a.2 + f.2)) (type, 8)).1

/-- A block joins those waiting for CL of station n. -/
def State.clPut (s : State) (n : Nat) (data : Bool) (payload : Nat) : State :=
  s.setStn (toStn n) (fun t => { t with port.clQueue := t.port.clQueue ++ [(data, payload)] })

/-- A block leaves on CL: its sync header, and its payload scrambled (R71). -/
def State.clWire (s : State) (n : Nat) (data : Bool) (payload : Nat) : State :=
  let r := scramble (s.station (toStn n)).port.clScr payload
  (s.setStn (toStn n) (fun t => { t with port.clScr := r.2 })).emit (.cl n (syncOf data) r.1)

/-- A control block leaves on CL at once, in one of the epoch's block times (R76). -/
def State.clSend (s : State) (n type : Nat) (fields : List (Nat × Nat)) : State :=
  (s.clWire n false (clBlock type fields)).setStn (toStn n) (fun t => { t with port.clLeft := t.port.clLeft - 1 })

/-- R82: a transaction leaves on AX, or waits while the loader holds the line. -/
def State.axSend (s : State) (n op arg : Nat) : State :=
  let x := op % 256 * 16 + arg % 16
  if (s.station (toStn n)).port.axHeld then s.setStn (toStn n) (fun t => { t with port.axQueue := t.port.axQueue ++ [x] })
  else s.emit (.ax n (axLevels (axWord x)))

/-- The field of STN_STAT that shows lane `k`: 0 SA0, 1 SA1, 2 CL, 3 MO, 4 MI. -/
def laneFld (k : Nat) : Fld := ⟨9 + 2 * k, 8 + 2 * k⟩

/-- The state of a lane: 0 down, 1 training, 2 up, 3 failed (Table 3.15). -/
def State.lane (s : State) (n k : Nat) : Nat := s.fld (STN_STAT n) (laneFld k)
def State.setLane (s : State) (n k v : Nat) : State := s.setFld (STN_STAT n) (laneFld k) v

/-- R85, R86: what a lane's check and loss are judged by begins anew. -/
def Port.clearLane (p : Port) (k : Nat) : Port :=
  if k ≤ 1 then { p with hdrBad := p.hdrBad.set k 0, hdrNone := p.hdrNone.set k 0, syncs := p.syncs.set k (0, []), saCrc := p.saCrc.set k 0xFFFF#16, saNext := p.saNext.set k 0xFFFF#16 }
  else if k = 2 then { p with clGood := 0 }
  else if k = 3 then { p with moGood := 0, moBad := 0 }
  else { p with miGood := 0, miNone := 0 }

/-- Training of the lanes `ks` begins (R84, R86); SA0 and SA1 train as a pair if both begin here, or both were lost in this epoch (R89). -/
def State.trainLanes (s : State) (n : Nat) (ks : List Nat) (full : Bool) : State :=
  let s := ks.foldl (fun s k => (s.setLane n k 1).setStn (toStn n) (fun t => { t with port := { (t.port.clearLane k) with
    attempts := t.port.attempts.set k 0, full := t.port.full.set k full,
    lostIn := t.port.lostIn.set k (some (t.port.epochs % 65536)) } })) s
  let p := (s.station (toStn n)).port
  let both := s.lane n 0 == 1 && s.lane n 1 == 1 && p.lostIn.getD 0 none == p.lostIn.getD 1 none
  if ks.any (fun k => decide (k ≤ 1)) then s.setStn (toStn n) (fun t => { t with port.pair := both }) else s

/-- The lane that carries the servo blocks (Table 3.4). -/
def State.servoLane (s : State) (n : Nat) : Nat := if s.fld (STN_STAT n) STN_STAT_MAP = 2 then 1 else 0

/-- Lanes `ks` train: no strategy set has been sent since (R200), and once the servo lane is among them the first epoch framed after training
begins the 20-epoch groups anew (R95). DEDUCED: log entry 35. -/
def State.freshTraining (s : State) (n : Nat) (ks : List Nat) : State :=
  let s := s.setStn (toStn n) (fun t => { t with setSent := none })
  if ks.contains (s.servoLane n) then
    s.setStn (toStn n) (fun t => { t with port := { t.port with framed := 0, inFrame := false, slowSum := List.replicate 8 0 } })
  else s

/-! ## Bands being written -/

def State.bw? (s : State) (n : Nat) : Option BandWrite := (s.station (toStn n)).write

/-- The bands a station holds: the one in hand and the one of a suspended task. -/
def State.bands (s : State) (n : Nat) : List BandWrite :=
  (s.station (toStn n)).write.toList ++ (s.station (toStn n)).writeKept.toList

def State.setBw (s : State) (n : Nat) (g : BandWrite → BandWrite) : State :=
  s.setStn (toStn n) (fun t => { t with write := t.write.map g })

/-- The band has been begun: its first slot has been written (R202, R333). -/
def BandWrite.begun (b : BandWrite) : Bool := b.seq.isSome

/-- The vault that a band belongs to. -/
def BandWrite.vault (b : BandWrite) : Nat := b.par.vault

/-- Data index d is in the band: below n, and not skipped in a hold (R206). -/
def BandWrite.has (b : BandWrite) (d : Nat) : Bool := decide (d < b.n) && !b.holes.contains d

/-- The home slot and spiral of data index d, as one index 8t + s. -/
def slotIndex (d : Nat) : Nat := 8 * (homeSlot d).1 + (homeSlot d).2

/-- The data frame of index d: the same information wherever it is written (R52, R58). -/
def BandWrite.frame (b : BandWrite) (d : Nat) : Option Bytes := match b.par.blocks[d]? with
  | none => none
  | some x => some (frameInfo x.ct ⟨x.vba, x.ver, b.vault, b.seq.getD 0, slotIndex d, 0, x.tag⟩)

/-- R196, R207, R215: the band's data frames as the outer code sees them: an index not in the band counts as zeros. -/
def BandWrite.members (b : BandWrite) : List (Option Bytes) :=
  (List.range 512).map (fun d => if b.has d then b.frame d else none)

/-- The copies that stand assigned to spares (R207). -/
def BandWrite.copies (b : BandWrite) : List Spare := b.spares.filter (fun x => !x.withdrawn)

/-- Table 2.9: the relocation list. Its order is the model's: spares in order of assignment, then the slots skipped in holds.
DESIGN CHOICE: log entry 174. -/
def BandWrite.relocs (b : BandWrite) : List Reloc :=
  b.copies.map (fun x => (⟨x.slot, x.spiral, x.spare, x.spiral, 0⟩ : Reloc))
  ++ b.cause1.flatMap (fun t => (List.range 8).map (fun k => (⟨t, k, 0xFF, 0xFF, 1⟩ : Reloc)))

/-- Band flags (Table 2.7). -/
def BandWrite.flags (b : BandWrite) : Nat := (if b.early then 1 else 0) + (if b.holds > 0 then 2 else 0)

/-- The ledger entries, (VBA, VERSION), of data indices 0 to n - 1: 0 for an index skipped in a hold (R206). -/
def BandWrite.entries (b : BandWrite) : List (Nat × Nat) :=
  (List.range b.n).map (fun d => if b.has d then (match b.par.blocks[d]? with | some x => (x.vba, x.ver) | none => (0, 0)) else (0, 0))

/-- R61, R210, R356: the seal record as it stands now. -/
def State.sealNow (s : State) (b : BandWrite) : SealRec :=
  let users := ((List.range b.n).filter (fun d => b.has d)).map (fun d => match b.par.blocks[d]? with | some x => x.ct | none => [])
  let kept := (s.ledger.released.find? (fun v => v.id == b.vault)).map (fun v => v.discs.filter (fun d => d.idx == b.disc))
  let prev := match s.disc? b.vault b.disc, kept with
    | some d, _ => d.lastSeal
    | none, some (d :: _) => d.lastSeal
    | none, _ => []
  ⟨b.n, b.vault, 0, b.discId, b.seq.getD 0, b.loc, b.flags, s.stamp, bandDigest users, prev, b.entries, b.relocs⟩

/-- R210: the record is frozen (again) and given to the seal engine. DEDUCED: log entry 166. -/
def State.freeze (s : State) (n : Nat) : State := match s.bw? n with
  | none => s
  | some b => s.setBw n (fun x => { x with frozen := some (s.now, s.sealNow b), signed := none, sealReady := false })

/-- R210: after the first freeze, a change brought during a hold freezes the record again. -/
def State.refreeze (s : State) (n : Nat) : State := match s.bw? n with
  | none => s
  | some b => if b.frozen.isSome then s.freeze n else s

/-- SEAL_SIGNED (R210, R356): the seal engine has signed the record of the latest freeze. DEDUCED: log entry 166. -/
def State.sealSigned (s : State) (n : Nat) : State := match s.bw? n with
  | none => s
  | some b => if b.frozen.isSome && b.signed.isNone then s.setBw n (fun x => { x with signed := some s.now }) else s

/-- WR_SPARE shows the copies that stand (R207). -/
def State.showSpares (s : State) (n : Nat) : State := match s.bw? n with
  | none => s
  | some b => s.setReg (WR_SPARE n) (BitVec.ofNat 32 (((List.range 8).map (fun k =>
      (b.copies.filter (fun x => x.spiral == k)).length * 4 ^ k)).sum))

/-! ## Preconditions (R201) -/

/-- The location the preconditions refer to: the band's, or that of the last band. -/
def State.wrLoc (s : State) (n : Nat) : Nat := match s.bw? n with
  | some b => b.loc
  | none => (s.reg (WR_BAND n)).toNat / 2048 * 2048

/-- R199, R200: writes in zone L use the zone 0 set. -/
def setZone (z : Nat) : Nat := if z = 63 then 0 else z

/-- R110: FOC and TRK count as not locked while an injection runs on an optical loop. -/
def State.optLocked (s : State) (n l : Nat) : Bool :=
  s.bit (LP_STAT n l) LP_STAT_LOCKED && (match (s.station (toStn n)).servo.inj with | some i => decide (4 ≤ i.loop) | none => true)

/-- The strategy table (R199): the one a plan slot names, or WR_STAB's. -/
def State.stabBase (s : State) (n stab : Nat) : Nat :=
  if stab ≠ 0 then stab else s.fld (WR_STAB_LO n) WR_STAB_LO_ADDR * 4096 + s.fld (WR_STAB_HI n) WR_STAB_HI_ADDR * 2 ^ 32

/-- Where the set of a layer and zone lies. -/
def State.setAddr (s : State) (n layer zone stab : Nat) : Nat := s.stabBase n stab + (layer * 48 + setZone zone) * 4608

/-- R382: the strategy set of a layer and zone is usable: the table lies in the table area and the set carries no poison mark. -/
def State.setUsable (s : State) (n layer zone stab : Nat) : Bool :=
  s.inRegion 1 (s.stabBase n stab) 3538944 && !s.tablePoisoned (s.setAddr n layer zone stab) 4608

/-- Table 7.2 for a write at the location `loc` with the strategy set that `sent` recognises; a lost lane of SA0, SA1 and CL counts against
bit 5 until it passes retraining (R88, Table 7.5). -/
def State.preBitsAt (s : State) (n loc : Nat) (sent : Nat × Nat × Nat → Bool) : List Bool :=
  let y := locLayer loc
  let z := locZone loc
  [s.bit (MOT_SPST n) MOT_SPST_SPD_VALID, s.optLocked n 0, s.optLocked n 1,
   s.fld (SV_JUMP n) SV_JUMP_CUR == y && (match (s.station (toStn n)).read.wobble with
     | some a => wobbleLayer a == y && wobbleZone a == z | none => false),
   !s.bit (STN_STAT n) STN_STAT_IL, s.normal n && [0, 1, 2].all (fun k => s.lane n k == 2), !s.bit PM_SUPPLY PM_SUPPLY_WARN,
   s.bit (WR_STAB_LO n) WR_STAB_LO_VALID && (s.station (toStn n)).setSent.any (fun x =>
     sent x && x.2 == (y, setZone z) && s.setUsable n y z x.1)]

/-- Table 7.2 for the band being written, or the last one. -/
def State.preBits (s : State) (n : Nat) : List Bool :=
  s.preBitsAt n (s.wrLoc n) (fun x => match s.bw? n with | some b => x.1 == b.stab | none => true)

/-- WR_STAT shows each condition. -/
def State.showPre (s : State) (n : Nat) : State :=
  let p := s.preBits n
  let v := ((List.range 8).map (fun i => if p.getD i false then 2 ^ i else 0)).sum
  (s.setFld (WR_STAT n) WR_STAT_PRE v).setBit (WR_STAT n) WR_STAT_PRE_OK (v == 255)

def State.preOk (s : State) (n : Nat) : Bool := (s.preBits n).all id

/-- Table 17.4: during a thermal warning with reaction 1 no band write begins. DEDUCED: log entry 139. -/
def State.tooHot (s : State) : Bool := s.evt.thermal && s.bit HLTH_THERM HLTH_THERM_REACT

/-- Table 7.5: the hold cause of a failing precondition. -/
def preCause (i : Nat) : Nat := [3, 4, 4, 5, 1, 2, 0, 5].getD i 5

/-- The causes of the preconditions that fail, in the order of Table 7.2. -/
def State.failing (s : State) (n : Nat) : List Nat :=
  (((List.range 8).filter (fun i => !(s.preBits n).getD i false)).map preCause).eraseDups

/-! ## The strategy set (R199, R200, R382) -/

/-- The 1,088 STRATEGY and 128 LASER blocks of the set at byte `a` of the table area. -/
def State.setBlocks (s : State) (a : Nat) : List Nat :=
  let word (off : Nat) : Nat := leNat (s.tableRead (a + off) 4)
  ((List.range 8).flatMap (fun k => (List.range 8).flatMap (fun c => (List.range 17).map (fun l =>
    clBlock 0xC8 [(k * 256 + c * 32 + l + 1, 16), (word (576 * k + 4 * (17 * c + l)), 32)]))))
  ++ ((List.range 8).flatMap (fun k => (List.range 16).map (fun l =>
    clBlock 0xC6 [(k, 4), (l, 4), (leNat (s.tableRead (a + 576 * k + 544 + 2 * l) 2) % 4096, 12)])))

/-- R200: the set of a layer and zone is sent unless it was the last sent; R382: an unusable set is not sent and raises E022.
DEDUCED: log entry 65. -/
def State.sendSet (s : State) (n layer zone stab : Nat) : State :=
  let z := setZone zone
  if !s.bit (WR_STAB_LO n) WR_STAB_LO_VALID then s
  else if !s.setUsable n layer zone stab then s.raise 22 [n]
  else if (s.station (toStn n)).setSent == some (stab, layer, z) then s
  else
    let s := (s.setBlocks (s.setAddr n layer zone stab)).foldl (fun s b => s.clPut n false b) s
    s.setStn (toStn n) (fun t => { t with setSent := some (stab, layer, z) })

/-- R88, R200, R202, R214: the set of a band that waits, or whose hold has write power off, is sent once it can be: after a retraining, or
once the table is in use. -/
def State.resendSet (s : State) (n : Nat) : State := match s.bw? n with
  | none => s
  | some b =>
    let idle := (!b.begun || (match b.hold with | some h => h.cut.isSome | none => false)) && (s.station (toStn n)).port.nextBit.isNone
    if idle && s.lane n 2 == 2 then s.sendSet n (locLayer b.loc) (locZone b.loc) b.stab else s

/-! ## Early closes, unplaced blocks -/

/-- The blocks of the data indices `ds` are unplaced together (R206), those of `failed` with their counts raised (R213); a checkpoint's
blocks are only counted. `ev` is the band's event (R311). DEDUCED: log entries 42, 57. -/
def State.unplaceIdx (s : State) (n : Nat) (b : BandWrite) (ev : Nat) (ds failed : List Nat) : State :=
  let bs := ds.filterMap (fun d => (b.par.blocks[d]?).map (fun x => ({ x with home := (b.par.id, d) }, failed.contains d)))
  if b.par.ckpt.isSome then s.bump (WR_CNT n 3) WR_CNT_COUNT bs.length else s.unplace n b.vault (b.seq.getD 0) ev bs

/-- R207, R218: the band closes early with n' data frames, if that is fewer than it has; the blocks of the failed frames `failed` are unplaced
with those that leave. DEDUCED: log entry 42. -/
def State.closeEarly (s : State) (n n' : Nat) (failed : List Nat) : State := match s.bw? n with
  | none => s
  | some b =>
    if b.n ≤ n' then (if failed.isEmpty then s else s.unplaceIdx n b 0 failed failed)
    else
      let gone := (List.range 512).filter (fun d => failed.contains d || (decide (n' ≤ d) && b.has d && !b.lost.contains d))
      let s := s.setBw n (fun b => { b with
          n := n', early := true,
          spares := b.spares.map (fun x => if n' ≤ x.d then { x with withdrawn := true } else x) })
      let s := if b.n < b.par.blocks.length then s else s.bump (WR_CNT n 5) WR_CNT_COUNT 1
      let s := s.raiseStn n 14 [n']
      ((s.unplaceIdx n b 0 gone failed).showSpares n).refreeze n

/-! ## The end of a band -/

/-- Write power goes off: WRITE_END names the last bit, and the write-enable flag is cleared once no write data waits (R77). -/
def State.powerOff (s : State) (n : Nat) : State :=
  let s := match (s.station (toStn n)).port.nextBit with
    | some c => s.clPut n false (clBlock 0xC3 [((c + 2 ^ 32 - 1) % 2 ^ 32, 32)])
    | none => s
  s.setStn (toStn n) (fun t => { t with port.writeEnable := t.port.writeEnable && t.port.clQueue.any (·.1), port.nextBit := none })

/-- Write power goes off at once: data not yet sent is never sent, with the WRITE_START and WRITE_END around it; WRITE_END names the last bit
that left, if write data flowed. -/
def State.powerOffNow (s : State) (n : Nat) : State :=
  let frame (b : Bool × Nat) : Bool := b.1 || b.2 % 256 == 0xC2 || b.2 % 256 == 0xC3
  (s.setStn (toStn n) (fun t => { t with
    port.clQueue := t.port.clQueue.filter (fun b => !frame b), port.nextBit := t.port.flow })).powerOff n

/-- R77, R219: write data begins to flow: WRITE_START names the bit that is meant to land at channel-clock count `x`. -/
def State.writeStart (s : State) (n x : Nat) : State :=
  let c := (x + 2 ^ 32 - s.fld (WR_LAT n) WR_LAT_LAT) % 2 ^ 32
  (s.clPut n false (clBlock 0xC2 [(c, 32)])).setStn (toStn n) (fun t => { t with port.nextBit := some c, port.writeEnable := true })

/-- R77: one slot's write data, from the channel bits of its eight spirals. -/
def State.writeBits (s : State) (n : Nat) (blocks : List Nat) : State :=
  s.setStn (toStn n) (fun t => { t with
    port.clQueue := t.port.clQueue ++ blocks.map (fun w => (true, w)),
    port.nextBit := t.port.nextBit.map (fun c => (c + frameBits) % 2 ^ 32) })

/-- R63, R196: slots without frames pass with write power on and every channel bit 0. -/
def State.writeEmpty (s : State) (n slots : Nat) : State :=
  let none' := slotBlocks (List.replicate 8 (List.replicate frameBits false))
  (List.range slots).foldl (fun (s : State) _ => s.writeBits n none') s

/-- R201, R202: the place of a record or test band on zone L of layer `y` is to be written: its set is sent and, if every precondition holds
there, the write begins. -/
def State.bandPlace (s : State) (n y bpos : Nat) : Option State :=
  let loc := packLoc y 63 bpos
  let s := (s.setReg (WR_BAND n) (BitVec.ofNat 32 loc)).sendSet n y 63 0
  if (s.preBitsAt n loc (fun x => x.1 == 0)).all id then some s else none

/-- R65: a record band is written, in its place: the record's 64 frames in slots 0 to 7, the first bit landing at channel-clock count `x`;
write power is lowered in the linking gap behind slot 70 (R63). -/
def State.writeRecord (s : State) (n kind : Nat) (record : Bytes) (x : Nat) : State :=
  let s := (List.range 8).foldl (fun (s : State) t =>
    s.writeBits n (slotBlocks ((List.range 8).map (fun k => channelBits (leadFrame kind (8 * t + k) record))))) (s.writeStart n x)
  (s.writeEmpty n 63).powerOff n

/-- A checkpoint band of the vault is still to be written or being written. -/
def State.ckptBusy (s : State) (vault : Nat) : Bool :=
  s.ledger.parisons.any (fun p => p.vault == vault && p.ckpt.isSome) ||
  (List.range 16).any (fun n => s.bands n |>.any (fun b => b.vault == vault && b.par.ckpt.isSome))

/-- A band of the vault is being written. -/
def State.vaultWriting (s : State) (vault : Nat) : Bool :=
  (List.range 16).any (fun n => s.bands n |>.any (fun b => b.vault == vault))

/-- The WRITEs of a vault admitted before command `id` have all ended, and so have the other commands that read its map.
DEDUCED: log entry 101. -/
def State.writesDone (s : State) (vault id : Nat) : Bool :=
  !(s.work.cmds.any (fun c => [1, 2, 3, 0x0B, 0x10].contains (capOPC c.caps) && capVAULT c.caps == vault && decide (c.id < id)
    && !c.held && !c.ended))

/-- R342: a vault's map is released; a command of it that is still to be read from finds it no more. -/
def State.releaseVault (s : State) (vault : Nat) : State :=
  { s with
      ledger.vaults := s.ledger.vaults.filter (fun v => v.id != vault),
      ledger.parisons := s.ledger.parisons.filter (fun p => p.vault != vault) }

/-- R342, R329: a VAULT_UNMOUNT or a VAULT_MOUNT that waits goes on: the unmount writes its checkpoints once its writes have
completed, and either ends once its checkpoints are complete. DEDUCED: log entries 101, 102. -/
def State.checkVault (s : State) (vault : Nat) : State :=
  let closing := match s.vault? vault with | some v => v.closing | none => true
  match s.work.cmds.find? (fun c => !c.ended && !c.held && capVAULT c.caps == vault && (capOPC c.caps == 0x0A && closing || capOPC c.caps == 0x09 && c.started)) with
  | none => s
  | some c =>
    if capOPC c.caps = 0x0A then
      if c.phase = 0 then
        if !s.writesDone vault c.id || s.vaultWriting vault then s
        else
          let s := s.setCmd c.id (fun c => { c with phase := 3 })
          let discs := match s.vault? vault with | some v => v.discs.filter (fun (d : Disc) => d.stn.isSome || d.lost) | none => []
          let bad (d : Disc) : Bool := d.lost || !s.usable (d.stn.getD 0)
          let s := discs.foldl (fun (s : State) (d : Disc) => if bad d then s.note c.id .okDegraded else s.checkpoint vault d.idx) s
          let s := if (match s.vault? vault with | some v => v.discs.any (fun d => d.closed) | none => false) then s.note c.id .okDegraded else s
          if s.ckptBusy vault then s else (s.releaseVault vault).finishWith c.id .ok
      else if s.ckptBusy vault then s else (s.releaseVault vault).finishWith c.id .ok
    else if c.phase = 3 && !s.ckptBusy vault then
      let s : State := { s with ledger.mounting := s.ledger.mounting.filter (fun x => x != vault) }
      s.finishWith c.id .ok
    else s

/-- R86, R29: what waited for the end of the band on station n begins; the BAND_WRITE ends with `st`. -/
def State.bandOver (s : State) (n : Nat) (st : Status) : State :=
  let due := (s.station (toStn n)).port.retrainDue
  let s := s.setStn (toStn n) (fun t => { t with write := none, port.retrainDue := false })
  let s := (s.setBit (WR_STAT n) WR_STAT_WRITING false).setBit (WR_STAT n) WR_STAT_HOLD false
  let s := if due then (s.trainLanes n ((List.range 5).filter (fun k => s.lane n k != 3)) false).freshTraining n [0, 1, 2] else s
  (if s.inTask n .bandWrite then s.endTask n st else s).showPre n

/-- The parison of the BAND_WRITE in hand whose band has not been begun. -/
def State.handParison (s : State) (n : Nat) : Option Parison :=
  if !s.inTask n .bandWrite then none
  else match s.inHand? n with
    | some t => s.taskParison t
    | none => none

/-- The versions whose frames were written to the medium: those of the slots begun so far. -/
def BandWrite.written (b : BandWrite) : List (Nat × Nat) :=
  (((List.range 512).filter (fun d => decide ((homeSlot d).1 < b.slot) && b.has d)).filterMap (fun d => b.par.blocks[d]?)).map
    (fun x => (x.vba, x.ver))

/-- A begun band that is void stands in its disc's list as void (R337, Table 12.3), and its versions are dropped (R332).
DEDUCED: log entry 135. -/
def State.bandVoid (s : State) (n : Nat) (b : BandWrite) : State :=
  let s := (s.bump (WR_CNT n 6) WR_CNT_COUNT 1).raiseStn n 15 [b.seq.getD 0]
  match b.seq with
  | none => s
  | some q =>
    let v : Band := ⟨q, b.disc, b.loc, 0, 4, [], [], s.stamp⟩
    let s := s.setDisc b.vault b.disc (fun d => { d with fresh := d.fresh ++ [v] })
    let vers := if b.par.ckpt.isSome then [] else b.written
    s.dropVersions b.vault b.disc vers

/-- R217, R308: the band is abandoned; its commands drop their blocks and complete with `st`. DEDUCED: log entry 59. -/
def State.abandon (s : State) (n : Nat) (st : Status) : State := match s.bw? n with
  | none => s
  | some b =>
    let s := if st = .writeHeldTimeout then s.setBit (WR_HOLD n) WR_HOLD_TMO true else s
    let s := s.powerOffNow n
    let s := if b.hold.isSome || b.waitSince.isSome then s.trapCause n 11 4 else s
    let s := s.bandVoid n b
    let s := s.setStn (toStn n) (fun t => { t with write := none })
    let s := if b.par.ckpt.isSome then s.redoCheckpoint b.vault b.disc else s.failParison b.par.id (b.seq.getD 0) (if st = .writeHeldTimeout then 13 else 0) st
    (s.bandOver n st).checkVault b.vault

/-- R211, R240: a begun band of station n, which holds it no more, is void, and its blocks are placed again; those of `failed` count a failed
band. -/
def State.bandLost (s : State) (n : Nat) (b : BandWrite) (failed : List Nat) : State :=
  let s := s.bandVoid n b
  if b.par.ckpt.isSome then s.redoCheckpoint b.vault b.disc
  else s.unplaceIdx n b 15 ((List.range 512).filter (fun d => b.has d && !b.lost.contains d)) failed

/-- R211, R240: the band in hand is void and its blocks are placed again; each counts a failed band when `failed`. -/
def State.voidBand (s : State) (n : Nat) (failed : Bool) (st : Status) : State := match s.bw? n with
  | none => s
  | some b =>
    let s := s.setStn (toStn n) (fun t => { t with write := none })
    let s := s.bandLost n b (if failed then List.range 512 else [])
    (s.bandOver n st).checkVault b.vault

/-- R334, R337: a sealed band as the ledger knows it. -/
def BandWrite.toBand (b : BandWrite) (r : SealRec) : Band :=
  let es := ((List.zip (List.range b.n) b.entries).filter (fun e => e.2.2 != 0)).map (fun e => (⟨e.1, e.2.1, e.2.2⟩ : LEntry))
  ⟨r.seq, b.disc, b.loc, b.n, b.flags, b.relocs.map relocBytes, es, r.time⟩

/-- R212: the blocks still placed in parison `p` are recorded in band `q`, and the commands that are then done end. -/
def State.recordBlocks (s : State) (p q : Nat) : State :=
  let ids := s.cmdsIn p
  let rec' (w : WBlock) : WBlock := if w.at' = .placed p then { w with at' := .recorded q } else w
  let s : State := { s with work.cmds := s.work.cmds.map (fun c => { c with blocks := c.blocks.map rec' }) }
  ids.foldl (fun s i => s.checkWriteCmd i) s

/-- R211, R334, R337, R341: the seal is verified: the band is recorded and its commands may complete. -/
def State.bandSealed (s : State) (n : Nat) : State := match s.bw? n with
  | none => s
  | some b =>
    let r := match b.frozen with | some f => f.2 | none => s.sealNow b
    let band := b.toBand r
    let dig := sha512 (sealRecord b.seed r)
    let live := s.work.cmds.any (fun c => !c.mute && c.blocks.any (fun w => w.at' == .placed b.par.id))
    let e : List Since := if b.par.ckpt.isSome then [] else [⟨r.seq, b.loc, b.disc, b.flags, b.n, r.time⟩]
    let s := s.setVault b.vault (fun v => { v with
      bands := v.bands ++ [band], discs := v.discs.map (·.passed band.entries),
      sealed := if live then v.sealed else v.sealed ++ e, unposted := if live then v.unposted ++ e else v.unposted })
    let s := s.setDisc b.vault b.disc (fun d => { d with lastSeal := dig, fresh := d.fresh ++ [band] })
    let s := s.setStn (toStn n) (fun t => { t with write := none })
    let s := match b.par.ckpt with
      | none =>
        let s := s.setDisc b.vault b.disc (fun d => { d with since := d.since + 1, ckptDue := d.ckptDue || decide (4096 ≤ d.since + 1) })
        let s := s.recordBlocks b.par.id r.seq
        match s.disc? b.vault b.disc with
        | some d => if d.ckptDue then s.checkpoint b.vault b.disc else s
        | none => s
      | some (no, last) =>
        let s := s.setDisc b.vault b.disc (fun d => { d with
          ckptFirst := if d.ckptCnt = 0 then b.loc else d.ckptFirst, ckptCnt := d.ckptCnt + 1 })
        if last then s.setDisc b.vault b.disc (fun d => { d with
          ckptNo := no, ckptLoc := d.ckptFirst, ckptBands := d.ckptCnt, ckptCnt := 0, since := 0,
          fresh := d.fresh.filter (fun x => !d.ckptCov.contains x.seq) })
        else s
    (s.bandOver n .ok).checkVault b.vault

/-- R211: is the seal verified? -/
def BandWrite.sealed (b : BandWrite) : Bool := (List.range 4).all (fun q => b.sealOk.contains q || b.sealOk.contains (q + 4))

/-- R219: LAT follows the mean offset of the verified frames; δ is shown in quarter bits. -/
def State.trackLatency (s : State) (n : Nat) (b : BandWrite) : State :=
  if !s.bit (WR_CTL n) WR_CTL_LAT_TRACK ∨ b.offCnt = 0 then s
  else
    let r4 := (2 * b.offSum + 16 * b.offCnt) / (32 * b.offCnt)
    let r1 := (2 * b.offSum + 64 * b.offCnt) / (128 * b.offCnt)
    let r1 := max (-4) (min 4 r1)
    let s := s.setFldInt (WR_LAT n) WR_LAT_DELTA (max (-128) (min 127 r4))
    s.setFldInt (WR_LAT n) WR_LAT_LAT ((s.fld (WR_LAT n) WR_LAT_LAT : Int) + r1)

/-- The band ends once its last slot has been written and every result is known. DEDUCED: log entry 167. -/
def State.settleBand (s : State) (n : Nat) : State := match s.bw? n with
  | none => s
  | some b =>
    if b.slot < 71 || !b.awaited.isEmpty then s
    else
      let s := s.powerOff n
      let s := s.trackLatency n b
      if b.sealed then s.bandSealed n else s.voidBand n true .writeVerifyFail

/-! ## Beginning a band -/

/-- A BAND_WRITE takes its parison to a station and a location: the band waits for its slot 0 (R195, R200). -/
def State.startBand (s : State) (n loc : Nat) (p : Parison) (stab : Nat) : State :=
  let di := match s.vault? p.vault with
    | some v => (match v.discs.find? (fun (d : Disc) => d.stn == some n) with | some d => (d.idx, d.discId, v.sealSeed) | none => (0, 0, v.sealSeed))
    | none => (0, 0, [])
  let b : BandWrite := { par := p, loc := loc, disc := di.1, seed := di.2.2, discId := di.2.1, seq := none, n := p.blocks.length, slot := 0, waitSince := none, hold := none, holds := 0, cause1 := [], skipped := [], early := decide (p.blocks.length < 512), spares := [], verified := [], lost := [], awaited := [], wrote := [], sealOk := [], rebuilding := [], noParity := [], frozen := none, signed := none, offSum := 0, offCnt := 0, holes := [], stab := stab }
  let s : State := { s with ledger.parisons := s.ledger.parisons.filter (fun x => x.id != p.id) }
  let s := s.setStn (toStn n) (fun t => { t with write := some b })
  let s := s.setReg (WR_BAND n) (BitVec.ofNat 32 (loc / 2048 * 2048))
  let s := s.sendSet n (locLayer loc) (locZone loc) stab
  (s.showSpares n).showPre n

/-- R202, R240, R246: the band is given back whole before it is begun; the task ends with `st`. -/
def State.giveBack (s : State) (n : Nat) (st : Status) : State := match s.bw? n with
  | none => s
  | some b =>
    let s := s.setStn (toStn n) (fun t => { t with write := none })
    let s := s.returnParison b.par
    (s.bandOver n st).checkVault b.vault

/-- R333, R336: the band takes its number and its position counts as written. -/
def State.takeSeq (s : State) (n : Nat) : State := match s.bw? n with
  | none => s
  | some b =>
    let (q, s) : Nat × State := match s.vault? b.vault, s.disc? b.vault b.disc with
      | some v, some d =>
        let s := s.setDisc b.vault b.disc (fun d => { d with
            firstSeq := none,
            frontier := d.frontier.map (fun l => if locLayer l = locLayer b.loc then nextLoc b.loc else l) })
        (match d.firstSeq with
          | some f => (f, s)
          | none => (v.nextSeq, s.setVault b.vault (fun v => { v with nextSeq := v.nextSeq + 1 })))
      | _, _ => (0, s)
    s.setBw n (fun b => { b with seq := some q, waitSince := none })

/-- R202: the preconditions do not hold when slot 0 arrives: the band waits. -/
def State.beginWait (s : State) (n : Nat) : State :=
  let s := s.setBw n (fun b => { b with waitSince := some s.now })
  let c := (s.failing n).headD 0
  let s := ((s.bump (WR_HOLD n) WR_HOLD_COUNT 1).setFld (WR_HOLD n) WR_HOLD_CAUSE c).setFld (WR_HOLD n) WR_HOLD_HPT 127
  s.raiseStn n 13 [c]

/-! ## Slots -/

/-- The information bytes of the frame at (slot t, spiral k), if it holds one (R54, R60, R196). -/
def BandWrite.content (b : BandWrite) (t k : Nat) : Option Bytes :=
  if t ≤ 63 then (if b.has (homeIndex t k) then b.frame (homeIndex t k) else none)
  else if t ≤ 67 then
    let j := 8 * (t - 64) + k
    if b.noParity.contains j || b.rebuilding.contains j then none else (parityFrames b.members)[j]?
  else if t ≤ 69 then (match b.copies.find? (fun x => x.spare == t && x.spiral == k && !b.lost.contains x.d) with | some x => b.frame x.d | none => none)
  else match b.frozen with
    | some f => if b.sealReady && !b.sealRefused.contains k then some (slice (sealRecord b.seed f.2) (4160 * (k % 4)) 4160) else none
    | none => none

/-- The frames that a slot holds. -/
def BandWrite.inSlot (b : BandWrite) (t : Nat) : List (Nat × Nat) :=
  ((List.range 8).filter (fun k =>
    if t ≤ 63 then b.has (homeIndex t k)
    else if t ≤ 67 then !(b.noParity.contains (8 * (t - 64) + k) || b.rebuilding.contains (8 * (t - 64) + k))
    else if t ≤ 69 then b.copies.any (fun x => x.spare == t && x.spiral == k && !b.lost.contains x.d)
    else b.sealReady && !b.sealRefused.contains k)).map (fun k => (t, k))

/-- R77: the 5,018 data blocks of a slot, 8 channel bits of each spiral in each block; no frame gives bits 0 (R196). -/
def BandWrite.dataBlocks (b : BandWrite) (t : Nat) : List Nat :=
  slotBlocks ((List.range 8).map (fun k => match b.content t k with
    | some i => channelBits i
    | none => List.replicate frameBits false))

/-- Slot t of the band on station n is written: its data goes to CL behind a WRITE_START if write data was not flowing; `x` is
the channel-clock count at which its first bit is meant to land (R77, R219). -/
def State.writeSlot (s : State) (n x : Nat) : State := match s.bw? n with
  | none => s
  | some b =>
    let t := b.slot
    let s := match (s.station (toStn n)).port.nextBit with
      | some _ => s
      | none => s.writeStart n x
    let c := (s.station (toStn n)).port.nextBit.getD 0
    let s := s.writeBits n (b.dataBlocks t)
    let s := s.setFld (WR_BAND n) WR_BAND_SLOT t
    let s := s.setBit (WR_STAT n) WR_STAT_WRITING true
    let s := s.setBw n (fun b => { b with
      slot := t + 1, sealReady := if t = 69 then b.signed.isSome else b.sealReady,
      starts := b.starts.filter (fun e => decide (e.1 ≠ t)) ++ [(t, (c + s.fld (WR_LAT n) WR_LAT_LAT) % 2 ^ 32)], awaited := b.awaited ++ b.inSlot t,
      wrote := b.wrote.filter (fun x => b.awaited.contains x.1 && x.1.1 != t) ++ (b.inSlot t).filterMap (fun x => (b.content t x.2).map (fun i => (x, i))) })
    if t = 60 then s.freeze n else s

/-- R195: during slot t, or as it passes in a hold, the frames of the slots below this one have been read into the slot buffer. -/
def readBound (t : Nat) : Nat := if t < 59 then t + 3 else if t < 67 then 68 else min 71 (t + 2)

/-- R208: the data frames of the indices `ds` of slot t are refused as it is read: the band closes early before that slot, and their commands
are to complete with DATA_POISONED. DEDUCED: log entry 46. -/
def State.refuseData (s : State) (n t : Nat) (ds : List Nat) : State := match s.bw? n with
  | none => s
  | some b =>
    let s := s.bump (WR_CNT n 4) WR_CNT_COUNT ds.length
    let s := (ds.filterMap (fun d => b.par.blocks[d]?)).foldl (fun (s : State) x =>
      ((s.moveBlock x.cmd x.vba .dropped).noteAt x.cmd (b.seq.getD 0) 0 .dataPoisoned).failWrite x.cmd .dataPoisoned) s
    let s := s.setBw n (fun b => { b with lost := b.lost ++ ds })
    s.closeEarly n (8 * t) []

/-- A refused copy: its block is dropped like any poisoned one and the spare slot passes under R196; the relocation entry stays.
DESIGN CHOICE: log entry 173. -/
def State.refuseCopy (s : State) (n : Nat) (c : Spare) : State := match s.bw? n with
  | none => s
  | some b =>
    let s := (s.bump (WR_CNT n 4) WR_CNT_COUNT 1).setBw n (fun b => { b with lost := b.lost ++ [c.d] })
    match b.par.blocks[c.d]? with
    | some x => ((s.moveBlock x.cmd x.vba .dropped).noteAt x.cmd (b.seq.getD 0) 0 .dataPoisoned).failWrite x.cmd .dataPoisoned
    | none => s

/-- R209, R211: the frame at (t, k), which is no data frame, is refused as it is read. -/
def State.refuseFrame (s : State) (n t k : Nat) : State := match s.bw? n with
  | none => s
  | some b =>
    if t ≤ 67 then
      let j := 8 * (t - 64) + k
      (s.bump (WR_CNT n 4) WR_CNT_COUNT 1).setBw n (fun b => { b with rebuilding := if b.rebuilding.contains j then b.rebuilding else b.rebuilding ++ [j] })
    else if t ≤ 69 then (match b.copies.find? (fun x => x.spare == t && x.spiral == k && !b.lost.contains x.d) with
      | some c => s.refuseCopy n c
      | none => s)
    else if b.sealRefused.contains k then s
    else (s.bump (WR_CNT n 4) WR_CNT_COUNT 1).setBw n (fun b => { b with sealRefused := b.sealRefused ++ [k] })

/-- R208, R209, R211: the frames of the spirals `ks` of slot t are refused as the slot is read. -/
def State.refuseSlot (s : State) (n t : Nat) (ks : List Nat) : State := match s.bw? n with
  | none => s
  | some b =>
    if b.skipped.contains t || ks.isEmpty then s
    else if t ≤ 63 then
      let ds := (ks.map (homeIndex t)).filter b.has
      if ds.isEmpty then s else s.refuseData n t ds
    else ks.foldl (fun (s : State) k => s.refuseFrame n t k) s

/-- R195, R218: the frames of the slots below `bound` that were still to be read have been read, slot by slot, and those at `refused` among
them were refused. DESIGN CHOICE: log entry 237. -/
def State.refuse (s : State) (n bound : Nat) (refused : List (Nat × Nat)) : State := match s.bw? n with
  | none => s
  | some b =>
    let s := ((List.range bound).drop b.readTo).foldl (fun (s : State) t =>
      s.refuseSlot n t ((List.range 8).filter (fun k => refused.contains (t, k)))) s
    s.setBw n (fun b => { b with readTo := max b.readTo bound })

/-- R208: a band closed with n = 0 before slot 0 is not begun: its task ends. DEDUCED: log entry 64. -/
def State.dropEmpty (s : State) (n : Nat) : State := match s.bw? n with
  | none => s
  | some b =>
    if b.n ≠ 0 || b.begun then s
    else
      let s := s.setStn (toStn n) (fun t => { t with write := none })
      let s := if b.par.ckpt.isSome then s.redoCheckpoint b.vault b.disc else s
      (s.bandOver n .dataPoisoned).checkVault b.vault

/-- Slot 0 of a band that is not begun passes with every precondition holding: the band begins (R202, R333).
DEDUCED: log entry 139. -/
def State.beginBand (s : State) (n x : Nat) (refused : List (Nat × Nat)) : State :=
  let s := (s.refuse n 2 refused).dropEmpty n
  match s.bw? n with
  | none => s
  | some b => if b.n = 0 then s else ((s.takeSeq n).writeSlot n x).refuse n (readBound 0) refused

/-- R64, R336: a band that was put aside before it began may find its position taken; it goes to the disc's next one, or back.
DEDUCED: log entry 62. -/
def State.freshLoc (s : State) (n : Nat) : State := match s.bw? n with
  | none => s
  | some b =>
    if b.begun then s
    else match s.disc? b.vault b.disc with
      | none => s
      | some d =>
        if !(d.frontier.any (fun f => locLayer f == locLayer b.loc && locBefore b.loc f)) then s
        else match d.nextPos with
          | none => s.giveBack n .stationUnavailable
          | some l =>
            let s := s.setBw n (fun b => { b with loc := l })
            let s := (s.setReg (WR_BAND n) (BitVec.ofNat 32 l)).setReg (TASK_ARG n 0) (BitVec.ofNat 32 l)
            (s.sendSet n (locLayer l) (locZone l) b.stab).showPre n

/-- R215, R216: the slot at which writing resumes when slot `cut` is the first not written completely. -/
def resumeSlot (cut : Nat) (long : Bool) : Nat := if long ∧ cut ≤ 62 then 64 else min (cut + 2) 70

def Hold.resumeAt (h : Hold) : Nat := match h.cut with
  | none => 71
  | some c => resumeSlot c h.long

/-- SLOT_START: a slot of the band on station n begins (R195, R202, R204); a slot that passes in a hold is only read ahead of.
DEDUCED: log entries 46, 167. DESIGN CHOICE: log entry 237. -/
def State.slotStart (s : State) (n x : Nat) (refused : List (Nat × Nat)) : State :=
  let s := s.freshLoc n
  match s.bw? n with
  | none => s
  | some b =>
    if !b.begun then
      if b.waitSince.isSome || s.tooHot then s
      else if s.preOk n then s.beginBand n x refused
      else s.beginWait n
    else match b.hold with
      | some ⟨_, _, some c, _, _, l, _⟩ => s.refuse n (readBound (resumeSlot c l - 1)) refused
      | _ =>
        if b.slot < 71 then (s.writeSlot n x).refuse n (readBound b.slot) refused
        else if b.slot = 71 then ((s.powerOff n).setBw n (fun b => { b with slot := 72 })).settleBand n
        else s

/-- PARITY_REBUILD_DONE: the refused outer-parity frame j has been rebuilt, or is refused too (R209). DEDUCED: log entry 64. -/
def State.parityRebuilt (s : State) (n j : Nat) (ok : Bool) : State := match s.bw? n with
  | none => s
  | some b =>
    if !b.rebuilding.contains j then s
    else
      let s := s.setBw n (fun b => { b with
          rebuilding := b.rebuilding.filter (fun k => k != j),
          noParity := if ok then b.noParity else b.noParity ++ [j] })
      if ok then s else s.bump (WR_CNT n 4) WR_CNT_COUNT 1

/-! ## Verification -/

/-- The first spare slot of a spiral that is free and not yet committed (R205, R207). -/
def BandWrite.freeSpare (b : BandWrite) (k : Nat) : Option Nat :=
  [68, 69].find? (fun z => !b.copies.any (fun x => x.spare == z && x.spiral == k) && decide (b.slot < z) && !b.skipped.contains z)

/-- Table 7.4: data frame d, homed at (t, k), has failed. -/
def State.dataFailed (s : State) (n d t k : Nat) : State := match s.bw? n with
  | none => s
  | some b =>
    if t ≤ 58 then
      match b.freeSpare k with
      | some z =>
        let s := s.bump (WR_CNT n 2) WR_CNT_COUNT 1
        let s := s.setBw n (fun b => { b with spares := b.spares ++ [⟨d, t, k, z, false⟩] })
        (s.showSpares n).refreeze n
      | none =>
        let s := s.setBw n (fun b => { b with lost := b.lost ++ [d] })
        s.closeEarly n (8 * (t + 3)) [d]
    else (s.setBw n (fun b => { b with lost := b.lost ++ [d] })).unplaceIdx n b 0 [d] [d]

/-- VERIFY_RESULT: the result of the frame at (t, k) (R203 to R205): `raw` errors, `off` 1/64 channel bits from its predicted
point. -/
def State.verified (s : State) (n t k : Nat) (conv : Bool) (raw : Nat) (equal : Bool) (off : Int) : State := match s.bw? n with
  | none => s
  | some b =>
    if !b.awaited.contains (t, k) then s
    else
      let s := s.setBw n (fun b => { b with awaited := b.awaited.filter (fun x => x != (t, k)) })
      let pass := conv && decide (raw ≤ 900) && equal
      let s := s.bump (WR_CNT n (if pass then 0 else 1)) WR_CNT_COUNT 1
      let s := if pass then s.setBw n (fun b => { b with offSum := b.offSum + off, offCnt := b.offCnt + 1 }) else s
      let copy? := if t = 68 ∨ t = 69 then b.copies.find? (fun x => x.spare == t && x.spiral == k) else none
      let s :=
        if t ≤ 63 then
          let d := homeIndex t k
          if !b.has d then s
          else if pass then s.setBw n (fun b => { b with verified := b.verified ++ [d] })
          else s.dataFailed n d t k
        else if t ≤ 67 then s
        else if t ≤ 69 then (match copy? with
          | some c =>
            if pass then s.setBw n (fun b => { b with verified := b.verified ++ [c.d] })
            else (s.setBw n (fun b => { b with lost := b.lost ++ [c.d] })).unplaceIdx n b 0 [c.d] [c.d]
          | none => s)
        else if pass then s.setBw n (fun b => { b with sealOk := b.sealOk ++ [k] })
        else s
      s.settleBand n

/-! ## The write hold -/

/-- R215: the head is stepped back one octo-turn. DEDUCED: log entry 175. -/
def State.stepBack (s : State) (n : Nat) : State :=
  (s.emit (.trackJump n)).setBw n (fun b => { b with hold := b.hold.map (fun h => { h with back := h.back + 1 }) })

/-- R216: the hold is treated as a long one: the band closes early before slot `cut`, and writing is to resume at slot 64; a first hold takes
back the entries of cause 1 that it added. -/
def State.longHold (s : State) (n cut : Nat) : State :=
  let s := s.setBit (WR_HOLD n) WR_HOLD_LONG true
  let s := s.trapCause n 11 2
  let s := s.closeEarly n (8 * cut) []
  let s := s.setBw n (fun b => { b with
    hold := b.hold.map (fun h => { h with long := true }),
    cause1 := if b.holds ≤ 1 then b.cause1.filter (fun t => !(t == cut || t == cut + 1)) else b.cause1,
    holes := if b.holds ≤ 1 then b.holes.filter (fun d => decide (d / 8 < cut)) else b.holes,
    skipped := b.skipped ++ (List.range 64).filter (fun t => decide (cut ≤ t) && !b.skipped.contains t) })
  if (match s.bw? n with | some b => (match b.hold with | some h => h.adjusted | none => false) | none => false) then s.freeze n else s.refreeze n

/-- R215: the slots after the hold point are skipped. -/
def State.skipSlots (s : State) (n cut : Nat) : State := match s.bw? n with
  | none => s
  | some b =>
    let skip := [cut, cut + 1].filter (fun t => decide (t < 70))
    let idx := (List.range 512).filter (fun d => skip.contains (d / 8) && decide (d < b.n))
    let gone := idx.filter (fun d => b.has d && !b.lost.contains d)
    let lostCopies := (b.copies.filter (fun x => skip.contains x.spare)).map (·.d)
    let s := s.setBw n (fun b => { b with
        skipped := b.skipped ++ skip, cause1 := b.cause1 ++ skip.filter (fun t => decide (t ≤ 67)),
        holes := b.holes ++ idx.filter (fun d => !b.holes.contains d),
        awaited := b.awaited.filter (fun f => !skip.contains f.1),
        lost := b.lost ++ lostCopies.filter (fun d => !b.lost.contains d),
        spares := b.spares.map (fun x => if skip.contains x.spare then { x with withdrawn := true } else x) })
    let s := s.unplaceIdx n b 0 (gone ++ lostCopies.filter (fun d => !b.lost.contains d)) []
    s.showSpares n

/-- R215, R216: what the hold in force means for the band once its first slot not written completely, `cut`, is known. -/
def State.holdPoint (s : State) (n cut : Nat) : State := match s.bw? n with
  | none => s
  | some b =>
    let s := s.setBw n (fun b => { b with hold := b.hold.map (fun h => { h with cut := some cut }) })
    let s := s.setFld (WR_HOLD n) WR_HOLD_HPT ((cut + 127) % 128)
    if b.holds ≥ 2 ∧ 63 ≤ cut then s.abandon n .writeHeldTimeout
    else if b.holds ≥ 2 then ((s.longHold n cut).resendSet n).stepBack n
    else ((s.skipSlots n cut).resendSet n).stepBack n

/-- R214: a hold begins with the causes `causes`. A failure after the recovery of a hold whose band has not resumed begins a second one
(R216), with write power off already and the hold point as it stands. DEDUCED: log entry 39. -/
def State.beginHold (s : State) (n : Nat) (causes : List Nat) : State := match s.bw? n with
  | none => s
  | some b =>
    let old := match b.hold with | some h => h.cut | none => none
    let back := match b.hold with | some h => h.back | none => 0
    let s := s.setBw n (fun b => { b with hold := some ⟨causes, s.now, old, false, false, false, back⟩, holds := b.holds + 1 })
    let s := s.setBit (WR_STAT n) WR_STAT_HOLD true
    let s := (s.bump (WR_HOLD n) WR_HOLD_COUNT 1).setFld (WR_HOLD n) WR_HOLD_CAUSE (causes.headD 0)
    let s := (s.raiseStn n 13 [causes.headD 0]).trapCause n 10 (causes.headD 0)
    match old with
    | some c => s.holdPoint n c
    | none => s

/-- R201, R214, R218: WR_STAT is brought up to date; a band being written goes into a hold when a precondition fails, a further
cause joins the hold, and the hold recovers when every precondition holds again. DEDUCED: log entry 39. -/
def State.checkWrite (s : State) (n : Nat) : State :=
  let s := s.showPre n
  match s.bw? n with
  | none => s
  | some b =>
    if !b.begun || decide (71 < b.slot) then s
    else
      let bad := s.failing n
      match b.hold with
      | none => if bad.isEmpty then s else s.beginHold n bad
      | some h =>
        if bad.isEmpty then
          if h.recovered then s
          else
            let s := s.setBw n (fun b => { b with hold := b.hold.map (fun h => { h with recovered := true }) })
            (s.setBit (WR_STAT n) WR_STAT_HOLD false).trapCause n 11 1
        else if h.recovered then s.beginHold n bad
        else s.setBw n (fun b => { b with
            hold := b.hold.map (fun h => { h with causes := h.causes ++ bad.filter (fun c => !h.causes.contains c) }) })

/-- A precondition may have changed on every station. -/
def State.checkWrites (s : State) : State := (List.range 16).foldl (fun s n => s.checkWrite n) s

/-- The strategy set sent to station n can be used. -/
def State.sentUsable (s : State) (n : Nat) : Bool :=
  (s.station (toStn n)).setSent.all (fun x => s.setUsable n x.2.1 x.2.2 x.1)

/-- R382: a set that stations have been sent carries the poison mark now, and did not in `s₀`: precondition 7 no longer holds, and the event is
raised; a set that is usable again restores it. -/
def State.tablesJudged (s s₀ : State) : State :=
  if s.mem.poison = s₀.mem.poison ∧ s.mem.cache = s₀.mem.cache then s
  else (List.range 16).foldl (fun (s : State) n =>
    let was := s₀.sentUsable n
    let now := s.sentUsable n
    if was && !now then (s.raise 22 [n]).checkWrite n
    else if !was && now then s.checkWrite n
    else s) s

/-- R215, R218: write power goes off for the hold, at the end of the current frame or at once, and the hold point is fixed.
DEDUCED: log entries 39, 40, 41. -/
def State.fixHold (s : State) (n : Nat) (atOnce : Bool) : State := match s.bw? n with
  | none => s
  | some b => match b.hold with
    | none => s
    | some h =>
      if h.cut.isSome then s
      else
        let cut := if atOnce then b.slot - 1 else b.slot
        let s := if atOnce then s.powerOffNow n else s.powerOff n
        if b.slot = 71 then
          let s := (s.setFld (WR_HOLD n) WR_HOLD_HPT ((cut + 127) % 128)).setBit (WR_STAT n) WR_STAT_HOLD false
          (s.setBw n (fun b => { b with hold := none, slot := 72 })).settleBand n
        else
          let s := if atOnce then s.setBw n (fun b => { b with awaited := b.awaited.filter (fun f => f.1 != cut) }) else s
          s.holdPoint n cut

/-- Table 7.5, R36, R218: write power goes off at once, for a hold that has begun or begins now, or for want of a band. -/
def State.stopNow (s : State) (n : Nat) : State :=
  let s := s.checkWrite n
  match s.bw? n with
  | some b => (match b.hold with
    | some h => if h.cut.isNone && b.begun then s.fixHold n true else s.powerOffNow n
    | none => s.powerOffNow n)
  | none => s.powerOffNow n

/-- HOLD_ADJUST_DONE (R210, R215): the adjustments are complete; a record already frozen is frozen again, and one whose slot 60 the hold
passes over is frozen now. DEDUCED: log entry 40. -/
def State.holdAdjusted (s : State) (n : Nat) : State := match s.bw? n with
  | none => s
  | some b => match b.hold with
    | none => s
    | some h =>
      if h.cut.isNone || h.adjusted then s
      else
        let s := s.setBw n (fun b => { b with hold := b.hold.map (fun h => { h with adjusted := true }) })
        if b.frozen.isSome || decide (60 < h.resumeAt) then s.freeze n else s

/-- LONG_HOLD (R216): a hold has lasted 500 ms. -/
def State.holdLong (s : State) (n : Nat) : State := match s.bw? n with
  | none => s
  | some b => match b.hold with
    | none => s
    | some h =>
      if h.recovered || h.long then s
      else match h.cut with
        | none => s
        | some c =>
          if c ≤ 62 then s.longHold n c
          else
            let s := (s.setBit (WR_HOLD n) WR_HOLD_LONG true).trapCause n 11 2
            s.setBw n (fun b => { b with hold := b.hold.map (fun h => { h with long := true }) })

/-- R215: slot 69 begins, on a passage that begins slot `r` now, at least 903.24 µs after the latest freeze (times in 10 ns); a record not
frozen yet is frozen at slot 60, which must be still to come (R210). -/
def freezeOk (now r : Nat) : Option (Nat × SealRec) → Bool
  | none => decide (r ≤ 60)
  | some f => decide ((f.1 : Int) * 100 + 90324 ≤ (now : Int) * 100 + (69 - (r : Int)) * 10036)

/-- BAND_POSITION_PASSAGE (R202, R215): a waiting band begins, or a hold's band resumes at its slot; a hold that goes on steps the head back.
Where slot 69 has passed in the hold, the seal is committed if it was signed by its start (R195). -/
def State.passage (s : State) (n x : Nat) (refused : List (Nat × Nat)) : State :=
  let s := s.freshLoc n
  match s.bw? n with
  | none => s
  | some b =>
    if !b.begun then (if b.waitSince.isSome && s.preOk n && !s.tooHot then s.beginBand n x refused else s)
    else match b.hold with
      | none => s
      | some h =>
        if h.cut.isNone then s
        else
          let r := h.resumeAt
          let s := s.refuse n (readBound (r - 1)) refused
          let frozen := match s.bw? n with | some b => b.frozen | none => none
          if h.recovered && h.adjusted && freezeOk s.now r frozen then
            let s := s.setBw n (fun b => { b with
              hold := none, slot := r,
              sealReady := if r = 70 then (match b.signed with | some t => decide (t * 100 + 10036 ≤ s.now * 100) | none => false) else b.sealReady })
            (s.writeSlot n x).refuse n (readBound r) refused
          else s.stepBack n

/-- R217: the hold or the wait on station n has lasted `us` µs. -/
def State.holdExpired (s : State) (n us : Nat) : Bool := match s.bw? n with
  | none => false
  | some b =>
    let lim := 10000 * max 1 (s.fld (WR_CTL n) WR_CTL_HTMO)
    match b.hold, b.waitSince with
    | some h, _ => !h.recovered && decide (lim ≤ us - h.since)
    | none, some w => decide (lim ≤ us - w)
    | none, none => false

/-- HOLD_TIMEOUT (R217): the hold or the wait has reached HTMO. DESIGN CHOICE: log entry 2. -/
def State.holdTimeout (s : State) (n : Nat) : State := match s.bw? n with
  | none => s
  | some b =>
    if (match b.hold with | some h => !h.recovered | none => false) || (b.waitSince.isSome && !b.begun) then s.abandon n .writeHeldTimeout
    else s

/-! ## Absent discs and voids from outside -/

/-- R344: the disc in station n becomes absent; band writes that wait for the station return. DEDUCED: log entry 102. -/
def State.discAbsent (s : State) (n : Nat) : State :=
  let s : State := { s with
      ledger.vaults := s.ledger.vaults.map (fun v => { v with
      discs := v.discs.map (fun d => if d.stn = some n then { d with stn := none, lost := s.unusableStn n } else d) }) }
  s.returnQueued n

end Sys2Proof.Machine
end

