-- ==== Sys2Proof/Machine/Servo.lean ====
section
/-!
DEFINITION. The servo loops (ch. 4): errors (R96), defect hold (R98), the control law and its formats (R99 to R102), modes and
presets (R103 to R108), lock (R109), layer jumps (R112), relay tunes (R113 to R115) and injections (R116 to R119).
-/

namespace Sys2Proof.Machine

/-! ## Access -/

def loopIx (L : Nat) : Fin 8 := Fin.ofNat 8 L

def State.loop (s : State) (n L : Nat) : Loop := (s.station (toStn n)).servo.loops[loopIx L]

def State.setLoop (s : State) (n L : Nat) (g : Loop → Loop) : State :=
  s.setStn (toStn n) (fun t => { t with servo.loops := t.servo.loops.set (loopIx L) (g t.servo.loops[loopIx L]) })

def State.servo (s : State) (n : Nat) : Servo := (s.station (toStn n)).servo

def State.setServo (s : State) (n : Nat) (g : Servo → Servo) : State := s.setStn (toStn n) (fun t => { t with servo := g t.servo })

/-- The mode in force (Table 4.5): 0 OFF, 1 MANUAL, 2 AUTO, 3 TUNE, 4 HOLD. -/
def State.mode (s : State) (n L : Nat) : Nat := s.fld (LP_STAT n L) LP_STAT_MODE_NOW

def State.spinState (s : State) (n : Nat) : Nat := s.fld (MOT_SPST n) MOT_SPST_STATE

/-- The drive word of an output in Q8.40 (R99 step 7). -/
def driveWord (y : Int) : Int := satS 16 (rnd y (2 ^ 25))

/-! ## Error signals (R96) -/

/-- num ÷ den to nearest in Q1.23, saturated. DESIGN CHOICE: log entry 14. -/
def q23 (num den : Int) : Int :=
  if den = 0 then satS 24 (Config.divZero num 23)
  else satS 24 (rnd ((if 0 < den then num else -num) * 2 ^ 23) den.natAbs)

/-- The sums of channels over `k` instants. -/
def sumChannels (l : List (List Int)) : List Int := (List.range 8).map (fun c => (l.map (fun i => i.getD c 0)).sum)

/-- S, times the number of instants. DESIGN CHOICE: log entry 14. -/
def sumS (c : List Int) : Int := c.getD 0 0 + c.getD 1 0 + c.getD 2 0 + c.getD 3 0

/-- The error signals of loops 0 to 3 from channel sums over `k` instants; K_DPP is read unsigned.
DESIGN CHOICE: log entries 14, 191. -/
def State.opticError (s : State) (n L k : Nat) (c : List Int) : Int :=
  let ch (i : Nat) : Int := c.getD i 0
  let S := sumS c
  if S < k * (s.fld (SV_SMIN n) SV_SMIN_S_MIN : Nat) then 0
  else if L = 0 then q23 (ch 0 + ch 2 - (ch 1 + ch 3)) S
  else if L = 1 then
    let K : Int := s.fld (SV_SENSE n) SV_SENSE_K_DPP
    let a := ch 0 + ch 3 - (ch 1 + ch 2)
    let q := ch 4 + ch 5
    if q ≤ 0 then q23 (4096 * a) (S * (4096 + K)) else q23 (4096 * a * q - K * (ch 4 - ch 5) * S) (S * q * (4096 + K))
  else if L = 2 then q23 (ch 6) S
  else q23 (ch 7) S

/-! ## Losing lock (R109) -/

/-- LOCKED falls: LOSTLK, the lock-lost event, and trap cause LOCK for an optical loop (Table 8.7). -/
def State.loseLock (s : State) (n L : Nat) : State :=
  if !s.bit (LP_STAT n L) LP_STAT_LOCKED then s
  else
    let s := (s.setBit (LP_STAT n L) LP_STAT_LOCKED false).setBit (LP_STAT n L) LP_STAT_LOSTLK true
    let s := s.raiseStn n 4 [L]
    if L < 4 then s.trapCause n 9 L else s

/-- R137: MOT_SPST.SPD_VALID shows whether the speed is valid; a speed valid again ends the wait of R139. -/
def State.showValid (s : State) (n : Nat) : State :=
  let t := s.station (toStn n)
  let valid := s.spinState n == 4 && t.spin.src == 1 && s.bit (LP_STAT n 4) LP_STAT_LOCKED &&
    (match t.read.wobble, t.spin.zone with | some a, some z => wobbleZone a == z | _, _ => false)
  let s := if valid then s.setStn (toStn n) (fun t => { t with spin.lostAt := none }) else s
  s.setBit (MOT_SPST n) MOT_SPST_SPD_VALID valid

/-! ## Tunes and injections end (R115, R117, R119) -/

/-- The tune ends with `st`: the loop returns to its mode at the next sample; on an early end the results read 0.
DEDUCED: log entry 20. -/
def State.endTune (s : State) (n st : Nat) : State := match (s.servo n).tune with
  | none => s
  | some t =>
    let s := s.setServo n (fun v => { v with tune := none })
    let s := s.setFld (SV_TUNE_CTL n) SV_TUNE_CTL_STATUS st
    let s := if st = 2 then s else ((s.setReg (SV_TUNE_KU n) 0).setReg (SV_TUNE_TU n) 0).setReg (SV_TUNE_A n) 0
    if s.mode n t.loop ≠ 3 then s.setLoop n t.loop (fun l => { l with newMode := if l.newMode = some 3 then none else l.newMode })
    else s.setLoop n t.loop (fun l => { l with newMode := some t.back, newHw := false, restore := if t.back = 1 then some t.u0 else none })

/-- The injection ends with `st`; without a result the result registers read 0. DEDUCED: log entries 20, 44. -/
def State.endInj (s : State) (n st : Nat) : State := match (s.servo n).inj with
  | none => s
  | some _ =>
    let s := s.setServo n (fun v => { v with inj := none })
    let s := s.setFld (SV_INJ_CTL n) SV_INJ_CTL_STATUS st
    (if st = 2 then s else (s.setReg (SV_INJ_MAG n) 0).setReg (SV_INJ_PH n) 0).checkWrite n

/-! ## Modes (R103 to R106) -/

/-- R105: loop L passes to mode `k` now; `hw` says that the station's sequencer changes it, which ends a hold that has outlasted DEF_MAX
(R98). DEDUCED: log entry 21. -/
def State.modeChange (s : State) (n L k : Nat) (hw : Bool) : State :=
  let old := s.mode n L
  if old = k then s
  else
    let s := s.setFld (LP_STAT n L) LP_STAT_MODE_NOW k
    let s := if k ≠ 2 then (s.loseLock n L).setLoop n L (fun l => { l with good := 0, bad := 0 }) else s
    let s := match (s.servo n).inj with
      | some i => if i.loop = L ∧ k ≠ 2 then s.endInj n 5 else s
      | none => s
    let s := match (s.servo n).tune with
      | some t => if t.loop = L ∧ k ≠ 3 then s.endTune n 5 else s
      | none => s
    let s := if k = 1 ∧ (old = 2 ∨ old = 4) then s.setFldInt (LP_DRV n L) LP_DRV_MAN (driveWord (s.loop n L).y) else s
    let s := match (s.loop n L).restore with
      | some u => if k = 1 then (s.setFldInt (LP_DRV n L) LP_DRV_MAN (driveWord u)).setLoop n L (fun l => { l with y := u }) else s
      | none => s
    let s := if k = 0 then (s.setLoop n L (fun l => { l with y := 0, eh := [0, 0, 0], uh := [0, 0, 0] })).setFld (LP_MON n L) LP_MON_OUT 0 else s
    let free := (s.loop n L).stuck && hw
    let s := s.setLoop n L (fun l => { l with
      enter := k == 2, newMode := none, restore := none, held := l.held && !free, stuck := l.stuck && !free })
    ((if free then s.setBit (LP_STAT n L) LP_STAT_DEFECT false else s).showValid n).checkWrite n

/-- A controller's act: MODE shows it and it is in force at once, over a change that waits for the next sample. -/
def State.forceMode (s : State) (n L k : Nat) : State :=
  let s := s.setFld (LP_CTL n L) LP_CTL_MODE k
  if s.mode n L = k then
    let s := match (s.servo n).tune with
      | some t => if t.loop = L ∧ k ≠ 3 then s.endTune n 5 else s
      | none => s
    s.setLoop n L (fun l => { l with newMode := none })
  else s.modeChange n L k true

/-- R104: a write of MODE; `hw` marks one by the station's sequencer. DEDUCED: log entries 20, 21. -/
def State.writeMode (s : State) (n L k : Nat) (hw : Bool) : State × Bool :=
  if k = 3 ∨ 5 ≤ k ∨ (!hw && (s.holdsTask n || (4 ≤ L && L ≤ 6 && s.spinState n != 0))) then
    (s.setBit (LP_STAT n L) LP_STAT_REFUSED true, true)
  else ((s.setFld (LP_CTL n L) LP_CTL_MODE k).setLoop n L (fun l => { l with newMode := some k, newHw := hw }), false)

/-- R107: a write of ORDER. -/
def State.writeOrder (s : State) (n L k : Nat) : State × Bool :=
  if s.fld (LP_CTL n L) LP_CTL_ORDER = k ∨ s.mode n L ≤ 1 then (s.setFld (LP_CTL n L) LP_CTL_ORDER k, false)
  else (s.setBit (LP_STAT n L) LP_STAT_REFUSED true, true)

/-! ## Feed-forward (R101) -/

/-- A coefficient word as a signed integer in Q4.28. -/
def State.coef (s : State) (n L b k : Nat) : Int := s.fldInt (COEF n L b k) ⟨31, 0⟩

/-- The feed-forward in force: 0 none, 1 additive with f in Q1.23 × Q4.28, 2 scale with g = p ÷ q, 3 one the spec does not give. -/
inductive Ff where
  | none
  | add (f : Int)
  | scale (p q : Int)
  | open'
  deriving DecidableEq, Repr

/-- V_MEAS (R124): the local bus in mV. -/
def State.vMeas (s : State) (n : Nat) : Int := s.fld (BUS_STAT n) BUS_STAT_VLOC

/-- R101: the feed-forward of loop L, whose ramp has moved by `alpha`. -/
def State.ff (s : State) (n L b : Nat) (alpha : Int) : Ff :=
  let m := s.fld (LP_CTL n L) LP_CTL_FF_MODE
  if L < 4 ∨ L = 7 ∨ m = 0 ∨ m = 3 then .none
  else if L = 4 then (if m = 1 then .add (s.coef n L b 7 * alpha) else .open')
  else if m = 1 then .open'
  else
    let p : Int := (s.reg (COEF n L b 7)).toNat
    if 4 * s.vMeas n < p then .scale 4 1 else .scale p (s.vMeas n)

/-- Step 4 (R99): w from v. DEDUCED: log entry 24. -/
def Ff.apply (L : Nat) (v : Int) : Ff → Int
  | .none => v
  | .add f => satS 48 (rnd (v * 2 ^ 11 + f) (2 ^ 11))
  | .scale p q => if q = 0 then satS 48 (Config.divZero (v * p) 40) else satS 48 (rnd (v * p) q.natAbs)
  | .open' => satS 48 (Config.ffOpen L v)

/-- Step 8 (R99) and R106: the output with feed-forward removed. DEDUCED: log entry 24. -/
def Ff.undo (L : Nat) (y : Int) : Ff → Int
  | .none => y
  | .add f => satS 48 (rnd (y * 2 ^ 11 - f) (2 ^ 11))
  | .scale p q => if p = 0 then satS 48 (Config.divZero (y * q) 40) else satS 48 (rnd (y * q) p.natAbs)
  | .open' => satS 48 (Config.ffOpenUndo L y)

/-! ## The law -/

def State.order (s : State) (n L : Nat) : Nat := 2 + s.fld (LP_CTL n L) LP_CTL_ORDER

/-- R106: the history is preset so that the next output equals the last one. -/
def State.preset (s : State) (n L b : Nat) (ff : Ff) : State :=
  let N := s.order n L
  let u := ff.undo L (s.loop n L).y
  let sb := ((List.range N).map (fun i => s.coef n L b (1 + i))).sum
  let sa := ((List.range N).map (fun i => s.coef n L b (4 + i))).sum
  let small := decide (sb.natAbs < 2 ^ 8)
  let e := if small then 0 else satS 48 (rnd (if 0 < sb then u * (2 ^ 28 + sa) else -(u * (2 ^ 28 + sa))) sb.natAbs)
  let third (x : Int) : Int := if N = 3 then x else 0
  let s := if small then s.setBit (LP_STAT n L) LP_STAT_NOPRESET true else s
  s.setLoop n L (fun l => { l with eh := [e, e, third e], uh := [u, u, third u] })

/-- Steps 5 and 6: the limits and the slew limit. -/
def State.limited (s : State) (n L : Nat) (w : Int) : Int × Int :=
  let a := clampI (s.fldInt (LP_LIM n L) LP_LIM_OUT_MIN * 2 ^ 25) (s.fldInt (LP_LIM n L) LP_LIM_OUT_MAX * 2 ^ 25) w
  let sl : Int := (s.fld (LP_DRV n L) LP_DRV_SLEW : Nat) * 2 ^ 25
  let y0 := (s.loop n L).y
  (a, if sl = 0 then a else clampI (y0 - sl) (y0 + sl) a)

/-- LP_STAT.CLIPPED and SLEWED of a sample (R120): the output stands at a limit; the slew limit has held it. -/
def State.showLimits (s : State) (n L : Nat) (slewed : Bool) : State :=
  let y := (s.loop n L).y
  let hi := s.fldInt (LP_LIM n L) LP_LIM_OUT_MAX * 2 ^ 25
  let lo := s.fldInt (LP_LIM n L) LP_LIM_OUT_MIN * 2 ^ 25
  (s.setBit (LP_STAT n L) LP_STAT_CLIPPED (y == hi || y == lo)).setBit (LP_STAT n L) LP_STAT_SLEWED slewed

/-- The output `w` passes the limits and becomes the output of the sample; CLIPPED, SLEWED and LP_MON.OUT show it. -/
def State.output (s : State) (n L : Nat) (w : Int) : State :=
  let (a, y) := s.limited n L w
  ((s.setLoop n L (fun l => { l with y := y })).showLimits n L (y != a)).setFldInt (LP_MON n L) LP_MON_OUT (driveWord y)

/-- The registers show the error, the set-point, the measured quantity and whether r differs from its target `T` (R102). -/
def State.monitor (s : State) (n L : Nat) (e r m T : Int) : State :=
  let q (x : Int) : Int := satS 16 (rnd x (2 ^ 8))
  let s := s.setBit (LP_STAT n L) LP_STAT_RAMPING (r != T)
  ((s.setFldInt (LP_MON n L) LP_MON_ERR (q e)).setFldInt (LP_REF n L) LP_REF_REF (q r)).setFldInt (LP_REF n L) LP_REF_MEAS (q m)

/-- R109: a sample in AUTO counts for or against lock. -/
def State.countLock (s : State) (n L : Nat) (e : Int) (cond : Bool) : State :=
  let ok := cond && decide (e.natAbs ≤ s.fld (LP_LOCK n L) LP_LOCK_THR * 2 ^ 8)
  s.setLoop n L (fun l => { l with good := if ok then l.good + 1 else 0, bad := if ok then 0 else l.bad + 1 })

/-- A × sin of the injection at this sample, in Q8.40 (R116). -/
def State.injNow (s : State) (n L : Nat) : Int := match (s.servo n).inj with
  | some i => if i.loop = L then rnd ((s.fld (SV_INJ_CTL n) SV_INJ_CTL_AMP : Nat) * sinQ i.phase) (2 ^ 15) else 0
  | none => 0

def State.injWraps (s : State) (n : Nat) : Nat := max 1 (s.fld (SV_INJ_CTL n) SV_INJ_CTL_NCYC)

/-- R116: the sums take a sample, and P moves on. DEDUCED: log entries 23, 44. -/
def State.injStep (s : State) (n L : Nat) (v d : Int) (clipped : Bool) : State := match (s.servo n).inj with
  | none => s
  | some i =>
    if i.loop ≠ L then s
    else if clipped then s.endInj n 4
    else if s.injWraps n ≤ i.wraps then s
    else
      let c := cosQ i.phase
      let z := sinQ i.phase
      let p := i.phase + (s.reg (SV_INJ_FREQ n)).toNat
      s.setServo n (fun x => { x with
          inj := some { i with
          phase := p % 2 ^ 32, wraps := i.wraps + p / 2 ^ 32,
          vc := i.vc + v * c, vs := i.vs + v * z, yc := i.yc + (v + d) * c, ys := i.ys + (v + d) * z } })

/-- R102: σ. -/
def State.slope (s : State) (n L : Nat) : Int := max 1 (s.fld (LP_SP n L) LP_SP_SLOPE)

/-- AUTO (R99): `m` is measured, `T` the ramp's target, `cond` the loop's lock condition; `fresh` says that the bank or the
source has just changed. In the sample that enters AUTO alpha is 0. DESIGN CHOICE: log entry 217. -/
def State.autoSample (s : State) (n L : Nat) (m T : Int) (cond fresh : Bool) : State :=
  let l := s.loop n L
  let b := l.sel
  let r := if l.enter then m else satS 24 (l.r + clampI (-(s.slope n L)) (s.slope n L) (T - l.r))
  let ff := s.ff n L b (if l.enter then 0 else r - l.r)
  let s := if l.enter || fresh then s.preset n L b ff else s
  let l := s.loop n L
  let N := s.order n L
  let e := satS 24 (r - m)
  let eq := e * 2 ^ 17
  let sum := s.coef n L b 0 * eq
    + ((List.range N).map (fun i => s.coef n L b (1 + i) * l.eh.getD i 0)).sum
    - ((List.range N).map (fun i => s.coef n L b (4 + i) * l.uh.getD i 0)).sum
  let v := satS 48 (rnd sum (2 ^ 28))
  let d := s.injNow n L
  let w := ff.apply L (satS 48 (v + d))
  let s := s.output n L w
  let y := (s.loop n L).y
  let u := ff.undo L y
  let third (x : Int) : Int := if N = 3 then x else 0
  let s := s.setLoop n L (fun l => { l with
    r := r, m := m, enter := false,
    eh := [eq, l.eh.getD 0 0, third (l.eh.getD 1 0)], uh := [u, l.uh.getD 0 0, third (l.uh.getD 1 0)] })
  let s := s.monitor n L e r m T
  (s.countLock n L e cond).injStep n L v d (y != w)

/-- R113, R114: one sample of the relay. DEDUCED: log entry 23. -/
def State.tuneSample (s : State) (n L : Nat) (m T : Int) : State := match (s.servo n).tune with
  | none => s
  | some t =>
    let l := s.loop n L
    let e := satS 24 (l.r - m)
    let eps : Int := (s.fld (SV_TUNE n) SV_TUNE_EPS : Nat) * 2 ^ 8
    let h : Int := (s.fld (SV_TUNE n) SV_TUNE_H : Nat) * 2 ^ 25
    let high := if t.first then decide (0 ≤ e) else if eps < e then true else if e < -eps then false else t.high
    let sw := !t.first && high && !t.high
    let k := t.switches + if sw then 1 else 0
    let w := if high then t.u0 + h else t.u0 - h
    let s := s.output n L w
    let s := (s.setLoop n L (fun l => { l with m := m })).monitor n L e l.r m T
    if (s.loop n L).y ≠ w then s.endTune n 4
    else
      let run := decide (3 ≤ k ∧ k < 11)
      s.setServo n (fun v => { v with
          tune := some { t with
          first := false, high := high, switches := k, total := t.total + 1,
          counted := t.counted + (if run then 1 else 0),
          span := t.span + (if sw && decide (4 ≤ k ∧ k ≤ 11) then t.hi - t.lo else 0),
          hi := if sw then e else max t.hi e, lo := if sw then e else min t.lo e } })

/-- A sample in the mode in force, outside a defect hold. -/
def State.modeSample (s : State) (n L : Nat) (m T : Int) (cond fresh : Bool) (w : Option Int) : State :=
  match s.mode n L with
  | 1 =>
    let s := s.output n L (w.getD (s.fldInt (LP_DRV n L) LP_DRV_MAN * 2 ^ 25))
    let l := s.loop n L
    (s.setLoop n L (fun l => { l with m := m })).monitor n L (satS 24 (l.r - m)) l.r m T
  | 2 => s.autoSample n L m T cond fresh
  | 3 => s.tuneSample n L m T
  | _ =>
    let s := (s.setLoop n L (fun l => { l with m := m })).showLimits n L false
    s.monitor n L (satS 24 ((s.loop n L).r - m)) (s.loop n L).r m T

/-! ## What the motion loops measure and aim at -/

/-- R128, R33, Table 11.6: the curve output for a demand, or the speed of the last plan slot, in 0.5 rpm, exact as a number over 2,048. -/
def State.curve (s : State) (n D : Nat) : Int := match (s.station (toStn n)).slotSpeed with
  | some v => (v * 2048 : Nat)
  | none =>
  let i := D / 2048
  let f : Int := (D % 2048 : Nat)
  let a : Int := s.fld (MOT_CURVE n i) MOT_CURVE_SPEED
  let b : Int := s.fld (MOT_CURVE n (i + 1)) MOT_CURVE_SPEED
  a * 2048 + f * (b - a)

/-- The curve output, in Q1.23 of 16,384 rpm, at most 9,000 rpm; and whether it was limited. -/
def State.curveQ (s : State) (n : Nat) : Int × Bool :=
  let c := s.curve n (s.fld (MOT_DEMAND n) MOT_DEMAND_DEMAND)
  if 18000 * 2048 < c then (4608000, true) else (rnd c 8, false)

/-- R101, R125, R135: the ramp's target of SPD. DEDUCED: log entries 22, 31. -/
def State.spdTarget (s : State) (n : Nat) : Int :=
  if (s.station (toStn n)).spin.src = 1 then 0
  else if !(s.station (toStn n)).spin.on then 0
  else (s.curveQ n).1

/-- The angle used in a period, in 2^-32 turn (Table 5.1). -/
def State.angleNow (s : State) (n : Nat) : Nat :=
  let t := (s.station (toStn n)).spin
  if s.spinState n = 3 then t.thetaF / 2 ^ 16 % 2 ^ 32 else if s.spinState n = 4 then t.theta / 2 ^ 16 % 2 ^ 32 else 0

/-- R123: id (d true) or iq over I_FS, in Q1.23. -/
def State.dqCurrent (s : State) (n : Nat) (d : Bool) : Int :=
  let c := (s.station (toStn n)).spin.cur
  let iU := c.getD 0 0
  let iV := c.getD 1 0
  let iW := c.getD 2 0
  let ia := (2 * iU - iV - iW) * 2 ^ 60 / 3
  let ib := (iV - iW) * 2 ^ 120 / sqrt3Q
  let th := s.angleNow n
  let x := if d then ia * cosQ th + ib * sinQ th else ib * cosQ th - ia * sinQ th
  let fs : Int := s.fld (MOT_SCALE n) MOT_SCALE_I_FS
  if fs = 0 then satS 24 (Config.divZero x 23) else satS 24 (rnd (x * 2 ^ 23) (fs.natAbs * 2 ^ 100))

/-- The measured quantity of loop L (R96, R123, R125, R146). -/
def State.measured (s : State) (n L : Nat) (half : Bool) : Int :=
  let t := s.station (toStn n)
  if L ≤ 1 then s.opticError n L 8 (sumChannels ((t.port.instants.drop (if half then 8 else 0)).take 8))
  else if L ≤ 3 then s.opticError n L 320 t.port.slowDone
  else if L = 4 then (if t.spin.src = 1 then satS 24 (t.spin.phi * 2 ^ 13) else satS 24 t.spin.omega)
  else if L = 5 then s.dqCurrent n false
  else if L = 6 then s.dqCurrent n true
  else if t.servo.trkN = 0 then (s.loop n 7).m
  else satS 24 (rnd (t.servo.trkSum * 2 ^ 8) t.servo.trkN)

/-- The ramp's target of loop L (R102, R123, R125). -/
def State.target (s : State) (n L : Nat) : Int :=
  if L = 4 then s.spdTarget n
  else if L = 5 then satS 24 (rnd (s.loop n 4).y (2 ^ 17))
  else if L = 6 ∧ s.spinState n = 2 then s.fldInt (MOT_ISTART n) MOT_ISTART_I_ALIGN * 2 ^ 8
  else s.fldInt (LP_SP n L) LP_SP_TARGET * 2 ^ 8

/-- R102: LP_STAT.RAMPING after a write of the set-point's target. -/
def State.showRamp (s : State) (n L : Nat) : State := s.setBit (LP_STAT n L) LP_STAT_RAMPING ((s.loop n L).r != s.target n L)

/-- The lock condition of loop L (Table 4.6, R137). -/
def State.lockCond (s : State) (n L : Nat) : Bool :=
  if L = 0 then decide (8 * (s.fld (SV_SMIN n) SV_SMIN_S_MIN : Nat) ≤ (s.servo n).sum)
  else if L ≤ 3 then s.bit (LP_STAT n 0) LP_STAT_LOCKED
  else if L = 4 then s.spinState n == 4
  else if L ≤ 6 then s.spinState n == 3 || s.spinState n == 4
  else s.fld (SLD_CTL n) SLD_CTL_MODE == 2

/-! ## Defects (R98) -/

/-- LP_STAT.DEFECT of FOC and TRK shows their defect hold. -/
def State.showDefect (s : State) (n : Nat) : State :=
  (s.setBit (LP_STAT n 0) LP_STAT_DEFECT (s.loop n 0).held).setBit (LP_STAT n 1) LP_STAT_DEFECT (s.loop n 1).held

/-- FOC's sample with sum `sm` (eight times S): a defect begins, lasts or comes to its end; true at its fourth good sample.
S_avg is kept to 2^-32 of S, rounded to nearest, and starts at 0. DEDUCED: log entry 19. DESIGN CHOICE: log entry 190. -/
def State.defectStep (s : State) (n : Nat) (sm : Int) : State × Bool :=
  let v := s.servo n
  let low := decide (sm * 2 ^ 37 < (s.fld (SV_SENSE n) SV_SENSE_DEF_FRAC : Nat) * v.sAvg)
  if v.defect then
    let g := if low then 0 else v.defGood + 1
    (s.setServo n (fun v => { v with defLen := v.defLen + 1, defGood := g }), decide (4 ≤ g))
  else if low then
    let s := s.setServo n (fun v => { v with defect := true, defLen := 1, defGood := 0, defStuck := false })
    let s := (s.setLoop n 0 (fun l => { l with held := true })).setLoop n 1 (fun l => { l with held := true })
    (s.showDefect n, false)
  else (s.setServo n (fun v => { v with sAvg := v.sAvg + rnd (sm * 2 ^ 29 - v.sAvg) 256 }), false)

/-- The defect ends: both loops resume at the next sample, unless it has outlasted DEF_MAX. DEDUCED: log entry 19. -/
def State.defectEnd (s : State) (n : Nat) : State :=
  let s := s.setServo n (fun v => { v with defect := false, defLen := 0, defGood := 0 })
  ((s.setLoop n 0 (fun l => { l with held := l.stuck })).setLoop n 1 (fun l => { l with held := l.stuck })).showDefect n

/-- DEFECT_TIMEOUT: LOCKED falls on FOC and TRK, with their lock counts, and they stay held until the sequencer changes their mode.
DESIGN CHOICE: log entry 2. -/
def State.defectTimeout (s : State) (n : Nat) : State :=
  let v := s.servo n
  if !v.defect || v.defStuck || decide (v.defLen ≤ s.fld (SV_SENSE n) SV_SENSE_DEF_MAX) then s
  else
    let s := s.setServo n (fun v => { v with defStuck := true })
    let s := [0, 1].foldl (fun (s : State) L => s.setLoop n L (fun l => { l with stuck := l.held, good := 0, bad := 0 })) s
    ((s.loseLock n 0).loseLock n 1).checkWrite n

/-! ## Layer jumps (R112, Table 4.7) -/

def State.setJump (s : State) (n : Nat) (j : Jump) : State := s.setServo n (fun v => { v with jump := some j })

/-- +1 or −1: the sense of the jump. -/
def Jump.dir (j : Jump) : Int := if j.fromL < j.toL then 1 else -1
/-- |d|. -/
def Jump.span (j : Jump) : Nat := if j.fromL < j.toL then j.toL - j.fromL else j.fromL - j.toL

/-- LAYER_JUMP (steps 1 and 2): a sequencer asks for layer `m`. -/
def State.jumpStart (s : State) (n m : Nat) : State :=
  let cur := s.fld (SV_JUMP n) SV_JUMP_CUR
  if m = cur ∨ (s.servo n).jump.isSome then s
  else if !(s.bit (LP_STAT n 0) LP_STAT_LOCKED && s.bit (LP_STAT n 1) LP_STAT_LOCKED) then s.setFld (SV_JUMP n) SV_JUMP_STATUS 5
  else
    let s := (s.setFld (SV_JUMP n) SV_JUMP_STATUS 1).setJump n ⟨cur, m, 2, 0, 0, 0⟩
    let s := (s.forceMode n 2 4).forceMode n 3 1
    (s.setFld (LP_DRV n 3) LP_DRV_MAN (s.fld (SV_LAYER n m) SV_LAYER_SAP)).checkWrite n

/-- R112: the jump fails with `st`. -/
def State.jumpFail (s : State) (n st : Nat) : State := match (s.servo n).jump with
  | none => s
  | some j =>
    let uf := if j.step ≤ 2 then (s.loop n 0).y else j.uf
    let s := s.setServo n (fun v => { v with jump := none })
    let s := s.setFld (SV_JUMP n) SV_JUMP_STATUS st
    let s := (s.forceMode n 0 1).setFldInt (LP_DRV n 0) LP_DRV_MAN (driveWord uf)
    let s := ((s.forceMode n 1 4).forceMode n 2 4).forceMode n 3 1
    ([0, 1, 2, 3].foldl (fun s L => s.loseLock n L) s).checkWrite n

/-- JUMP_TIMEOUT (R112): step 9, the wobble address, is not reached within TMO. DESIGN CHOICE: log entry 2. -/
def State.jumpTimeout (s : State) (n : Nat) : State := s.jumpFail n 4

/-- CROSSING_TIMEOUT (R112): the crossings are not complete within XTMO of the kick's start. -/
def State.crossingTimeout (s : State) (n : Nat) : State := match (s.servo n).jump with
  | none => s
  | some j => if j.step = 3 ∨ j.step = 4 then s.jumpFail n 3 else s

/-- Step 6: FOC closes on the new layer. -/
def State.jumpClose (s : State) (n : Nat) (j : Jump) : State :=
  let s := s.setJump n { j with step := 6 }
  (s.forceMode n 0 2).setFld (LP_SP n 0) LP_SP_TARGET (s.fld (SV_LAYER n j.toL) SV_LAYER_FOFS)

/-- Steps 3 to 6 at an FOC sample whose FE is `fe`, with `prev` before it; the answer is FOC's forced output, if the step has one. AMP is
read unsigned. DESIGN CHOICE: log entry 192. -/
def State.jumpFoc (s : State) (n : Nat) (prev fe : Int) (valid : Bool) : State × Option Int := match (s.servo n).jump with
  | none => (s, none)
  | some j =>
    let amp : Int := (s.fld (SV_KICK n) SV_KICK_AMP : Nat) * 2 ^ 25
    let kt := s.fld (SV_KICK n) SV_KICK_KICK_T
    let bt := s.fld (SV_KICK n) SV_KICK_BRAKE_T
    let atSap := decide (driveWord (s.loop n 3).y = s.fldInt (SV_LAYER n j.toL) SV_LAYER_SAP)
    -- step 3 begins
    let (s, j) := if j.step = 2 ∧ atSap then
        let s := (s.forceMode n 1 4).forceMode n 0 1
        (s, { j with step := 3, uf := (s.loop n 0).y, left := kt })
      else (s, j)
    let j := if j.step = 3 ∧ j.left = 0 then { j with step := 4 } else j
    if j.step = 3 then (s.setJump n { j with left := j.left - 1 }, some (j.uf + j.dir * amp))
    else if j.step = 4 then
      let k := j.count + if valid ∧ prev < 0 ∧ 0 ≤ fe then 1 else 0
      if k < j.span then (s.setJump n { j with count := k }, some j.uf)
      else if bt = 0 then (s.jumpClose n j, none)
      else (s.setJump n { j with step := 5, count := k, left := bt - 1 }, some (j.uf - j.dir * amp))
    else if j.step = 5 then
      if j.left = 0 then (s.jumpClose n j, none)
      else (s.setJump n { j with left := j.left - 1 }, some (j.uf - j.dir * amp))
    else (s.setJump n j, none)

/-- Step 7 at a TRK sample: TRK closes at a TE zero crossing of rising slope. -/
def State.jumpTrk (s : State) (n : Nat) (prev te : Int) : State := match (s.servo n).jump with
  | none => s
  | some j => if j.step = 7 ∧ prev < 0 ∧ 0 ≤ te then (s.setJump n { j with step := 8 }).forceMode n 1 2 else s

/-- Steps 7 and 8 when FOC or TRK has locked. -/
def State.jumpLocked (s : State) (n L : Nat) : State := match (s.servo n).jump with
  | none => s
  | some j =>
    if j.step = 6 ∧ L = 0 then (s.setJump n { j with step := 7 }).forceMode n 1 1
    else if j.step = 8 ∧ L = 1 then ((s.setJump n { j with step := 9 }).forceMode n 2 2).forceMode n 3 2
    else s

/-- Step 9: a wobble address whose CRC passes names its layer. DEDUCED: log entry 22. -/
def State.jumpWobble (s : State) (n layer : Nat) : State := match (s.servo n).jump with
  | none => s
  | some j =>
    if j.step ≠ 9 then s
    else
      let s := s.setServo n (fun v => { v with jump := none })
      if layer = j.toL then (s.setFld (SV_JUMP n) SV_JUMP_STATUS 2).setFld (SV_JUMP n) SV_JUMP_CUR j.toL
      else s.setFld (SV_JUMP n) SV_JUMP_STATUS 3

/-! ## Focus acquisition (R111) -/

/-- Focus acquisition begins: FOC in MANUAL from the drive that focuses beyond layer 0, or from the output `out`; SAB in MANUAL for layer 0.
DESIGN CHOICE: log entry 194. -/
def State.acquire (s : State) (n : Nat) (out : Option Int) : State :=
  let s := ((s.forceMode n 0 1).forceMode n 1 1).forceMode n 3 1
  let s := s.setFld (LP_DRV n 3) LP_DRV_MAN (s.fld (SV_LAYER n 0) SV_LAYER_SAP)
  s.setServo n (fun v => { v with seek := some (.foc (out.getD Config.sweepFrom)) })

/-- An FOC sample of the sweep, which moves towards the read-in surface: FOC closes at the first FE zero crossing of rising slope with
S at least S_MIN, and aims at layer 0's FOFS; the answer is FOC's output. DESIGN CHOICE: log entry 194. -/
def State.sweepFoc (s : State) (n : Nat) (prev fe : Int) (valid : Bool) : State × Option Int := match (s.servo n).seek with
  | some (.foc out) =>
    if s.mode n 0 ≠ 1 then (s.setServo n (fun v => { v with seek := none }), none)
    else if valid ∧ prev < 0 ∧ 0 ≤ fe then
      let s := s.setServo n (fun v => { v with seek := some .trk })
      ((s.forceMode n 0 2).setFld (LP_SP n 0) LP_SP_TARGET (s.fld (SV_LAYER n 0) SV_LAYER_FOFS), none)
    else
      let w := min (32767 * 2 ^ 25) (out + Config.sweepStep)
      (s.setServo n (fun v => { v with seek := some (.foc w) }), some w)
  | _ => (s, none)

/-- A TRK sample once FOC has closed: TRK closes in the same way at a TE zero crossing. -/
def State.sweepTrk (s : State) (n : Nat) (prev te : Int) : State := match (s.servo n).seek with
  | some .trk =>
    if s.mode n 0 ≠ 2 ∨ s.mode n 1 ≠ 1 then s.setServo n (fun v => { v with seek := none })
    else if s.lockCond n 0 ∧ prev < 0 ∧ 0 ≤ te then
      (s.setServo n (fun v => { v with seek := none })).forceMode n 1 2
    else s
  | _ => s

/-! ## A sample -/

/-- R119: at its first sample, a task that uses an optical loop takes the loops from a tune or an injection; a tuned loop returns at the
sample after, also where that first sample is its own (R115). -/
def State.taskTakes (s : State) (n : Nat) : State :=
  if !(s.servo n).taking then s
  else ((s.setServo n (fun v => { v with taking := false })).endTune n 5).endInj n 5

/-- R107, R125, R108: the changes that precede the law: the bank, SPD's source, the mode. DEDUCED: log entry 20. -/
def State.changes (s : State) (n L : Nat) : State × Bool :=
  let b := s.fld (LP_CTL n L) LP_CTL_CSEL
  let bank := b != (s.loop n L).sel && s.mode n L == 2
  let s := s.setLoop n L (fun l => { l with sel := b })
  let (s, src) : State × Bool := match L, (s.station (toStn n)).spin.newSrc with
    | 4, some k =>
      let s := s.setStn (toStn n) (fun t => { t with spin.src := k, spin.newSrc := none })
      let s := (s.showValid n).checkWrite n
      (if s.mode n 4 = 2 then s.setLoop n 4 (fun l => { l with enter := true }) else s, true)
    | _, _ => (s, false)
  let s := match (s.servo n).tune, (s.loop n L).newMode with
    | some t, some k => if t.loop = L ∧ k ≠ 3 ∧ s.mode n L ≠ 3 then s.endTune n 5 else s
    | _, _ => s
  let s := match (s.loop n L).newMode with
    | some k => s.modeChange n L k (s.loop n L).newHw
    | none => s
  ((s.setLoop n L (fun l => { l with newMode := none })), bank || src)

/-- R78: ACT_FAST follows TRK's sample and ACT_SLOW SAB's. -/
def State.sendAct (s : State) (n L : Nat) : State :=
  let w (k : Nat) : Nat := (driveWord (s.loop n k).y % 2 ^ 16).toNat
  if s.lane n 2 ≠ 2 then s
  else if L = 1 then
    (s.clSend n 0xC4 [(w 0, 16), (w 1, 16), ((s.station (toStn n)).port.seqFast, 8)]).setStn (toStn n)
      (fun t => { t with port.seqFast := (t.port.seqFast + 1) % 256 })
  else if L = 3 then
    (s.clSend n 0xC5 [(w 2, 16), (w 3, 16), ((s.station (toStn n)).port.seqSlow, 8)]).setStn (toStn n)
      (fun t => { t with port.seqSlow := (t.port.seqSlow + 1) % 256 })
  else s

/-- R108: a loop in defect hold that enters AUTO, or whose bank changes in AUTO (`fresh`), is preset and then held; the registers go on
showing what it measures (R120). DEDUCED: log entry 19. -/
def State.heldSample (s : State) (n L : Nat) (m : Int) (fresh : Bool) : State :=
  let s := s.showLimits n L false
  let s := if (s.loop n L).enter then
      (s.preset n L (s.loop n L).sel .none).setLoop n L (fun l => { l with r := m, enter := false })
    else if fresh then s.preset n L (s.loop n L).sel .none
    else s
  let r := (s.loop n L).r
  (s.setLoop n L (fun l => { l with m := m })).monitor n L (satS 24 (r - m)) r m (s.target n L)

/-- LOOP_SAMPLE: one sample of loop L; `half` says that an optical sample is the second of its epoch (R95). The forced output of a
jump or of a sweep goes on through a defect hold. DESIGN CHOICE: log entries 2, 193. DEDUCED: log entry 18. -/
def State.loopSample (s : State) (n L : Nat) (half : Bool) : State :=
  let (s, fresh) := s.changes n L
  let s := s.taskTakes n
  let m := s.measured n L half
  if L = 0 then
    let t := s.station (toStn n)
    let sm := sumS (sumChannels ((t.port.instants.drop (if half then 8 else 0)).take 8))
    let prev := t.servo.fe
    let s := if t.servo.defect && decide (4 ≤ t.servo.defGood) then s.defectEnd n else s
    let s := s.setServo n (fun v => { v with sum := sm, fe := m })
    let (s, past) := s.defectStep n sm
    let (s, w) := s.jumpFoc n prev m (s.lockCond n 0)
    let (s, w) := match w with | some w => (s, some w) | none => s.sweepFoc n prev m (s.lockCond n 0)
    let s := if (s.loop n 0).held && w.isNone then s.heldSample n 0 m fresh else s.modeSample n 0 m (s.target n 0) (s.lockCond n 0) fresh w
    if past then s.setServo n (fun v => { v with defGood := 4 }) else s
  else if L = 1 then
    let prev := (s.servo n).te
    let s := s.setServo n (fun v => { v with te := m })
    let s := (s.jumpTrk n prev m).sweepTrk n prev m
    let s := if (s.loop n 1).held then s.heldSample n 1 m fresh else s.modeSample n 1 m (s.target n 1) (s.lockCond n 1) fresh none
    let s := if (s.servo n).defect && decide (4 ≤ (s.servo n).defGood) then s.defectEnd n else s
    let s := s.setServo n (fun v => { v with trkSum := v.trkSum + driveWord (s.loop n 1).y, trkN := v.trkN + 1 })
    s.sendAct n 1
  else
    let s := s.modeSample n L m (s.target n L) (s.lockCond n L) fresh none
    let s := if L = 7 then s.setServo n (fun v => { v with trkSum := 0, trkN := 0 }) else s
    let s := if L = 4 then
        let c := (s.curveQ n).2
        if c then s.setBit (MOT_SPST n) MOT_SPST_CLAMP true else s
      else s
    s.sendAct n L

/-! ## Lock (R109) -/

/-- LOCK_SET. -/
def State.lockSet (s : State) (n L : Nat) : State :=
  let k := 8 * max 1 (s.fld (LP_LOCK n L) LP_LOCK_LOCK_N)
  if s.mode n L ≠ 2 ∨ s.bit (LP_STAT n L) LP_STAT_LOCKED ∨ (s.loop n L).good < k then s
  else (((s.setBit (LP_STAT n L) LP_STAT_LOCKED true).jumpLocked n L).showValid n).checkWrite n

/-- LOCK_CLEARED. -/
def State.lockCleared (s : State) (n L : Nat) : State :=
  if !s.bit (LP_STAT n L) LP_STAT_LOCKED ∨ (s.loop n L).bad < max 1 (s.fld (LP_LOCK n L) LP_LOCK_LOST_N) then s
  else ((s.loseLock n L).showValid n).checkWrite n

/-! ## Starts and ends of measurements -/

/-- R113: a tune starts on loop L, or is refused: STATUS 6, over that of a tune that runs. A MODE write that still waits for the loop's next
sample is dropped. DESIGN CHOICE: log entries 195, 216. -/
def State.tuneStart (s : State) (n L : Nat) : State :=
  let m := s.mode n L
  if (m ≠ 1 ∧ m ≠ 2) ∨ (s.servo n).tune.isSome ∨ (s.servo n).inj.isSome then s.setFld (SV_TUNE_CTL n) SV_TUNE_CTL_STATUS 6
  else
    let s := s.setServo n (fun v => { v with tune := some ⟨L, m, (s.loop n L).y, true, false, 0, 0, 0, 0, 0, 0⟩ })
    (s.setFld (SV_TUNE_CTL n) SV_TUNE_CTL_STATUS 1).setLoop n L (fun l => { l with newMode := some 3, newHw := false })

/-- R114: the 10 cycles are complete. -/
def State.tuneDone (s : State) (n : Nat) : State := match (s.servo n).tune with
  | none => s
  | some t =>
    if t.switches < 11 then s
    else
      let a := satS 24 (rnd t.span 16)
      let h : Int := s.fld (SV_TUNE n) SV_TUNE_H
      let ku := if a ≤ 0 then Config.divZero h 16 else rnd (h * 2 ^ 88) (piQ * a.natAbs)
      let s := s.setReg (SV_TUNE_TU n) (BitVec.ofNat 32 (min (2 * t.counted) (2 ^ 20 - 1)))
      let s := s.setFld (SV_TUNE_A n) SV_TUNE_A_A a.toNat
      let s := s.setReg (SV_TUNE_KU n) (BitVec.ofNat 32 (min ku.toNat (2 ^ 32 - 1)))
      s.endTune n 2

/-- R115: the cycles are not complete within TMO × 64 samples. -/
def State.tuneTimeout (s : State) (n : Nat) : State := match (s.servo n).tune with
  | none => s
  | some t => if t.switches < 11 ∧ 64 * s.fld (SV_TUNE_CTL n) SV_TUNE_CTL_TMO ≤ t.total then s.endTune n 3 else s

/-- R117: an injection starts on loop L, or is refused. -/
def State.injStart (s : State) (n L : Nat) : State :=
  if s.mode n L ≠ 2 ∨ (s.servo n).tune.isSome ∨ (s.servo n).inj.isSome then s.setFld (SV_INJ_CTL n) SV_INJ_CTL_STATUS 6
  else ((s.setServo n (fun v => { v with inj := some ⟨L, 0, 0, 0, 0, 0, 0⟩ })).setFld (SV_INJ_CTL n) SV_INJ_CTL_STATUS 1).checkWrite n

/-- √(a ÷ b) × 2^24 to nearest. -/
def rootQ24 (a b : Nat) : Nat := (isqrt (4 * (a * 2 ^ 48 / b)) + 1) / 2

/-- R116: NCYC wraps are complete. -/
def State.injDone (s : State) (n : Nat) : State := match (s.servo n).inj with
  | none => s
  | some i =>
    if i.wraps < s.injWraps n then s
    else
      let yy := i.yc * i.yc + i.ys * i.ys
      let vv := i.vc * i.vc + i.vs * i.vs
      let re := -(i.vc * i.yc + i.vs * i.ys)
      let im := -(i.vc * i.ys - i.vs * i.yc)
      let mag := if yy = 0 then (Config.divZero vv 24).toNat else rootQ24 vv.toNat yy.toNat
      let ph := if yy = 0 then (Config.divZero im 16).toNat else angleOf re im
      let s := s.setReg (SV_INJ_MAG n) (BitVec.ofNat 32 (min mag (2 ^ 32 - 1)))
      let s := s.setFld (SV_INJ_PH n) ⟨15, 0⟩ ph
      s.endInj n 2

end Sys2Proof.Machine
end

