-- ==== Sys2Proof/Machine/Motion.lean ====
section
/-!
DEFINITION. The spindle, the sled and the motor bus of a station (ch. 5), and trip reactions (R457, R458).
-/

namespace Sys2Proof.Machine

def State.spin (s : State) (n : Nat) : Spindle := (s.station (toStn n)).spin

def State.setSpindle (s : State) (n : Nat) (g : Spindle → Spindle) : State := s.setStn (toStn n) (fun t => { t with spin := g t.spin })

def State.sled (s : State) (n : Nat) : Sled := (s.station (toStn n)).sled

def State.setSled (s : State) (n : Nat) (g : Sled → Sled) : State := s.setStn (toStn n) (fun t => { t with sled := g t.sled })

/-! ## Spindle states (R131) -/

/-- The modes that Table 5.1 gives SPD, and SIQ and SID. -/
def spinModes (st : Nat) : Nat × Nat :=
  if st = 2 ∨ st = 3 then (1, 2) else if st = 4 then (2, 2) else if st = 6 then (4, 0) else (0, 0)

/-- The spindle passes to state `st` of Table 5.1; speed validity and the write preconditions follow. -/
def State.setSpin (s : State) (n st : Nat) : State :=
  let s := s.setFld (MOT_SPST n) MOT_SPST_STATE st
  let m := spinModes st
  let s := ((s.forceMode n 4 m.1).forceMode n 5 m.2).forceMode n 6 m.2
  let s := if st = 2 then s.setFld (LP_DRV n 4) LP_DRV_MAN 0
    else if st = 3 then s.setFld (LP_DRV n 4) LP_DRV_MAN (s.fld (MOT_ISTART n) MOT_ISTART_I_OL) else s
  (s.showValid n).checkWrite n

/-- Trap cause SPINDLE (Table 8.7). -/
def State.trapSpindle (s : State) (n : Nat) : State := s.trapCause n 8 (s.spinState n)

/-- R134, R139, R153: the task in hand, unless it is a BAND_WRITE, ends with SPINDLE_LOST. DEDUCED: log entry 48. -/
def State.stopTask (s : State) (n : Nat) : State := if s.inTask n .bandWrite then s else s.endTask n .spindleLost

/-- R125: SPD is to measure by source `k` from its next sample; SRC = 1 takes c_e from the next c_w, until which phi stays as it was.
DESIGN CHOICE: log entry 224. -/
def State.useSrc (s : State) (n k : Nat) : State :=
  s.setSpindle n (fun p => { p with newSrc := if p.src = k then none else some k, ce := if k = 1 then none else p.ce })

/-- R134: the start fails. -/
def State.startFails (s : State) (n : Nat) : State :=
  let s := (s.setSpindle n (fun p => { p with on := false, tries := 0 })).setSpin n 0
  ((s.raiseStn n 5 []).trapSpindle n).stopTask n

/-- R152: the spindle slows along its ramp. -/
def State.decelerating (s : State) (n : Nat) : Bool :=
  s.spinState n == 4 && s.mode n 4 == 2 && s.bit (LP_STAT n 4) LP_STAT_RAMPING && decide (s.spdTarget n < (s.loop n 4).r)

/-- The spindle passes to CATCH. -/
def State.toCatch (s : State) (n : Nat) : State :=
  (s.setSpindle n (fun p => { p with inCatch := 0, catchN := 0, catchMag := 0, catchTurn := 0 })).setSpin n 1

/-- R134: an attempt fails. -/
def State.attemptFails (s : State) (n : Nat) : State :=
  let k := (s.spin n).tries + 1
  if max 1 (s.fld (MOT_START n) MOT_START_TRIES) ≤ k then s.startFails n
  else (s.setSpindle n (fun p => { p with tries := k })).toCatch n

/-- R129, R134, R135: the spindle is commanded on; SPD's source is that of MOT_CTL again. -/
def State.spinOn (s : State) (n : Nat) : State :=
  let st := s.spinState n
  let s := s.setSpindle n (fun p => { p with on := true })
  let s := s.useSrc n (s.fld (MOT_CTL n) MOT_CTL_SRC)
  if st = 0 ∨ st = 5 then
    if s.fld (MOT_PARAM n) MOT_PARAM_RS = 0 ∨ s.fld (MOT_PARAM n) MOT_PARAM_LS = 0 then s.startFails n
    else (s.setSpindle n (fun p => { p with tries := 0 })).toCatch n
  else s

/-- R129, R135: the spindle is commanded off; the ramp to 0 rpm is one of speeds, so SPD measures by the observer.
DEDUCED: log entry 196. -/
def State.spinOff (s : State) (n : Nat) : State :=
  let st := s.spinState n
  let s := (s.setSpindle n (fun p => { p with on := false })).useSrc n 0
  if st = 1 then s.setSpin n 0 else if st = 2 ∨ st = 3 then s.setSpin n 5 else s

/-- R129, R130: a write of MOT_DEMAND; `hw` marks the sequencer's. True: discarded. DEDUCED: log entry 29. -/
def State.writeDemand (s : State) (n d : Nat) (hw : Bool) : State × Bool :=
  if !hw && s.holdsTask n then (s.setBit (MOT_SPST n) MOT_SPST_REFUSED true, true)
  else
    let s := s.setFld (MOT_DEMAND n) MOT_DEMAND_DEMAND d
    let ton := s.fld (MOT_HYST n) MOT_HYST_T_ON
    let toff := s.fld (MOT_HYST n) MOT_HYST_T_OFF
    let toff := if ton ≤ toff then ton - 1 else toff
    let on := (s.spin n).on
    let s := if (s.curveQ n).2 then s.setBit (MOT_SPST n) MOT_SPST_CLAMP true else s
    (if !on && decide (ton < d) then s.spinOn n else if on && decide (d < toff) then s.spinOff n else s, false)

/-- R125, R130: a write of MOT_CTL.SRC. DEDUCED: log entries 32, 196. -/
def State.writeSrc (s : State) (n k : Nat) (hw : Bool) : State × Bool :=
  if !hw && s.holdsTask n then (s.setBit (MOT_SPST n) MOT_SPST_REFUSED true, true)
  else
    let s := s.setFld (MOT_CTL n) MOT_CTL_SRC k
    (if k = 1 ∧ s.spinState n = 4 ∧ !(s.spin n).on then s else s.useSrc n k, false)

/-- MOT_SPST.SPEED and DIR show the observer's speed (R126). -/
def State.showSpeed (s : State) (n : Nat) : State :=
  let w := (s.spin n).omega
  (s.setFld (MOT_SPST n) MOT_SPST_SPEED (min 65535 ((w.natAbs + 256) / 512))).setBit (MOT_SPST n) MOT_SPST_DIR (decide (w < 0))

/-- The two components of three phase quantities (R123), scaled by 2^20. -/
def clarke (x : List Int) : Int × Int :=
  let u := x.getD 0 0
  let v := x.getD 1 0
  let w := x.getD 2 0
  (rnd ((2 * u - v - w) * 2 ^ 20) 3, rnd ((v - w) * 2 ^ 80) sqrt3Q)

/-- The magnitude of a vector, in the scale of its components. -/
def vecLen (x : Int × Int) : Nat := isqrt (x.1 * x.1 + x.2 * x.2).natAbs

/-- R132: one MI frame of CATCH, with the phase voltages in mV: the magnitude |e|, the rotor's angle and its advance. Every bridge is off.
DEDUCED: log entry 17. -/
def Spindle.catchFrame (p : Spindle) (volts : List Int) : Spindle :=
  if 80 ≤ p.catchN then p
  else
    -- the mean of the three phases drops out of both components
    let e := clarke volts
    let a := (angleOf e.1 e.2 + 49152) % 65536
    let d : Int := ((((a : Int) - p.catchAngle + 32768) % 65536) : Int) - 32768
    { p with catchN := p.catchN + 1, catchMag := p.catchMag + vecLen e, catchAngle := a, catchTurn := if p.catchN = 0 then 0 else p.catchTurn + d }

/-- The mechanical speed in 1/512 rpm of an electrical speed in 2^-48 turn a period (R122): 40,000 periods a second, 4 turns to one. -/
def rpm512 (u : Int) : Int := rnd (u * 307200000) (2 ^ 48)

/-- CATCH_MEASURED (R132): 80 frames have been measured, and the rotor is at rest, turning backward or caught.
DEDUCED: log entry 17. -/
def State.catchMeasured (s : State) (n : Nat) : State :=
  let p := s.spin n
  if s.spinState n ≠ 1 ∨ p.catchN < 80 then s
  else
    let emf := (rnd p.catchMag (80 * 2 ^ 20)).toNat
    let u : Int := rnd (p.catchTurn * 2 ^ 32) 79
    let s := s.setSpindle n (fun p => { p with inCatch := p.inCatch + 2, catchN := 0, catchMag := 0, catchTurn := 0 })
    if emf < s.fld (MOT_CATCH n) MOT_CATCH_VTH then s.setSpin n 2
    else if u ≤ 0 then
      if s.fld (MOT_CATCH n) MOT_CATCH_WAIT ≤ (s.spin n).inCatch then s.startFails n else s
    else
      let vm := s.vMeas n
      let uq : Int := if vm ≤ 0 then satS 48 (Config.divZero emf 40)
        else satS 48 (rnd ((emf : Int) * sqrt3Q) (vm.natAbs * 2 ^ 20))
      let s := s.setSpindle n (fun p => { p with
        theta := p.catchAngle * 2 ^ 32, speedE := u, pll := u, omega := rpm512 u, tries := 0, resBad := 0, resGood := 0 })
      let s := s.showSpeed n
      let s := (s.setLoop n 6 (fun l => { l with y := 0 })).setLoop n 5 (fun l => { l with y := uq })
      let s := s.setLoop n 4 (fun l => { l with y := 0 })
      s.setSpin n 4

/-- ALIGN_DONE (R133). The observer (R126) starts from what its angle, speed and integrator last held.
DESIGN CHOICE: log entry 223. -/
def State.alignDone (s : State) (n : Nat) : State :=
  if s.spinState n ≠ 2 then s
  else (s.setSpindle n (fun p => { p with thetaF := 0, speedF := 0, resBad := 0, resGood := 0 })).setSpin n 3

/-- BRAKE_DONE (R135). -/
def State.brakeDone (s : State) (n : Nat) : State := if s.spinState n ≠ 5 then s else s.setSpin n 0

/-- ROTOR_LOST (R127, R138, R139): loss is declared and the armed reaction follows, also where the spindle is already commanded off.
DESIGN CHOICE: log entry 225. -/
def State.rotorLost (s : State) (n : Nat) : State :=
  if s.spinState n ≠ 4 ∨ (s.spin n).resBad < 16 then s
  else
    let s := s.setSpindle n (fun p => { p with lossDecel := s.decelerating n })
    let s := s.setSpin n 6
    let s := ((s.setBit (MOT_SPST n) MOT_SPST_LOST true).raiseStn n 6 []).trapSpindle n
    let s := if s.bit (TASK_STATUS n) TASK_STATUS_BUSY && !s.inTask n .bandWrite then
        s.setSpindle n (fun p => { p with lostAt := some s.now }) else s
    let r := s.fld (MOT_CTL n) MOT_CTL_LOSS_REACT
    let s := s.setSpindle n (fun p => { p with on := if r = 1 ∨ r = 2 then false else p.on, tries := 0 })
    if r = 1 then s.setSpin n 0 else if r = 2 then s.setSpin n 5 else s.toCatch n

/-- SPINDLE_LOSS_TIMEOUT (R139). -/
def State.lossTimeout (s : State) (n : Nat) : State :=
  if (s.spin n).lostAt.isNone then s
  else
    let s := s.setSpindle n (fun p => { p with lostAt := none })
    if s.bit (MOT_SPST n) MOT_SPST_SPD_VALID then s else s.stopTask n

/-! ## A motion period (R80, R123, R124, R133, R136, R141) -/

/-- R136: DUTY_MAX for a TLOW in ns. -/
def dutyMax (tlow : Nat) : Nat := 65536 * (25000 - max 1200 tlow) / 25000

/-- R126: the back-EMF ê in mV, scaled by 2^20, from the currents in mA of this sample and the one before, the duties that applied between
them, V_MEAS in mV, RS in mΩ and LS in 0.1 µH. DEDUCED: log entry 16. -/
def backEmf (now last duties : List Int) (vm rs ls : Int) : Int × Int :=
  let i := clarke now
  let i0 := clarke last
  let v := clarke duties
  (rnd (v.1 * vm) 65536 - rnd (rs * i.1) 1000 - rnd (ls * (i.1 - i0.1)) 250,
   rnd (v.2 * vm) 65536 - rnd (rs * i.2) 1000 - rnd (ls * (i.2 - i0.2)) 250)

/-- R126: the phase error ε in 1/65,536 of a back-EMF scaled by 2^20 at the angle `th` (2^-32 turn), its components over its magnitude. -/
def phaseError (e : Int × Int) (th : Nat) : Int := rnd ((e.1 * cosQ th + e.2 * sinQ th) * 2 ^ 16) (vecLen e * 2 ^ 40)

/-- The observer (R126), once a period in OPENLOOP and RUN: the back-EMF, the phase error, the PI angle tracking and its outputs; the
periods in a row with the residual above, and at most, RES_THR are counted (R127, R133).
DEDUCED: log entry 16. DESIGN CHOICE: log entry 223. -/
def State.observe (s : State) (n : Nat) : State :=
  if s.spinState n ≠ 3 ∧ s.spinState n ≠ 4 then s
  else
    let p := s.spin n
    let th := ((((p.theta : Int) + p.speedE) % 2 ^ 48).toNat)
    let e := backEmf p.cur p.curLast p.dutiesLast (s.vMeas n) (s.fld (MOT_PARAM n) MOT_PARAM_RS : Nat) (s.fld (MOT_PARAM n) MOT_PARAM_LS : Nat)
    let emf := vecLen e
    let eps : Int := if emf < s.fld (MOT_CATCH n) MOT_CATCH_VTH * 2 ^ 20 ∨ emf = 0 then 65536 else phaseError e (th / 2 ^ 16)
    let bw := s.fld (MOT_OBS n) MOT_OBS_PLL_BW
    let pll := p.pll - eps * Config.trackKi bw
    let u := pll - eps * Config.trackKp bw
    let bad := decide (s.fld (MOT_OBS n) MOT_OBS_RES_THR < eps.natAbs)
    let s := s.setSpindle n (fun p => { p with
      theta := th, speedE := u, pll := pll, omega := rpm512 u,
      resBad := if bad then p.resBad + 1 else 0, resGood := if bad then 0 else p.resGood + 1 })
    (s.showSpeed n).setFld (MOT_ANGLE n) MOT_ANGLE_EMF (min 65535 (rnd emf (2 ^ 20)).toNat)

/-- R133: the forced angle advances; the state becomes RUN at the handover, or the attempt fails at 720 rpm. -/
def State.openLoop (s : State) (n : Nat) : State :=
  if s.spinState n ≠ 3 then s
  else
    let a := 8 * max 1 (s.fld (MOT_START n) MOT_START_OL_ACC)
    let s := s.setSpindle n (fun p => { p with
      speedF := p.speedF + a, thetaF := (p.thetaF + (p.speedF + a) * 2 ^ 48 / 24000000000) % 2 ^ 48 })
    let p := s.spin n
    let near := decide (10 * (p.omega * 40000 - p.speedF * 512).natAbs ≤ p.speedF * 512)
    if 600 * 40000 ≤ p.speedF ∧ 16 ≤ p.resGood ∧ near then (s.setSpindle n (fun p => { p with tries := 0, resBad := 0 })).setSpin n 4
    else if 720 * 40000 ≤ p.speedF then s.attemptFails n
    else s

/-- R136: (vd, vq) is brought within M_MAX, and SID and SIQ take the scaled values as their limited outputs. -/
def State.modLimit (s : State) (n : Nat) : State :=
  let vd := (s.loop n 6).y
  let vq := (s.loop n 5).y
  let lim := s.fld (MOT_MODLIM n) MOT_MODLIM_DUTY_MAX * 2 ^ 24
  let mag := isqrt (vd * vd + vq * vq).natAbs
  if mag ≤ lim then s.setBit (MOT_SPST n) MOT_SPST_MODLIM false
  else
    let put (s : State) (L : Nat) (v : Int) : State :=
      let y := rnd (v * lim) mag
      let ff := s.ff n L (s.loop n L).sel 0
      s.setLoop n L (fun l => { l with y := y, uh := ff.undo L y :: l.uh.drop 1 })
    let s := put (put s 6 vd) 5 vq
    (s.setBit (MOT_SPST n) MOT_SPST_MODLIM true).bump (MOT_MLCNT n) MOT_MLCNT_COUNT 1

/-- R124: the duties U, V and W of a modulation vector in Q8.40 at the electrical angle `th` (2^-32 turn). -/
def spinDuties (vd vq : Int) (th dmax : Nat) : List Int :=
  let va : Int := (vd * cosQ th - vq * sinQ th) / 2 ^ 40
  let vb : Int := (vd * sinQ th + vq * cosQ th) / 2 ^ 40
  let a : Int := va * 2 ^ 60 / sqrt3Q
  let x : List Int := [a, (vb - a) / 2, (-vb - a) / 2]
  let hi := max (x.getD 0 0) (max (x.getD 1 0) (x.getD 2 0))
  let lo := min (x.getD 0 0) (min (x.getD 1 0) (x.getD 2 0))
  x.map (fun k => clampI 0 dmax (rnd (2 ^ 17 * k - 2 ^ 16 * (hi + lo) + dmax * 2 ^ 40) (2 ^ 41)))

/-- The sled's velocity word: V, or that of 10,000 µm/s while a remainder is crossed (R143). -/
def Sled.speed (d : Sled) : Nat := if d.creep then 2 ^ 40 / 1000 else d.v

/-- R141: how far the sled goes along its direction until the centre of the next period, 3.75 ticks on, in microsteps × 2^40, `left`
microsteps before the end of a remainder: at V and the acceleration in force, to rest where they bring it to rest.
DEDUCED: log entry 226. -/
def Sled.ahead (d : Sled) (left : Nat) : Int :=
  if d.creep then min (left * 2 ^ 40) (3750 * 2 ^ 40 / 1000)
  else if 4 * (d.v : Int) + 15 * d.acc < 0 then 500 * (d.v * d.v : Nat) / d.acc.natAbs
  else 3750 * d.v + d.acc * 28125 / 4

/-- R141: the sled duties at the centre of the next period, saturated to the 16 bits of the MO frame.
DESIGN CHOICE: log entry 227. -/
def State.sledDuties (s : State) (n : Nat) : List Int :=
  let d := s.sled n
  let p := s.fldInt (SLD_POS n) SLD_POS_POS
  let t := d.target.getD p
  let back := if d.creep then decide (t < p) else d.neg
  let dx : Int := d.frac + d.ahead (p - t).natAbs
  let ph := ((p * 2 ^ 40 + (if back then -dx else dx)) / 2 ^ 18 % 2 ^ 32).toNat
  let vmax : Int := rnd ((min 500000 (max 1 (s.fld (SLD_VMAX n) SLD_VMAX_VMAX)) : Nat) * 2 ^ 40) 10000000
  let nom : Int := (s.reg (COEF n 5 (s.loop n 5).sel 7)).toNat
  let vm := s.vMeas n
  let raw : Int := (s.fld (SLD_AMP n) SLD_AMP_HOLD : Nat) * vmax + (s.fld (SLD_AMP n) SLD_AMP_BOOST : Nat) * d.speed
  let dm : Int := s.fld (MOT_MODLIM n) MOT_MODLIM_DUTY_MAX
  let a := if vm ≤ 0 then clampI 0 dm (Config.divZero (raw * nom) 0) else clampI 0 (dm * 2 ^ 20) (raw * nom * 2 ^ 20 / (vmax * vm))
  [satS 16 (rnd (a * cosQ ph) (2 ^ 60)), satS 16 (rnd (a * sinQ ph) (2 ^ 60))]

/-- Table 3.7: the bytes of an MO frame. -/
def moFrame (period flags : Nat) (du : List Int) (chop : Nat) : Bytes :=
  let h (x : Int) : Bytes := leBytes 2 (x % 65536).toNat
  let b := leBytes 1 period ++ leBytes 1 flags ++ (du.take 5).flatMap h ++ leBytes 2 chop
  b ++ leBytes 2 (crc16 112 (beNat b) 0xFFFF#16).toNat

/-- The flags of an MO frame; an unavailable station's clear every enable (R37, Table 3.12). -/
def State.moFlags (s : State) (n : Nat) : Nat :=
  let st := s.spinState n
  let prot := s.bit (BUS_STAT n) BUS_STAT_PROTECT || s.bit (STN_STAT n) STN_STAT_UNAVAIL
  (if !prot && (st = 2 || st = 3 || st = 4) then 1 else 0) + (if !prot then 2 else 0)
  + (if !prot && s.bit (BUS_STAT n) BUS_STAT_CHON then 4 else 0) + (if !prot && st = 5 then 8 else 0) + (if (s.spin n).resume then 128 else 0)

/-- Both copies of the MO frame of the next period leave, in 8b/10b characters, and idle characters fill the period (R79, R80). The number of
the period runs on over a start of SY. DESIGN CHOICE: log entry 182. -/
def State.sendMo (s : State) (n : Nat) : State :=
  let p := s.spin n
  let st := s.spinState n
  let dm := s.fld (MOT_MODLIM n) MOT_MODLIM_DUTY_MAX
  let turn : Int := p.omega * 2 ^ 32 * 25 / 5120000000
  let th := (((s.angleNow n : Nat) : Int) + turn) % 2 ^ 32
  let du := if st = 2 ∨ st = 3 ∨ st = 4 then spinDuties (s.loop n 6).y (s.loop n 5).y th.toNat dm else [0, 0, 0]
  let sl := s.sledDuties n
  let ch := if s.bit (BUS_STAT n) BUS_STAT_CHON then 65535 else 0
  let k := (p.period + 1) % 256
  let f := moFrame k (s.moFlags n) (du ++ sl) ch
  let s := s.setSpindle n (fun p => { p with period := k, duties := du ++ sl ++ [(ch : Int)], dutiesLast := p.duties.take 3, resume := false })
  if s.lane n 3 = 1 ∨ s.lane n 3 = 2 then
    let a := frameChars (s.station (toStn n)).port.moRd f
    let b := frameChars a.2 f
    (s.setStn (toStn n) (fun t => { t with port.moRd := b.2 })).emits [.mo n a.1, .mo n b.1, .moIdle n 3091]
  else s

/-- R463: |iq| of a period in RUN under WOB in zone 47, in 2^-23 mA, goes to the spindle's effort. -/
def State.noteEffort (s : State) (n : Nat) : State :=
  let in47 : Bool := match (s.rd n).wobble with | some w => wobbleZone w == 47 | none => false
  if s.spinState n = 4 ∧ (s.spin n).src = 1 ∧ in47 then
    s.addWear (16 + n) ((s.dqCurrent n false).natAbs * (s.fld (MOT_SCALE n) MOT_SCALE_I_FS))
  else s

/-- R80: the observer, SIQ and SID, the modulation and the MO frame of the next period. DEDUCED: log entry 18. -/
def State.motionPeriod (s : State) (n : Nat) : State :=
  let s := s.observe n
  let s := ((s.loopSample n 5 false).loopSample n 6 false).noteEffort n
  let s := if s.spinState n = 2 ∨ s.spinState n = 3 ∨ s.spinState n = 4 then s.modLimit n else s.setBit (MOT_SPST n) MOT_SPST_MODLIM false
  let s := s.setFld (MOT_ANGLE n) MOT_ANGLE_THETA (s.angleNow n / 65536)
  let s := s.sendMo n
  let s := s.openLoop n
  let p := s.spin n
  if s.spinState n = 4 && !p.on && decide (p.omega.natAbs < 600 * 512) then s.setSpin n 5 else s

/-! ## The sled -/

/-- R142: the limit words: velocity, acceleration per tick, jerk per tick. -/
def State.sledLimits (s : State) (n : Nat) : Int × Int × Int :=
  (rnd (min 500000 (max 1 (s.fld (SLD_VMAX n) SLD_VMAX_VMAX)) * 2 ^ 40) 10000000,
   rnd (min 20000 (max 1 (s.fld (SLD_ALIM n) SLD_ALIM_AMAX)) * 2 ^ 40) 1000000000,
   rnd (min 2000 (max 1 (s.fld (SLD_ALIM n) SLD_ALIM_JMAX)) * 2 ^ 40) 100000000000)

/-- The velocity lost while a deceleration of `a` is taken back to 0 at jerk `J` a tick. -/
def rampOut (J a : Int) : Int :=
  let n := (a + J - 1) / J
  n * a - J * (n * (n + 1) / 2)

/-- The acceleration of a tick of a stop (R145): against the motion at the jerk rate, held, and taken back to reach 0 at V = 0.
DEDUCED: log entry 25. -/
def brakeAcc (A J v a : Int) : Int :=
  let down := if a < -A then min (a + J) (-A) else max (a - J) (-A)
  let fits (c : Int) : Bool := decide (c ≤ 0 ∧ rampOut J (-c) ≤ v + c)
  if 0 < a then max (a - J) (-A)
  else if fits down then down
  else if fits a ∧ a < 0 then a
  else if min (a + J) 0 < 0 then min (a + J) 0
  else -(min (min J A) v)

/-- Microsteps × 2^40 covered by a stop from (v, a), at most `k` ticks long. DEDUCED: log entry 25. -/
def stopDistance (A J : Int) : Nat → Int → Int → Int
  | 0, _, _ => 0
  | k + 1, v, a =>
    if v ≤ 0 ∧ a ≤ 0 then 0
    else
      let c := brakeAcc A J v a
      let v := max 0 (v + c)
      1000 * v + stopDistance A J k v c

/-- Ticks that bound a stop. -/
def stopTicks (A J v a : Int) : Nat := ((v + a * a / J) / A + 4 * (A + a) / J + v / J / 1000 + 2000).toNat

/-- The acceleration of a tick that heads for velocity `vt`. DEDUCED: log entry 25. -/
def cruiseAcc (A J v a vt : Int) : Int :=
  let step (want : Int) : Int := a + clampI (-J) J (want - a)
  if v < vt then
    if vt ≤ v + (if 0 < a then rampOut J a else 0) then step 0 else min (step A) (max (vt - v) (a - J))
  else if vt < v then (if v - (if a < 0 then rampOut J (-a) else 0) ≤ vt then step 0 else max (step (-A)) (min (vt - v) (a + J)))
  else step 0

/-- SLD_STAT shows velocity and motion. -/
def State.showSled (s : State) (n : Nat) : State :=
  let d := s.sled n
  let v : Int := d.speed * 10000000 / 2 ^ 40
  let back := if d.creep then decide (d.target.getD 0 < s.fldInt (SLD_POS n) SLD_POS_POS) else d.neg
  (s.setFldInt (SLD_STAT n) SLD_STAT_VEL (satS 20 (if back then -v else v))).setBit (SLD_STAT n) SLD_STAT_MOVING
    (d.v != 0 || d.creep)

/-- The sled takes acceleration `a` for a tick and moves (R142). -/
def State.sledStep (s : State) (n : Nat) (a : Int) : State :=
  let d := s.sled n
  let v := (max 0 (min (max (d.v : Int) (s.sledLimits n).1) ((d.v : Int) + a))).toNat
  let f := d.frac + 1000 * v
  let k : Int := (f / 2 ^ 40 : Nat)
  let p := s.fldInt (SLD_POS n) SLD_POS_POS
  let s := s.setFldInt (SLD_POS n) SLD_POS_POS (if d.neg then p - k else p + k)
  s.setSled n (fun d => { d with v := v, acc := if v = 0 then 0 else a, frac := f % 2 ^ 40 })

/-- Trap cause SLED (Table 8.7). -/
def State.trapSled (s : State) (n : Nat) : State := s.trapCause n 12 ((s.reg (SLD_STAT n)).toNat % 16)

/-- R145: a snowplough stop begins, if the sled moves, has a move to make or follows. DEDUCED: log entry 197. -/
def State.snowplough (s : State) (n : Nat) : State :=
  let d := s.sled n
  if d.v = 0 ∧ d.target.isNone ∧ !d.creep ∧ !d.follow then s
  else s.setSled n (fun d => { d with target := none, creep := false, follow := false, snow := true })

/-- A move has ended. -/
def State.moveDone (s : State) (n : Nat) : State :=
  (((s.setSled n (fun d => { d with target := none, creep := false, frac := 0 })).showSled n).raiseStn n 10 [])

/-- R143: the remainder that is crossed at 10,000 µm/s once V is 0. -/
def creepSpan : Nat := 8

/-- A tick of a move towards `t` (R143, R144). DEDUCED: log entry 25. -/
def State.moveTick (s : State) (n : Nat) (t : Int) : State :=
  let (V, A, J) := s.sledLimits n
  let p := s.fldInt (SLD_POS n) SLD_POS_POS
  let d := s.sled n
  let neg := if d.v = 0 then decide (t < p) else d.neg
  let s := s.setSled n (fun d => { d with neg := neg })
  let left : Int := (if neg then p - t else t - p) * 2 ^ 40 - d.frac
  let a := cruiseAcc A J d.v d.acc V
  let v1 := max 0 ((d.v : Int) + a)
  let go := decide (1000 * v1 + stopDistance A J (stopTicks A J v1 (max a 0)) v1 a ≤ left)
  if d.creep then
    let s := s.setFldInt (SLD_POS n) SLD_POS_POS (if t < p then p - 1 else if p < t then p + 1 else p)
    if (p - t).natAbs ≤ 1 then s.moveDone n else s
  else if d.v = 0 ∧ p = t then s.moveDone n
  else if d.v = 0 ∧ (p - t).natAbs ≤ creepSpan then (s.setSled n (fun d => { d with creep := true, acc := 0, frac := 0 })).showSled n
  else if (go ∧ 0 < v1) ∨ d.v = 0 then s.sledStep n a
  else s.sledStep n (brakeAcc A J d.v d.acc)

/-- R146: the velocity word that SLD asks for, signed. -/
def State.followVelocity (s : State) (n : Nat) : Int :=
  if s.mode n 7 ≠ 2 then 0 else rnd ((s.loop n 7).y * (s.sledLimits n).1) (2 ^ 40)

/-- A tick of following. DEDUCED: log entry 25. -/
def State.followTick (s : State) (n : Nat) : State :=
  let (V, A, J) := s.sledLimits n
  let d := s.sled n
  let p := s.fldInt (SLD_POS n) SLD_POS_POS
  let lo := s.fldInt (SLD_PMIN n) SLD_PMIN_PMIN
  let hi := s.fldInt (SLD_PMAX n) SLD_PMAX_PMAX
  let want := clampI (-V) V (s.followVelocity n)
  let want := if (want < 0 ∧ p ≤ lo) ∨ (0 < want ∧ hi ≤ p) then 0 else want
  let neg := if d.v = 0 then decide (want < 0) else d.neg
  let s := s.setSled n (fun d => { d with neg := neg })
  let along := if neg then -want else want
  let s := s.sledStep n (if along ≤ 0 then brakeAcc A J d.v d.acc else cruiseAcc A J d.v d.acc along)
  let p := s.fldInt (SLD_POS n) SLD_POS_POS
  if (s.sled n).v ≠ 0 ∧ ((neg ∧ p ≤ lo) ∨ (¬ neg ∧ hi ≤ p)) then
    (((s.setBit (SLD_STAT n) SLD_STAT_LIMIT true).raiseStn n 11 []).trapSled n).snowplough n
  else s

/-- SLED_TICK (R142): 10 µs of the profile generator. -/
def State.sledTick (s : State) (n : Nat) : State :=
  let d := s.sled n
  let (_, A, J) := s.sledLimits n
  if s.bit (BUS_STAT n) BUS_STAT_PROTECT then s
  else
    let s :=
      if d.snow then
        let s := s.sledStep n (brakeAcc A J d.v d.acc)
        if (s.sled n).v = 0 then
          let s := s.setSled n (fun d => { d with snow := false, frac := 0 })
          let s := (s.setBit (SLD_STAT n) SLD_STAT_SNOW true).showSled n
          (s.raiseStn n 10 []).trapSled n
        else s
      else match d.target with
        | some t => s.moveTick n t
        | none =>
          if d.follow then s.followTick n
          else if d.v = 0 then s else s.sledStep n (brakeAcc A J d.v d.acc)
    s.showSled n

/-- R143: GO; one that comes during a snowplough stop begins when the stop has ended. True: it is refused.
DEDUCED: log entry 197. -/
def State.sledGo (s : State) (n : Nat) : State × Bool :=
  let t := s.fldInt (SLD_TARGET n) SLD_TARGET_TARGET
  if s.fld (SLD_CTL n) SLD_CTL_MODE ≠ 1 then (s, false)
  else if (s.sled n).target.isSome ∨ t < s.fldInt (SLD_PMIN n) SLD_PMIN_PMIN ∨ s.fldInt (SLD_PMAX n) SLD_PMAX_PMAX < t then
    (s.setBit (SLD_STAT n) SLD_STAT_REFUSED true, true)
  else ((s.setSled n (fun d => { d with target := some t, follow := false })).showSled n, false)

/-- A write of SLD_CTL: MODE, then STOP, then GO. True: a part of it is refused. IDLE stops a move that has begun also while V is still 0;
FOLLOW takes a move's place without the event of its end, and MOVE the place of following as an ordinary stop.
DESIGN CHOICE: log entry 228. -/
def State.writeSldCtl (s : State) (n mode : Nat) (stop go : Bool) : State × Bool :=
  let m := if mode = 3 then 0 else mode
  let was := s.bit (SLD_STAT n) SLD_STAT_MOVING || (s.sled n).target.isSome
  let s := s.setFld (SLD_CTL n) SLD_CTL_MODE mode
  let s := if m = 0 ∧ was then s.snowplough n else s.setSled n (fun d => { d with follow := m == 2 })
  let s := if m = 2 then s.setSled n (fun d => { d with target := none, creep := false }) else s
  let s := if stop then s.snowplough n else s
  if go then s.sledGo n
  else (s, false)

/-- R144: a write of SLD_TARGET. -/
def State.writeSldTarget (s : State) (n : Nat) (w : Word) : State × Bool :=
  if (s.sled n).target.isSome then (s.setBit (SLD_STAT n) SLD_STAT_REFUSED true, true) else (s.setReg (SLD_TARGET n) w, false)

/-- R147: a write of SLD_POS. -/
def State.writeSldPos (s : State) (n : Nat) (w : Word) : State × Bool :=
  let m := s.fld (SLD_CTL n) SLD_CTL_MODE
  if s.bit (SLD_STAT n) SLD_STAT_MOVING ∨ (m ≠ 0 ∧ m ≠ 3) then (s.setBit (SLD_STAT n) SLD_STAT_REFUSED true, true)
  else ((s.setReg (SLD_POS n) w).setSled n (fun d => { d with frac := 0 }), false)

/-! ## The motor bus (R148 to R154) -/

/-- Every station of the part. -/
def State.eachStn (s : State) (f : State → Nat → State) : State := (List.range s.stations).foldl f s

/-- R153: the regeneration-fault reaction of station n. -/
def State.rgfReact (s : State) (n : Nat) : State :=
  let r := s.fld (MOT_CTL n) MOT_CTL_RGF_REACT
  if r = 2 then s
  else
    let s := s.setSpindle n (fun p => { p with on := false })
    ((s.setSpin n (if r = 1 then 0 else 5)).trapSpindle n).stopTask n

/-- R149: CH_OFF, below CH_ON. -/
def State.chOff (s : State) (n : Nat) : Nat :=
  let on := s.fld (BUS_CHOP n) BUS_CHOP_CH_ON
  let off := s.fld (BUS_CHOP n) BUS_CHOP_CH_OFF
  if off < on then off else on - 500

/-- R151, R152: REGEN_FAULT is entered when CHFAULT is set and VIN or the local bus has reached RGF; its reaction goes before that to a loss
in the same period (R140). -/
def State.checkRegen (s : State) (n : Nat) : State :=
  let lvl := s.fld (BUS_RGF n) BUS_RGF_RGF
  let st := s.fld (BUS_STAT n) BUS_STAT_STATE
  if st < 2 && s.bit (BUS_STAT n) BUS_STAT_CHFAULT && (decide (lvl ≤ s.fld (BUS_STAT n) BUS_STAT_VLOC) || decide (lvl ≤ s.fld (BUS_VIN n) BUS_VIN_VIN)) then
    let s := ((s.setFld (BUS_STAT n) BUS_STAT_STATE 2).setBit (BUS_STAT n) BUS_STAT_RGF true).setBit (BUS_STAT n) BUS_STAT_CHON true
    (s.raiseStn n 9 []).eachStn (fun s k => if s.decelerating k || (s.spin k).lossDecel then s.rgfReact k else s)
  else s

/-- R149, R151: the chopper and the supervisor's state follow the local bus. -/
def State.supervise (s : State) (n : Nat) : State :=
  let v := s.fld (BUS_STAT n) BUS_STAT_VLOC
  let st := s.fld (BUS_STAT n) BUS_STAT_STATE
  let on := decide (s.fld (BUS_CHOP n) BUS_CHOP_CH_ON ≤ v)
  let off := decide (v < s.chOff n)
  let chon := st != 3 && (st == 2 || on || (s.bit (BUS_STAT n) BUS_STAT_CHON && !off))
  let s := s.setBit (BUS_STAT n) BUS_STAT_CHON chon
  let s := s.setSpindle n (fun p => { p with chopDue := on && st != 3 })
  let s := if st < 2 then s.setFld (BUS_STAT n) BUS_STAT_STATE (if chon then 1 else 0) else s
  s.checkRegen n

/-- R434, R474: the sense gain of a current channel in µA per code; 1,000 for every other channel. -/
def State.senseGain (s : State) (n ch : Nat) : Nat :=
  let g (k : Nat) : Nat := if boardOk s.sec.board then boardGain s.sec.board n k else 1000
  if ch ≤ 2 then g 0 else if ch = 6 ∨ ch = 7 then g 1 else if ch = 9 then g 2 else 1000

/-- R434: a raw MI code, corrected: channels 0 to 10 in the order of Table 3.8; currents in mA. -/
def State.miValue (s : State) (n ch : Nat) (code : Int) : Int :=
  let k := SMap.getD (s.station (toStn n)).cal.pd ((0 : Int), (65536 : Int)) ch
  rnd ((code - k.1) * k.2 * s.senseGain n ch) 65536000

/-- R458: one rise of trip bit `b`. Choice 2 counts as a failed lane. DEDUCED: log entry 33. -/
def State.tripRise (s : State) (n b : Nat) : State :=
  let s := s.raiseStn n 7 [b]
  let r := s.fld (HLTH_TRIP n) ⟨2 * b + 1, 2 * b⟩
  if r = 0 then s
  else
    let s := s.setSpindle n (fun p => { p with on := false })
    let s := if s.spinState n = 7 then s else s.setSpin n 0
    let s := s.snowplough n
    if 2 ≤ r then s.setStn (toStn n) (fun t => { t with port.tripFail := true }) else s

/-- MI_FRAME (R79): the samples of a period: currents U, V, W, voltages U, V, W, sled A, B, bus, chopper, temperature.
DEDUCED: log entries 33, 164. -/
def State.miFrame (s : State) (n trips : Nat) (codes : List Int) : State :=
  let v (ch : Nat) : Int := s.miValue n ch (codes.getD ch 0)
  let t := trips % 32
  let old := (s.spin n).trips
  let chopI := v 9
  let fault := (s.spin n).chopDue && decide (chopI < (s.fld (BUS_RGF n) BUS_RGF_CH_IMIN : Nat))
  let s := s.setSpindle n (fun p => { p with cur := [v 0, v 1, v 2], curLast := p.cur, trips := t, resume := p.resume || t.testBit 4 })
  let s := if s.spinState n = 1 then s.setSpindle n (fun p => p.catchFrame [v 3, v 4, v 5]) else s
  let s := s.setFld (BUS_STAT n) BUS_STAT_VLOC (clampI 0 65535 (v 8)).toNat
  let s := if fault ∧ ¬ s.bit (BUS_STAT n) BUS_STAT_CHFAULT then (s.setBit (BUS_STAT n) BUS_STAT_CHFAULT true).raiseStn n 8 [] else s
  let s := s.supervise n
  (List.range 4).foldl (fun s b => if t.testBit b && !old.testBit b then s.tripRise n b else s) s

/-- VIN_SAMPLE (R148): VIN in mV. DEDUCED: log entries 27, 28. -/
def State.vinSample (s : State) (mv : Nat) : State :=
  let s : State := { s with aon.vin := mv }
  s.eachStn (fun s n => if s.isOn (domSTN n) then (s.setFld (BUS_VIN n) BUS_VIN_VIN (min 65535 mv)).checkRegen n else s)

/-- REGEN_FAULT_CLEAR (R151). -/
def State.regenClear (s : State) (n : Nat) : State :=
  if s.fld (BUS_STAT n) BUS_STAT_STATE = 2 ∧ s.fld (BUS_STAT n) BUS_STAT_VLOC < s.chOff n ∧ s.fld (BUS_VIN n) BUS_VIN_VIN < s.chOff n then
    (s.setFld (BUS_STAT n) BUS_STAT_STATE 0).setBit (BUS_STAT n) BUS_STAT_CHON false
  else s

/-- R154: a bus stands at or above `mv`. DEDUCED: log entry 27. -/
def State.busAt (s : State) (mv : Nat) : Bool :=
  decide (mv ≤ s.aon.vin) || (List.range s.stations).any (fun n => decide (mv ≤ s.fld (BUS_STAT n) BUS_STAT_VLOC))

/-- R154: self-protection of one station. -/
def State.protectStn (s : State) (n : Nat) : State :=
  let s := (s.setFld (BUS_STAT n) BUS_STAT_STATE 3).setBit (BUS_STAT n) BUS_STAT_PROTECT true
  let s := s.setBit (BUS_STAT n) BUS_STAT_CHON false
  let s := s.setSled n (fun d => { d with v := 0, acc := 0, target := none, snow := false, creep := false, follow := false })
  let s := (s.setFld (SLD_CTL n) SLD_CTL_MODE 0).showSled n
  let s := s.setStn (toStn n) (fun t => { t with port.laserOff := true })
  let s := s.setSpindle n (fun p => { p with on := false, tries := 0, chopDue := false })
  ((s.trapCause n 5 0).setSpin n 7).stopNow n

/-- R154: every station. DEDUCED: log entry 29. -/
def State.protect (s : State) : State :=
  if !s.busAt 44000 || s.power.protect then s
  else (({ s with power.protect := true } : State).raise 36 []).eachStn (fun s n => if s.isOn (domSTN n) then s.protectStn n else s)

/-- PROTECTION_RELEASE (R154). DEDUCED: log entries 29, 30. -/
def State.protectRelease (s : State) : State :=
  if s.busAt 43000 || !s.power.protect then s
  else ({ s with power.protect := false } : State).eachStn (fun s n =>
    if !s.bit (BUS_STAT n) BUS_STAT_PROTECT then s
    else
    let s := (s.setFld (BUS_STAT n) BUS_STAT_STATE 0).setBit (BUS_STAT n) BUS_STAT_PROTECT false
    let s := s.setStn (toStn n) (fun t => { t with port.laserOff := s.fatal n })
    let s := s.setSpindle n (fun p => { p with on := false })
    let s := if s.spinState n = 7 then s.setSpin n 0 else s
    s.supervise n)

/-! ## Where the head stands -/

/-- R39, R44, R245: the radius of lead spot 4 at frame `fpos` of a band position, in 0.1 µm. -/
def locRadius10 (layer zone bpos fpos : Nat) : Int :=
  let C : Int := zoneC zone
  let off : Int := (73 * bpos + fpos) * frameBits
  let N : Int := if layer % 2 = 0 then (zoneS zone : Int) - 300 else (zoneS zone + zoneT zone : Nat) - 300
  let along : Int := if layer % 2 = 0 then N * C + off else N * C - off
  rnd (2400064 * C + 128 * along) (10 * zoneC zone)

/-- R245: the radius of a wobble address, in 0.1 µm. -/
def wobbleRadius10 (w : Nat) : Int := locRadius10 (wobbleLayer w) (wobbleZone w) (wobbleBpos w) (wobbleFpos w)

/-- R130: a radius as a demand, in whole micrometres. -/
def demandOf (r10 : Int) : Nat := ((r10 + 5) / 10).toNat

/-- R130: while a task tracks at its location, DEMAND is the head's radius. -/
def State.followRadius (s : State) (n word : Nat) : State := match (s.station (toStn n)).way with
  | some w => if w.step = .there ∧ s.bit (TASK_STATUS n) TASK_STATUS_BUSY then (s.writeDemand n (demandOf (wobbleRadius10 word)) true).1 else s
  | none => s

/-! ## The wobble sync (R125) -/

/-- A sync of lead spot 4's spiral at channel-clock count `cw`, in 1/16. DEDUCED: log entry 31. -/
def State.wobbleSync (s : State) (n : Nat) (cw : Int) : State :=
  match (s.spin n).ce with
  | none => s.setSpindle n (fun p => { p with ce := some cw, phi := 0 })
  | some c =>
    let e := (c + 40144 * 16) % 2 ^ 36
    let d := (cw - e) % 2 ^ 36
    let phi := if d < 2 ^ 35 then d else d - 2 ^ 36
    let s := s.setSpindle n (fun p => { p with ce := some e, phi := phi })
    if s.spinState n = 4 then s.addWear (32 + n) (phi.natAbs ^ 2) else s

end Sys2Proof.Machine
end

