-- ==== Sys2Proof/Machine/Ldpc.lean ====
section
/-!
DEFINITION. Decoding of a frame (R166, R173 to R176): the search for the sync mark among sliced bits, data-bit LLRs from channel-bit
LLRs, the layered, normalised min-sum decoder for the Bruhorn code, and the iteration schedule. LLRs are in units of 0.5 and positive
for 0; the soft sums of the ladder (R183, R188) are in units of 0.25.
-/

namespace Sys2Proof.Machine

/-! ## The sync-mark search (R166) -/

/-- A position at which a sync mark may end (R47, R166): its offset from the predicted point, the bits that differ from the mark, and
whether one of the 48 bits before it is missing, erased or a defect. -/
structure Cand where
  off : Int
  diff : Nat
  bad : Bool
  deriving DecidableEq, Repr

/-- The candidate at offset `o` from the predicted point, in the sliced bits from 112 before it on; none: erased or a defect. -/
def candAt (bits : List (Option Bool)) (o : Int) : Cand :=
  let w := (bits.drop (64 + o).toNat).take 48
  let d := (List.zip w syncMark).filter (fun x => match x.1 with | some b => b != x.2 | none => false)
  ⟨o, d.length, decide (w.length < 48) || w.any (·.isNone)⟩

/-- The positions from 64 before to 64 after the predicted point. -/
def candidates (bits : List (Option Bool)) : List Cand := (List.range 129).map (fun i => candAt bits ((i : Int) - 64))

/-- The candidate that the search takes: fewest differences, then nearest, then earliest. DEDUCED: log entry 60. -/
def pickCand (thr w : Nat) (l : List Cand) : Option Cand :=
  let ok := l.filter (fun c => decide (c.off.natAbs ≤ w ∧ c.diff ≤ thr) && !c.bad)
  let better (a b : Cand) : Bool := decide (a.diff < b.diff ∨ a.diff = b.diff ∧ (a.off.natAbs < b.off.natAbs ∨ a.off.natAbs = b.off.natAbs ∧ a.off < b.off))
  ok.foldl (fun (m : Option Cand) c => match m with
    | none => some c
    | some x => if better c x then some c else some x) none

/-! ## LLRs -/

/-- R173, R174: a 6-bit LLR or message. -/
def sat31 (v : Int) : Int := max (-31) (min 31 v)

/-- sign(a) × sign(b) × min(|a|, |b|). -/
def minSign (a b : Int) : Int :=
  let m : Int := (min a.natAbs b.natAbs : Nat)
  if decide (a < 0) != decide (b < 0) then -m else m

/-- R173: the 16 data-bit LLRs of a channel word, whose first bit carries the polarity. -/
def wordLlrs : List Int → List Int
  | [] => []
  | p :: w => w.map (minSign p)

/-- R173, R51: the 37,440 codeword-bit LLRs of a detector pass over the 39,780 channel bits of the data field; a bit that it does not
give counts as erased on both looks (R170). -/
def dataLlrs (l : List Int) : List Int :=
  ((List.range 2340).flatMap (fun i => let w := (l.drop (17 * i)).take 17; wordLlrs ((w ++ List.replicate (17 - w.length) 0).map sat31)))

/-- The hard decision of an LLR: positive for 0; the specification does not say what an LLR of 0 decides. DEDUCED: log entry 50. -/
def hardBit (v : Int) : Bool := if v = 0 then Config.zeroHard else decide (v < 0)

/-- The number of parity checks (R49) that a bit string fails. -/
def syndromeWeight (l : List Bool) : Nat :=
  let bl := toBlocks l
  ((List.range 8).map (fun i =>
    let s := (List.zip (List.range 72) bl).foldl (fun a jb => match codeShift i jb.1 with
      | some p => a ^^^ turn p jb.2
      | none => a) 0#520
    ((List.range 520).filter s.getLsbD).length)).sum

/-! ## The decoder (R174) -/

/-- The decoder's memory: the a posteriori LLRs of the codeword bits, and the message of each check to each of its bits, at
(72 × block row + block column) × 520 + row. -/
structure Dec where
  post : Array Int
  msg : Array Int
  deriving Repr

/-- The magnitude 0.75 × m as a 6-bit message; the specification does not say how its fraction is rounded.
DEDUCED: log entry 50. -/
def normalised (m : Nat) : Nat := min 31 (3 * m / 4 + if 3 * m % 4 ≠ 0 && Config.normUp m then 1 else 0)

/-- The bits of check `row` of block row `i`: for each, its index and the index of its message. -/
def checkEdges (i row : Nat) : List (Nat × Nat) :=
  (List.range 72).filterMap (fun j => match codeShift i j with
    | some p => some (520 * j + (row + p) % 520, (72 * i + j) * 520 + row)
    | none => none)

/-- One check of a sweep: each of its bits receives the normalised minimum, with the product of the signs, of the others.
DEDUCED: log entry 50. -/
def Dec.check (d : Dec) (i row : Nat) : Dec :=
  let es := (checkEdges i row).map (fun e => (e, d.post.getD e.1 0 - d.msg.getD e.2 0))
  let mags := es.map (fun x => (sat31 x.2).natAbs)
  let m1 := mags.foldl min 31
  let m2 := (mags.erase m1).foldl min 31
  let odd := (es.filter (fun x => decide (x.2 < 0))).length % 2 = 1
  es.foldl (fun (d : Dec) x =>
    let m : Int := normalised (if (sat31 x.2).natAbs = m1 then m2 else m1)
    let r := if (decide odd != decide (x.2 < 0)) then -m else m
    ⟨d.post.setIfInBounds x.1.1 (x.2 + r), d.msg.setIfInBounds x.1.2 r⟩) d

/-- An inner iteration: one sweep over block rows 0 to 7, in that order. -/
def Dec.sweep (d : Dec) : Dec := (List.range 8).foldl (fun d i => (List.range 520).foldl (fun d row => d.check i row) d) d

/-- The hard decisions. -/
def Dec.bits (d : Dec) : List Bool := d.post.toList.map hardBit

/-- At most `k` inner iterations; a zero syndrome after one of them is convergence. -/
def Dec.inner : Nat → Dec → Dec × Bool
  | 0, d => (d, false)
  | k + 1, d =>
    let d := d.sweep
    if isCodeword d.bits then (d, true) else Dec.inner k d

/-- The decoder takes the LLRs of a detector pass in place of those of the pass before; the specification does not say whether its
messages stand from one outer iteration to the next. DEDUCED: log entry 50. -/
def Dec.load (d : Dec) (old new : List Int) : Dec :=
  if Config.keepMessages then
    let ext := List.zipWith (fun p o => p - o) d.post.toList old
    ⟨(List.zipWith (fun e x => e + x) ext new).toArray, d.msg⟩
  else ⟨new.toArray, (List.replicate 299520 (0 : Int)).toArray⟩

/-- What a decode attempt gives: convergence, a zero syndrome of the first pass's hard decisions (R179), the 4,160 information bytes,
the raw error count (R175), and, for soft export, the first pass's syndrome weight and the LLRs of the last pass in units of 0.25. -/
structure Attempt where
  conv : Bool
  clean : Bool
  info : Bytes
  raw : Nat
  synd : Nat
  soft : List Int
  deriving DecidableEq, Repr

def sat127 (v : Int) : Int := max (-127) (min 127 v)

/-- R183: the LLRs of the passes so far, in units of 0.25, and those of this pass, summed with saturation.
DEDUCED: log entry 51. -/
def addLlr (old new : List Int) : List Int :=
  if old.isEmpty then new.map (fun x => sat127 (2 * x)) else List.zipWith (fun a x => sat127 (a + 2 * x)) old new


end Sys2Proof.Machine
end

