-- ==== Sys2Proof/Machine/Front.lean ====
section
/-!
DEFINITION. From samples to decoded frames: timing recovery and equalisation of a stream (R158 to R161), defects (R169), the search of a
look (R166), joint detection of the tracks of a slot (R170 to R173) and the iteration schedule (R176). Samples are counted from the start
of epoch 0, and positions lie on a grid of 1/(20 x 2^32) sample, in which the nominal step is whole.
-/

namespace Sys2Proof.Machine

/-! ## Timing recovery (R158, R159) -/

/-- One sample, and the nominal step of 1.05 samples. DESIGN CHOICE: log entry 183. -/
def subSample : Int := 20 * 2 ^ 32
def nominalStep : Int := 21 * 2 ^ 32

/-- R159: the position of an instant in 1/16 channel clock, and the instant of a position. -/
def posOfInstant (c : Int) : Int := c * (21 * 2 ^ 28)
def instantOfPos (p : Int) : Int := p / (21 * 2 ^ 28)

/-- R158: four samples interpolated with the cubic Lagrange polynomial at m/64 between the second and the third, in 2^-20. -/
def cubic (x : List Int) (m : Int) : Int :=
  let a := -m * (m - 64) * (m - 128)
  let b := 3 * (m + 64) * (m - 64) * (m - 128)
  let c := -3 * (m + 64) * m * (m - 128)
  let d := (m + 64) * m * (m - 64)
  rnd ((a * x.getD 0 0 + b * x.getD 1 0 + c * x.getD 2 0 + d * x.getD 3 0) * 2 ^ 20) (6 * 64 ^ 3)

/-- What a stream runs under: the predicted reference point, RC_SYNC, RC_TR, RC_EQ, RC_DEF and RC_CTL.ADAPT. -/
structure RunCfg where
  pred : Int
  win : Nat
  thr : Nat
  kpA : Nat
  kiA : Nat
  kpT : Nat
  kiT : Nat
  flim : Nat
  muC : Nat
  muG : Nat
  frac : Nat
  defWin : Nat
  guard : Nat
  adapt : Bool
  deriving DecidableEq, Repr

/-- The number of the newest bit whose value y is known, and of the newest that has been sliced. -/
def Stream.newest (x : Stream) : Int := (x.count : Int) - 8
def Stream.sliced (x : Stream) : Int := (x.count : Int) - 11

/-- R160: the level correction of an equalised sample: y and the sample less the offset. -/
def Stream.correct (x : Stream) (v : Int) : Int × Int :=
  let d := v - rnd x.offset 4
  (rnd (x.gain * d) (2 ^ 32) - rnd (x.asym * d * d) (2 ^ 40 * 8192), d)

/-- R160, R169: the equaliser, the level correction and the envelope, once a sample more has come. DESIGN CHOICE: log entry 183. -/
def Stream.level (c : RunCfg) (x : Stream) : Stream :=
  let w := x.ss.take 15
  let v := rnd ((List.zipWith (fun t s => t * s.1) x.taps w).sum) (2 ^ 34)
  let (y, d) := x.correct v
  let (_, lost, p) := w.getD 7 (0, true, 0)
  let ys := y :: (x.bits.take (c.defWin - 1)).map (·.y)
  let env := ys.foldl max y - ys.foldl min y
  let faint0 := match x.bits with | b :: _ => b.faint | [] => false
  let faint := if lost || decide (ys.length < c.defWin) then faint0 else decide (256 * env < (c.frac : Int) * x.mean)
  { x with
    bits := ⟨instantOfPos p, y, d, lost, faint, false, 0, 0⟩ :: x.bits,
    mean := if lost || faint || decide (ys.length < c.defWin) then x.mean else Config.envMean x.mean env }

/-- The channel bit that the preamble holds at a place (Table 2.4). -/
def preambleBit (i : Int) : Bool := decide (i % 10 < 5)

/-- R160: the target of a bit from it and the three before it. -/
def target (a : List Bool) : Int :=
  let p (i : Nat) : Int := if a.getD i false then 1 else -1
  4 * (p 0 + 2 * p 1 + 2 * p 2 + p 3)

/-- R160: the newest bit that can be sliced is sliced and judged: its target, from the known preamble or tentative decisions. -/
def Stream.judge (c : RunCfg) (x : Stream) : Stream := match x.bits with
  | b0 :: b1 :: b2 :: b :: l =>
    let mark := Config.slice [b.y, b2.y, b1.y, b0.y]
    let n := x.sliced
    let a (k : Nat) (m : Bool) : Bool :=
      let i := n - k - (c.pred - 288)
      if 0 ≤ i ∧ i < 240 then preambleBit i else m
    let d := target (a 0 mark :: (List.range 3).map (fun k => a (k + 1) ((l.map (·.mark)).getD k false)))
    { x with bits := b0 :: b1 :: b2 :: { b with mark := mark, d := d } :: l }
  | _ => x

/-- R161: bit `n` lies in the preamble or in the data field, behind the mark found or, where none is found, behind the window. -/
def Stream.refines (c : RunCfg) (x : Stream) (n : Int) : Bool :=
  let i := n - (c.pred - 288)
  let data := match x.found with | some f => f | none => c.pred + c.win
  decide (0 ≤ i ∧ i < 240) || decide (data ≤ n ∧ n < (x.found.getD c.pred) + 39780)

/-- R161: least mean squares of bit `b` against y - d: taps, G, O and A go against the gradient of the squared error; `w`: its samples.
DEDUCED: log entry 185. -/
def Stream.lms (c : RunCfg) (x : Stream) (b : RcBit) (w : List (Int × Bool × Int)) : Stream :=
  let e := b.y - b.d * 2 ^ 20
  let h := x.gain - rnd (x.asym * b.x) (2 ^ 20)
  let g : Int := c.muG
  { x with
    taps := List.zipWith (fun t s => clampI (-(2 ^ 35)) (2 ^ 35 - 1) (t - rnd (c.muC * e * h * s.1) (2 ^ 58))) x.taps w,
    gain := clampI 0 (2 ^ 36 - 1) (x.gain - rnd (g * e * b.x) (2 ^ 28)),
    offset := clampI (-(2 ^ 27)) (2 ^ 27 - 1) (x.offset + rnd (g * e * h) (2 ^ 54)),
    asym := clampI (-(2 ^ 27)) (2 ^ 27 - 1) (x.asym + rnd (g * e * b.x * b.x) (2 ^ 73)) }

/-- R161, R172: the bit GUARD bits behind the newest judged one, of which it is now known whether R169 marks it: unmarked, its squared error
goes into σ², and it refines where R161 lets it. DESIGN CHOICE: log entry 183. -/
def Stream.settle (c : RunCfg) (x : Stream) : Stream := match x.bits.drop (3 + c.guard) with
  | [] => x
  | b :: l =>
    let marked := b.lost || ((x.bits.drop 3).take (2 * c.guard + 1)).any (·.faint)
    let e := b.y - b.d * 2 ^ 20
    let sq := if marked then x.sq else (e.natAbs ^ 2 :: x.sq).take 4096
    let x := { x with sq := sq, bits := x.bits.take (3 + c.guard) ++ { b with var := sq.sum / max 1 sq.length } :: l }
    if !c.adapt || marked || !x.refines c (x.sliced - c.guard) then x else x.lms c b ((x.ss.drop (3 + c.guard)).take 15)

/-- R158, R159: the loop takes its phase error, with the acquisition gains from the predicted start of the preamble until the mark is found
or the predicted point has passed; it holds its step over erased samples and over the bits that R169 has marked by then.
DESIGN CHOICE: log entry 183. -/
def Stream.advance (c : RunCfg) (x : Stream) (p : Int) : Stream :=
  let hold := (match x.ss with | s :: _ => s.2.1 | [] => true) || (x.bits.take 5).any (·.lost)
    || (x.bits.take (max 5 (c.guard + 1))).any (·.faint) || decide (x.bits.length < 5)
  if hold then { x with pos := some (p + x.step) }
  else
    let bs := (x.bits.drop 3).take 2
    let e := Config.phaseError (bs.map (·.y)) (bs.map (·.d))
    let acq := x.found.isNone && decide (c.pred - 288 ≤ x.sliced ∧ x.sliced < c.pred)
    let lim := nominalStep * c.flim / 10000
    let i := clampI (-lim) lim (x.integ + rnd e (2 ^ (if acq then c.kiA else c.kiT)))
    let st := nominalStep + clampI (-lim) lim (i + rnd e (2 ^ (if acq then c.kpA else c.kpT)))
    { x with integ := i, step := st, pos := some (p + st) }

/-- R158: the mark has been found at the newest sliced bit: its 48 bits differ in at most THR places, inside the window. -/
def Stream.marks (c : RunCfg) (x : Stream) : Bool :=
  decide ((x.sliced + 1 - c.pred).natAbs ≤ c.win) &&
  (let w := ((x.bits.drop 3).take 48).reverse
   w.length == 48 && !w.any (fun b => b.lost || b.faint) &&
   decide (((List.zip w syncMark).filter (fun z => z.1.mark != z.2)).length ≤ c.thr))

/-- One channel bit more (R158 to R161, R169). -/
def Stream.bit (c : RunCfg) (sample : Int → Option Int) (x : Stream) : Stream := match x.pos with
  | none => x
  | some p =>
    let i := p / subSample
    let four := [i - 1, i, i + 1, i + 2].map sample
    let lost := four.any (·.isNone)
    let v := if lost then 0 else cubic (four.map (·.getD 0)) (p % subSample * 64 / subSample)
    let x : Stream := { x with ss := ((v, lost, p) :: x.ss).take (18 + c.guard), count := x.count + 1 }
    let x : Stream := if x.ss.length < 15 then x else ((x.level c).judge c).settle c
    let x : Stream := if x.found.isNone && x.marks c then { x with found := some (x.sliced + 1) } else x
    x.advance c p

/-- A number of bits. -/
def Stream.run (c : RunCfg) (sample : Int → Option Int) : Nat → Stream → Stream
  | 0, x => x
  | k + 1, x => Stream.run c sample k (x.bit c sample)

/-! ## A look at a frame -/

/-- R161, R162: what a stream loads at the start of a frame. -/
def Stream.load (x : Stream) (e : StreamEq) : Stream :=
  { x with gain := (e.gain : Int) * 2 ^ 20, offset := e.offset * 2 ^ 20, asym := e.asym * 2 ^ 20, taps := e.taps.map (· * 2 ^ 20), found := none }

/-- A stream that is not running begins 64 bits before the preamble whose reference point lies at the instant `c`.
DESIGN CHOICE: log entry 219. -/
def Stream.begin (x : Stream) (c : Int) : Stream :=
  { x with pos := some (posOfInstant c - 352 * nominalStep), step := nominalStep, integ := 0, count := 0, ss := [], bits := [], ref := none }

/-- The number of the bit at the instant `c`, as the stream runs. -/
def Stream.numberAt (x : Stream) (c : Int) : Int := match x.pos with
  | none => x.count
  | some p => x.count + rnd (posOfInstant c - p) nominalStep.toNat

/-- The instant of bit number `i`, among the bits held. -/
def Look.instant (l : Look) (i : Int) : Option Int := (l.bits[(i - l.first).toNat]?).map (·.1.at')

/-- R169: marks a list of bits from one side: a bit in a defect, and `g` bits behind it. -/
def guardAfter (g : Nat) : Nat → List (RcBit × Bool) → List (RcBit × Bool)
  | _, [] => []
  | k, b :: l =>
    if b.1.faint then (b.1, true) :: guardAfter g g l
    else match k with
      | 0 => b :: guardAfter g 0 l
      | k + 1 => (b.1, true) :: guardAfter g k l

/-- R169, R170: the bits of a look in order, each marked when it is erased, in a defect or in a defect's guard. -/
def guarded (g : Nat) (bits : List RcBit) : List (RcBit × Bool) :=
  (guardAfter g 0 ((guardAfter g 0 ((bits.reverse).map (fun b => (b, b.lost)))).reverse)).reverse

/-- R166: the search of a look whose predicted point is bit `pred`. -/
def searchLook (thr win : Nat) (bits : List (RcBit × Bool)) (first pred : Int) : Option Int :=
  let at0 := pred - 112 - first
  let l := (bits.drop at0.toNat).take 176
  (pickCand thr win (candidates (l.map (fun b => if b.2 then none else some b.1.mark)))).map (·.off)

/-- One stream runs through a frame whose reference point is predicted at bit `pred`: the entry's values are loaded at the start of its
preamble (R161), and the search is made (R166). It runs on to the last data bit of every position at which the frame may be tried (R171);
the bits behind that and behind the window are looked at for what they mark as guard (R169). -/
def Stream.frame (c : RunCfg) (e : StreamEq) (sample : Int → Option Int) (q : Nat) (x : Stream) : Stream × Look :=
  let x := Stream.run c sample (c.pred - 281 - x.count).toNat x
  let x : Stream := { x.load e with bits := x.bits.take 900 }
  let x := Stream.run c sample (c.pred + 76 - x.count).toNat x
  let ahead := Stream.run c sample c.guard x
  let first := ahead.newest + 1 - ahead.bits.length
  let found := searchLook c.thr c.win (guarded c.guard ahead.bits) first c.pred
  let x := Stream.run c sample (c.pred + max 4 (found.getD 4) + 39791 - x.count).toNat x
  let ahead := Stream.run c sample (c.guard + 3) x
  (x, ⟨q, some c.pred, ahead.newest + 1 - ahead.bits.length, guarded c.guard ahead.bits, found⟩)

/-! ## Joint detection (R170 to R173) -/

/-- R171: the data field of a look whose reference point lies `off` from the predicted one: y and σ² of each bit; none: it takes no part. -/
def Look.field (l : Look) (off : Int) : List (Option (Int × Nat)) :=
  let b := match l.pred with
    | none => []
    | some p => ((l.bits.drop (p + off - l.first).toNat).take 39780).map (fun b => if b.2 then none else some (b.1.y, max 1 b.1.var))
  b ++ List.replicate (39780 - b.length) none

/-- A track of a slot in the iteration schedule: the data fields of its two looks with their neighbour coefficients, the LLR sums of earlier
passes, and what the iterations have given. -/
structure Track where
  lead : List (Option (Int × Nat))
  trail : List (Option (Int × Nat))
  gLead : Int × Int
  gTrail : Int × Int
  old : List Int
  dec : Dec
  /-- the decoder's last input, the channel-bit LLRs of the last detector pass and their a priori ones -/
  input : List Int
  chan : List Int
  prior : List Int
  /-- the data-bit LLRs of the first detector pass, and the last sums -/
  first : List Int
  sums : List Int
  conv : Bool
  deriving Repr

/-- E[a] of a bit whose LLR is v/2, in 2^-20: -tanh(v/4). -/
def meanBit (v : Int) : Int :=
  let t : List Nat := [0, 256816, 484565, 666002, 798589, 889490, 949117, 987104, 1010856, 1025535, 1034540, 1040040, 1043391, 1045428, 1046665,
    1047417] ++ [1047873, 1048149, 1048317, 1048419, 1048481, 1048518, 1048541, 1048555, 1048563, 1048568, 1048571, 1048573, 1048574, 1048575,
    1048575, 1048576]
  let m : Int := (t.getD v.natAbs 1048576 : Nat)
  if v < 0 then m else -m

/-- R172: the expected target values of a track, in 2^-20, behind the sync mark's last bits. -/
def expected (chan : List Int) : List Int :=
  (chan.foldl (fun (a : List Int × (Int × Int × Int)) v =>
    let m := meanBit v
    (4 * (m + 2 * a.2.1 + 2 * a.2.2.1 + a.2.2.2) :: a.1, (m, a.2.1, a.2.2.1))) ([], (2 ^ 20, -(2 ^ 20), -(2 ^ 20)))).1.reverse

/-- R172: a look with its interference taken off: g_in and g_out in Q1.15. -/
def lessNeighbours (g : Int × Int) (tin tout : List Int) (look : List (Option (Int × Nat))) : List (Option (Int × Nat)) :=
  (List.zip look (List.zip tin tout)).map (fun x => x.1.map (fun b => (b.1 - rnd (g.1 * x.2.1 + g.2 * x.2.2) 32768, b.2)))

/-- The 8 states of the trellis are the last three bits, the latest lowest; the target of bit `b` behind state `s`. -/
def branchTarget (s b : Nat) : Int := target [b == 1, s.testBit 0, s.testBit 1, s.testBit 2]

/-- R172: the metric of bit `b` behind state `s`, in 2^-20: the looks available, and the a priori LLR (units of 0.5). -/
def branch (o : List (Int × Nat)) (prior : Int) (s b : Nat) : Int :=
  (o.map (fun y => let e := y.1 - branchTarget s b * 2 ^ 20; rnd (e * e * 2 ^ 20) (2 * y.2))).sum + (if b = 1 then prior * 2 ^ 19 else 0)

/-- Forward step: the best metric of each state after a bit. -/
def forwardStep (a : List Int) (o : List (Int × Nat)) (prior : Int) : List Int :=
  (List.range 8).map (fun t => min (a.getD (t / 2) 0 + branch o prior (t / 2) (t % 2)) (a.getD (t / 2 + 4) 0 + branch o prior (t / 2 + 4) (t % 2)))

/-- Backward step: the best metric of each state before a bit. -/
def backwardStep (z : List Int) (o : List (Int × Nat)) (prior : Int) : List Int :=
  (List.range 8).map (fun s => min (branch o prior s 0 + z.getD (2 * s % 8) 0) (branch o prior s 1 + z.getD ((2 * s + 1) % 8) 0))

/-- The metrics behind each bit, the first bit's first. -/
def backwards : List (List (Int × Nat) × Int) → List (List Int)
  | [] => [List.replicate 8 0]
  | o :: l => let z := backwards l; backwardStep (z.headD []) o.1 o.2 :: z

/-- The LLR of each bit in units of 0.5, saturated (R173): the best metric with a 1 less the best with a 0. -/
def bcjr : List Int → List (List (Int × Nat) × Int) → List (List Int) → List Int
  | a, o :: l, _ :: zs =>
    let z := zs.headD []
    let best (b : Nat) : Int := ((List.range 8).map (fun s => a.getD s 0 + branch o.1 o.2 s b + z.getD ((2 * s + b) % 8) 0)).foldl min (2 ^ 80)
    sat31 (rnd (best 1 - best 0) (2 ^ 19)) :: bcjr (forwardStep a o.1 o.2) l zs
  | _, _, _ => []

/-- R172: one detector pass over the looks of a track: the a posteriori LLRs of its channel bits. The bits before the data field are the sync
mark's. DEDUCED: log entry 186. -/
def detect (lead trail : List (Option (Int × Nat))) (prior : List Int) : List Int :=
  let obs := (List.zip (List.zip lead trail) prior).map (fun x => (x.1.1.toList ++ x.1.2.toList, x.2))
  bcjr [2 ^ 60, 0, 2 ^ 60, 2 ^ 60, 2 ^ 60, 2 ^ 60, 2 ^ 60, 2 ^ 60] obs (backwards obs)

/-- R170, R173: what the decoder takes of a pass: 0 for a bit that neither look gives. -/
def Track.toDecoder (t : Track) (chan : List Int) : List Int :=
  List.zipWith (fun x (v : Int × Int) => if x.1.isNone && x.2.isNone then 0 else if Config.priorOut then v.1 else sat31 (v.1 - v.2))
    (List.zip t.lead t.trail) (List.zip chan t.prior)

/-- R173: the a priori LLRs of a word of 17 channel bits from those of the last pass and the 16 extrinsics of its data bits.
DEDUCED: log entry 187. -/
def wordPriors (w ext : List Int) : List Int := match w with
  | [] => []
  | p :: bs => sat31 ((List.zipWith minSign bs ext).sum) :: ext.map (minSign p)

/-- R173: the a priori LLRs of the data field's channel bits. -/
def priors (chan ext : List Int) : List Int :=
  (List.range 2340).flatMap (fun i => wordPriors ((chan.drop (17 * i)).take 17) ((ext.drop (16 * i)).take 16))

/-- R176: an outer iteration of a track; `tin`, `tout`: the expected target values of its neighbours. DEDUCED: log entry 51. -/
def Track.iterate (inner : Nat) (tin tout : List Int) (t : Track) : Track :=
  if t.conv then t
  else
    let chan := detect (lessNeighbours t.gLead tin tout t.lead) (lessNeighbours t.gTrail tin tout t.trail) t.prior
    let llr := dataLlrs (t.toDecoder chan)
    let sums := addLlr t.old llr
    let x := if t.old.isEmpty then llr else sums.map (fun v => rnd v 2)
    let r := (t.dec.load t.input x).inner inner
    let ext := List.zipWith (fun p i => sat31 (p - i)) r.1.post.toList x
    { t with
      dec := r.1, conv := r.2, input := x, chan := chan, prior := priors chan ext, sums := sums,
      first := if t.first.isEmpty then llr else t.first }

/-- R172: what spiral j's track gives its neighbours: nothing without interference estimates, before its first pass, or without a track. -/
def neighbour (iti : Bool) (ts : List Track) (j : Int) : List Int :=
  let z := List.replicate 39780 (0 : Int)
  if !iti || j < 0 then z
  else match ts[j.toNat]? with
    | none => z
    | some t => if t.chan.isEmpty then z else expected t.chan

/-- R176: outer iterations of the eight tracks of a slot side by side. -/
def iterateTracks (inner : Nat) (iti : Bool) : Nat → List Track → List Track
  | 0, ts => ts
  | k + 1, ts => iterateTracks inner iti k ((List.zip (List.range 8) ts).map (fun t =>
      t.2.iterate inner (neighbour iti ts ((t.1 : Int) - 1)) (neighbour iti ts ((t.1 : Int) + 1))))

/-- A track before its first iteration. -/
def newTrack (lead trail : List (Option (Int × Nat))) (gLead gTrail : Int × Int) (old : List Int) : Track :=
  ⟨lead, trail, gLead, gTrail, old, ⟨(List.replicate 37440 (0 : Int)).toArray, (List.replicate 299520 (0 : Int)).toArray⟩,
    List.replicate 37440 0, [], List.replicate 39780 0, [], old, false⟩

/-- What the iterations gave a track (R175, R179): the raw errors count against the first detector pass. -/
def Track.result (t : Track) : Attempt :=
  let first := t.first.map hardBit
  let bits := t.dec.bits
  ⟨t.conv, isCodeword first, bitsToBytes (bits.take 33280), ((List.zip bits first).filter (fun y => y.1 != y.2)).length,
    syndromeWeight first, t.sums⟩

/-- R172: least mean squares of the neighbour coefficients of a look over a frame. -/
def refineG (g : Int × Int) : List (Option (Int × Nat)) → List Int → List Int → List Int → Int × Int
  | b :: l, d :: ds, i :: is, o :: os =>
    match b with
    | none => refineG g l ds is os
    | some (y, _) =>
      let e := y - rnd (g.1 * i + g.2 * o) 32768 - d
      refineG (satS 16 (g.1 + rnd (Config.itiStep * e * i) (2 ^ 45)), satS 16 (g.2 + rnd (Config.itiStep * e * o) (2 ^ 45))) l ds is os
  | _, _, _, _ => g

end Sys2Proof.Machine
end

