-- ==== Sys2Proof/Machine/Port.lean ====
section
/-!
DEFINITION. The station port (ch. 3): training and loss of lanes (R84 to R89), the station's state (Table 3.12), the sample
lanes (R72 to R75), the command lane (R76), the interlock (R81), the loader line (R82), and a station's entry into FATAL (R240).
-/

namespace Sys2Proof.Machine

def State.port (s : State) (n : Nat) : Port := (s.station (toStn n)).port

def State.setPort (s : State) (n : Nat) (g : Port → Port) : State := s.setStn (toStn n) (fun t => { t with port := g t.port })

/-- Trap cause LANE (Table 8.7). -/
def State.trapLane (s : State) (n : Nat) : State := s.trapCause n 7 ((s.reg (STN_STAT n)).toNat / 256 % 4096)

/-! ## The station's state (Table 3.12) -/

/-- A lane has failed (R85). DEDUCED: log entry 34. -/
def State.failedLane (s : State) (n k : Nat) : Bool := s.lane n k == 3

/-- A band being written or waiting meets the loss of its station's normal state: R88 closes a begun band early, R202 gives a
waiting one back. -/
def State.bandOffStation (s : State) (n : Nat) (st : Status) : State := match s.bw? n with
  | none => s
  | some b =>
    if !b.begun then s.giveBack n st
    else
      let cut := match b.hold with | some h => h.cut.getD b.slot | none => b.slot
      s.closeEarly n (8 * cut) []

/-- R231, R308: every task of the station but a BAND_WRITE in hand ends with `st`. -/
def State.endTasks (s : State) (n : Nat) (st : Status) : State :=
  (List.range 2).foldl (fun (s : State) _ =>
    match s.bw? n with
    | some b => if s.inTask n .bandWrite then (if b.begun then s else s.giveBack n st) else s.endTask n st
    | none => s.endTask n st) s

/-- The station becomes unavailable (Table 3.12, R344). DEDUCED: log entry 34. -/
def State.becomeUnavailable (s : State) (n : Nat) : State :=
  let s := (s.setBit (STN_STAT n) STN_STAT_UNAVAIL true).setBit (STN_STAT n) STN_STAT_DEGRADED false
  let s := (s.showSl n).raiseStn n 19 []
  let s := s.bandOffStation n .stationUnavailable
  let s := (s.endTasks n .stationUnavailable).failQueued n .stationUnavailable
  s.discAbsent n

/-- The station becomes degraded (Table 3.12, R88). -/
def State.becomeDegraded (s : State) (n : Nat) : State :=
  let s := (s.setBit (STN_STAT n) STN_STAT_UNAVAIL false).setBit (STN_STAT n) STN_STAT_DEGRADED true
  let s := (s.showSl n).raiseStn n 19 []
  (s.bandOffStation n .stationDegraded).returnQueued n

/-- Table 3.12: the state follows the lanes. While SA0 and SA1 train for one cause, neither alone degrades the station (R89).
DEDUCED: log entry 34. -/
def State.settlePort (s : State) (n : Nat) : State :=
  let f (k : Nat) : Bool := s.failedLane n k
  let lost := (f 0 && f 1) || f 2 || f 3 || f 4 || (s.port n).tripFail || (List.range 5).any (fun k => s.lane n k == 0)
  let busy := (List.range 5).any (fun k => s.lane n k == 1)
  let pair := (s.port n).pair && (s.lane n 0 == 1 || s.lane n 1 == 1)
  let unav := s.bit (STN_STAT n) STN_STAT_UNAVAIL
  let deg := s.bit (STN_STAT n) STN_STAT_DEGRADED
  let s := if pair then s else s.setPort n (fun p => { p with mapWant := if f 1 && !f 0 then 1 else if f 0 && !f 1 then 2 else 0 })
  let s :=
    if lost then (if unav then s else s.becomeUnavailable n)
    else if busy && unav then s
    else if pair then s
    else if f 0 || f 1 then (if deg then s else s.becomeDegraded n)
    else ((s.setBit (STN_STAT n) STN_STAT_UNAVAIL false).setBit (STN_STAT n) STN_STAT_DEGRADED false).showSl n
  (s.resendSet n).checkWrite n

/-! ## Training -/

/-- R84: training of every lane that is not marked failed. -/
def State.trainAll (s : State) (n : Nat) (full : Bool) : State :=
  ((s.trainLanes n ((List.range 5).filter (fun k => !s.failedLane n k)) full).freshTraining n [0, 1, 2]).checkWrite n

/-- R84: the station is enabled and its domain ON: SY and training start. R69: the first epoch after SY starts is epoch 0.
DEDUCED: log entry 35. -/
def State.startPort (s : State) (n : Nat) : State :=
  if !s.bit (STN_CTL n) STN_CTL_ENABLE || !s.isOn (domSTN n) then s
  else
    let s := s.setPort n (fun p => { p with epochs := 0, clQueue := [], clLeft := 0, nextBit := none, flow := none, clCrc := 0xFFFF#16, clSeen := none })
    (s.setBit (STN_STAT n) STN_STAT_SY_RUN true).trainAll n (!(s.port n).saved)

/-- Attempts allowed a lane (Table 3.14). -/
def State.retries (s : State) (n : Nat) : Nat := max 1 (s.fld (STN_CTL n) STN_CTL_RETRIES)

/-- R85: an attempt to train lane `k` has failed; the last one allowed marks the lane failed. -/
def State.attemptLost (s : State) (n k : Nat) : State :=
  let a := (s.port n).attempts.getD k 0 + 1
  let s := s.setPort n (fun p => { p.clearLane k with attempts := p.attempts.set k a })
  if a < s.retries n then s else (((s.setLane n k 3).raiseStn n 0 [k]).trapLane n).settlePort n

/-- R85: the check of lane `k` passes: an SA lane by its bit errors and its margins in mV and 1/128 UI, the others by what has been reported. -/
def State.checkPasses (s : State) (n k errors eyeV eyeH : Nat) : Bool :=
  if k ≤ 1 then errors == 0 && decide (25 ≤ eyeV) && decide (32 ≤ eyeH)
  else if k = 2 then decide (8 ≤ (s.port n).clGood)
  else if k = 3 then decide (8 ≤ (s.port n).moGood)
  else decide (8 ≤ (s.port n).miGood)

/-- TRAINING_ATTEMPT_END (R85): the check of lane `k` ends, with the errors and the margins of an SA lane.
DEDUCED: log entry 34. -/
def State.trainingEnd (s : State) (n k errors eyeV eyeH : Nat) : State :=
  if s.lane n k ≠ 1 ∨ 5 ≤ k then s
  else if s.checkPasses n k errors eyeV eyeH then
    let s := (s.setLane n k 2).setPort n (fun p => p.clearLane k)
    let s := if k = 0 then (s.setFld (STN_EYE n) STN_EYE_SA0_V (min 255 eyeV)).setFld (STN_EYE n) STN_EYE_SA0_H (min 255 eyeH)
      else if k = 1 then (s.setFld (STN_EYE n) STN_EYE_SA1_V (min 255 eyeV)).setFld (STN_EYE n) STN_EYE_SA1_H (min 255 eyeH) else s
    let s := if k ≤ 1 then s.setPort n (fun p => { p with saved := true }) else s
    s.settlePort n
  else s.attemptLost n k

/-- R86, R88, R89: the lanes `ks` are lost and retrained by quick training; the loss of CL takes write power off at once.
DEDUCED: log entry 35. -/
def State.laneLost (s : State) (n : Nat) (ks : List Nat) : State :=
  let up := ks.filter (fun k => decide (k < 5) && s.lane n k == 2)
  let again := ks.filter (fun k => decide (k < 5) && s.lane n k == 1)
  let s := again.foldl (fun (s : State) k => s.attemptLost n k) s
  if up.isEmpty then s
  else
    let s := s.trainLanes n up false
    let s := up.foldl (fun (s : State) k => s.raiseStn n 0 [k]) s
    let s := if up.any (fun k => decide (k ≤ 2)) then s.freshTraining n up else s
    let s := s.trapLane n
    if up.contains 2 then s.stopNow n else s.checkWrite n

/-- STN_CTL.RETRAIN (R86): at once, or at the end of the band being written. DEDUCED: log entry 35. -/
def State.retrain (s : State) (n : Nat) : State :=
  if !s.bit (STN_CTL n) STN_CTL_ENABLE then s
  else if (match s.bw? n with | some b => b.begun | none => false) then s.setPort n (fun p => { p with retrainDue := true })
  else s.trainAll n false

/-- STN_CTL.UNFAIL (R87): the failed marks clear and full training starts. -/
def State.unfail (s : State) (n : Nat) : State :=
  let s := (List.range 5).foldl (fun (s : State) k => if s.failedLane n k then s.setLane n k 0 else s) s
  let s := s.setPort n (fun p => { p with tripFail := false })
  if s.bit (STN_CTL n) STN_CTL_ENABLE && s.isOn (domSTN n) then (s.trainAll n true).settlePort n else s.settlePort n

/-- R91: the station is parked. -/
def State.parked (s : State) (n : Nat) : Bool :=
  (!s.holdsTask n && s.spinState n == 0 && (List.range 8).all (fun L => s.mode n L == 0) && !s.bit (SLD_STAT n) SLD_STAT_MOVING)
  || (s.fatal n && s.spinState n == 0)

/-- Every link of the station stops (R91); failed marks stay (R87). DEDUCED: log entry 35. -/
def State.stopLinks (s : State) (n : Nat) : State :=
  let s := s.setBit (STN_STAT n) STN_STAT_SY_RUN false
  let s := (List.range 5).foldl (fun (s : State) k => if s.failedLane n k then s else s.setLane n k 0) s
  s.settlePort n

/-- A write of STN_CTL (R84, R86, R87, R91). True: its ENABLE = 0 is refused. -/
def State.writeStnCtl (s : State) (n : Nat) (w : Word) : State × Bool :=
  let was := s.bit (STN_CTL n) STN_CTL_ENABLE
  let want := fldGet STN_CTL_ENABLE w != 0
  let refuse := was && !want && !s.parked n
  let s := (s.setFld (STN_CTL n) STN_CTL_CL_TXEQ (fldGet STN_CTL_CL_TXEQ w)).setFld (STN_CTL n) STN_CTL_RETRIES (fldGet STN_CTL_RETRIES w)
  let s := if refuse then s.setBit (STN_STAT n) STN_STAT_REFUSED true else s.setBit (STN_CTL n) STN_CTL_ENABLE want
  let s := if !was && want then s.startPort n else if was && !want && !refuse then s.stopLinks n else s
  let s := if fldGet STN_CTL_UNFAIL w ≠ 0 then s.unfail n else s
  (if fldGet STN_CTL_RETRAIN w ≠ 0 then s.retrain n else s, refuse)

/-! ## Sample lanes -/

def saErr (k : Nat) : Fld := if k = 0 then STN_LERR_SA0_ERR else STN_LERR_SA1_ERR

/-- R95: an epoch of instants joins its 20-epoch group. -/
def Port.addEpoch (p : Port) : Port :=
  let sum := (List.zip p.slowSum (sumChannels p.instants)).map (fun x => x.1 + x.2)
  if (p.framed + 1) % 20 = 0 then { p with framed := p.framed + 1, slowSum := List.replicate 8 0, slowDone := sum }
  else { p with framed := p.framed + 1, slowSum := sum }

/-- R86: a block has come on lane `k`: 16 invalid sync headers within 1,024 blocks lose it. DEDUCED: log entry 176. -/
def State.noteSync (s : State) (n k : Nat) (b : Block66) : State :=
  let e := (s.port n).syncs.getD k (0, [])
  let i := e.1 + 1
  let bad := (if b.valid then e.2 else e.2 ++ [i]).filter (fun j => decide (i < j + 1024))
  let s := s.setPort n (fun p => { p with syncs := p.syncs.set k (i, bad) })
  if 16 ≤ bad.length then s.laneLost n [k] else s

/-- R85, R86, R91: what a HEADER reports of CL: the errors of an epoch, which both SA lanes report, count once.
DESIGN CHOICE: log entry 177. -/
def State.clReport (s : State) (n epoch clErr : Nat) (lock : Bool) : State :=
  let p := s.port n
  if p.clSeen = some epoch then s
  else
    let next := match p.clSeen with | some e => decide ((e + 1) % 65536 = epoch) | none => false
    let s := s.bump (STN_LERR n) STN_LERR_CL_ERR clErr
    let s := s.setPort n (fun p => { p with
      clSeen := some epoch, clGood := if lock && clErr == 0 then (if next then p.clGood + 1 else 1) else 0 })
    if !lock && s.lane n 2 == 2 then s.laneLost n [2] else s

/-- The lane that carries the lead row under the map applied (Table 3.4). -/
def State.rollRow (s : State) (n k : Nat) : Nat := if k = s.servoLane n then 0 else 1

/-- The samples of lane `k` are those of epoch `no`, which is erased or not (R75, R156); in a degraded station the other lane carries none. -/
def State.rollSamples (s : State) (n k no : Nat) (erased : Bool) : State :=
  let mine (key : Nat) : Bool := key / 2100 == k
  if s.fld (STN_STAT n) STN_STAT_MAP ≠ 0 ∧ k ≠ s.servoLane n then
    s.setStn (toStn n) (fun t => { t with read.samples := SMap.drop mine t.read.samples })
  else
    let row := s.rollRow n k
    s.setStn (toStn n) (fun t =>
      let data := (t.read.samples.filter (fun e => mine e.1)).map (fun e => (e.1 - 2100 * k, e.2))
      { t with
        read.past := (⟨row, no, erased, data⟩ :: t.read.past.filter (fun e => !(e.row == row && e.no == no))).take 256,
        read.samples := SMap.drop mine t.read.samples })

/-- R70: the epoch, counted from SY's start, that a HEADER's 16-bit number names: the one nearest the epoch in progress. -/
def Port.epochOf (p : Port) (e : Nat) : Nat := ((p.epochs : Int) + (((e : Int) - p.epochs + 32768) % 65536 - 32768)).toNat

/-- R75, R95: an epoch of the servo lane ends, with or without a HEADER; instants that do not come keep the last one's values. -/
def Port.servoEpoch (p : Port) : Port :=
  let q := if p.inFrame then p.addEpoch else p
  { q with instants := List.replicate 16 p.last }

/-- R95: a HEADER on the servo lane: the first one after training frames the epoch that begins the groups of 20. -/
def Port.framedBy (p : Port) (up : Bool) : Port :=
  if up && !p.inFrame then { p with inFrame := true, instants := List.replicate 16 p.last } else p

/-- SA_HEADER (R72, R74, R75, R86, R95): a HEADER on lane `k`: its epoch, the CL errors of the epoch before, its status, and the CRC-16 of
the data blocks before it. -/
def State.saHeader (s : State) (n k : Nat) (b : Block66) : State :=
  if 2 ≤ k ∨ s.lane n k = 0 ∨ s.lane n k = 3 then s
  else
    let s := s.noteSync n k b
    if !b.isControl || b.field 0 8 ≠ 0xA1 then s
    else
      let e := b.field 8 16
      let status := b.field 32 8
      let ok := b.field 40 16 == ((s.port n).saCrc.getD k 0).toNat
      let s := if ok then s else s.bump (STN_LERR n) (saErr k) 1
      let bad := if ok then 0 else (s.port n).hdrBad.getD k 0 + 1
      let s := s.setPort n (fun p => { p with
        hdrNone := p.hdrNone.set k 0, hdrBad := p.hdrBad.set k bad, saCrc := p.saCrc.set k 0xFFFF#16, saNext := p.saNext.set k 0xFFFF#16, saEpoch := p.saEpoch.set k e,
        writeApplied := status.testBit 1 })
      let s := (s.rollSamples n k ((s.port n).epochOf e - 1) (!ok)).setFld (STN_STAT n) STN_STAT_MAP (status / 4 % 4)
      let s := if k = s.servoLane n then s.setPort n (fun p => p.framedBy (s.lane n k == 2)) else s
      let s := s.clReport n e (b.field 24 8) (status.testBit 0)
      if 4 ≤ bad then s.laneLost n [k] else s

/-- SERVO_BLOCK (R72, R73, R75): SERVO_A or SERVO_B of an instant on lane `k`: channels 0 to 3 or 4 to 7; one with an invalid sync header
is discarded and counted, and the previous instant's values stand. -/
def State.servoBlock (s : State) (n k : Nat) (b : Block66) : State :=
  if k ≠ s.servoLane n ∨ s.lane n k ≠ 2 then s
  else
    let s := s.noteSync n k b
    let j := b.field 8 4
    let type := b.field 0 8
    if !b.valid then s.bump (STN_LERR n) (saErr k) 1
    else if !b.isControl || (type ≠ 0xA2 && type ≠ 0xA3) then s
    else
      let c := (List.range 4).map (fun i => let v := b.field (16 + 12 * i) 12; if v < 2048 then (v : Int) else (v : Int) - 4096)
      let put (l : List Int) : List Int := if type = 0xA3 then l.take 4 ++ c else c ++ l.drop 4
      s.setPort n (fun p => { p with
        last := put p.last,
        instants := (List.range 16).map (fun i => let v := p.instants.getD i []; if j ≤ i then put v else v) })

/-- The raw codes of an MI frame (Table 3.8): currents and the temperature are two's complement, voltages unsigned.
PRESUMED: log entry 178. -/
def miCodes (b : Bytes) : List Int := (List.range 11).map (fun ch =>
  let v := leNat (slice b (2 + 2 * ch) 2)
  if [3, 4, 5, 8].contains ch ∨ v < 32768 then (v : Int) else (v : Int) - 65536)

/-- MI_FRAME (R79, R85, R86, R91, R458): the characters of a frame; one whose comma, characters or CRC-16 fail is only counted. Byte 24 adds to
MO_ERR what the frame reports. A reaction of choice 2 counts as a failed lane. DEDUCED: log entries 164, 179. -/
def State.miReceived (s : State) (n : Nat) (chars : List Nat) : State := match frameBytes 28 chars with
  | none => (s.bump (STN_LERR n) STN_LERR_MI_ERR 1).setPort n (fun p => { p with miGood := 0 })
  | some b =>
    let was := (s.port n).tripFail
    let trips := (b.getD 1 0).toNat
    let moErr := (b.getD 24 0).toNat
    let s := s.setPort n (fun p => { p with
      miSeen := true, miGood := p.miGood + 1, miPeriod := (b.getD 0 0).toNat,
      moGood := if moErr = 0 then p.moGood + 1 else 0, moBad := if moErr = 0 then 0 else p.moBad + 1 })
    let s := (s.bump (STN_LERR n) STN_LERR_MO_ERR moErr).miFrame n trips (miCodes b)
    let s := if (s.port n).tripFail && !was then s.settlePort n else s
    if s.lane n 3 == 2 && (decide (4 ≤ (s.port n).moBad) || trips.testBit 4) then s.laneLost n [3] else s

/-- MOTION_PERIOD (R80, R86): a period, in which a valid MI frame came or did not. -/
def State.periodTick (s : State) (n : Nat) : State :=
  let s := s.setPort n (fun p => if p.miSeen then { p with miSeen := false, miNone := 0 }
    else { p with miNone := p.miNone + 1, miGood := 0, moGood := 0 })
  let s := s.setSpindle n (fun p => { p with lossDecel := false })
  let s := if s.lane n 4 == 2 && decide (4 ≤ (s.port n).miNone) then s.laneLost n [4] else s
  s.motionPeriod n

/-! ## The command lane -/

/-- The blocks of the queue that leave in one epoch: at most 250 data blocks and 780 blocks. -/
def epochBlocks : Nat → Nat → List (Bool × Nat) → List (Bool × Nat)
  | 0, _, _ => []
  | _, _, [] => []
  | k + 1, d, b :: l => if b.1 then (match d with | 0 => [] | d + 1 => b :: epochBlocks k d l) else b :: epochBlocks k d l

/-- R71: blocks leave on CL one after the other. -/
def State.clWires (s : State) (n : Nat) (bs : List (Bool × Nat)) : State :=
  let r := bs.foldl (fun (a : Nat × List Out) b => let x := scramble a.1 b.2; (x.2, a.2 ++ [.cl n (syncOf b.1) x.1])) ((s.port n).clScr, [])
  (s.setPort n (fun p => { p with clScr := r.1 })).emits r.2

/-- R77: the name of the write-data bit that is next to leave, after these blocks have left. -/
def flowAfter (f : Option Nat) (bs : List (Bool × Nat)) : Option Nat := bs.foldl (fun f b =>
  if b.1 then f.map (fun c => (c + 8) % 2 ^ 32)
  else if b.2 % 256 = 0xC2 then some (b.2 / 256 % 2 ^ 32)
  else if b.2 % 256 = 0xC3 then none else f) f

/-- R76: IDLE blocks fill what is left of the epoch that ends; then come the HEADER of the next one and the blocks that are due, with room left
for the actuator blocks of its samples: 781.25 block times an epoch. -/
def State.clSendEpoch (s : State) (n : Nat) : State :=
  let p := s.port n
  let train := s.lane n 0 == 1 || s.lane n 1 == 1
  let flags := (if train then 1 else 0) + (if p.writeEnable then 2 else 0) + 4 * p.mapWant
  let head := clBlock 0xC1 [(p.epochs, 16), (flags, 8), (p.clCrc.toNat, 16)]
  let out := epochBlocks 776 250 p.clQueue
  (s.clWires n (List.replicate p.clLeft (false, 0xC0) ++ (false, head) :: out)).setPort n (fun q => { q with
    clQueue := p.clQueue.drop out.length,
    clLeft := 780 + (if p.epochs % 4 = 3 then 1 else 0) - out.length,
    flow := flowAfter p.flow out,
    writeEnable := p.writeEnable && (p.nextBit.isSome || (p.clQueue.drop out.length).any (·.1)), clCrc := (out.filter (·.1)).foldl (fun c b => blockCrc c b.2) 0xFFFF#16 })

/-- R75, R86: an SA lane that brought no HEADER in the epoch that ends has its samples erased; after two such epochs it is lost. -/
def State.missHeaders (s : State) (n : Nat) : State :=
  let ks := [0, 1].filter (fun k => s.lane n k == 1 || s.lane n k == 2)
  let late := ks.filter (fun k => decide (1 ≤ (s.port n).hdrNone.getD k 0))
  let s := late.foldl (fun (s : State) k => s.rollSamples n k ((s.port n).epochs - 1) true) s
  let s := s.setPort n (fun p => { p with
    hdrNone := ks.foldl (fun l k => l.set k (l.getD k 0 + 1)) p.hdrNone,
    saCrc := late.foldl (fun l k => l.set k (p.saNext.getD k 0xFFFF#16)) p.saCrc, saNext := [0xFFFF#16, 0xFFFF#16] })
  let gone := ks.filter (fun k => s.lane n k == 2 && decide (2 ≤ (s.port n).hdrNone.getD k 0))
  if gone.isEmpty then s else s.laneLost n gone

/-- CL_EPOCH (R70, R76): an epoch begins while SY runs: it is counted, and CL carries its blocks. DEDUCED: log entry 26. -/
def State.clEpoch (s : State) (n : Nat) : State :=
  if !s.bit (STN_STAT n) STN_STAT_SY_RUN then s
  else
    let s := (s.missHeaders n).setPort n Port.servoEpoch
    let s := if s.lane n 2 = 0 ∨ s.lane n 2 = 3 then s else s.clSendEpoch n
    s.setPort n (fun p => { p with epochs := p.epochs + 1 })

/-! ## The interlock (R81) -/

/-- The controller acts on a high IL; while IL is still treated as high, a further pulse is no new event.
DESIGN CHOICE: log entry 180. -/
def State.interlockHigh (s : State) (n : Nat) : State :=
  if s.bit (STN_STAT n) STN_STAT_IL then s.powerOffNow n
  else (((s.setBit (STN_STAT n) STN_STAT_IL true).raiseStn n 1 []).trapCause n 6 0).stopNow n

/-- INTERLOCK: IL has been high for `ns`: at 50 ns the controller acts, up to 10 ns never, and between it may act or not. -/
def State.interlock (s : State) (n ns : Nat) : State :=
  if 50 ≤ ns then s.interlockHigh n
  else if ns ≤ 10 then s
  else
    let (b, s) := s.drawBool
    if b then s.interlockHigh n else s

/-- INTERLOCK_RELEASE. -/
def State.interlockRelease (s : State) (n : Nat) : State := (s.setBit (STN_STAT n) STN_STAT_IL false).checkWrite n

/-! ## The loader line (R82) -/

/-- AX_STATUS_POLL: STATUS is sent while the station is enabled; where the loader holds the line, its release brings it. -/
def State.axPoll (s : State) (n : Nat) : State :=
  if !s.bit (STN_CTL n) STN_CTL_ENABLE || (s.port n).axHeld then s else s.axSend n 1 0

/-- A poll has had no valid reply; the third in a row clears PRESENT. -/
def State.axMissing (s : State) (n : Nat) : State :=
  let k := (s.port n).misses + 1
  let s := s.setPort n (fun p => { p with misses := k })
  if 3 ≤ k ∧ s.bit (STN_STAT n) STN_STAT_PRESENT then (s.setBit (STN_STAT n) STN_STAT_PRESENT false).raiseStn n 2 [0] else s

/-- AX_REPLY: the 16 bits of a reply: its 12 status bits and their CRC-4; one whose CRC fails counts as none. -/
def State.axReply (s : State) (n w : Nat) : State :=
  let status := w / 16 % 4096
  if w % 65536 ≠ axWord status then s.axMissing n
  else
    let s := (s.setFld (STN_AXSTAT n) STN_AXSTAT_STATUS status).setFld (STN_AXSTAT n) STN_AXSTAT_AGE 0
    let s := s.setPort n (fun p => { p with misses := 0, axAge := 0, axNew := true })
    let s := if s.bit (STN_STAT n) STN_STAT_PRESENT then s else (s.setBit (STN_STAT n) STN_STAT_PRESENT true).raiseStn n 2 [1]
    if status.testBit 5 then s.raiseStn n 3 [status] else s

/-- AX_ATTENTION: the loader holds the line (`released` false), or releases it: STATUS is sent, and then what has waited.
DESIGN CHOICE: log entry 181. -/
def State.axAttention (s : State) (n : Nat) (released : Bool) : State :=
  let s := s.setPort n (fun p => { p with axHeld := !released })
  if !released then s
  else
    let wait := (s.port n).axQueue
    let s := s.setPort n (fun p => { p with axQueue := [] })
    let s := if s.bit (STN_CTL n) STN_CTL_ENABLE then s.axSend n 1 0 else s
    wait.foldl (fun (s : State) x => s.axSend n (x / 16) (x % 16)) s

/-- R91: a microsecond passes: STN_AXSTAT.AGE counts 10 ms each. -/
def State.axTick (s : State) (n : Nat) : State :=
  let a := (s.port n).axAge + 1
  if a < 10000 then s.setPort n (fun p => { p with axAge := a })
  else (s.setPort n (fun p => { p with axAge := 0 })).bump (STN_AXSTAT n) STN_AXSTAT_AGE 1

/-! ## A station enters FATAL (R240) -/

/-- R240: what a station's entry into FATAL does. DEDUCED: log entry 30. -/
def State.stationFatal (s : State) (n : Nat) : State :=
  let s := (s.setFatal n).setFld (SEQ_STAT n) SEQ_STAT_STATE 5
  let s := (s.powerOff n).setPort n (fun p => { p with laserOff := true })
  let s := [0, 1, 2, 3].foldl (fun (s : State) L => s.forceMode n L 0) s
  let s := if s.bit (STN_CTL n) STN_CTL_ENABLE then s.snowplough n else s
  let s := (s.writeDemand n 0 true).1
  let s := match s.bw? n with
    | some b => if b.begun then s.voidBand n false .internal else s.giveBack n .internal
    | none => match s.handParison n with
      | some p => s.returnParison p
      | none => s
  let s := s.endTask n .internal
  let s := match SMap.get? s.work.suspended n with
    | some t =>
      let s := s.setFld (TASK_STATUS n) TASK_STATUS_RESULT (statusCode .internal)
      let s := s.setFld (TASK_STATUS n) TASK_STATUS_SEQ (leNat (slice (s.readFrame n 2) 2 2))
      let s := (s.setBit (TASK_STATUS n) TASK_STATUS_SUSP false).setBit (TASK_STATUS n) TASK_STATUS_DONE true
      let s := ({ s with work.suspended := SMap.del n s.work.suspended } : State).taskResult t .internal
      match (s.station (toStn n)).writeKept, s.taskParison t with
      | none, some p => if t.kind = TaskKind.bandWrite then s.returnParison p else s
      | _, _ => s
    | none => s
  let s := match (s.station (toStn n)).writeKept with
    | some b =>
      let s := s.setStn (toStn n) (fun t => { t with writeKept := none })
      if b.begun then s.bandLost n b [] else s.returnParison b.par
    | none => s
  let s := s.setStn (toStn n) (fun t => { t with read.pass := none, read.cap := none, read.passKept := none, read.capKept := none })
  let s := s.setFld (SEQ_STAT n) SEQ_STAT_STATE 5
  ((s.failQueued n .stationUnavailable).discAbsent n).switchBank n

end Sys2Proof.Machine
end

