-- ==== Sys2Proof/Machine/Read.lean ====
section
/-!
DEFINITION. The read channel (ch. 6): samples and what a frame is begun with (R73, R161, R162), wobble addresses (R163), frames
(R166 to R179), band passes, outer recovery and the ladder (R180 to R185), seal checks and soft export (R187, R188), what a
pass brings its commands (R313, R334, R349, R350), and captures (R189 to R192, R24 to R26).
-/

namespace Sys2Proof.Machine

/-- The sample of spot k in the 48-bit word of an instant (R73). -/
def spotSample (w k : Nat) : Int := let v := w / 2 ^ (6 * k) % 64; if v < 32 then v else (v : Int) - 64

/-! ## Single-look reading, zone table -/

/-- R193: during a pass the zone table stays where it was when the pass began. DEDUCED: log entry 54. -/
def State.ztab (s : State) (n : Nat) : Nat := match (s.rd n).pass with
  | some p => p.ztab
  | none => s.ztabReg n

/-- R162, R193: the zone table is in use. -/
def State.zvalid (s : State) (n : Nat) : Bool := match (s.rd n).pass with
  | some p => p.zvalid
  | none => s.bit (RC_ZTAB_LO n) RC_ZTAB_LO_VALID

/-- R162: the address of the entry for a layer, a zone and a stream. DEDUCED: log entry 54. -/
def State.zentry (s : State) (n layer zone q : Nat) : Nat := s.ztab n + ((layer * 48 + setZone zone) * 16 + q) * 8

/-- R382: the entry can be used: the table lies in the table area and neither entry nor preset carries the poison mark. -/
def State.zoneOk (s : State) (n layer zone q : Nat) : Bool :=
  let a := s.zentry n layer zone q
  let j := leNat (s.tableRead (a + 4) 1) % 16
  s.inRegion 1 (s.ztab n) 98816 && !s.tablePoisoned a 8 && !s.tablePoisoned (s.ztab n + 98304 + 32 * j) 32

def signed8 (v : Nat) : Int := if v < 128 then v else (v : Int) - 256
def signed16 (v : Nat) : Int := if v < 32768 then v else (v : Int) - 65536

/-- R162: G = 1.0, O = 0, A = 0, c7 = 1.0. -/
def defaultEq : StreamEq := ⟨4096, 0, 0, (List.range 15).map (fun i => if i = 7 then 16384 else 0)⟩

/-- R161, R162: what stream q begins a frame of a layer and zone with. -/
def State.streamEq (s : State) (n layer zone q : Nat) : StreamEq :=
  if !s.zvalid n || !s.zoneOk n layer zone q then defaultEq
  else
    let a := s.zentry n layer zone q
    let j := leNat (s.tableRead (a + 4) 1) % 16
    ⟨leNat (s.tableRead a 2), signed8 (leNat (s.tableRead (a + 2) 1)), signed8 (leNat (s.tableRead (a + 3) 1)),
     (List.range 15).map (fun i => signed16 (leNat (s.tableRead (s.ztab n + 98304 + 32 * j + 2 * i) 2)))⟩

/-- R166: the half-width of the search; 64 from step 2 of the ladder (Table 6.5). -/
def State.window (s : State) (n layer zone q step : Nat) : Nat :=
  let e := if s.zvalid n && s.zoneOk n layer zone q then leNat (s.tableRead (s.zentry n layer zone q + 5) 1) else 0
  let w := if e = 0 then s.fld (RC_SYNC n) RC_SYNC_WIN else e
  if 2 ≤ step then 64 else max 4 (min 64 w)

/-- The layer and zone that the station reads: the pass's, else those of the last address. -/
def State.readPlace (s : State) (n : Nat) : Nat × Nat := match (s.rd n).pass with
  | some p => (locLayer p.loc, locZone p.loc)
  | none => match s.bw? n with
    | some b => (locLayer b.loc, locZone b.loc)
    | none => match (s.rd n).wobble with | some w => (wobbleLayer w, wobbleZone w) | none => (0, 0)

/-- SAMPLE_GROUP (R72, R73, R156): group `g` of lane `k`, three data blocks with 192 payload bits; the lane's CRC-16 takes them in. -/
def State.sampleGroup (s : State) (n k g : Nat) (bs : List Block66) : State :=
  if 2 ≤ k ∨ 525 ≤ g ∨ s.lane n k = 0 ∨ s.lane n k = 3 then s
  else
    let pay := (bs.map (·.payload)).foldr (fun b a => b + a * 2 ^ 64) 0
    let crc (l : List (BitVec 16)) : List (BitVec 16) := l.set k ((bs.map (·.payload)).foldl blockCrc (l.getD k 0xFFFF#16))
    let s := s.setPort n (fun p => { p with saCrc := crc p.saCrc, saNext := crc p.saNext })
    let s := if s.lane n k ≠ 2 then s else (List.range 4).foldl (fun (s : State) i => s.setRd n (fun r => { r with
      samples := SMap.put r.samples 0 (2100 * k + 4 * g + i) (pay / 2 ^ (48 * i) % 2 ^ 48) })) s
    bs.foldl (fun (s : State) b => s.noteSync n k b) s

/-- R70: an instant given modulo 2^36 in 1/16 channel clock, counted from SY's start: the one nearest the epoch in progress. -/
def State.instant (s : State) (n : Nat) (c : Int) : Int :=
  let now : Int := 32000 * ((s.port n).epochs : Nat)
  now + ((c - now + 2 ^ 35) % 2 ^ 36 - 2 ^ 35)

/-- R163, R165: the frame length that a wobble sync of spot `q` belongs to: its address's, or the one after the last sync's where the address
fails its CRC; a sync of the pass's band is kept. DEDUCED: log entry 188. -/
def State.noteWobble (s : State) (n q word : Nat) (cw : Int) : State :=
  let r := s.rd n
  let c := s.instant n cw
  let ok := wobbleOk word
  let follow := (SMap.get? r.lastSync q).bind (fun e => if (c - e.2 - 642304).natAbs < 321152 then some (e.1 + 1) else none)
  let fpos := if ok then some (wobbleFpos word) else follow
  match fpos with
  | none => s.setRd n (fun r => { r with lastSync := SMap.del q r.lastSync })
  | some f =>
    let here := match r.pass with
      | some p => !ok || (wobbleLayer word == locLayer p.loc && wobbleZone word == locZone p.loc && wobbleBpos word == locBpos p.loc
          && wobbleSpiral word == q)
      | none => false
    s.setRd n (fun r => { r with
      lastSync := SMap.ins q (f, c) r.lastSync, syncs := if here then SMap.ins (8 * f + q) c r.syncs else r.syncs })

/-- WOBBLE_ADDRESS (R45, R163): the 48-bit address word read on lead spot `q` and the count c_w of its wobble sync, in 1/16. Spot 4's goes to
the motion controller and to RC_WOB, whether or not the address passes its CRC. DESIGN CHOICE: log entry 189. -/
def State.wobbleAddress (s : State) (n q word cw : Nat) : State :=
  let s := if q = 4 then ((s.wobbleSync n cw).setReg (RC_WOB n) (BitVec.ofNat 32 (cw % 2 ^ 32))) else s
  let s := s.noteWobble n q word cw
  if !wobbleOk word then s
  else
    let s := s.setRd n (fun r => { r with wobble := some word, wobbles := r.wobbles + 1 })
    (((s.jumpWobble n (wobbleLayer word)).showValid n).followRadius n word).checkWrite n

/-! ## One frame -/

/-- R167: the flywheel positions in order: 0, 1, -1, 2, -2, …. DEDUCED: log entry 60. -/
def flyOffsets (fly : Nat) : List Int := 0 :: (List.range (min 4 fly)).flatMap (fun (i : Nat) => [((i : Int) + 1), -((i : Int) + 1)])

/-- The relocations of the band: the entries of Table 2.9. -/
def Pass.relocList (p : Pass) : List Reloc := p.relocs.map readReloc

/-- The home slot (t, s) has its frame in a spare slot (R58). -/
def Pass.spareOf (p : Pass) (t k : Nat) : Option (Nat × Nat) :=
  match p.relocList.find? (fun r => r.cause == 0 && r.slot == t && r.spiral == k) with
  | some r => some (r.spareSlot, r.spareSpiral)
  | none => none

/-- The home that a spare slot stands for. -/
def Pass.homeOf (p : Pass) (t k : Nat) : Option (Nat × Nat) :=
  match p.relocList.find? (fun r => r.cause == 0 && r.spareSlot == t && r.spareSpiral == k) with
  | some r => some (r.slot, r.spiral)
  | none => none

/-- R59: the slot is named with cause 1: it holds no frame. -/
def Pass.skipped (p : Pass) (t k : Nat) : Bool := p.relocList.any (fun r => r.cause == 1 && r.slot == t && r.spiral == k)

/-- R180: the positions that a pass decodes. -/
def Pass.positions (p : Pass) : List (Nat × Nat) :=
  ((List.range 71).flatMap (fun t => (List.range 8).map (fun k => (t, k)))).filter (fun x =>
    if x.1 ≤ 63 then decide (homeIndex x.1 x.2 < p.n) && !p.skipped x.1 x.2
    else if x.1 ≤ 67 then !p.skipped x.1 x.2
    else if x.1 ≤ 69 then (p.homeOf x.1 x.2).isSome
    else true)

/-- The data index whose frame a position holds. -/
def Pass.indexAt (p : Pass) (t k : Nat) : Option Nat :=
  if t ≤ 63 then some (homeIndex t k)
  else if t = 68 ∨ t = 69 then (match p.homeOf t k with | some h => some (homeIndex h.1 h.2) | none => none)
  else none

/-- R178: the checks of a converged frame. -/
def Pass.checks (p : Pass) (t k : Nat) (info : Bytes) : Bool := match p.indexAt t k with
  | none => true
  | some d =>
    let r := readTrailer info
    crcOk info && decide (r.slot = slotIndex d ∧ r.vault = p.vault ∧ r.seq = p.seq)
    && (if p.want.contains d then (match p.entries.find? (fun e => e.d == d) with
          | some e => decide (r.vba = e.vba ∧ r.ver = e.ver) | none => true) else true)

/-- R183: the summed LLRs of the frame at (t, k) in the passes so far. -/
def Pass.sums (p : Pass) (t k : Nat) : List Int :=
  match p.soft.find? (fun (x : SoftRes) => x.slot == t && x.spiral == k) with | some x => x.llr | none => []

/-! ### The looks at a slot (R156 to R169) -/

/-- The sample of stream `q` at sample number `i` from epoch 0; none: erased (R75), or never received. DEDUCED: log entry 49. -/
def State.sampleAt (s : State) (n q : Nat) (i : Int) : Option Int :=
  if i < 0 then none
  else
    let e := i.toNat / 2100
    match (s.rd n).past.find? (fun x => x.row == q / 8 && x.no == e) with
    | none => none
    | some x => if x.erased then none else (SMap.get? x.data (i.toNat % 2100)).map (fun w => spotSample w (q % 8))

/-- What stream `q` runs under towards a reference point predicted at bit `pred`: from step 2 of the ladder MU_C and MU_G count four times. -/
def State.runCfg (s : State) (n layer zone q step : Nat) (pred : Int) : RunCfg :=
  let m := if 2 ≤ step then 4 else 1
  ⟨pred, s.window n layer zone q step, s.fld (RC_SYNC n) RC_SYNC_THR, s.fld (RC_TR n) RC_TR_KP_A, s.fld (RC_TR n) RC_TR_KI_A,
    s.fld (RC_TR n) RC_TR_KP_T, s.fld (RC_TR n) RC_TR_KI_T, s.fld (RC_TR n) RC_TR_FLIM, m * s.fld (RC_EQ n) RC_EQ_MU_C,
    m * s.fld (RC_EQ n) RC_EQ_MU_G, s.fld (RC_DEF n) RC_DEF_FRAC, max 8 (s.fld (RC_DEF n) RC_DEF_WIN), s.fld (RC_DEF n) RC_DEF_GUARD,
    s.bit (RC_CTL n) RC_CTL_ADAPT⟩

def State.stream (s : State) (n q : Nat) : Stream := (s.rd n).streams[Fin.ofNat 16 q]

def State.setStream (s : State) (n q : Nat) (g : Stream → Stream) : State :=
  s.setRd n (fun r => { r with streams := r.streams.set (Fin.ofNat 16 q) (g r.streams[Fin.ofNat 16 q]) })

/-- A stream brought to a reference point at the instant `c`: running on if it is on its way there, else begun before it. -/
def Stream.towards (x : Stream) (c : Int) : Stream × Int :=
  let i := x.numberAt c
  if x.pos.isSome ∧ x.count ≤ i - 150 then (x, i) else (x.begin c, 352)

/-- R165: the reference point that stream `q` predicts for slot `t`, with the stream on its way there. Where the lead look's mark was not
found, the lead's predicted point stands for its reference point. DESIGN CHOICE: log entry 220. -/
def State.predict (s : State) (n q t : Nat) (lead : Option Look) : Option (Stream × Int) :=
  let x := s.stream n q
  if q < 8 then
    match x.ref with
    | some (u, r) => if u + 1 = t then some (x, r + 40144) else (SMap.get? (s.rd n).syncs (8 * t + q)).map (fun c => x.towards (c + 4608))
    | none => (SMap.get? (s.rd n).syncs (8 * t + q)).map (fun c => x.towards (c + 4608))
  else match lead with
    | none => none
    | some l => (l.pred.bind (fun p => l.instant (p + l.found.getD 0))).map (fun c => x.towards (c + x.lag))

/-- R158 to R169: stream `q` runs through the frame of slot `t` at a layer and zone, with the look that it gives.
DEDUCED: log entry 49. -/
def State.lookAt (s : State) (n layer zone q t step : Nat) (from' : Option (Stream × Int)) (lead : Option Look) : State × Look :=
  match from' with
  | none => (s.setStream n q (fun x => { x with ref := none }), ⟨q, none, 0, [], none⟩)
  | some (x, p) =>
    let s := if s.zvalid n && !s.zoneOk n layer zone q then s.raise 22 [n] else s
    let (x, l) := x.frame (s.runCfg n layer zone q step p) (s.streamEq n layer zone q) (s.sampleAt n q) q
    let lag := match lead, l.found with
      | some ld, some o => (match ld.pred.bind (fun p => ld.instant (p + ld.found.getD 0)), l.instant (p + o) with
        | some a, some b => if ld.found.isSome then b - a else x.lag
        | _, _ => x.lag)
      | _, _ => x.lag
    (s.setStream n q (fun _ => { x with ref := l.found.map (fun o => (t, p + o)), lag := lag }), l)

/-- R156: the sixteen streams run through slot `t` of the pass, the lead ones first. -/
def State.lookSlot (s : State) (n : Nat) (p : Pass) (t : Nat) : State :=
  if (s.rd n).lookSlot = some t then s
  else
    let y := locLayer p.loc
    let z := locZone p.loc
    let (s, leads) := (List.range 8).foldl (fun (a : State × List Look) q =>
      let r := a.1.lookAt n y z q t p.step (a.1.predict n q t none) none
      (r.1, a.2 ++ [r.2])) (s, [])
    let (s, looks) := (List.range 8).foldl (fun (a : State × List Look) k =>
      let r := a.1.lookAt n y z (k + 8) t p.step (a.1.predict n (k + 8) t leads[k]?) leads[k]?
      (r.1, a.2 ++ [r.2])) (s, leads)
    s.setRd n (fun r => { r with lookSlot := some t, looks := looks })

/-- The look of stream `q` at the slot in hand. -/
def State.look (s : State) (n q : Nat) : Look := ((s.rd n).looks[q]?).getD ⟨q, none, 0, [], none⟩

/-! ### Attempts -/

/-- R176: the iterations, as RC_ITER has them. -/
def State.outerIter (s : State) (n : Nat) : Nat := max 1 (min 4 (s.fld (RC_ITER n) RC_ITER_OUTER))
def State.innerIter (s : State) (n : Nat) : Nat := max 1 (min 12 (s.fld (RC_ITER n) RC_ITER_INNER))

/-- The data field of the trail look of spiral `k` when its frame is tried at offset `o` of its flywheel (R171): aligned by its own mark, where
it has one; none under single-look reading (R172). -/
def State.trailField (s : State) (n k : Nat) (o : Int) : List (Option (Int × Nat)) :=
  if s.singleLook n then List.replicate 39780 none
  else let l := s.look n (k + 8); l.field (l.found.getD o)

/-- The tracks of the slot in hand, that of spiral `k` with its lead look at offset `o`; the others at the positions of their marks, where
they have them. -/
def State.tracks (s : State) (n : Nat) (p : Pass) (t k : Nat) (o : Int) : List Track := (List.range 8).map (fun j =>
  let l := s.look n j
  let oj := if j = k then o else l.found.getD 0
  let x := s.stream n j
  let z := s.stream n (j + 8)
  newTrack (l.field oj) (s.trailField n j (if j = k ∧ l.found ≠ some o then o else 0)) (x.gIn, x.gOut) (z.gIn, z.gOut) (p.sums t j))

/-- R176: the attempt at the frame of spiral `k` with its lead look at offset `o`. -/
def State.attemptAt (s : State) (n : Nat) (p : Pass) (t k : Nat) (o : Int) : Attempt :=
  match (iterateTracks (s.innerIter n) (s.bit (RC_CTL n) RC_CTL_ITI) (s.outerIter n) (s.tracks n p t k o))[k]? with
  | some x => x.result
  | none => ⟨false, false, [], 0, 0, p.sums t k⟩

/-- R167: the offsets at which a frame is tried, in order: the mark's, then the flywheel positions that differ from it. -/
def State.tryAt (s : State) (n k : Nat) : List (Int × Bool) :=
  let c := (s.look n k).found
  c.toList.map (fun o => (o, true)) ++
    ((flyOffsets (s.fld (RC_SYNC n) RC_SYNC_FLY)).filter (fun o => c != some o)).map (fun o => (o, false))

/-- R165, R167, R176, R178, R179: the first attempt that converges and passes its checks: its class, its offset and what it gave. -/
def State.decodeFrame (s : State) (n : Nat) (p : Pass) (t k : Nat) : Option (Nat × Int × Attempt) :=
  if (s.look n k).pred.isNone then none
  else (s.tryAt n k).findSome? (fun o =>
    let a := s.attemptAt n p t k o.1
    if a.conv && p.checks t k a.info then some (if !o.2 then 2 else if a.clean then 0 else 1, o.1, a) else none)

/-- R183, R188: every attempt that was made at a frame that failed. -/
def State.attempts (s : State) (n : Nat) (p : Pass) (t k : Nat) : List (Int × Attempt) :=
  if (s.look n k).pred.isNone then [] else (s.tryAt n k).map (fun o => (o.1, s.attemptAt n p t k o.1))

/-- R186: the trail look takes no part in any bit of the frame. -/
def State.single (s : State) (n k : Nat) : Bool := (s.trailField n k 0).all (·.isNone)

/-- R172: the neighbour coefficients of both looks of spiral `k` are refined over the frame that was taken.
DESIGN CHOICE: log entry 184. -/
def State.refineNeighbours (s : State) (n : Nat) (p : Pass) (t k : Nat) (o : Int) : State :=
  if !s.bit (RC_CTL n) RC_CTL_ITI then s
  else
    let ts := iterateTracks (s.innerIter n) true (s.outerIter n) (s.tracks n p t k o)
    match ts[k]? with
    | none => s
    | some x =>
      let d := expected (x.chan.map (fun v => if hardBit v then -31 else 31))
      let i := neighbour true ts ((k : Int) - 1)
      let u := neighbour true ts ((k : Int) + 1)
      let a := refineG x.gLead x.lead d i u
      let b := refineG x.gTrail x.trail d i u
      (s.setStream n k (fun z => { z with gIn := a.1, gOut := a.2 })).setStream n (k + 8) (fun z => { z with gIn := b.1, gOut := b.2 })

/-- R188: the attempt at the best position: the one of least syndrome weight, the earliest tried of several.
DEDUCED: log entry 51. -/
def bestAttempt (l : List (Int × Attempt)) : Option (Int × Attempt) :=
  l.foldl (fun m x => match m with
    | none => some x
    | some y => if x.2.synd < y.2.synd then some x else some y) none

/-! ## What a pass holds -/

/-- The result at a position. -/
def Pass.at? (p : Pass) (t k : Nat) : Option FrameRes := p.got.find? (fun f => f.slot == t && f.spiral == k && f.cls != 4)

/-- R181: the frame of data index d: its spare copy, else its home slot's, or as the outer code rebuilt it. -/
def Pass.dataAt (p : Pass) (d : Nat) : Option FrameRes :=
  let h := homeSlot d
  match (match p.spareOf h.1 h.2 with | some z => p.at? z.1 z.2 | none => none) with
  | some f => some f
  | none => p.at? h.1 h.2

/-- The requested indices still missing. -/
def Pass.missing (p : Pass) : List Nat := p.want.filter (fun d => (p.dataAt d).isNone)

/-! ## Outer-code recovery (R182) -/

/-- The inverse of a non-zero field element: a to the power 2^16 - 2. -/
def gfInv (a : BitVec 16) : BitVec 16 :=
  ((List.range 15).foldl (fun (x : BitVec 16 × BitVec 16) _ => let q := gfMul x.1 x.1; (q, gfMul x.2 q)) (a, 1#16)).2

/-- a to the power of a 16-bit number, by squaring. -/
def gfPower (a : BitVec 16) (e : Nat) : BitVec 16 :=
  ((List.range 16).foldl (fun (x : BitVec 16 × BitVec 16) i => (gfMul x.1 x.1, if e.testBit i then gfMul x.2 x.1 else x.2)) (a, 1#16)).2

/-- A polynomial times (x + r), low coefficients first. -/
def polyMulRoot (r : BitVec 16) (l : List (BitVec 16)) : List (BitVec 16) :=
  List.zipWith (fun a b => a ^^^ b) (0#16 :: l) ((l.map (gfMul r)) ++ [0#16])

/-- The coefficients of the polynomial that is 1 at `x` and 0 at the other locators. -/
def lagrange (xs : List (BitVec 16)) (x : BitVec 16) : List (BitVec 16) :=
  let others := xs.filter (fun y => y != x)
  let num := others.foldl (fun l r => polyMulRoot r l) [1#16]
  let den := others.foldl (fun a y => gfMul a (x ^^^ y)) 1#16
  num.map (gfMul (gfInv den))

/-- R56: the exponent of member m of an outer codeword: data index m, or outer-parity frame m - 512. -/
def memberExp (m : Nat) : Nat := 543 - m

/-- The 2,080 symbols of one member as the solution of its erasure: the syndromes are sums over the members in hand. -/
def solveMember (known : List (Nat × Bytes)) (coef : List (BitVec 16)) : Bytes :=
  (List.range 2080).flatMap (fun p =>
    let syn (i : Nat) : BitVec 16 := known.foldl (fun a m => a ^^^ gfMul (symbol m.2 p) (gfPower 2#16 (memberExp m.1 * i % 65535))) 0#16
    let y := (List.zip (List.range coef.length) coef).foldl (fun a c => a ^^^ gfMul c.2 (syn c.1)) 0#16
    leBytes 2 y.toNat)

/-- The members in hand: (member, information bytes). -/
def Pass.known (p : Pass) : List (Nat × Bytes) :=
  ((List.range 512).filterMap (fun d => match p.dataAt d with | some f => f.info.map (fun b => (d, b)) | none => none))
  ++ ((List.range 32).filterMap (fun j => match p.at? (64 + j / 8) (j % 8) with | some f => f.info.map (fun b => (512 + j, b)) | none => none))

/-- R182: the erasure set: written data positions and outer-parity frames that failed; a parity slot of cause 1 is one. -/
def Pass.erasures (p : Pass) : List Nat :=
  ((List.range 512).filter (fun d => decide (d < p.n) && !p.skipped (homeSlot d).1 (homeSlot d).2 && (p.dataAt d).isNone))
  ++ ((List.range 32).filter (fun j => (p.at? (64 + j / 8) (j % 8)).isNone)).map (512 + ·)

/-- The data frames that outer recovery rebuilds, if its limit allows: those whose CRC and checks pass. DEDUCED: log entry 56. -/
def Pass.recover (p : Pass) : List FrameRes :=
  let er := p.erasures
  if 32 < er.length then []
  else
    let xs := er.map (fun m => gfPower 2#16 (memberExp m))
    let known := p.known
    (er.filter (fun m => decide (m < 512))).filterMap (fun d =>
      let info := solveMember known (lagrange xs (gfPower 2#16 (memberExp d)))
      let h := homeSlot d
      if (if p.want.contains d then p.checks h.1 h.2 info else crcOk info) then some ⟨h.1, h.2, 3, some info, false, p.step, 0⟩ else none)

/-! ## Reads of bands -/

/-- R334: the band that holds a version of a VBA: the sealed band of the highest number below `lim`. -/
def Vault.holding (v : Vault) (vba ver lim : Nat) : Option (Band × LEntry) :=
  let l := v.bands.filterMap (fun b => if b.flags / 4 % 2 = 1 ∨ lim ≤ b.seq then none
    else (b.entries.find? (fun e => e.vba == vba && e.ver == ver)).map (fun e => (b, e)))
  l.foldl (fun (m : Option (Band × LEntry)) x => match m with
    | none => some x
    | some y => if y.1.seq < x.1.seq then some x else some y) none

/-- R334: the latest version of a VBA: its highest recorded version; of those below `lim` (R313). -/
def Vault.latest (v : Vault) (vba lim : Nat) : Option Nat :=
  v.bands.foldl (fun m b => if b.flags / 4 % 2 = 1 then m else b.entries.foldl (fun (m : Option Nat) e =>
    if e.vba = vba ∧ e.ver < lim then (match m with | none => some e.ver | some x => some (max x e.ver)) else m) m) none

/-- The steps of the ladder that a class climbs (R184). -/
def State.ladderSteps (s : State) (n cls : Nat) : Nat :=
  min 6 (if cls = 1 then s.fld (RC_RETRY n) RC_RETRY_SCHUSS_STEPS else s.fld (RC_RETRY n) RC_RETRY_STEPS)

/-- The station of a disc of a vault that can read now; none: the disc is absent, or its station can do no reading. -/
def State.readStn (s : State) (vault disc : Nat) : Option Nat := match (s.disc? vault disc).bind (·.stn) with
  | none => none
  | some n => if s.unusableStn n || (s.station (toStn n)).retired then none else some n

/-- R334: the next band in which a version is tried: below BAND_SEQ `lim`, the highest whose disc can be read. -/
def State.nextHolding (s : State) (v : Vault) (vba ver lim : Nat) : Option (Band × LEntry) :=
  Vault.holding { v with bands := v.bands.filter (fun b => (s.readStn v.id b.disc).isSome) } vba ver lim

/-- Blocks of command `id` are to be read from bands: one BAND_READ for each band. A block whose disc is absent, or whose
station can do no reading, gives its command STATION_UNAVAILABLE. -/
def State.queueReads (s : State) (id vault : Nat) (reqs : List (Req × Band)) : State :=
  let seqs := (reqs.map (fun r => r.2.seq)).eraseDups
  seqs.foldl (fun (s : State) q => match reqs.find? (fun r => r.2.seq == q) with
    | none => s
    | some (_, b) => match s.readStn vault b.disc, s.cmd? id with
      | none, _ => s.noteAt id b.seq (match (s.disc? vault b.disc).bind (·.stn) with | some n => s.lossEvent n | none => 0) .stationUnavailable
      | _, none => s
      | some n, some c =>
        let fl := cap c.caps 32 4 % 4
        let t : Task := ⟨s.work.nextTask, n, .bandRead, [id], s.cmdCls c, id, [b.loc, 0, 0, 0, fl + 16 * s.ladderSteps n (s.cmdCls c), 0],
          false, (reqs.filter (fun r => r.2.seq == q)).map (·.1), false⟩
        { s with work.nextTask := s.work.nextTask + 1, work.tasks := s.work.tasks ++ [t] }) s

/-- R246, R334: the band cannot be reached: each block is read from the next band that holds its version, else its command meets
MEDIUM_READ_ERROR, the task's RESULT. -/
def State.bandUnreachable (s : State) (n : Nat) : State := match s.inHand? n with
  | none => s.endTask n .mediumReadError
  | some t =>
    let v? := match s.bandAt n (t.args.getD 0 0) with | some (v, b) => some (v, b.seq) | none => none
    let next (r : Req) : Option (Vault × Req × Band) := match v? with
      | none => none
      | some (v, q) => match s.nextHolding v r.vba r.ver q with
        | none => none
        | some (b, e) => some (v, { r with d := e.d }, b)
    let lost := ((t.reqs.filter (fun r => (next r).isNone)).map (·.cmd)).eraseDups
    let s : State := { s with work.inHand := SMap.ins n { t with cmds := lost } s.work.inHand }
    let s := t.reqs.foldl (fun (s : State) r => match next r with
      | none => s
      | some (v, r, b) => (s.note r.cmd .okRecovered).queueReads r.cmd v.id [(r, b)]) s
    let s := s.endTask n .mediumReadError
    (t.cmds.filter (fun i => !lost.contains i)).foldl (fun (s : State) i => s.finishRead i) s

/-- The requests that a handle names: those of the task in hand (Table 8.6). DEDUCED: log entry 202. -/
def State.handleReqs (s : State) (n h : Nat) : List Req := match s.inHand? n with
  | some t => if t.id % 2 ^ 32 = h then t.reqs else []
  | none => []

/-- The band at `loc` whose description a handle names (Table 8.6). DEDUCED: log entry 202. -/
def State.handleBand (s : State) (n loc h : Nat) : Option (Vault × Band) := match s.bandAt n loc with
  | some x => if bandHandle x.2 = h then some x else none
  | none => none

/-- A band pass begins at `loc` (R180, R226), for the requests and the band that two handles name, with the flags of Table 8.6; a station
that reads already begins none. DEDUCED: log entry 202. -/
def State.startPass (s : State) (n loc reqs band flags : Nat) : State :=
  if (s.rd n).pass.isSome then s
  else
    let loc := loc / 2048 * 2048
    let a4 := flags
    let want := ((s.handleReqs n reqs).map (·.d)).eraseDups
    let (nn, rel, es, q, v) : Nat × List Bytes × List LEntry × Nat × Nat := match s.handleBand n loc band with
      | some (v, b) => (b.n, b.relocs, b.entries, b.seq, v.id)
      | none => (0, [], [], 0, 0)
    let p : Pass := ⟨loc, nn, rel, es, q, v, want, a4 % 4, 0, min 6 (a4 / 16 % 16), [], 0, [], none, [], s.ztabReg n, s.bit (RC_ZTAB_LO n) RC_ZTAB_LO_VALID⟩
    let s := s.setRd n (fun r => { r.fresh with pass := some { p with left := p.positions } })
    ((s.setBit (RC_STAT n) RC_STAT_PASS true).setFld (RC_STAT n) RC_STAT_STEP 0).showSl n

/-- The value of an argument of the task in hand. -/
def State.arg (s : State) (n k : Nat) : Nat := (s.reg (TASK_ARG n k)).toNat

/-- BAND_READ (R180, R246): the pass begins once the station tracks in the band's layer and zone; `seek` is false when it cannot
be brought there. DEDUCED: log entry 54. -/
def State.bandRead (s : State) (n : Nat) (seek : Bool) : State :=
  if !s.inTask n .bandRead || (s.rd n).pass.isSome then s
  else if !seek then s.bandUnreachable n
  else s.startPass n (s.arg n 0) (s.arg n 1) (s.arg n 2) (s.arg n 4)

/-! ## The end of a read -/

/-- R62: the seal record built of parts q or q + 4; none when one is missing. -/
def Pass.sealBuilt (p : Pass) : Option Bytes := builtSeal (fun q => (p.at? 70 q).bind (·.info))

/-- R187: the seal check that a READ asks for: the record carries a valid signature, key index 0. -/
def State.passSealed (s : State) (p : Pass) : Bool := match p.sealBuilt, s.vault? p.vault with
  | some r, some v => sealValid v.sealPub r && (readSeal r).key == 0
  | _, _ => false

/-- R357: the record that the pass built goes to each SEAL_EXPORT that the task serves. -/
def State.keepSeal (s : State) (p : Pass) (id : Nat) : State := match s.cmd? id with
  | none => s
  | some c =>
    if capOPC c.caps ≠ 0x10 then s
    else s.setCmd id (fun c => { c with records := c.records.set (p.seq - cap c.caps 24 8) (some (p.sealBuilt.getD [])) })

/-- The block of a request has been read: it is decrypted (R349, R350) and its command takes it. -/
def State.takeBlock (s : State) (r : Req) (vault : Nat) (f : FrameRes) : State := match s.vault? vault, f.info with
  | some v, some info =>
    let iv := beBytes 4 v.pfx ++ beBytes 6 (r.vba % 2 ^ 48) ++ beBytes 2 r.ver
    let aad := leBytes 8 r.vba ++ leBytes 4 r.ver ++ leBytes 4 vault
    let s := if f.single then s.note r.cmd .okDegraded else s
    let s := if f.cls = 2 ∨ f.cls = 3 ∨ 0 < f.step then s.note r.cmd .okRecovered else s
    let s := if f.cls = 3 then s.setCmd r.cmd (fun c => { c with res0 := c.res0 + 1 }) else s
    match gcmDec v.dataKey iv aad (info.take 4096) (readTrailer info).tag with
    | none => (((s.noteAt r.cmd (readTrailer info).seq 0 .authFail).bump SEC_AUTHF SEC_AUTHF_COUNT 1).raise 29 [vault, r.vba, r.ver])
    | some pt => s.setCmd r.cmd (fun c => { c with
        blocks := c.blocks.map (fun b => if b.vba = r.vba then { b with at' := .gathered, data := pt } else b) })
  | _, _ => s.note r.cmd .internal

/-- R184, R334, R188: a requested frame is failed: RC_LASTF, the read-failure event, its soft record, and the next band that
holds its version. DEDUCED: log entry 43. -/
def State.frameLost (s : State) (n : Nat) (p : Pass) (r : Req) : State :=
  let h := homeSlot r.d
  let s := s.setReg (RC_LASTF n) (BitVec.ofNat 32 (p.loc / 2048 * 2048 + h.1 * 16 + h.2 * 2))
  let s := s.raiseStn n 12 [p.loc, h.1, h.2]
  let s := if p.flags / 2 % 2 = 0 then s else
    match p.soft.find? (fun x => x.slot == h.1 && x.spiral == h.2) with
    | none => s
    | some x =>
      let rec' := leBytes 1 (locLayer p.loc) ++ leBytes 1 (locZone p.loc) ++ leBytes 2 (locBpos p.loc) ++ leBytes 1 h.1 ++ leBytes 1 h.2
        ++ leBytes 1 x.passes ++ leBytes 1 x.flags ++ leBytes 4 (x.pos % 2 ^ 32).toNat ++ leBytes 4 x.synd ++ zeros 48 ++ fit 37440 (x.llr.map (BitVec.ofInt 8))
      s.setCmd r.cmd (fun c => { c with records := c.records ++ [some rec'] })
  match s.vault? p.vault with
  | none => s.note r.cmd .mediumReadError
  | some v => match s.nextHolding v r.vba r.ver p.seq with
    | none => s.noteAt r.cmd p.seq 12 .mediumReadError
    | some (b, e) => (s.note r.cmd .okRecovered).queueReads r.cmd p.vault [({ r with d := e.d }, b)]

/-- The pass ends: every requested frame has passed, been recovered or failed (R179, R185, R187, R232), and with it the BAND_READ that
began it. -/
def State.endPass (s : State) (n : Nat) (p : Pass) : State :=
  let lost := p.positions.filter (fun x => match p.indexAt x.1 x.2 with
    | some d => (p.at? x.1 x.2).isNone && !(p.got.any (fun f => f.cls == 3 && f.slot == (homeSlot d).1 && f.spiral == (homeSlot d).2))
    | none => (p.at? x.1 x.2).isNone)
  let s := s.bump (RC_CNT n 4) RC_CNT_COUNT lost.length
  let s := s.setRd n (fun r => { r with pass := none })
  let s := ((s.setBit (RC_STAT n) RC_STAT_PASS false).setBit (RC_STAT n) RC_STAT_OUTER false).setFld (RC_STAT n) RC_STAT_STEP 0
  if !s.inTask n .bandRead then s
  else match s.inHand? n with
  | none => s.endTask n .ok
  | some t =>
    let s := t.cmds.foldl (fun (s : State) i => s.setCmd i (fun c => if capOPC c.caps = 0x10 then c else { c with res0 := c.res0 + p.step * 65536 })) s
    let s := t.cmds.foldl (fun (s : State) i => s.keepSeal p i) s
    let bad := p.flags % 2 = 1 ∧ ¬ s.passSealed p
    let s := t.reqs.foldl (fun (s : State) r => match p.dataAt r.d with
      | some f => s.takeBlock r p.vault f
      | none => s.frameLost n p r) s
    let s := if bad then t.reqs.foldl (fun (s : State) r => s.moveBlock r.cmd r.vba .waiting) s else s
    let s := if bad then t.cmds.foldl (fun (s : State) i => s.noteAt i p.seq 0 .sealMismatch) s else s
    s.endTask n .ok

/-- Once every result of a pass is known: a change of mode takes effect (R29, R242), and the read ends or outer recovery runs (R182). -/
def State.passKnown (s : State) (n : Nat) : State := match (s.rd n).pass with
  | none => s
  | some p =>
    if !p.left.isEmpty || p.phase ≠ 0 then s
    else
      let s := (s.unmove n).applyMode n
      let p : Pass := { p with moved := none }
      if p.missing.isEmpty then s.endPass n p
      else (s.setRd n (fun r => { r with pass := some { p with phase := 1 } })).setBit (RC_STAT n) RC_STAT_OUTER true

/-- R234, R323: a frame boundary of a pass or a capture: a pre-emption that has been requested is taken. -/
def State.preemptPoint (s : State) (n : Nat) : State :=
  if !(s.station (toStn n)).gaf.preempt then s
  else
    let left := match (s.rd n).pass with
      | some p => p.positions.filter (fun x => (p.at? x.1 x.2).isNone)
      | none => []
    s.suspend n (s.fld (SEQ_STAT n) SEQ_STAT_PC) left

/-- FRAME_DECODE (R165 to R179): the frame at (t, k) is decoded from the samples of its two looks. A pre-emption is taken at its end, behind
the end of a pass where it was the last frame (R184). Bit 1 of a soft record's flags (R188) is set for every frame that fails.
DEDUCED: log entries 49, 51, 52. DESIGN CHOICE: log entry 221. -/
def State.frameDecode (s : State) (n t k : Nat) : State := match (s.rd n).pass with
  | none => s
  | some p =>
    if p.phase ≠ 0 || !p.left.contains (t, k) then s
    else
      let sl := s.singleLook n
      let s := s.lookSlot n p t
      let p : Pass := { p with left := p.left.filter (fun x => x != (t, k)) }
      let r := s.decodeFrame n p t k
      let mask : Nat := 2 ^ k + (if sl then 0 else 2 ^ (k + 8))
      let fl := s.fld (RC_STAT n) RC_STAT_FLOCK
      let single := s.single n k
      let s := (s.setFld (RC_STAT n) RC_STAT_FLOCK (if r.isSome then fl ||| mask else fl &&& (65535 - mask))).setBit (RC_STAT n) RC_STAT_SL sl
      let s := match r with
        | some (c, o, a) =>
          let f : FrameRes := ⟨t, k, c, some a.info, single, p.step, a.raw⟩
          let s := (s.refineNeighbours n p t k o).setStream n k (fun x => { x with ref := (s.look n k).pred.map (fun i => (t, i + o)) })
          (s.bump (RC_CNT n c) RC_CNT_COUNT 1).setRd n (fun r => { r with pass := some { p with got := p.got ++ [f] } })
        | none =>
          let old := p.soft.find? (fun (x : SoftRes) => x.slot == t && x.spiral == k)
          let best := bestAttempt (s.attempts n p t k)
          let x : SoftRes := ⟨t, k, (match old with | some o => o.passes + 1 | none => 1), (if single then 1 else 0) + 2,
            (match best with | some b => b.1 | none => 0), (match best with | some b => b.2.synd | none => 0),
            (match best with | some b => b.2.soft | none => p.sums t k)⟩
          let s := s.setStream n k (fun x => { x with ref := none })
          s.setRd n (fun r => { r with pass := some { p with
            soft := p.soft.filter (fun (x : SoftRes) => !(x.slot == t && x.spiral == k)) ++ [x] } })
      (s.passKnown n).preemptPoint n

/-- R203: the trail look of a frame written at (t, k): the predicted reference point is where the controller meant bit 288 to land, LAG
later. -/
def State.verifyLook (s : State) (n : Nat) (b : BandWrite) (t k : Nat) : State × Look :=
  let from' := (b.starts.find? (fun e => e.1 == t)).map (fun e =>
    (s.stream n (k + 8)).towards (s.instant n (16 * (e.2 + 288 + s.fld (WR_LAT n) WR_LAT_LAG))))
  s.lookAt n (locLayer b.loc) (locZone b.loc) (k + 8) t 0 from' none

/-- R463: the raw errors of a frame that passes its verification go to the head's laser wear. -/
def State.noteErrors (s : State) (n t k : Nat) (b : BandWrite) (conv : Bool) (raw : Nat) (equal : Bool) : State :=
  if b.awaited.contains (t, k) && conv && decide (raw ≤ 900) && equal then s.addWear n raw else s

/-- VERIFY_RESULT (R203): the trail look of a frame written: the search, one detector pass without interference estimates, at most 6 inner
iterations, and the comparison with what was written. DEDUCED: log entry 49. -/
def State.verifyFrame (s : State) (n t k : Nat) : State := match s.bw? n with
  | none => s
  | some b =>
    let (s, l) := s.verifyLook n b t k
    let wrote := (b.wrote.find? (fun x => x.1 == (t, k))).map (·.2)
    match l.found with
    | none => s.verified n t k false 0 false 0
    | some o =>
      let a := (newTrack (List.replicate 39780 none) (l.field o) (0, 0) (0, 0) [] |>.iterate 6 (List.replicate 39780 0)
        (List.replicate 39780 0)).result
      let same := a.conv && wrote == some a.info
      (s.noteErrors n t k b a.conv a.raw same).verified n t k a.conv a.raw same (64 * o)

/-- OUTER_RECOVERY (R182): the outer codewords are solved; a frame recovered while single-look reading is in force counts as read single-look
(R185). DEDUCED: log entry 52. DESIGN CHOICE: log entry 222. -/
def State.outerRecovery (s : State) (n : Nat) : State := match (s.rd n).pass with
  | none => s
  | some p =>
    if p.phase ≠ 1 then s
    else
      let fs := (p.recover).map (fun f => { f with single := s.singleLook n })
      let s := (s.bump (RC_CNT n 3) RC_CNT_COUNT fs.length).setBit (RC_STAT n) RC_STAT_OUTER false
      let p : Pass := { p with got := p.got ++ fs, phase := 2 }
      if p.missing.isEmpty || decide (p.steps ≤ p.step) then s.endPass n p
      else s.setRd n (fun r => { r with pass := some p })

/-- LADDER_PASS (R183, R184, R193): the next step of the ladder begins, with the zone table that is then in use. -/
def State.ladderPass (s : State) (n : Nat) : State := match (s.rd n).pass with
  | none => s
  | some p =>
    if p.phase ≠ 2 then s
    else
      let (s, p) := s.ladderMove n { p with
        step := p.step + 1, phase := 0, ztab := s.ztabReg n, zvalid := s.bit (RC_ZTAB_LO n) RC_ZTAB_LO_VALID }
      let left := p.positions.filter (fun x => (p.at? x.1 x.2).isNone)
      let s := s.setRd n (fun r => { r.fresh with pass := some { p with left := left } })
      (s.setFld (RC_STAT n) RC_STAT_STEP p.step).showSl n

/-! ## Captures -/

/-- R192, Table 6.8: the 4-bit code of a 6-bit sample. -/
def compand (x : Int) : Int :=
  if x ≤ -23 then -8 else if x ≤ -17 then -7 else if x ≤ -13 then -6 else if x ≤ -10 then -5 else if x ≤ -7 then -4
  else if x ≤ -5 then -3 else if x ≤ -3 then -2 else if x ≤ -1 then -1 else if x ≤ 1 then 0 else if x ≤ 3 then 1
  else if x ≤ 5 then 2 else if x ≤ 8 then 3 else if x ≤ 11 then 4 else if x ≤ 15 then 5 else if x ≤ 21 then 6 else 7

/-- R190: the bytes of one instant from its lead and trail words. -/
def instantBytes (comp : Bool) (lead trail : Nat) : Bytes :=
  if !comp then leBytes 12 (lead + trail * 2 ^ 48)
  else
    let half (w : Nat) : Nat := ((List.range 8).map (fun k => (compand (spotSample w k) % 16).toNat * 16 ^ k)).sum
    leBytes 8 (half lead + half trail * 2 ^ 32)

/-- The bytes of an epoch (R190). -/
def epochSize (comp : Bool) : Nat := if comp then 16800 else 25200

/-- The epoch that is captured: the last one of the lead row whose HEADER has been received. DEDUCED: log entry 55. -/
def State.capEpoch (s : State) (n : Nat) : Option PastEpoch := (s.rd n).past.find? (fun e => e.row == 0)

/-- The trail row's samples of the same epoch. -/
def State.capTrail (s : State) (n no : Nat) : Option PastEpoch := (s.rd n).past.find? (fun e => e.row == 1 && e.no == no)

/-- R190: the bytes of an epoch; where the trail row is absent its bits are 0. -/
def epochBytes (comp : Bool) (lead trail : SMap Nat) : Bytes :=
  (List.range 2100).flatMap (fun i => instantBytes comp (SMap.getD lead 0 i) (SMap.getD trail 0 i))

/-- R190: the samples of the captured epoch `a` as bytes; in a degraded station the trail row is absent. -/
def State.capData (s : State) (n : Nat) (c : Capture) (a : PastEpoch) : Bytes :=
  let one := s.fld (STN_STAT n) STN_STAT_MAP != 0
  epochBytes c.compand a.data (match s.capTrail n a.no with | some e => if one then [] else e.data | none => [])

/-- R191: the index entry of the captured epoch `a`: its number in the capture, its epoch, its flags and its channel-clock count. -/
def State.capIndex (s : State) (n : Nat) (c : Capture) (a : PastEpoch) : Bytes :=
  let one := s.fld (STN_STAT n) STN_STAT_MAP != 0
  let fl (b : Bool) (v : Nat) : Nat := if b then v else 0
  let flags := fl a.erased 1 + fl (!one && (match s.capTrail n a.no with | some e => e.erased | none => true)) 2 + fl one 4 + fl c.compand 8
  leBytes 4 c.k ++ leBytes 2 (a.no % 65536) ++ leBytes 2 flags ++ leBytes 4 (2000 * a.no % 2 ^ 32) ++ zeros 4

/-- The host bytes [off, off + len) of an area given by segments. -/
def areaPieces (segs : List (Nat × Nat)) (off len : Nat) : List (Nat × Nat) :=
  let rest := advance segs off
  (rest.foldl (fun (a : List (Nat × Nat) × Nat) g => if a.2 = 0 then a else (a.1 ++ [(g.1, min g.2 a.2)], a.2 - min g.2 a.2)) ([], len)).1

/-- A capture of `epochs` epochs begins at `loc` (R189, R226), for the command of the CAPTURE in hand if there is one; a station that captures
already begins none. DEDUCED: log entry 202. -/
def State.startCapture (s : State) (n loc epochs : Nat) (comp : Bool) : State :=
  if (s.rd n).cap.isSome then s
  else
    let id := if s.inTask n .capture then (match s.inHand? n with | some t => t.cmds.headD (2 ^ 64) | none => 2 ^ 64) else 2 ^ 64
    let c : Capture := ⟨id, 0, epochs, comp, loc, none, 0, 0, none⟩
    s.setRd n (fun r => { r with cap := some c })

/-- CAPTURE (R189): the capture begins once the station tracks at its place. -/
def State.captureStart (s : State) (n : Nat) (seek : Bool) : State :=
  if !s.inTask n .capture || (s.rd n).cap.isSome then s
  else if !seek then s.endTask n .stationUnavailable
  else s.startCapture n (s.arg n 0) (s.arg n 1) ((s.arg n 2).testBit 0)

/-- The capture of station n is over, and with it the CAPTURE in hand. -/
def State.captureOver (s : State) (n : Nat) : State :=
  if s.inTask n .capture then s.endTask n .ok else s.setRd n (fun r => { r with cap := none })

/-- Bytes of captures that wait in the capture ring (R24). -/
def State.ringUsed (s : State) : Nat := (s.work.ring.map (·.len)).sum

/-- Bytes are written into the capture ring at its offset `at'` through P6, and read back from it; the ring goes round at its end. -/
def State.ringPut (s : State) (at' : Nat) (bs : Bytes) : State :=
  let (base, size) := s.region 2
  let head := bs.take (size - at')
  let rest := bs.drop head.length
  (((s.touch 6 (base + at') head.length).memWrite (base + at') head).touch 6 base rest.length).memWrite base rest

def State.ringGet (s : State) (at' len : Nat) : Bytes :=
  let (base, size) := s.region 2
  let k := min len (size - at')
  s.mem.data.read (base + at') k ++ s.mem.data.read base (len - k)

/-- R24: the samples of an epoch wait in the ring. -/
def State.ringIn (s : State) (id : Nat) (segs : List (Nat × Nat)) (bs : Bytes) (idxAt : Nat) (idx : Bytes) : State :=
  let at' := s.work.ringAt
  let s := s.ringPut at' bs
  { s with work.ring := s.work.ring ++ [⟨id, at', bs.length, segs, idxAt, idx⟩], work.ringAt := (at' + bs.length) % max 1 (s.region 2).2 }

/-- R295: a translation is asked for the first page of an epoch's place that has none; the samples do not wait for it.
DEDUCED: log entry 55. -/
def State.askPlace (s : State) (x : Cmd) (segs : List (Nat × Nat)) : State :=
  match segs.find? (fun g => !s.holds x.fn (s.cmdPasid x) (g.1 / 4096) || !s.holds x.fn (s.cmdPasid x) ((g.1 + g.2 - 1) / 4096)) with
  | none => s
  | some g =>
    let page := if s.holds x.fn (s.cmdPasid x) (g.1 / 4096) then (g.1 + g.2 - 1) / 4096 else g.1 / 4096
    s.emit (.atsReq x.fn (s.cmdPasid x) page)

/-- CAPTURE_EPOCH (R189 to R191, R24, R25, R295, R308): an epoch ends; `accept` says that the link takes samples at once.
DEDUCED: log entry 55. -/
def State.captureEpoch (s : State) (n : Nat) (accept : Bool) : State := match (s.rd n).cap with
  | none => s
  | some c =>
    if c.stop.isSome || (match s.cmd? c.cmd with | some x => x.ended | none => decide (c.cmd ≠ 2 ^ 64)) then s.captureOver n
    else
      let E := epochSize c.compand
      let lead := s.servoLane n
      let one := s.fld (STN_STAT n) STN_STAT_MAP != 0
      let lost := s.lane n lead != 2 || (!one && s.lane n (1 - lead) != 2) || (s.capEpoch n).isNone
      let x? := s.cmd? c.cmd
      let busy := !s.work.ring.isEmpty || (match x? with | some x => !x.outBytes.isEmpty | none => false)
      let direct := accept && !busy && (match x? with
        | some x => (areaPieces x.segsIn (c.k * E) E).all (fun g => s.holds x.fn (s.cmdPasid x) (g.1 / 4096) && s.holds x.fn (s.cmdPasid x) ((g.1 + g.2 - 1) / 4096))
        | none => true)
      let full := !direct && decide ((s.region 2).2 < s.ringUsed + E)
      let s := match x? with | some x => s.askPlace x (areaPieces x.segsIn (c.k * E) E) | none => s
      let s :=
        if lost || full then
          let why := if lost then 1 else 0
          let (g, gp, s) : Option (Nat × Nat × Nat) × Nat × State := match c.gap with
            | some (k, m, w) =>
              if w = why then (some (k, m + 1, w), c.gaps, s)
              else
                let (s, gp) := s.closeGap c
                (some (c.k, 1, why), gp, s)
            | none => (some (c.k, 1, why), c.gaps, s)
          s.setRd n (fun r => { r with cap := r.cap.map (fun (c : Capture) => { c with gap := g, gaps := gp, dropped := c.dropped + 1, k := c.k + 1 }) })
        else
          let (s, gp) := s.closeGap c
          let a : PastEpoch := (s.capEpoch n).getD ⟨0, 0, true, []⟩
          let idx := s.capIndex n c a
          let bs := s.capData n c a
          let s := match x? with
            | none => s
            | some x =>
              let segs := areaPieces x.segsIn (c.k * E) E
              let at' := cap x.caps 40 8 + 16 * c.k
              if direct then (s.capOut c.cmd segs bs).capOut c.cmd [(at', 16)] idx else s.ringIn c.cmd segs bs at' idx
          let s := s.setRd n (fun r => { r with cap := r.cap.map (fun (c : Capture) => { c with gap := none, gaps := gp, k := c.k + 1 }) })
          if accept then s.pump c.cmd else s
      let s := match (s.rd n).cap with
        | some c => if c.epochs ≤ c.k then s.captureOver n else s
        | none => s
      s.preemptPoint n

/-- A capture still runs, or is suspended, for command `id`. -/
def State.capturesFor (s : State) (id : Nat) : Bool :=
  (List.range 16).any (fun n => ((s.rd n).cap.toList ++ (s.rd n).capKept.toList).any (fun c => c.cmd == id))

/-- CAPTURE_DRAIN (R24, R395): the link takes what waits longest in the capture ring, if it is of command `id` and what that command had
before has left; bytes whose lines carry the poison mark leave with it. DEDUCED: log entry 55. -/
def State.captureDrain (s : State) (id : Nat) : State := match s.cmd? id with
  | none => s
  | some c =>
    if capOPC c.caps ≠ 0x18 ∨ c.phase ≠ 2 ∨ c.ended then s
    else if !c.outBytes.isEmpty then s.pump id
    else match s.work.ring with
      | [] => s
      | e :: rest =>
        if e.cmd ≠ id then s
        else
          let bs := s.ringGet e.at' e.len
          let (base, size) := s.region 2
          let bad := (s.mem.poison.filterMap (fun l =>
            let o := (64 * l - base + size - e.at') % max 1 size
            if base ≤ 64 * l ∧ 64 * l < base + size ∧ o < e.len then some (c.off + o, 64) else none))
          let s : State := { s with work.ring := rest }
          let s := if bad.isEmpty then s else s.markPoison id bad
          let s := (s.capOut id e.segs bs).capOut id [(e.idxAt, 16)] e.idx
          let more := rest.any (fun x => x.cmd == id) || s.capturesFor id
          (if more then s else s.setCmd id (fun c => { c with outDone := true })).pump id

/-- R308: a FORENSIC_CAPTURE with STOP: the station and the command of the capture of SQ (f, k) with CID `cid`. -/
def State.captureFor (s : State) (f k cid : Nat) : Option (Nat × Nat) :=
  ((List.range 16).flatMap (fun n => ((s.rd n).cap.toList ++ (s.rd n).capKept.toList).map (fun c => (n, c.cmd)))).find? (fun e => match s.cmd? e.2 with
    | some x => x.fn == f && x.sq == k && x.cid == cid && !x.ended && !x.mute | none => false)

/-- R235, R308: the capture of command `id` on station n is asked to stop, and a gaffer that has it in hand is told. -/
def State.stopCapture (s : State) (n id : Nat) : State :=
  let mine (c : Capture) : Bool := c.cmd == id
  let stop (c : Capture) : Capture := if mine c then { c with stop := some 1 } else c
  let s := if (s.rd n).cap.any mine then s.trapCause n 13 1 else s
  s.setRd n (fun r => { r with cap := r.cap.map stop, capKept := r.capKept.map stop })

end Sys2Proof.Machine
end

