-- ==== Sys2Proof/Machine/Cal.lean ====
section
/-!
DEFINITION. Calibration (R433 to R445): values across temperature, shadow sets and their commit, steps and their records, test
writes (R220), live calibration (R444), and the BIST record (R446 to R449).
-/

namespace Sys2Proof.Machine

/-! ## Values across temperature (R436 to R438) -/

/-- The five points, in 0.01 °C. -/
def calPoints : List Int := [-4000, -1000, 2500, 5500, 8500]

/-- The key of the delta of quantity `q` at point `i`. -/
def deltaKey (i q : Nat) : Nat := i * 65536 + q

/-- R437: the point nearest T; a tie goes to the lower one. -/
def nearestPoint (T : Int) : Nat :=
  (List.range 5).foldl (fun (b : Nat) i => if (T - calPoints.getD i 0).natAbs < (T - calPoints.getD b 0).natAbs then i else b) 0

/-- R437: the delta in use at point i: its own, else that of the nearest point that has one, the lower of two. -/
def deltaAt (m : SMap Int) (q i : Nat) : Int :=
  let has := (List.range 5).filter (fun j => (SMap.get? m (deltaKey j q)).isSome)
  let d (j : Nat) : Nat := (calPoints.getD i 0 - calPoints.getD j 0).natAbs
  match has with
  | [] => 0
  | h :: t => SMap.getD m 0 (deltaKey (t.foldl (fun b j => if d j < d b then j else b) h) q)

/-- R436: the nominal value of a companion's quantity: 512 for a VK-HF16 gain, 65,536 (gain 1) for an arithmetic gain, otherwise 0.
DEDUCED: log entry 71. -/
def nominal (q : Nat) : Int :=
  if (0x10 ≤ q ∧ q < 0x20) ∨ (0x38 ≤ q ∧ q < 0x40) then 512 else if 0x300 ≤ q ∧ q < 0x310 then 65536 else 0

/-- R436: the factory value of a quantity at point i: a companion's is nominal, the controller's own lies in OTP.
DEDUCED: log entry 71. -/
def factoryAt (q i : Nat) : Int := if q < 0x1000 then nominal q else Config.factoryTrim q i

/-- R438: the range of a trim word (Table 16.3). -/
def trimSat (q : Nat) (v : Int) : Int :=
  if (0x10 ≤ q ∧ q < 0x20) ∨ (0x38 ≤ q ∧ q < 0x40) then clampI 0 1023 v else if q < 0x100 then satS 10 v else v

def trimOk (q : Nat) (v : Int) : Bool := trimSat q v == v

/-- R438: the value of quantity q at temperature T. -/
def calValue (m : SMap Int) (q : Nat) (T : Int) : Int :=
  let T := clampI (-4000) 8500 T
  let i := if T < -1000 then 0 else if T < 2500 then 1 else if T < 5500 then 2 else 3
  let a := calPoints.getD i 0
  let b := calPoints.getD (i + 1) 0
  let va := factoryAt q i + deltaAt m q i
  let vb := factoryAt q (i + 1) + deltaAt m q (i + 1)
  trimSat q (rnd (va * (b - a) + (T - a) * (vb - va)) (b - a).natAbs)

/-- The temperature that a sensor last read (CAL_TEMP). -/
def State.tempOf (s : State) (i : Nat) : Int := s.fldInt (CAL_TEMP i) CAL_TEMP_TEMP

/-- Table 16.2: the sensor that governs a station. -/
def stnSensor (n : Nat) : Nat := 2 + n / 4

def State.scal (s : State) (n : Nat) : StnCal := (s.station (toStn n)).cal

def State.setCal (s : State) (n : Nat) (g : StnCal → StnCal) : State := s.setStn (toStn n) (fun t => { t with cal := g t.cal })

/-! ## Sets (R439, R440) -/

/-- The quantities for which deltas are held. -/
def deltaQs (m : SMap Int) : List Nat := (m.map (fun e => e.1 % 65536)).eraseDups

/-- What a station's set is at its temperature: the interpolated values, with the live deltas (R444) on the data ADC offsets.
DEDUCED: log entry 71. -/
def State.stnSet (s : State) (n : Nat) : SMap Int :=
  let c := s.scal n
  let live := (List.range 16).filter (fun q => c.live.getD q 0 != 0)
  let qs := (deltaQs c.deltas ++ live.map (0x20 + ·) ++ c.trims.map (fun (e : Nat × Int) => e.1)).eraseDups
  qs.foldl (fun (m : SMap Int) q =>
    let l := if 0x20 ≤ q ∧ q < 0x30 then c.live.getD (q - 0x20) 0 else 0
    SMap.ins q (trimSat q (calValue c.deltas q (s.tempOf (stnSensor n)) + l)) m) []

/-- The set of station n that is to come into force: the words that change go into the shadow set (R438). R445: none while its
domain is not ON or its SY is stopped, and none of the quantities that `wait` for a step's end. DEDUCED: log entry 147. -/
def State.shadowStn (s : State) (n : Nat) (wait : Nat → Bool := fun _ => false) : State :=
  let new := (s.stnSet n).filter (fun e => SMap.getD (s.scal n).trims (nominal e.1) e.1 != e.2 && !wait e.1)
  if !s.isOn (domSTN n) || !s.bit (STN_STAT n) STN_STAT_SY_RUN then s
  else s.setCal n (fun c => { c with shadow := if new.isEmpty then c.shadow else some new })

/-- R440: a set may come into force at an epoch boundary at which the lead row has gone `lead` channel bits through its band: in a pass or a
band write, in the linking gap or at preamble positions 80 to 239 of a frame; otherwise at any. -/
def State.commitHere (s : State) (n lead : Nat) : Bool :=
  !((s.rd n).pass.isSome || (match s.bw? n with | some b => b.begun | none => false))
  || decide (71 ≤ lead / 40144) || decide (80 ≤ lead % 40144 ∧ lead % 40144 < 240)

/-- The set comes into force (R434, R439): TRIM blocks and COMMIT are sent for the head front end's words, and the corrections of
the power stage come into force together. DEDUCED: log entries 71, 87. -/
def State.commitTrims (s : State) (n : Nat) : State := match (s.scal n).shadow with
  | none => s
  | some new =>
    let hf := new.filter (fun e => e.1 < 0x100)
    let s := hf.foldl (fun (s : State) e => s.clPut n false (clBlock 0xC7 [(e.1, 12), ((e.2 % 1024).toNat, 10)])) s
    let s := if hf.isEmpty then s else s.clPut n false (clBlock 0xC7 [(0xFFF, 12), (0, 10)])
    let trims := new.foldl (fun (m : SMap Int) e => SMap.ins e.1 e.2 m) (s.scal n).trims
    let pd := (List.range 11).foldl (fun (m : SMap (Int × Int)) ch =>
      SMap.put m (0, 65536) ch (SMap.getD trims 0 (0x200 + ch), SMap.getD trims 65536 (0x300 + ch))) []
    s.setCal n (fun c => { c with shadow := none, trims := trims, pd := pd })

/-- TRIM_SET_COMMIT (R440): an epoch begins with the lead row `lead` channel bits into its band. -/
def State.trimEpoch (s : State) (n lead : Nat) : State := if s.commitHere n lead then s.commitTrims n else s

/-- R438: the refresh runs. DEDUCED: log entry 147. -/
def State.refreshOn (s : State) : Bool := !s.bit CAL_CTL CAL_CTL_HOLD && !s.fatal ctxBENCH

/-- A quantity of the controller's own at the present temperatures: its sensor is 1 for REFIN and VIN, its own for a sensor. -/
def State.devValue (s : State) (q : Nat) : Int :=
  calValue s.cal.deltas q (s.tempOf (if 0x2000 ≤ q ∧ q < 0x2008 then q - 0x2000 else 1))

/-- The device's trims at the present temperatures. -/
def State.devSet (s : State) : SMap Int :=
  (deltaQs s.cal.deltas).foldl (fun (m : SMap Int) q => SMap.ins q (s.devValue q) m) s.cal.trims

/-- The word of a quantity that is in force: without a delta, its factory value. DEDUCED: log entry 71. -/
def State.devTrim (s : State) (q : Nat) : Int := match SMap.get? s.cal.trims q with
  | some v => v
  | none => s.devValue q

/-- Table 16.1: the station step `step` (PD_SENSE, HF_OFFSET or HF_GAIN) measures quantity q. DEDUCED: log entry 147. -/
def stepMeasures (step q : Nat) : Bool :=
  if step = 0x10 then decide (0x200 ≤ q ∧ q < 0x400)
  else if step = 0x11 then decide ((0x20 ≤ q ∧ q < 0x38) ∨ (0x40 ≤ q ∧ q < 0x48))
  else if step = 0x12 then decide (q < 0x20 ∨ (0x38 ≤ q ∧ q < 0x40))
  else false

/-- R445: the device-wide step that runs measures quantity q; its refresh waits for the step's end. DEDUCED: log entry 147. -/
def State.devMeasures (s : State) (q : Nat) : Bool := match s.cal.running with
  | some (_, step) => q / 0x1000 == step
  | none => false

/-- R438, R445: one refresh. DEDUCED: log entry 147. -/
def State.refresh (s : State) : State :=
  let s := s.setBit CAL_STAT CAL_STAT_REFRESH s.refreshOn
  if !s.refreshOn then s
  else
    let new := s.devSet.filter (fun e => !s.devMeasures e.1)
    let s : State := { s with cal.trims := new.foldl (fun (m : SMap Int) e => SMap.ins e.1 e.2 m) s.cal.trims }
    (List.range s.stations).foldl (fun (s : State) n =>
      s.shadowStn n (fun q => s.inTask n .calStep && stepMeasures (s.reg (TASK_ARG n 0)).toNat q)) s

/-! ## Records -/

/-- Table 16.5. DEDUCED: log entry 72. -/
def calHeader (step stn outcome : Nat) (T : Int) (point items stamp : Nat) : Bytes :=
  leBytes 2 step ++ leBytes 1 stn ++ leBytes 1 outcome ++ leBytes 2 (T % 65536).toNat ++ leBytes 1 point ++ leBytes 1 0
  ++ leBytes 4 items ++ zeros 4 ++ leBytes 8 stamp ++ zeros 8

def int2 (v : Int) : Bytes := leBytes 2 (v % 65536).toNat
def int1 (v : Int) : Bytes := leBytes 1 (v % 256).toNat

/-- A record that does not fit is cut at a whole item (R442). DEDUCED: log entry 72. -/
def cutRecord (room head item : Nat) (b : Bytes) : Bytes :=
  if b.length ≤ room then b else if room < head then [] else b.take (head + (room - head) / item * item)

/-- The result of a reporting command: RES1 counts the bytes written (Table 11.5). -/
def State.report (s : State) (id : Nat) (bs : Bytes) : State := (s.setCmd id (fun c => { c with res1 := bs.length })).result id bs

/-- Table 16.5: the result record of a step, cut to `room` bytes at a whole item. -/
def State.calRecord (s : State) (room step stn outcome : Nat) (T : Int) (point : Nat) (items : List Bytes) : Bytes :=
  cutRecord room 32 8 (calHeader step stn outcome T point items.length s.stamp ++ items.flatten)

/-- R442: the record of a step handed over directly goes to the buffer of its handle, as far as it fits. DEDUCED: log entry 231. -/
def State.keepRecord (s : State) (h step stn outcome : Nat) (T : Int) (point : Nat) (items : List Bytes) : State :=
  if (s.checkHandle h).isSome then s
  else s.memWrite (s.bufAddr h) (s.calRecord (poolSize (hPool h)) step stn outcome T point items)

/-- A step has ended with `outcome`: CAL_STAT, CAL_FAIL and its event (R442), and its command's record. -/
def State.calEnd (s : State) (id step stn outcome : Nat) (T : Int) (point : Nat) (items : List Bytes) : State :=
  let s := (s.setFld CAL_STAT CAL_STAT_STEP step).setFld CAL_STAT CAL_STAT_OUTCOME outcome
  let s := if outcome = 0 then s else (s.bump CAL_FAIL CAL_FAIL_COUNT 1).raise 32 [step]
  match s.cmd? id with
  | none => s
  | some c => s.report id (s.calRecord (capDLEN c.caps) step stn outcome T point items)

/-! ## Device-wide steps -/

/-- The step codes of Table 16.4. -/
def stepREFIN : Nat := 1
def stepTEMP : Nat := 2
def stepVIN : Nat := 3
def stepPD : Nat := 0x10
def stepOFFSET : Nat := 0x11
def stepGAIN : Nat := 0x12
def stepZONE : Nat := 0x13
def stepTEST : Nat := 0x14
def stepLiveOn : Nat := 0x20
def stepLiveOff : Nat := 0x21

/-- The quantity of an item of a device-wide step. -/
def devQ (step a : Nat) : Nat := 0x1000 * step + a

/-- R435, R442, Table 16.4: the outcome of a device-wide step. DEDUCED: log entry 69. -/
def State.devOutcome (s : State) (step : Nat) (param : Int) (m : CalMeas) : Nat :=
  if step = stepTEMP then
    if m.moving || !m.ready then 2
    else if m.temps.any (fun t => decide (500 < (t - param).natAbs)) || m.range then 3 else 0
  else if step = stepVIN ∧ (s.bit PM_SUPPLY PM_SUPPLY_WARN = true ∨ s.bit PM_SUPPLY PM_SUPPLY_RECOV = true) then 2
  else if m.refin < 2450000 ∨ 2550000 < m.refin then 4
  else if !m.ready then 2
  else if m.range then 3 else 0

/-- A device-wide measurement has converged: REFIN, TEMP or VIN ends (R435, R437, R442). -/
def State.devStep (s : State) (id step : Nat) (param : Int) (m : CalMeas) : State :=
  let s := if step = stepTEMP then s else s.setReg CAL_REFIN (BitVec.ofNat 32 m.refin)
  let o := s.devOutcome step param m
  let T := if step = stepTEMP then param else s.tempOf 1
  let s : State := { s with cal.running := none }
  let s := s.setBit CAL_STAT CAL_STAT_BUSY false
  let pt := nearestPoint T
  let item (i : CalItem) : Bytes := leBytes 2 i.addr ++ int2 (s.devTrim (devQ step i.addr)) ++ int2 i.val ++ int2 i.res
  let bs := m.items.map item
  let s : State := if o ≠ 0 then s else
    let d := m.items.foldl (fun (d : SMap Int) i => SMap.ins (deltaKey pt (devQ step i.addr)) (i.val - factoryAt (devQ step i.addr) pt) d) s.cal.deltas
    let s : State := { s with cal.deltas := d }
    { s with cal.trims := s.devSet }
  s.calEnd id step 0xFF o T (if o = 0 then pt else 0xFF) (if o = 0 then bs else [])

/-- A device-wide step begins; a measurement that has not converged waits for its time limit (R442). DEDUCED: log entry 76. -/
def State.devBegin (s : State) (id step : Nat) (param : Int) (m : Option CalMeas) : State := match m with
  | some m => s.devStep id step param m
  | none => ({ s with cal.running := some (id, step) } : State).setBit CAL_STAT CAL_STAT_BUSY true

/-! ## Station steps -/

/-- Table 16.4: the preconditions of a station step that the state shows. -/
def State.stnReady (s : State) (n step : Nat) : Bool :=
  if step = stepPD then s.spinState n == 0 && !s.bit (SLD_STAT n) SLD_STAT_MOVING && (s.spin n).duties.getD 5 0 == 0
  else if step = stepOFFSET then true
  else if step = stepZONE then (s.station (toStn n)).loaded && s.bit (RC_ZTAB_LO n) RC_ZTAB_LO_VALID
  else (s.station (toStn n)).loaded

/-- PRBS31, x^31 + x^28 + 1: the next `k` bits from a 31-bit state. DEDUCED: log entry 73. -/
def prbs31 : Nat → Nat → List Bool
  | 0, _ => []
  | k + 1, x =>
    let b := x.testBit 30 ^^ x.testBit 27
    b :: prbs31 k (x % 2 ^ 30 * 2 + if b then 1 else 0)

/-- R443: the user bytes of the test frame at (slot t, spiral k). DEDUCED: log entry 73. -/
def testUser (t k : Nat) : Bytes := bitsToBytes (prbs31 32768 ((0x5A5A5A5A ^^^ (8 * t + k)) % 2 ^ 31))

/-- R443: a set-point of levels 2 to 15, scaled by base + t × step. DEDUCED: log entry 74. -/
def testPoint (v base step t : Nat) : Nat := (rnd ((v : Int) * (2 * base + t * step)) 200).toNat

/-- The layer's zone 0 set in the strategy table. DEDUCED: log entry 74. -/
def State.testSet (s : State) (n layer : Nat) : Nat :=
  s.fld (WR_STAB_LO n) WR_STAB_LO_ADDR * 4096 + s.fld (WR_STAB_HI n) WR_STAB_HI_ADDR * 2 ^ 32 + layer * 48 * 4608

/-- The LASER blocks of slot t of a test write: (spot, level, set-point). -/
def State.testLasers (s : State) (n param t : Nat) : List (Nat × Nat × Nat) :=
  let a := s.testSet n (param / 2 ^ 28 % 16)
  (List.range 8).flatMap (fun k => (List.range 16).map (fun l =>
    let v := leNat (s.tableRead (a + 576 * k + 544 + 2 * l) 2) % 4096
    (k, l, if l < 2 then v else testPoint v (param % 256) (param / 256 % 256) t)))

/-- R443: a scaled set-point would exceed 4,095. DEDUCED: log entry 69. -/
def State.testRange (s : State) (n param : Nat) : Bool :=
  (List.range 8).any (fun t => (s.testLasers n param t).any (fun x => decide (4095 < x.2.2)))

/-- The calibration area of layer `y` of the disc that station n holds, by the identity record that LOAD read.
DEDUCED: log entry 215. -/
def State.calKey (s : State) (n y : Nat) : Nat := leNat ((s.station (toStn n)).ident.take 32) * 16 + y % 16

/-- R65, R220: the layer's next calibration band position that the controller has not written on this disc, while its area has one. -/
def State.calPos (s : State) (n y : Nat) : Option Nat :=
  let k := (if y = 0 then 16 else 0) + SMap.getD s.cal.used 0 (s.calKey n y)
  if k < zoneB 63 then some k else none

/-- R201, R220: a test write may begin: its area has a position, its set has been sent and the preconditions hold there. -/
def State.testPlace (s : State) (n param : Nat) : Option State :=
  let y := param / 2 ^ 28 % 16
  (s.calPos n y).bind (fun k => s.bandPlace n y k)

/-- R220, R443: slots 0 to 7 of the position are written, the first bit landing at channel-clock count `count`.
DEDUCED: log entry 73. -/
def State.testWrite (s : State) (n param count : Nat) : State :=
  let y := param / 2 ^ 28 % 16
  let s := s.writeStart n count
  let s := (List.range 8).foldl (fun (s : State) t =>
    let s := (s.testLasers n param t).foldl (fun (s : State) x => s.clPut n false (clBlock 0xC6 [(x.1, 4), (x.2.1, 4), (x.2.2, 12)])) s
    s.writeBits n (slotBlocks ((List.range 8).map (fun k =>
      channelBits (frameInfo (testUser t k) ⟨0, 0, 0, 0, 8 * t + k, 0, zeros 16⟩))))) s
  let s := (s.writeEmpty n 63).powerOff n
  let k := s.calKey n y
  { s.setStn (toStn n) (fun t => { t with setSent := none }) with cal.used := SMap.ins k (SMap.getD s.cal.used 0 k + 1) s.cal.used }

/-- R443: the mean of one of G, O and A over the last 8 converged frames, in the zone table's unit. DEDUCED: log entry 211. -/
def zoneMean (l : List Int) : Int :=
  let k := l.drop (l.length - 8)
  rnd k.sum (max 1 k.length * 2 ^ 20)

/-- R443: the preset whose taps lie nearest the adapted taps, by least sum of squared differences; the lowest of several.
DEDUCED: log entry 211. -/
def State.nearestPreset (s : State) (n : Nat) (taps : List Int) : Nat :=
  let err (j : Nat) : Nat := ((List.range 15).map (fun i =>
    (signed16 (leNat (s.tableRead (s.ztab n + 98304 + 32 * j + 2 * i) 2)) * 2 ^ 20 - taps.getD i 0).natAbs ^ 2)).sum
  (List.range 16).foldl (fun b j => if err j < err b then j else b) 0

/-- R443: what ZONE_LEARN writes for a stream: GAIN, OFFSET, ASYM and EQP. DEDUCED: log entry 211. -/
def State.zoneEntry (s : State) (n : Nat) (z : ZoneItem) : Bytes :=
  leBytes 2 (clampI 0 65535 (zoneMean (z.frames.map (·.1)))).toNat ++ int1 (satS 8 (zoneMean (z.frames.map (·.2.1))))
  ++ int1 (satS 8 (zoneMean (z.frames.map (·.2.2)))) ++ leBytes 1 (s.nearestPreset n z.taps)

/-- ZONE_LEARN (R443): the entries of the band's layer and zone are written into the zone table, WIN unchanged. -/
def State.learnZone (s : State) (n loc : Nat) (l : List ZoneItem) : State :=
  l.foldl (fun (s : State) z =>
    let a := s.zentry n (locLayer loc) (locZone loc) (z.q % 16)
    let bs := s.zoneEntry n z
    if !s.inRegion 1 (s.ztab n) 98816 then s
    else
      let s := (s.touch 7 a bs.length).memWrite a bs
      match s.cacheWay (a / 64) with
      | some w => let c := s.lineAt (a / 64) w; s.setLine w { c with data := patch c.data (a % 64) bs }
      | none => s) s

/-- The parameter of the station step in hand: that of its CAL_RUN, else ARG2 of a task given directly. DEDUCED: log entry 75. -/
def State.stepParam (s : State) (n : Nat) : Nat := match (match s.inHand? n with | some t => s.cmd? (t.cmds.headD (2 ^ 64)) | none => none) with
  | some c => cap c.caps 28 4
  | none => (s.reg (TASK_ARG n 2)).toNat

/-- The command that the task in hand serves. -/
def State.stepCmd (s : State) (n : Nat) : Nat := match s.inHand? n with
  | some t => t.cmds.headD (2 ^ 64)
  | none => 2 ^ 64

/-- The station's step in hand ends with `outcome`; R445: its result is then interpolated at once. DEDUCED: log entry 70. -/
def State.stnStepEnd (s : State) (n outcome point : Nat) (items : List Bytes) : State :=
  let step := (s.reg (TASK_ARG n 0)).toNat
  let id := s.stepCmd n
  let s := s.setCal n (fun c => { c with measuring := false })
  let T := s.tempOf (stnSensor n)
  let s := match s.inHand? n with
    | some t => if t.sw then s.keepRecord (s.reg (TASK_ARG n 1)).toNat step n outcome T point items else s
    | none => s
  let s := match s.inHand? n with
    | some t => { s with work.inHand := SMap.ins n { t with cmds := [] } s.work.inHand }
    | none => s
  let s := (s.setCmd id (fun c => { c with station := n })).calEnd id step n outcome T point items
  s.endTask n .ok

/-- LIVE_ON or LIVE_OFF of station n; LIVE_OFF clears the live deltas. DEDUCED: log entry 78. -/
def State.setLive (s : State) (n : Nat) (on : Bool) : State :=
  let v := s.fld CAL_CTL CAL_CTL_LIVE
  let s := s.setFld CAL_CTL CAL_CTL_LIVE (if on then v ||| 2 ^ n else v &&& (65535 - 2 ^ n))
  if on then s else (s.setCal n (fun c => { c with live := List.replicate 16 0 })).shadowStn n

/-- R203: the test frame has passed its verification: converged, at most 900 raw errors, and the information that was written. -/
def TestItem.passes (x : TestItem) : Bool :=
  (match x.raw with | some r => decide (r ≤ 900) | none => false)
  && x.info == frameInfo (testUser (x.idx / 8) (x.idx % 8)) ⟨0, 0, 0, 0, x.idx, 0, zeros 16⟩

/-- R434: PD_SENSE's current channels: the offset of each is its code at zero current; the gains of V and W to U make iU + iV, and iU + iW, zero
under the two drives. -/
def CalMeas.currents (m : CalMeas) : List CalItem :=
  let z (ch : Nat) : Int := ((m.zero.find? (fun e => e.1 == ch)).map (·.2)).getD 0
  let gain (ch : Nat) (d : Int × Int) : List CalItem :=
    let k := z ch - d.2
    if k = 0 then [] else [⟨0x300 + ch, rnd ((d.1 - z 0) * 65536 * k.sign) k.natAbs, 0⟩]
  m.zero.map (fun e => ⟨0x200 + e.1, e.2, 0⟩) ++ gain 1 m.driveV ++ gain 2 m.driveW

/-- The words that a step has found. -/
def CalMeas.words (m : CalMeas) (step : Nat) : List CalItem := if step = stepPD then m.currents ++ m.items else m.items

/-- R443: HF_GAIN has converged: every stream's adapted G is 1.0 ± 1/256 and its adapted O is 0, by its last converged frame. -/
def CalMeas.gainDone (m : CalMeas) : Bool :=
  m.zone.all (fun z => match z.frames.getLast? with
    | some (g, o, _) => decide ((g - 4096 * 2 ^ 20).natAbs ≤ 16 * 2 ^ 20) && rnd o (2 ^ 20) == 0
    | none => true)

/-- A station measurement has converged (R437, R442, R443). -/
def State.stnStep (s : State) (n : Nat) (m : CalMeas) : State :=
  let step := (s.reg (TASK_ARG n 0)).toNat
  let param := s.stepParam n
  let old (q : Nat) : Int := SMap.getD (s.scal n).trims (nominal q) q
  if !m.ready || !s.stnReady n step then s.stnStepEnd n 2 0xFF []
  else if step = stepZONE then
    let l := m.zone.filter (fun z => !z.frames.isEmpty)
    (s.learnZone n param l).stnStepEnd n 0 0xFF (l.map (fun z => leBytes 2 z.q ++ s.zoneEntry n z ++ leBytes 1 0))
  else if step = stepTEST then
    if s.testRange n param then s.stnStepEnd n 3 0xFF []
    else
      let power (i : Nat) : Nat := 2 * (param % 256) + i / 8 * (param / 256 % 256)
      match s.testPlace n param with
      | none => s.stnStepEnd n 2 0xFF []
      | some s => (s.testWrite n param m.count).stnStepEnd n 0 0xFF (m.tests.map (fun x => leBytes 2 x.idx ++ leBytes 2 (power x.idx)
        ++ leBytes 2 (x.raw.getD 0xFFFF) ++ int1 x.asym ++ leBytes 1 (if x.passes then 1 else 0)))
  else if m.range || (m.words step).any (fun i => !trimOk i.addr i.val) then s.stnStepEnd n 3 0xFF []
  else
    let pt := nearestPoint (s.tempOf (stnSensor n))
    let bs := (m.words step).map (fun i => leBytes 2 i.addr ++ int2 (old i.addr) ++ int2 i.val ++ int2 i.res)
    let s := s.setCal n (fun c => { c with
      deltas := (m.words step).foldl (fun (d : SMap Int) i => SMap.ins (deltaKey pt i.addr) (i.val - factoryAt i.addr pt) d) c.deltas })
    (s.shadowStn n).stnStepEnd n 0 pt bs

/-- CAL_STEP (R441, R442): the step in hand measures; `m` is what it finds once it has converged. DEDUCED: log entries 78, 236. -/
def State.calStep (s : State) (n : Nat) (m : Option CalMeas) : State :=
  if !s.inTask n .calStep then s
  else if (s.reg (TASK_ARG n 0)).toNat = stepLiveOn ∨ (s.reg (TASK_ARG n 0)).toNat = stepLiveOff then
    (s.setLive n ((s.reg (TASK_ARG n 0)).toNat == stepLiveOn)).stnStepEnd n 0 0xFF []
  else match m with
    | some m => if (s.reg (TASK_ARG n 0)).toNat = stepGAIN ∧ m.ready = true ∧ m.gainDone = false then s.setCal n (fun c => { c with measuring := true })
      else s.stnStep n m
    | none => s.setCal n (fun c => { c with measuring := true })

/-- CAL_STEP_TIMEOUT (R442): the budget of a station's step, or of the device-wide one, has run out. DEDUCED: log entry 76. -/
def State.calTimeout (s : State) (stn : Option Stn) : State := match stn with
  | some n => if s.inTask n .calStep && (s.scal n).measuring then s.stnStepEnd n 1 0xFF [] else s
  | none => match s.cal.running with
    | some (id, step) =>
      let s : State := { s with cal.running := none }
      (s.setBit CAL_STAT CAL_STAT_BUSY false).calEnd id step 0xFF 1 (s.tempOf 1) 0xFF []
    | none => s

/-- R445: a fall through VWARN ends a VIN step with PRECOND. -/
def State.vinStepFails (s : State) : State := match s.cal.running with
  | some (id, 3) =>
    let s : State := { s with cal.running := none }
    (s.setBit CAL_STAT CAL_STAT_BUSY false).calEnd id stepVIN 0xFF 2 (s.tempOf 1) 0xFF []
  | _ => s

/-! ## Live calibration (R444) -/

/-- LIVE_CAL_GAP: in a linking gap of a pass or a write, the level-corrected samples y of frame length 71 that are neither erased nor in a
defect, by stream, in 2^-20; a mean more than 1 from -24 moves its stream's trim one code. DEDUCED: log entry 68. -/
def State.liveGap (s : State) (n : Nat) (ys : List (List Int)) : State :=
  let busy := (s.rd n).pass.isSome || (match s.bw? n with | some b => b.begun | none => false)
  if !(s.fld CAL_CTL CAL_CTL_LIVE).testBit n || !busy || s.inTask n .calStep then s
  else
    let step (q : Nat) (d : Int) : Int :=
      let l := ys.getD q []
      let e := (l.map (fun y => y + 24 * 2 ^ 20)).sum
      let one : Int := l.length * 2 ^ 20
      if one < e then clampI (-32) 32 (d + 1) else if e < -one then clampI (-32) 32 (d - 1) else d
    let s := s.setCal n (fun c => { c with live := (List.range 16).map (fun q => step q (c.live.getD q 0)) })
    s.shadowStn n

/-! ## Self-test (R446 to R449) -/

/-- The unusable marks that a list of entries makes: codes with result 1 in [lo, hi). -/
def marks (es : List BistEnt) (lo hi : Nat) : List Nat :=
  ((es.filter (fun e => e.result == 1 && decide (lo ≤ e.code ∧ e.code < hi))).map (fun e => e.code - lo)).eraseDups

/-- Table 16.7, R447, R449: the entry of a test that has failed, or whose row a spare repairs. DEDUCED: log entry 212. -/
def BistFind.entry (x : BistFind) : Option BistEnt := match x.test with
  | .row a b r => some ⟨x.code, 0, if r then 0 else 1, a, b, 0⟩
  | .loop m k w =>
    if 9999 * k ≤ 10000 * m ∧ 20 * k ≤ w ∧ w ≤ 28 * k ∧ 0 < k then none else some ⟨x.code, 1, 1, 0, 0, w / max 1 k⟩
  | .drive v w f =>
    if f = 0 ∧ 20 * ((v : Int) - w).natAbs ≤ w then none else some ⟨x.code, 1, 1, 0, 0, v⟩
  | .sense v w => if 50 * ((v : Int) - w).natAbs ≤ w then none else some ⟨x.code, 2, 1, 0, 0, v⟩
  | .broken => some ⟨x.code, 1, 1, 0, 0, 0⟩

/-- R448, R449: the results of one part (the codes that `own` picks) are written as one unit. -/
def State.writeBist (s : State) (own : Nat → Bool) (es : List BistEnt) : State :=
  let es := es.filter (fun e => own e.code)
  let s := (es.filter (fun e => e.result == 1)).foldl (fun (s : State) e => s.raise 35 [e.code]) s
  { s with
      cal.bist := s.cal.bist.filter (fun e => !own e.code) ++ es,
      cal.bistTime := s.stamp,
      cal.badStn := (s.cal.badStn ++ marks es 0 0x10).eraseDups,
      cal.badCc := (s.cal.badCc ++ marks es 0x10 0x14).eraseDups,
      cal.badOther := (s.cal.badOther ++ marks es 0x20 0x38 ++ (marks es 0x38 0x39).map (· + 24)).eraseDups }

/-- Station BIST of station n with its findings. -/
def State.stationBist (s : State) (n : Nat) (es : List BistFind) : State := s.writeBist (fun c => c == n) (es.filterMap (·.entry))

/-- Device BIST with its findings. -/
def State.deviceBist (s : State) (es : List BistFind) : State := s.writeBist (fun c => 0x10 ≤ c) (es.filterMap (·.entry))

def maskOf (l : List Nat) : Nat := (l.eraseDups.map (fun i => 2 ^ i)).sum

/-- Table 16.9. -/
def State.bistRecord (s : State) : Bytes :=
  let c := s.cal
  [0x42#8, 0x49#8, 0x53#8, 0x54#8] ++ leBytes 2 1 ++ leBytes 2 c.bist.length ++ leBytes 8 c.bistTime
  ++ leBytes 2 (maskOf c.badStn) ++ leBytes 1 (maskOf c.badCc) ++ zeros 1 ++ leBytes 4 (maskOf c.badOther) ++ zeros 40
  ++ c.bist.flatMap (fun e => leBytes 1 e.code ++ leBytes 1 e.kind ++ leBytes 1 e.result ++ zeros 1 ++ leBytes 4 e.addr
    ++ leBytes 2 e.bit ++ zeros 2 ++ leBytes 4 e.detail)

/-- BIST_CLEAR (R448): the marks of station n, or every mark, go from the record. DEDUCED: log entry 77. -/
def State.bistClear (s : State) (stn : Nat) : State :=
  if stn = 0xFF then { s with cal.badStn := [], cal.badCc := [], cal.badOther := [] }
  else { s with cal.badStn := s.cal.badStn.filter (fun n => n != stn) }

end Sys2Proof.Machine
end

