-- ==== Sys2Proof/Machine/CapRow.lean ====
section
/-!
DEFINITION. Which command of the opcode table a capsule spells (Table 11.1, with the selectors of Tables 11.3, 11.7, 12.5, 13.5
and 16.4).
-/

namespace Sys2Proof.Machine

/-- The commands that a capsule can spell. -/
inductive CapRow where
  | read | write | readVersion | flush | fence | vaultCreate | vaultRebind | vaultMount | vaultUnmount
  | querySummary | querySealed | queryVersions | queryDiscs | sealExport
  | cryptGcmEnc | cryptGcmDec | cryptCtr | cryptWrap | cryptUnwrap | hash
  | capture | captureStop | planReplace | planAppend
  | ctlLoad | ctlSpin | ctlPark | ctlStow | ctlRetire | ctlAdaptive | ctlPlanned | ctlForce
  | calRefin | calTemp | calVin | calPd | calOffset | calGain | calZone | calTest | calLiveOn | calLiveOff | calBistClear | calShutdown
  | bistReport | domainSet | resetResume | resetDiscard | logRead | eventLogRead
  | stageFirmware | stageMicrocode | activateFirmware | activateMicrocode | nop
  deriving DecidableEq, Repr

/-- The command of a capsule; none: its opcode is not in Table 11.1. A selector value that no command has goes to the first
command of its opcode, which refuses it. DESIGN CHOICE: log entry 4. -/
def rowOf (c : Capsule) : Option CapRow := match capOPC c with
  | 0x01 => some .read
  | 0x02 => some .write
  | 0x03 => some .readVersion
  | 0x04 => some .flush
  | 0x05 => some .fence
  | 0x08 => some (if (cap c 26 2).testBit 0 then .vaultRebind else .vaultCreate)
  | 0x09 => some .vaultMount
  | 0x0A => some .vaultUnmount
  | 0x0B => some (match cap c 24 4 with | 1 => .querySealed | 2 => .queryVersions | 3 => .queryDiscs | _ => .querySummary)
  | 0x10 => some .sealExport
  | 0x11 => some (match cap c 24 1 with | 1 => .cryptGcmDec | 2 => .cryptCtr | 3 => .cryptWrap | 4 => .cryptUnwrap | _ => .cryptGcmEnc)
  | 0x12 => some .hash
  | 0x18 => some (if (cap c 25 1).testBit 1 then .captureStop else .capture)
  | 0x19 => some (if (cap c 25 1).testBit 0 then .planAppend else .planReplace)
  | 0x1A => some (if (cap c 26 1).testBit 0 then .ctlForce else match cap c 25 1 with
      | 2 => .ctlSpin | 3 => .ctlPark | 4 => .ctlStow | 5 => .ctlRetire | 6 => .ctlAdaptive | 7 => .ctlPlanned | _ => .ctlLoad)
  | 0x20 => some (match cap c 26 2 with
      | 0x02 => .calTemp | 0x03 => .calVin | 0x10 => .calPd | 0x11 => .calOffset | 0x12 => .calGain | 0x13 => .calZone | 0x14 => .calTest
      | 0x20 => .calLiveOn | 0x21 => .calLiveOff | 0x30 => .calBistClear | 0x31 => .calShutdown | _ => .calRefin)
  | 0x21 => some .bistReport
  | 0x28 => some .domainSet
  | 0x30 => some (if cap c 26 1 = 1 then .resetDiscard else .resetResume)
  | 0x31 => some (if cap c 24 2 = 0xFFFE then .eventLogRead else .logRead)
  | 0x38 => some (if cap c 24 1 = 1 then .stageMicrocode else .stageFirmware)
  | 0x39 => some (if cap c 24 1 = 1 then .activateMicrocode else .activateFirmware)
  | 0x3F => some .nop
  | _ => none

/-- Row `r` may carry capsule `c`: `c` spells it, or spells no command at all. DESIGN CHOICE: log entry 4. -/
def rowFits (r : CapRow) (c : Capsule) : Bool := match rowOf c with
  | some x => decide (x = r)
  | none => true

end Sys2Proof.Machine
end

