-- ==== Sys2Proof/Machine/StnReg.lean ====
section
/-!
DEFINITION. Writes of the registers of a station's window by software and by the gaffer (R9, R11, R91, R104, R107, R113, R117,
R125, R129, R143 to R147, R217, R226, R230, R247), and a machine check on a station (R239, R240, R456).
-/

namespace Sys2Proof.Machine

/-- R247, R372: RWL fields are unlocked in BLANK and MAKER. -/
def State.rwlOpen (s : State) : Bool := decide (s.sec.lc ≤ 1)

/-- R11: what a register holds after a software write of `w`: RW bits take it, W1C bits written 1 clear, RWL bits take it while
`open'`. -/
def rowWrite (r : RegRow) (old w : Word) (open' : Bool) : Word :=
  let rw := if open' then r.rw ||| r.rwl else r.rw
  ((old &&& ~~~rw) ||| (w &&& rw)) &&& ~~~(w &&& r.w1c)

/-- The plain effect of a write (R11). -/
def State.plainWrite (s : State) (r : RegRow) (x : Reg) (w : Word) : State := s.setReg x (rowWrite r (s.reg x) w s.rwlOpen)

/-- R11, R247: a write of a locked RWL register is discarded and raises E000. -/
def State.rwlWrite (s : State) (r : RegRow) (x : Reg) (w : Word) : State := if s.rwlOpen then s.plainWrite r x w else s.raise 0 [x.key]

/-! ## Loops -/

/-- LP_CTL.CSEL (R107): the bank to use from the next sample. -/
def State.lpCsel (s : State) (n L k : Nat) : State := s.setFld (LP_CTL n L) LP_CTL_CSEL k

/-- A write of LP_CTL: FF_MODE, CSEL, ORDER, MODE. -/
def State.writeLpCtl (s : State) (n L : Nat) (w : Word) (hw : Bool) : State × Bool :=
  let s := (s.setFld (LP_CTL n L) LP_CTL_FF_MODE (fldGet LP_CTL_FF_MODE w)).lpCsel n L (fldGet LP_CTL_CSEL w)
  let (s, a) := s.writeOrder n L (fldGet LP_CTL_ORDER w)
  let (s, b) := s.writeMode n L (fldGet LP_CTL_MODE w) hw
  (s, a || b)

/-- A write of SV_TUNE_CTL (R113). -/
def State.writeTune (s : State) (n : Nat) (w : Word) : State :=
  let s := (s.setFld (SV_TUNE_CTL n) SV_TUNE_CTL_TMO (fldGet SV_TUNE_CTL_TMO w)).setFld (SV_TUNE_CTL n) SV_TUNE_CTL_LOOP (fldGet SV_TUNE_CTL_LOOP w)
  if fldGet SV_TUNE_CTL_START w = 0 then s else s.tuneStart n (fldGet SV_TUNE_CTL_LOOP w)

/-- A write of SV_INJ_CTL (R117). -/
def State.writeInj (s : State) (n : Nat) (w : Word) : State :=
  let s := (s.setFld (SV_INJ_CTL n) SV_INJ_CTL_AMP (fldGet SV_INJ_CTL_AMP w)).setFld (SV_INJ_CTL n) SV_INJ_CTL_NCYC (fldGet SV_INJ_CTL_NCYC w)
  let s := s.setFld (SV_INJ_CTL n) SV_INJ_CTL_LOOP (fldGet SV_INJ_CTL_LOOP w)
  if fldGet SV_INJ_CTL_START w = 0 then s else s.injStart n (fldGet SV_INJ_CTL_LOOP w)

/-! ## Motion -/

/-- A write of MOT_CTL: the reactions and SRC. DEDUCED: log entry 32. -/
def State.writeMotCtl (s : State) (n : Nat) (w : Word) (hw : Bool) : State × Bool :=
  let s := (s.setFld (MOT_CTL n) MOT_CTL_RGF_REACT (fldGet MOT_CTL_RGF_REACT w)).setFld (MOT_CTL n) MOT_CTL_LOSS_REACT (fldGet MOT_CTL_LOSS_REACT w)
  s.writeSrc n (fldGet MOT_CTL_SRC w) hw

/-- A write of MOT_MODLIM: TLOW, and the duty limit that follows from it. -/
def State.writeModlim (s : State) (n : Nat) (w : Word) : State :=
  let t := fldGet MOT_MODLIM_TLOW w
  (s.setFld (MOT_MODLIM n) MOT_MODLIM_TLOW t).setFld (MOT_MODLIM n) MOT_MODLIM_DUTY_MAX (dutyMax t)

/-- A write of WR_CTL.HTMO (R217): a hold or a wait that has lasted as long is abandoned at once. -/
def State.writeHtmo (s : State) (n v : Nat) : State :=
  let s := s.setFld (WR_CTL n) WR_CTL_HTMO v
  if s.holdExpired n s.now then s.holdTimeout n else s

/-! ## The gaffer's registers -/

/-- TASK_GO (R229, R230): a task given by software serves no command. -/
def State.swGo (s : State) (n : Nat) : State :=
  let op := s.fld (TASK_OP n) TASK_OP_OP
  if s.goRefused n then s.go n
  else
    let t : Task := ⟨s.work.nextTask, n, (opTask op).getD .park, [], 0, s.work.nextId, (List.range 6).map (fun k => (s.reg (TASK_ARG n k)).toNat), false, [], true⟩
    ({ s with work.nextTask := s.work.nextTask + 1, work.inHand := SMap.ins n t s.work.inHand } : State).go n

/-! ## The window -/

/-- A write of the register of station n at window offset `off`; `hw` marks the gaffer's. True: the register refuses it, or none
lies there (R226). -/
def State.stnWrite (s : State) (n off : Nat) (w : Word) (hw : Bool) : State × Bool := match stnRow n off with
  | none => (s, true)
  | some r =>
    let i := (off - r.lo) / r.stride
    let x := r.reg i
    if off = 0 then s.writeStnCtl n w
    else if 0x100 ≤ off ∧ off < 0x11C then (if hw then (s, true) else (s.rwlWrite r x w, false))
    else if off = 0x11C then
      if hw then (s, true)
      else if !s.rwlOpen then (s.raise 0 [x.key], false)
      else (if w.getLsbD 0 then s.swGo n else s, false)
    else if off = 0x400 then s.writeMotCtl n w hw
    else if off = 0x404 then s.writeDemand n (w.toNat % 65536) hw
    else if off = 0x414 then (s.writeModlim n w, false)
    else if off = 0x500 then s.writeSldCtl n (fldGet SLD_CTL_MODE w) (fldGet SLD_CTL_STOP w != 0) (fldGet SLD_CTL_GO w != 0)
    else if off = 0x504 then s.writeSldTarget n w
    else if off = 0x508 then s.writeSldPos n w
    else if 0x800 ≤ off ∧ off < 0xA00 ∧ off % 64 = 0 then s.writeLpCtl n ((off - 0x800) / 64) w hw
    else if 0x800 ≤ off ∧ off < 0xA00 ∧ off % 64 = 8 then ((s.plainWrite r x w).showRamp n ((off - 0x800) / 64), false)
    else if off = 0xA14 then (s.writeTune n w, false)
    else if off = 0xA24 then (s.writeInj n w, false)
    else if off = 0x1000 then ((s.plainWrite r x w).writeHtmo n (fldGet WR_CTL_HTMO w), false)
    else if off = 0xC00 then (let s := s.plainWrite r x w; if (s.rd n).pass.isSome then s else s.showSl n, false)
    else if 0x100C ≤ off ∧ off ≤ 0x1010 then (((s.plainWrite r x w).resendSet n).checkWrite n, false)
    else (s.plainWrite r x w, false)

/-! ## Machine checks on a station -/

/-- R456, R239: a machine check on STNn; in FATAL it is only logged. -/
def State.stationCheck (s : State) (n : Nat) : State :=
  let s := (s.countCheck n).raiseStn n 18 []
  if s.fatal n then s else s.stationFatal n

/-- R239: the gaffer's own check, recorded in SEQ_MCHK: kind, store, bank and address. DEDUCED: log entry 125. -/
def State.gafferCheck (s : State) (n kind store bank addr : Nat) : State :=
  let s := s.setReg (SEQ_MCHK n) (BitVec.ofNat 32 (2 ^ 31 + kind * 2 ^ 29 + store * 2 ^ 28 + bank * 2 ^ 27 + addr % 2 ^ 14))
  s.stationCheck n

end Sys2Proof.Machine
end

