-- ==== Sys2Proof/Machine/Micro.lean ====
section
/-!
DEFINITION. The gaffer's microcode (R222 to R228, R235 to R239): fetching a microword and its nanoword, the micro-op classes of
Table 8.4, the condition word, waits, traps and the micro-timer.
-/

namespace Sys2Proof.Machine

def State.gaf (s : State) (n : Nat) : Gaffer := (s.station (toStn n)).gaf

def State.setGaf (s : State) (n : Nat) (g : Gaffer → Gaffer) : State := s.setStn (toStn n) (fun t => { t with gaf := g t.gaf })

def State.pc (s : State) (n : Nat) : Nat := s.fld (SEQ_STAT n) SEQ_STAT_PC
def State.setPc (s : State) (n pc : Nat) : State := s.setFld (SEQ_STAT n) SEQ_STAT_PC (pc % 2 ^ 14)
def State.nextPc (s : State) (n : Nat) : State := s.setPc n (s.pc n + 1)

/-- Bits 0 to 4 of FLAGS: Z, N, C, V, T. DEDUCED: log entry 84. -/
def State.flag (s : State) (n i : Nat) : Bool := (s.fld (SEQ_STAT n) SEQ_STAT_FLAGS).testBit i
def State.setFlag (s : State) (n i : Nat) (b : Bool) : State :=
  let f := s.fld (SEQ_STAT n) SEQ_STAT_FLAGS
  s.setFld (SEQ_STAT n) SEQ_STAT_FLAGS (if f.testBit i = b then f else if b then f + 2 ^ i else f - 2 ^ i)

/-! ## Words (R223 to R225) -/

/-- A microword (Table 8.2). -/
structure Micro where
  cls : Nat
  nptr : Nat
  imm : Nat
  deriving DecidableEq, Repr

/-- A nanoword (Table 8.3). -/
structure Nano where
  subop : Nat
  dst : Nat
  srca : Nat
  srcb : Nat
  offset : Nat
  const : Nat
  mask : Nat
  tmo : Nat
  tscale : Nat
  target : Nat
  deriving DecidableEq, Repr

def readMicro (w : Nat) : Micro := ⟨w / 2 ^ 20 % 16, w / 256 % 4096, w % 256⟩

def readNano (w : Nat) : Nano :=
  ⟨w / 2 ^ 120 % 256, w / 2 ^ 116 % 16, w / 2 ^ 112 % 16, w / 2 ^ 108 % 16, w / 2 ^ 96 % 4096, w / 2 ^ 64 % 2 ^ 32, w / 2 ^ 48 % 65536,
   w / 2 ^ 32 % 65536, w / 2 ^ 30 % 4, w / 2 ^ 16 % 2 ^ 14⟩

/-- Odd parity: group i of `width` bits with its parity bit above the word's `bits`. -/
def oddParity (width bits w : Nat) : Bool :=
  (List.range (bits / width)).all (fun i =>
    ((List.range width).foldl (fun b j => b != w.testBit (width * i + j)) (w.testBit (bits + i))) == true)

/-- What a fetch gives: the words, or the store and address whose parity fails (R239). -/
inductive Fetched where
  | word (m : Micro) (o : Nano)
  | bad (store addr : Nat)
  deriving DecidableEq, Repr

/-- R223: the word at the PC of station n in its bank, and its nanoword. DESIGN CHOICE: log entry 9. -/
def State.fetch (s : State) (n : Nat) : Fetched :=
  let b := s.fld (SEQ_BANK n) SEQ_BANK_CUR
  let mw := SMap.getD (if b = 0 then s.stores.microA else s.stores.microB) 0 (s.pc n)
  let m := readMicro (mw % 2 ^ 24)
  let nw := SMap.getD (if b = 0 then s.stores.nanoA else s.stores.nanoB) 0 m.nptr
  if !oddParity 8 24 mw then .bad 0 (s.pc n)
  else if !oddParity 16 128 nw then .bad 1 m.nptr
  else .word m (readNano (nw % 2 ^ 128))

/-! ## Causes -/

/-- The synchronous causes (Table 8.7). -/
def syncMask : Nat := 2 + 4 + 8 + 16 + 2 ^ 15

/-- A synchronous cause (R226, R235, R238): inside a trap routine it is a double fault. The microword has no other effect. -/
def State.syncCause (s : State) (n c info : Nat) : State :=
  if (s.gaf n).inTrap then s.gafferCheck n 1 0 0 (s.pc n)
  else (s.trapCause n c info).nextPc n

/-- The causes that can be taken now: synchronous ones, and outside a trap routine the enabled asynchronous ones. -/
def State.takeable (s : State) (n : Nat) : Nat :=
  let p := s.fld (SEQ_TRAP n) SEQ_TRAP_PEND
  let sync := p &&& syncMask
  let async := if (s.gaf n).inTrap then 0 else p &&& (s.gaf n).mask &&& (65535 - syncMask)
  sync ||| async

/-- The gaffer can run a microword: it holds a task, is not waiting, and no trap must be taken first (R235, R237). -/
def State.canRun (s : State) (n : Nat) : Bool :=
  let st := s.fld (SEQ_STAT n) SEQ_STAT_STATE
  s.bit (TASK_STATUS n) TASK_STATUS_BUSY && !s.fatal n && (st == 1 || st == 2) && s.isOn (domSTN n)
  && (s.fld (SEQ_TRAP n) SEQ_TRAP_PEND &&& syncMask) == 0 && !((s.gaf n).afterRtt && s.takeable n != 0)

/-- One microword of station n: fetched, checked for its class, and run by `run` if `mine` picks it. -/
def State.micro (s : State) (n : Nat) (mine : Micro → Nano → Bool) (run : State → Micro → Nano → State) : State :=
  if !s.canRun n then s
  else match s.fetch n with
    | .bad store addr =>
      let b := s.fld (SEQ_BANK n) SEQ_BANK_CUR
      (s.raise 6 [b, store, addr]).gafferCheck n 0 store b addr
    | .word m o =>
      let word := m.cls * 2 ^ 20 + m.nptr * 256 + m.imm
      if m.cls = 15 then s.syncCause n 2 word
      else if mine m o then run (s.setGaf n (fun g => { g with
        afterRtt := false, waitLeft := if g.inTrap || m.cls == 7 then g.waitLeft else none })) m o
      else s

/-- The microword as a number, the INFO of ILLEGAL. DEDUCED: log entry 83. -/
def Micro.word (m : Micro) : Nat := m.cls * 2 ^ 20 + m.nptr * 256 + m.imm

/-- An illegal microword: cause ILLEGAL with the word in INFO (R226, Table 8.7). DEDUCED: log entry 83. -/
def State.illegal (s : State) (n : Nat) (m : Micro) : State := s.syncCause n 2 m.word

/-! ## Micro-registers -/

/-- A register code's value; none for a reserved code. DEDUCED: log entry 85. -/
def State.mreg (s : State) (n k : Nat) : Option Word :=
  if k < 8 then some ((s.gaf n).m.getD k 0) else if k < 12 then some (BitVec.ofNat 32 ((s.gaf n).lc.getD (k - 8) 0)) else none

/-- A write of a register code: M0 to M7, or LC0 to LC3 with its low 16 bits. DEDUCED: log entry 85. -/
def State.setMreg (s : State) (n k : Nat) (w : Word) : State :=
  if k < 8 then s.setGaf n (fun g => { g with m := g.m.set k w })
  else s.setGaf n (fun g => { g with lc := g.lc.set (k - 8) (w.toNat % 65536) })

def immSigned (m : Micro) : Int := signed8 m.imm

def State.branch (s : State) (n : Nat) (m : Micro) : State := s.setPc n (((s.pc n : Int) + 1 + immSigned m) % 2 ^ 14).toNat

/-! ## ALU -/

/-- The result of an operation on A and B; none where a shift's amount leaves it open. DEDUCED: log entry 79. -/
def aluResult (op : Nat) (a b : Word) : Option Word :=
  if op = 0 then some b
  else if op = 1 then some (a + b)
  else if op = 2 ∨ op = 10 then some (a - b)
  else if op = 3 then some (a &&& b)
  else if op = 4 then some (a ||| b)
  else if op = 5 then some (a ^^^ b)
  else if op = 9 then some (a * b)
  else if op = 11 then some (if (if Config.minMaxSigned then a.slt b else a.ult b) then a else b)
  else if op = 12 then some (if (if Config.minMaxSigned then a.slt b else a.ult b) then b else a)
  else if 32 ≤ b.toNat then none
  else if op = 6 then some (a <<< b.toNat)
  else if op = 7 then some (a >>> b.toNat)
  else some (a.sshiftRight b.toNat)

/-- C and V of an operation: stated for ADD and, but for the sense of C, for SUB and CMP. DESIGN CHOICE: log entry 80. -/
def aluCV (op : Nat) (a b : Word) : Option (Bool × Bool) :=
  if op = 1 then some (decide (2 ^ 32 ≤ a.toNat + b.toNat), decide ((a + b).toInt ≠ a.toInt + b.toInt))
  else if op = 2 ∨ op = 10 then some ((decide (a.toNat < b.toNat)) == Config.subCarry, decide ((a - b).toInt ≠ a.toInt - b.toInt))
  else none

/-- ALU (R226). DEDUCED: log entry 83. -/
def State.alu (s : State) (n : Nat) : State := s.micro n (fun m _ => m.cls == 0) (fun s m o =>
  let op := o.subop % 16
  let bs := o.subop / 16
  let b? : Option Word := if bs = 0 then s.mreg n o.srcb else if bs = 1 then some (BitVec.ofNat 32 o.const)
    else if bs = 2 then some (BitVec.ofNat 32 m.imm) else if bs = 3 then some (BitVec.ofInt 32 (immSigned m)) else none
  let a? : Option Word := if op = 0 then some 0 else s.mreg n o.srca
  match a?, b? with
  | some a, some b =>
    if 13 ≤ op ∨ (op ≠ 10 ∧ 12 ≤ o.dst) then s.illegal n m
    else
      let (r, s) : Word × State := match aluResult op a b with
        | some r => (r, s)
        | none => (Config.freeWord s.fresh, { s with fresh := s.fresh + 1 })
      let (cv, s) : (Bool × Bool) × State := match aluCV op a b with
        | some x => (x, s)
        | none => let (c, s) := s.drawBool; let (v, s) := s.drawBool; ((c, v), s)
      let s := if op = 10 then s else s.setMreg n o.dst r
      ((((s.setFlag n 0 (r == 0)).setFlag n 1 r.msb).setFlag n 2 cv.1).setFlag n 3 cv.2).nextPc n
  | _, _ => s.illegal n m)

/-! ## Registers and memory -/

/-- The byte offset of a RD or WR (Table 8.4). -/
def State.mOff (s : State) (n : Nat) (o : Nano) : Option Nat :=
  if o.subop % 2 = 0 then some (4 * o.offset)
  else match s.mreg n o.srca with
    | some a => some (4 * o.offset + 4 * a.toNat)
    | none => none

/-- RD (R226). -/
def State.rdWord (s : State) (n : Nat) : State := s.micro n (fun m _ => m.cls == 1) (fun s m o =>
  if 2 ≤ o.subop ∨ 12 ≤ o.dst then s.illegal n m
  else match s.mOff n o with
    | none => s.illegal n m
    | some off => match stnRow n off with
      | none => s.syncCause n 3 off
      | some r => (s.setMreg n o.dst (s.reg (r.reg ((off - r.lo) / r.stride)))).nextPc n)

/-- WR (R226). -/
def State.wrWord (s : State) (n : Nat) : State := s.micro n (fun m _ => m.cls == 2) (fun s m o =>
  let v? := if o.subop / 2 % 2 = 1 then some (BitVec.ofNat 32 o.const) else s.mreg n o.srca
  match v?, s.mOff n o with
  | some v, some off =>
    if 4 ≤ o.subop then s.illegal n m
    else
      let (s, refused) := s.stnWrite n off v true
      if refused then s.syncCause n 3 off else s.nextPc n
  | _, _ => s.illegal n m)

/-- The address of a MEM (SRCA + CONST), or none for a reserved code. DEDUCED: log entry 82. -/
def State.mAddr (s : State) (n : Nat) (o : Nano) : Option Nat := (s.mreg n o.srca).map (fun a => a.toNat + o.const)

/-- R226: a MEM access is refused: not a cached address, a line of another owner, or poisoned data. -/
def State.memFault (s : State) (n a : Nat) : Bool :=
  !s.cacheable a || (match s.cacheWay (a / 64) with
    | some w => (s.lineAt (a / 64) w).owner != n || (s.lineAt (a / 64) w).poison
    | none => s.poisoned (a / 64))

/-- R395: the line of a refused MEM access is installed, with its mark, if it is one that the cache may hold. -/
def State.memInstall (s : State) (n a : Nat) : State := if s.cacheable a then (s.cacheGet (a / 64) n).2 else s

/-- MEM_LOAD (R226, R395, R407). DEDUCED: log entry 82. -/
def State.memLoad (s : State) (n : Nat) : State := s.micro n (fun m o => m.cls == 8 && o.subop != 1) (fun s m o =>
  match s.mAddr n o with
  | none => s.illegal n m
  | some a =>
    if 2 ≤ o.subop ∨ 12 ≤ o.dst then s.illegal n m
    else if s.memFault n a then (s.memInstall n a).syncCause n 4 (a % 2 ^ 32)
    else
      let (b, _, s) := s.cacheRead (a / 4 * 4) 4 n
      (s.setMreg n o.dst (BitVec.ofNat 32 (leNat b))).nextPc n)

/-- MEM_STORE (R226, R395, R407). DEDUCED: log entry 82. -/
def State.memStore (s : State) (n : Nat) : State := s.micro n (fun m o => m.cls == 8 && o.subop == 1) (fun s m o =>
  match s.mAddr n o, s.mreg n o.srcb with
  | some a, some v =>
    if s.memFault n a then (s.memInstall n a).syncCause n 4 (a % 2 ^ 32)
    else (s.cacheWrite (a / 4 * 4) n (leBytes 4 v.toNat)).nextPc n
  | _, _ => s.illegal n m)

/-- LINK (R82, R226): an AX transaction; `reply` is the 16-bit word of the loader's reply, if one comes: its status, or T where none passes
its CRC. While the loader holds the line the microword is stalled. DEDUCED: log entry 84. -/
def State.link (s : State) (n : Nat) (reply : Option Nat) : State := s.micro n (fun m _ => m.cls == 9 && !(s.port n).axHeld) (fun s m o =>
  match s.mreg n o.srca with
  | none => s.illegal n m
  | some a =>
    if 12 ≤ o.dst then s.illegal n m
    else
      let s := s.axSend n m.imm (a.toNat % 16)
      let s := match reply.filter (fun r => axWord (r / 16 % 4096) == r % 65536) with
        | some r => (s.axReply n r).setMreg n o.dst (BitVec.ofNat 32 (r / 16 % 4096))
        | none => s.setFlag n 4 true
      s.nextPc n)

/-! ## Flow -/

/-- R227, Table 8.5. -/
def State.condWord (s : State) (n : Nat) : Nat :=
  let b : List Bool := [s.flag n 0, s.flag n 1, s.flag n 2, s.flag n 3, s.flag n 4, s.bit (LP_STAT n 0) LP_STAT_LOCKED,
    s.bit (LP_STAT n 1) LP_STAT_LOCKED, s.bit (MOT_SPST n) MOT_SPST_SPD_VALID, s.bit (WR_STAT n) WR_STAT_PRE_OK,
    s.bit (SLD_STAT n) SLD_STAT_MOVING, s.bit (WR_STAT n) WR_STAT_HOLD,
    s.bit (RC_STAT n) RC_STAT_PASS || s.bit (WR_STAT n) WR_STAT_WRITING, s.bit (STN_STAT n) STN_STAT_PRESENT,
    s.fld (SV_JUMP n) SV_JUMP_STATUS == 2, (s.gaf n).preempt, (s.fld (SEQ_TRAP n) SEQ_TRAP_PEND).testBit 13]
  ((List.range 16).map (fun i => if b.getD i false then 2 ^ i else 0)).sum

def State.condHolds (s : State) (n : Nat) (o : Nano) : Bool := (s.condWord n &&& o.mask) == (o.const % 65536 &&& o.mask)

/-- BR (R227). -/
def State.br (s : State) (n : Nat) : State := s.micro n (fun m _ => m.cls == 3) (fun s m o =>
  if s.condHolds n o then s.branch n m else s.nextPc n)

/-- JMP (R226): also a JMP of a reserved SUBOP. -/
def State.jmp (s : State) (n : Nat) : State := s.micro n (fun m o => m.cls == 4 && o.subop != 1) (fun s m o =>
  if 2 ≤ o.subop then s.illegal n m else s.setPc n o.target)

/-- CALL (R226). -/
def State.call (s : State) (n : Nat) : State := s.micro n (fun m o => m.cls == 4 && o.subop == 1) (fun s _ o =>
  let sp := s.fld (SEQ_STAT n) SEQ_STAT_SP
  if 8 ≤ sp then s.syncCause n 1 (s.pc n)
  else
    let s := s.setGaf n (fun g => { g with stack := g.stack.set sp ((s.pc n + 1) % 2 ^ 14) })
    (s.setFld (SEQ_STAT n) SEQ_STAT_SP (sp + 1)).setPc n o.target)

/-- RET (R226): also a RET of a reserved SUBOP. -/
def State.ret (s : State) (n : Nat) : State := s.micro n (fun m o => m.cls == 5 && o.subop != 1) (fun s m o =>
  let sp := s.fld (SEQ_STAT n) SEQ_STAT_SP
  if 2 ≤ o.subop then s.illegal n m
  else if sp = 0 then s.syncCause n 1 (s.pc n)
  else (s.setFld (SEQ_STAT n) SEQ_STAT_SP (sp - 1)).setPc n ((s.gaf n).stack.getD (sp - 1) 0))

/-- RTT (R237). -/
def State.rtt (s : State) (n : Nat) : State := s.micro n (fun m o => m.cls == 5 && o.subop == 1) (fun s _ _ =>
  if !(s.gaf n).inTrap then s.syncCause n 1 (s.pc n)
  else
    let s := s.restore0 n (s.readFrame n 0)
    (s.setGaf n (fun g => { g with inTrap := false, afterRtt := true })).setFld (SEQ_STAT n) SEQ_STAT_STATE 1)

/-- LOOP (R226). -/
def State.loopWord (s : State) (n : Nat) : State := s.micro n (fun m _ => m.cls == 6) (fun s m o =>
  if o.dst < 8 ∨ 12 ≤ o.dst then s.illegal n m
  else
    let v := ((s.gaf n).lc.getD (o.dst - 8) 0 + 65535) % 65536
    let s := s.setGaf n (fun g => { g with lc := g.lc.set (o.dst - 8) v })
    if v ≠ 0 then s.branch n m else s.nextPc n)

/-- TMO × TSCALE in µs (Table 8.3). -/
def tmoUs (o : Nano) : Nat := o.tmo * [1, 100, 10000, 1000000].getD o.tscale 1

/-- The state in which the gaffer runs: RUN, or TRAP in a trap routine. -/
def State.runState (s : State) (n : Nat) : State := s.setFld (SEQ_STAT n) SEQ_STAT_STATE (if (s.gaf n).inTrap then 2 else 1)

/-- The wait of station n is over; the remaining time of one that a trap interrupted stands until the routine returns. -/
def State.endWait (s : State) (n : Nat) : State :=
  ((s.setGaf n (fun g => { g with wait := none, waitLeft := if g.inTrap then g.waitLeft else none })).runState n).nextPc n

/-- WAIT (R228): T clears; a wait that a trap interrupted goes on with its remaining time. -/
def State.waitWord (s : State) (n : Nat) : State := s.micro n (fun m _ => m.cls == 7) (fun s _ o =>
  let s := s.setFlag n 4 false
  if s.condHolds n o then s.endWait n
  else
    let limit : Option Nat := match (s.gaf n).waitLeft with
      | some l => if (s.gaf n).inTrap then (if o.tmo = 0 then none else some (tmoUs o)) else l
      | none => if o.tmo = 0 then none else some (tmoUs o)
    let s := s.setGaf n (fun g => { g with wait := some (limit.map (s.now + ·)), waitLeft := if g.inTrap then g.waitLeft else none })
    s.setFld (SEQ_STAT n) SEQ_STAT_STATE 3)

/-- The WAIT that stalls station n. -/
def State.waiting (s : State) (n : Nat) : Option Nano :=
  if s.fld (SEQ_STAT n) SEQ_STAT_STATE ≠ 3 ∨ (s.gaf n).wait.isNone then none
  else match s.fetch n with
    | .word m o => if m.cls = 7 then some o else none
    | .bad _ _ => none

/-- WAIT_SATISFIED (R228). -/
def State.waitSatisfied (s : State) (n : Nat) : State := match s.waiting n with
  | some o => if s.condHolds n o then s.endWait n else s
  | none => s

/-- WAIT_TIMEOUT (R228): T is set. -/
def State.waitTimeout (s : State) (n : Nat) : State := match s.waiting n, (s.gaf n).wait with
  | some o, some (some _) => if s.condHolds n o then s.endWait n else (s.setFlag n 4 true).endWait n
  | _, _ => s

/-! ## BAND, TASK, EVT, TMR, TRAP -/

def State.m (s : State) (n k : Nat) : Nat := ((s.gaf n).m.getD k 0).toNat

/-- BAND_START_WRITE (R226): location in M0, parison in M1; also a BAND of a reserved SUBOP. DEDUCED: log entry 58. -/
def State.bandStartWrite (s : State) (n : Nat) : State := s.micro n (fun m o => m.cls == 10 && (o.subop == 0 || 4 ≤ o.subop)) (fun s m o =>
  if 4 ≤ o.subop then s.illegal n m
  else
    let s := match s.ledger.parisons.find? (fun p => p.id == s.m n 1) with
      | some p => if (s.bw? n).isSome then s else s.startBand n (s.m n 0) p 0
      | none => s
    s.nextPc n)

/-- BAND_START_PASS (R226): location in M0, the handles of the requests and of the band in M1 and M2, flags in M3. -/
def State.bandStartPass (s : State) (n : Nat) : State := s.micro n (fun m o => m.cls == 10 && o.subop == 1) (fun s _ _ =>
  (s.startPass n (s.m n 0) (s.m n 1) (s.m n 2) (s.m n 3)).nextPc n)

/-- BAND_START_CAPTURE (R226): location in M0, epochs in M1, companding in bit 0 of M2. -/
def State.bandStartCapture (s : State) (n : Nat) : State := s.micro n (fun m o => m.cls == 10 && o.subop == 2) (fun s _ _ =>
  (s.startCapture n (s.m n 0) (s.m n 1) ((s.m n 2).testBit 0)).nextPc n)

/-- BAND_TEST_WRITE (R201, R220, R226): layer, power step and base power in M0, the channel-clock count in M1; only a TEST_WRITE step that
CAL_RUN requests writes. -/
def State.bandTestWrite (s : State) (n : Nat) : State := s.micro n (fun m o => m.cls == 10 && o.subop == 3) (fun s _ _ =>
  (if s.testRange n (s.m n 0) || !s.inTask n .calStep || (s.reg (TASK_ARG n 0)).toNat != stepTEST then s
   else match s.testPlace n (s.m n 0) with
     | some s => s.testWrite n (s.m n 0) (s.m n 1)
     | none => s).nextPc n)

/-- The status a RESULT code names; INTERNAL for a code of no status. -/
def codeStatus (k : Nat) : Status :=
  ([Status.ok, .okRecovered, .okDegraded, .invalidOpcode, .invalidField, .vaultNotMounted, .outOfRange, .mediumReadError, .authFail,
    .sealMismatch, .dataPoisoned, .writeVerifyFail, .mediumFull, .abortedByReset, .abortedByHost, .queueFrozen, .stationUnavailable,
    .stationDegraded, .writeHeldTimeout, .dmaFault, .bufferExhausted, .spindleLost, .internal].find? (fun x => statusCode x == k)).getD .internal

/-- R232, R302: what the end of a BAND_WRITE whose band has not been sealed means for its parison: RESULT reaches its WRITEs, and unless
that is a failure it is placed again; a band that is being written goes on without the task unless that fails.
DEDUCED: log entries 59, 203. -/
def State.endWrite (s : State) (n : Nat) (st : Status) : State :=
  if !s.inTask n .bandWrite then s
  else match s.bw? n, s.handParison n with
    | some b, _ => if isFailure st then s.abandon n st else (s.cmdsIn b.par.id).foldl (fun (s : State) i => s.note i st) s
    | none, some p => if isFailure st && p.ckpt.isNone then ({ s with
        ledger.parisons := s.ledger.parisons.filter (fun x => x.id != p.id) } : State).failParison p.id 0 0 st
      else ((s.cmdsIn p.id).foldl (fun (s : State) i => s.note i st) s).returnParison p
    | none, none => s

/-- R232: the task in hand ends with `st`, unless the end of its band has ended it (R234: another may be in hand by then). -/
def State.endHand (s : State) (n : Nat) (st : Status) : State :=
  let u := s.endWrite n st
  if (u.inHand? n).map (·.id) = (s.inHand? n).map (·.id) then u.endTask n st else u

/-- TASK_END (R232): RESULT is IMM, whether or not it is the code of a status; also a TASK of a reserved SUBOP.
DEDUCED: log entry 203. -/
def State.taskEnd (s : State) (n : Nat) : State := s.micro n (fun m o => m.cls == 11 && (o.subop == 0 || 3 ≤ o.subop)) (fun s m o =>
  if 3 ≤ o.subop then s.illegal n m
  else
    (s.endHand n (codeStatus m.imm)).setFld (TASK_STATUS n) TASK_STATUS_RESULT m.imm)

/-- TASK_STEP (R226). -/
def State.taskStep (s : State) (n : Nat) : State := s.micro n (fun m o => m.cls == 11 && o.subop == 1) (fun s m _ =>
  (s.setFld (TASK_STATUS n) TASK_STATUS_STEP (m.imm % 16)).nextPc n)

/-- TASK_SUSPEND (R234): a suspended gaffer takes no second suspension. -/
def State.taskSuspend (s : State) (n : Nat) : State := s.micro n (fun m o => m.cls == 11 && o.subop == 2) (fun s _ _ =>
  if s.bit (TASK_STATUS n) TASK_STATUS_SUSP then s.nextPc n
  else
    let left := match (s.rd n).pass with | some p => p.positions.filter (fun x => (p.at? x.1 x.2).isNone) | none => []
    s.suspend n ((s.pc n + 1) % 2 ^ 14) left)

/-- EVT (R226). DEDUCED: log entry 81. -/
def State.evtWord (s : State) (n : Nat) : State := s.micro n (fun m _ => m.cls == 12) (fun s m _ =>
  (if m.imm < 24 then s.raiseStn n m.imm [] else s).nextPc n)

/-- TMR_ARM (R226); also a TMR of a reserved SUBOP. -/
def State.tmrArm (s : State) (n : Nat) : State := s.micro n (fun m o => m.cls == 13 && (o.subop == 0 || 3 ≤ o.subop)) (fun s m o =>
  if 3 ≤ o.subop then s.illegal n m else (s.setGaf n (fun g => { g with timer := some (s.now + tmoUs o) })).nextPc n)

/-- TMR_DISARM (R226). -/
def State.tmrDisarm (s : State) (n : Nat) : State := s.micro n (fun m o => m.cls == 13 && o.subop == 1) (fun s _ _ =>
  (s.setGaf n (fun g => { g with timer := none })).nextPc n)

/-- TMR_MASK (R226). -/
def State.tmrMask (s : State) (n : Nat) : State := s.micro n (fun m o => m.cls == 13 && o.subop == 2) (fun s _ o =>
  (s.setGaf n (fun g => { g with mask := o.mask })).nextPc n)

/-- TRAP (R226): cause SOFT with INFO = IMM. -/
def State.trapWord (s : State) (n : Nat) : State := s.micro n (fun m _ => m.cls == 14) (fun s m _ => s.syncCause n 15 m.imm)

/-- MICRO_TIMER_EXPIRY (R235). -/
def State.timerExpiry (s : State) (n : Nat) : State :=
  if (s.gaf n).timer.isNone then s else (s.setGaf n (fun g => { g with timer := none })).trapCause n 14 0

/-- TRAP_TAKEN (R235, R236): the lowest cause is taken: line 0 of the trap frame is written and its routine entered. -/
def State.trapTaken (s : State) (n : Nat) : State :=
  let st := s.fld (SEQ_STAT n) SEQ_STAT_STATE
  let can := s.takeable n
  if !s.bit (TASK_STATUS n) TASK_STATUS_BUSY || s.fatal n || !(st == 1 || st == 2 || st == 3) || can == 0 then s
  else
    let c := ((List.range 16).find? (fun i => can.testBit i)).getD 0
    let info := SMap.getD (s.gaf n).info 0 c
    let left : Option (Option Nat) := match (s.gaf n).wait with
      | some (some t) => some (some (t - s.now))
      | some none => some none
      | none => (s.gaf n).waitLeft
    let s := s.writeFrame n 0 (s.frame0 n (s.pc n) c info)
    let s := s.clearCause n c
    let s := s.setGaf n (fun g => { g with inTrap := true, afterRtt := false, wait := none, waitLeft := left, info := SMap.del c g.info })
    let s := (s.setFld (SEQ_TRAP n) SEQ_TRAP_LAST c).bump (SEQ_TRAP n) SEQ_TRAP_COUNT 1
    (s.setFld (SEQ_STAT n) SEQ_STAT_STATE 2).setPc n (16 * c)

end Sys2Proof.Machine
end

