-- ==== Sys2Proof/Machine/Tasks.lean ====
section
/-!
DEFINITION. The tasks that the shipped microcode implements (Table 8.6, R233, R244 to R246), the dispatcher (R319, R323, R26),
the band plan (R29 to R33, R305) and stops (R307, R308).
-/

namespace Sys2Proof.Machine

/-! ## The way to a location -/

def State.way (s : State) (n : Nat) : Option Way := (s.station (toStn n)).way

/-- The way goes on with step `st`. -/
def State.wayNext (s : State) (n : Nat) (w : Way) (st : WayStep) : State :=
  s.setStn (toStn n) (fun t => { t with way := some { w with step := st, since := s.now, seen := t.read.wobbles } })

/-- FOC and TRK are locked. -/
def State.tracking (s : State) (n : Nat) : Bool := s.bit (LP_STAT n 0) LP_STAT_LOCKED && s.bit (LP_STAT n 1) LP_STAT_LOCKED

/-- The last wobble address lies at the band position of `loc` or just before it. -/
def State.near (s : State) (n loc : Nat) : Bool := match (s.rd n).wobble with
  | none => false
  | some a => wobbleLayer a == locLayer loc && wobbleZone a == locZone loc
      && (wobbleBpos a == locBpos loc || wobbleBpos a + 1 == locBpos loc)

/-- Speed valid and tracking in the layer and zone of `loc`, which is about to come (Table 8.6). -/
def State.atPlace (s : State) (n loc : Nat) : Bool :=
  s.bit (MOT_SPST n) MOT_SPST_SPD_VALID && s.tracking n && s.fld (SV_JUMP n) SV_JUMP_CUR == locLayer loc && s.near n loc

/-- The sled is at rest with no move to make. -/
def State.sledRests (s : State) (n : Nat) : Bool := (s.sled n).target.isNone && !s.bit (SLD_STAT n) SLD_STAT_MOVING && !(s.sled n).snow

/-- The sequencer gives the sled a position (R147): in MODE IDLE. -/
def State.placeSled (s : State) (n : Nat) (r : Int) : State := ((s.writeSldCtl n 0 false false).1.writeSldPos n (BitVec.ofInt 32 r)).1

/-- The sequencer sends the sled to `r` (R143). DESIGN CHOICE: log entry 198. -/
def State.sendSled (s : State) (n : Nat) (r : Int) : State :=
  let s := (s.writeSldCtl n 1 false false).1
  ((s.writeSldTarget n (BitVec.ofInt 32 r)).1.writeSldCtl n 1 false true).1

/-- R130, R137, R244: a task sets out for `loc`, or for its first wobble address. While seeking the spindle runs by the curve, SPD's SLOPE is
8,192 and DEMAND the zone's outer radius. DESIGN CHOICE: log entry 198. -/
def State.setOut (s : State) (n loc : Nat) (first : Bool) : State :=
  let z := locZone loc
  let s := if (s.station (toStn n)).slotRun.isSome then s else s.setStn (toStn n) (fun t => { t with slotSpeed := none })
  let w : Way := ⟨loc, first, .spin, s.now, (s.rd n).wobbles, false, 0⟩
  if !first && s.atPlace n loc then s.wayNext n w .there
  else
    let s := if first then s.placeSled n (s.fldInt (SLD_PMIN n) SLD_PMIN_PMIN) else s
    let s := s.setSpindle n (fun p => { p with zone := if first then none else some z })
    let s := s.setFld (LP_SP n 4) LP_SP_SLOPE 8192
    let s := (s.writeSrc n 0 true).1
    let s := (s.writeDemand n (if first then 24000 else (zoneROut z + 500) / 1000) true).1
    ((s.showValid n).checkWrite n).wayNext n w .spin

/-- R245: the first wobble address since the step began, if one has come. -/
def State.newAddress (s : State) (n : Nat) (w : Way) : Option Nat := if w.seen < (s.rd n).wobbles then (s.rd n).wobble else none

/-- One step of the way, as far as the station has come. DESIGN CHOICE: log entry 198. -/
def State.wayPoll (s : State) (n : Nat) (w : Way) : State := match w.step with
  | .spin =>
    if s.spinState n ≠ 4 then s
    else if !w.first && s.tracking n then s.wayNext n w .move
    else (s.acquire n none).wayNext n w .focus
  | .focus => if s.tracking n then ((s.forceMode n 2 2).forceMode n 3 2).wayNext n w .address else s
  | .address => match s.newAddress n w with
    | some a =>
      let s := (s.placeSled n (wobbleRadius10 a)).setFld (SV_JUMP n) SV_JUMP_CUR (wobbleLayer a)
      let s := if w.first then ((s.setSpindle n (fun p => { p with zone := some (wobbleZone a) })).writeSrc n 1 true).1 else s
      s.wayNext n w (if w.first ∨ 0 < w.again then .jump else .move)
    | none =>
      if !w.first ∨ s.now < w.since + 20000 then s
      else if w.homed then s.wayNext n w .lost
      else
        let v := s.fld (SLD_VMAX n) SLD_VMAX_VMAX
        let s := (s.placeSled n (s.fldInt (SLD_PMAX n) SLD_PMAX_PMAX)).setFld (SLD_VMAX n) SLD_VMAX_VMAX 10000
        (s.sendSled n (s.fldInt (SLD_PMIN n) SLD_PMIN_PMIN)).wayNext n { w with homed := true, again := v } .homing
  | .homing =>
    if !s.sledRests n then s
    else ((s.setFld (SLD_VMAX n) SLD_VMAX_VMAX w.again).acquire n none).wayNext n { w with again := 0 } .focus
  | .move =>
    let r := locRadius10 (locLayer w.loc) (locZone w.loc) (locBpos w.loc) 0
    if s.near n w.loc ∨ s.fldInt (SLD_POS n) SLD_POS_POS = r then s.wayNext n w .jump
    else
      let s := (s.forceMode n 1 4).sendSled n r
      s.wayNext n w (if (s.sled n).target.isSome then .moving else .lost)
  | .moving =>
    if !s.sledRests n then s
    else ((s.forceMode n 1 1).setServo n (fun v => { v with seek := some .trk })).wayNext n w .close
  | .close => if s.tracking n then s.wayNext n w .jump else s
  | .jump =>
    if s.fld (SV_JUMP n) SV_JUMP_CUR ≠ locLayer w.loc then (s.jumpStart n (locLayer w.loc)).wayNext n w .jumping
    else if w.first then s.wayNext n w .there
    else
      let s := (s.writeSrc n 1 true).1
      let s := (s.writeSldCtl n 2 false false).1.forceMode n 7 2
      s.wayNext n w .speed
  | .jumping =>
    let st := s.fld (SV_JUMP n) SV_JUMP_STATUS
    if st = 1 then s
    else if st = 2 then s.wayNext n { w with again := 0 } .jump
    else if 2 ≤ w.again then s.wayNext n w .lost
    else (s.acquire n (some (s.loop n 0).y)).wayNext n { w with again := w.again + 1 } .focus
  | .speed =>
    if !s.bit (MOT_SPST n) MOT_SPST_SPD_VALID then s
    else ((s.writeDemand n (demandOf (locRadius10 (locLayer w.loc) (locZone w.loc) (locBpos w.loc) 0)) true).1).wayNext n w .there
  | .there => s
  | .lost => s

/-- The way goes on until a step has to wait; `k` bounds the steps taken at once. DESIGN CHOICE: log entry 198. -/
def State.goOn (s : State) (n : Nat) : Nat → State
  | 0 => s
  | k + 1 => match s.way n with
    | none => s
    | some w =>
      let s := s.wayPoll n w
      if (s.way n).any (fun x => x.step != w.step) then s.goOn n k else s

/-- Where the way to `loc` has come: the head is there, cannot get there, or is on its way. -/
def State.approach (s : State) (n loc : Nat) : State × Option Bool :=
  let s := match s.way n with
    | some w => if w.loc = loc ∧ !w.first then s else s.setOut n loc false
    | none => s.setOut n loc false
  let s := s.goOn n 12
  (s, match s.way n with
    | some w => if w.step = .there then some true else if w.step = .lost then some false else none
    | none => none)

/-! ## The loader (R233) -/

/-- A loader step begins: its AX command is sent. -/
def State.loaderStep (s : State) (n c : Nat) : State :=
  (s.setStn (toStn n) (fun t => { t with loader := some (c, s.now), port.axNew := false })).axSend n c 0

/-- R233: the time limit of a loader step in µs. DESIGN CHOICE: log entry 199. -/
def loaderLimit (c : Nat) : Nat := if c = 2 then 5000000 else if c = 4 then 1000000 else Config.loaderLimit c

/-- The status that ends a loader step (Table 3.10): closed and not busy, locked, unlocked, open and not busy. -/
def loaderDone (c st : Nat) : Bool :=
  if c = 2 then st.testBit 0 && !st.testBit 3 else if c = 4 then st.testBit 2
  else if c = 5 then !st.testBit 2 else !st.testBit 0 && !st.testBit 3

/-- How the loader step in hand stands: done, failed by a fault bit or its limit, or waiting. -/
def State.loaderStands (s : State) (n c since : Nat) : Option Bool :=
  let st := s.fld (STN_AXSTAT n) STN_AXSTAT_STATUS
  let new := (s.station (toStn n)).port.axNew
  if new && st.testBit 4 then some false
  else if new && loaderDone c st then some true
  else if since + loaderLimit c ≤ s.now then some false
  else none

/-! ## The station tasks -/

/-- R233, R245, R246: the task in hand fails with STATION_UNAVAILABLE; a loader failure raises the loader event (R311: the log names it). -/
def State.stationFails (s : State) (n : Nat) (loader : Bool) : State :=
  let cmds := match s.inHand? n with | some t => t.cmds | none => []
  let s := if loader then cmds.foldl (fun (s : State) i => s.noteAt i 0 3 .stationUnavailable) (s.raiseStn n 3 []) else s
  s.endTask n .stationUnavailable

/-- R66, R178, R330: LOAD ends with what the frames of position 0 of zone L decode to. -/
def State.loadEnd (s : State) (n : Nat) (frames : List Bytes) : State :=
  let a := (s.reg (TASK_ARG n 0)).toNat + 2 ^ 32 * (s.reg (TASK_ARG n 1)).toNat
  match leadRecord frames with
  | none => (s.setStn (toStn n) (fun t => { t with loaded := true, ident := [] })).endTask n .mediumReadError
  | some r =>
    let s := s.setStn (toStn n) (fun t => { t with loaded := true, ident := r.take 32 })
    if identityOk r then (s.memWrite a (r.take 32)).endTask n .ok else s.endTask n .mediumReadError

/-- LOAD (R233, R244, R245, R330): the tray closes and locks, the first wobble address gives the radius, layer 0 is reached and the
identity record read; `frames` is what its frames decode to, once the head is there. DEDUCED: log entry 86. -/
def State.load (s : State) (n : Nat) (frames : List Bytes) : State :=
  if !s.inTask n .load then s
  else match s.way n, (s.station (toStn n)).loader with
    | some _, _ =>
      let s := s.goOn n 12
      match s.way n with
      | none => s
      | some w =>
        if w.step = .lost then s.stationFails n false
        else if w.step ≠ .there then s
        else if w.first then (s.setOut n (packLoc 0 63 0) false).goOn n 12
        else s.loadEnd n frames
    | none, none => s.loaderStep n 2
    | none, some (c, since) => match s.loaderStands n c since with
      | none => s
      | some false => s.stationFails n true
      | some true =>
        if c ≠ 2 then (s.setOut n 0 true).goOn n 12
        else if (s.fld (STN_AXSTAT n) STN_AXSTAT_STATUS).testBit 1 then s.loaderStep n 4
        else s.stationFails n true

/-- PARK's acts as far as they have come: DEMAND 0, the optical loops OFF and the sled to SLD_PMIN; then SLD OFF. True: the spindle is OFF,
the sled at SLD_PMIN and the loops OFF. -/
def State.parkHead (s : State) (n : Nat) : State × Bool :=
  let s := match s.way n with
    | some _ => s
    | none =>
      let s := (s.writeDemand n 0 true).1
      let s := [0, 1, 2, 3, 7].foldl (fun (s : State) L => s.forceMode n L 0) s
      (if (s.sled n).v = 0 then s else (s.writeSldCtl n 1 true false).1).wayNext n ⟨0, false, .homing, 0, 0, false, 0⟩ .homing
  let r := s.fldInt (SLD_PMIN n) SLD_PMIN_PMIN
  if !s.sledRests n then (s, false)
  else if s.fldInt (SLD_POS n) SLD_POS_POS ≠ r then (s.sendSled n r, false)
  else if s.spinState n ≠ 0 then (s, false)
  else ((s.writeSldCtl n 0 false false).1.checkWrite n, true)

/-- PARK. DEDUCED: log entry 86. -/
def State.park (s : State) (n : Nat) : State :=
  if !s.inTask n .park then s
  else
    let (s, done) := s.parkHead n
    if done then s.endTask n .ok else s

/-- STOW and RETIRE (R231, R233, R344, R446): parked, unlocked and opened; the disc becomes absent; station BIST runs. -/
def State.stowHead (s : State) (n : Nat) (bist : List BistFind) (retire : Bool) : State := match (s.station (toStn n)).loader with
  | none =>
    let (s, done) := s.parkHead n
    if done then s.loaderStep n 5 else s
  | some (c, since) => match s.loaderStands n c since with
    | none => s
    | some false => s.stationFails n true
    | some true =>
      if c = 5 then s.loaderStep n 3
      else
        let s := (s.setStn (toStn n) (fun t => { t with loaded := false, ident := [] })).discAbsent n
        let s := s.stationBist n bist
        let s := if retire then s.setStn (toStn n) (fun t => { t with retired := true }) else s
        let s := s.endTask n .ok
        if retire then s.failQueued n .stationUnavailable else s

/-- STOW (R233). DEDUCED: log entry 86. -/
def State.stow (s : State) (n : Nat) (bist : List BistFind) : State :=
  if s.inTask n .stow then s.stowHead n bist false else s

/-- RETIRE (R233): the station is retired with it. DEDUCED: log entry 86. -/
def State.retire (s : State) (n : Nat) (bist : List BistFind) : State :=
  if s.inTask n .retire then s.stowHead n bist true else s

/-- SEEK: the location is ARG0's; it fails when a layer jump fails for good (R246). DEDUCED: log entry 86. -/
def State.seek (s : State) (n : Nat) : State :=
  if !s.inTask n .seek then s
  else match s.approach n (s.reg (TASK_ARG n 0)).toNat with
    | (s, some true) => s.endTask n .ok
    | (s, some false) => s.stationFails n false
    | (s, none) => s

/-- SPIN: ARG0 is the demand; it ends when the spindle stands as commanded. DEDUCED: log entry 86. -/
def State.spinTask (s : State) (n : Nat) : State :=
  if !s.inTask n .spin then s
  else
    let s := match s.way n with
      | some _ => s
      | none => ((s.writeDemand n ((s.reg (TASK_ARG n 0)).toNat % 65536) true).1).wayNext n ⟨0, false, .spin, 0, 0, false, 0⟩ .spin
    if s.inTask n .spin && s.spinState n = (if (s.spin n).on then 4 else 0) then s.endTask n .ok else s

/-- The start time of the task in hand (Table 8.6): 0 for at once. -/
def State.startTime (s : State) (n lo hi : Nat) : Nat := (s.reg (TASK_ARG n lo)).toNat + 2 ^ 32 * (s.reg (TASK_ARG n hi)).toNat

/-- BAND_WRITE (R195, R202, R246): the band takes its parison and waits for its slot 0; one with a start time waits for that (R231; a plan slot's starts it, R31).
A spindle that stands still leaves it waiting (R139). DEDUCED: log entries 58, 86. -/
def State.bandWrite (s : State) (n : Nat) : State :=
  if !s.inTask n .bandWrite || (s.bw? n).isSome then s
  else match s.ledger.parisons.find? (fun p => p.id == (s.reg (TASK_ARG n 1)).toNat) with
    | none => s.endTask n .invalidField
    | some p =>
      let loc := (s.reg (TASK_ARG n 0)).toNat
      match s.approach n loc with
      | (s, some false) => (s.returnParison p).endTask n .stationUnavailable
      | (s, some true) => if s.stamp < s.startTime n 2 3 ∨ (s.station (toStn n)).slotRun.isSome then s else s.startBand n loc p 0
      | (s, none) =>
        if (s.spin n).on ∨ s.stamp < s.startTime n 2 3 ∨ (s.station (toStn n)).slotRun.isSome then s else (s.startBand n loc p 0).beginWait n

/-- R32: the slot is skipped; the last one leaves the plan exhausted (R33). DEDUCED: log entry 67. -/
def State.skipSlot (s : State) (n : Nat) : State := (s.raiseStn n 16 []).slotOver n

/-- The slot in hand does not run: its task ends, a parison that it took goes back. DESIGN CHOICE: log entry 200. -/
def State.dropSlot (s : State) (n : Nat) (skip : Bool) : State :=
  let s := match s.handParison n with
    | some p => s.returnParison p
    | none => s
  let s := if skip then s.skipSlot n else s.setStn (toStn n) (fun t => { t with slotRun := none, slotOn := false, planNew := false, slotDue := false })
  s.endTask n .ok

/-- R31, R32: the slot would run late: its first revolution after the start time has passed. -/
def State.slotLate (s : State) (p : PlanSlot) : Bool := p.start != 0 && decide (p.start + 120000000 / max 1 p.speed < s.stamp)

/-- R31: the head is at the slot's starting frame position. -/
def State.atSlotStart (s : State) (n : Nat) (p : PlanSlot) : Bool := match (s.rd n).wobble with
  | some a => wobbleLayer a == locLayer p.loc && wobbleZone a == locZone p.loc && wobbleBpos a == locBpos p.loc && wobbleFpos a == p.loc / 16 % 128
  | none => false

/-- R31: a read slot that is due begins at its starting frame position, on the first revolution after its start time. -/
def State.readSlotBegins (s : State) (n : Nat) (p : PlanSlot) : State :=
  if !(s.station (toStn n)).slotDue then s
  else if s.slotLate p then s.dropSlot n true
  else if !s.atSlotStart n p then s
  else (s.setStn (toStn n) (fun t => { t with slotOn := true, slotDue := false, slotSince := s.now })).bandRead n true

/-- BAND_READ (R180). -/
def State.bandReadTask (s : State) (n : Nat) : State :=
  if !s.inTask n .bandRead then s
  else match s.approach n (s.reg (TASK_ARG n 0)).toNat with
    | (s, some ok) => (match (s.station (toStn n)).slotRun with
      | some p => if (s.station (toStn n)).slotOn then s.bandRead n ok else if ok then s.readSlotBegins n p else s
      | none => s.bandRead n ok)
    | (s, none) => s

/-- CAPTURE (R189). -/
def State.captureTask (s : State) (n : Nat) : State :=
  if !s.inTask n .capture || (s.rd n).cap.isSome then s
  else match s.approach n (s.reg (TASK_ARG n 0)).toNat with
    | (s, some ok) => s.captureStart n ok
    | (s, none) => s

/-! ## Stops (R307, R308) -/

/-- The task in hand is stopped with reason 2. DEDUCED: log entries 59, 70. -/
def State.stopHand (s : State) (n : Nat) : State :=
  if !s.bit (TASK_STATUS n) TASK_STATUS_BUSY then s
  else
    let s := s.trapCause n 13 2
    if s.inTask n .calStep then (s.note (s.stepCmd n) .abortedByHost).stnStepEnd n 5 0xFF []
    else if s.inTask n .bandWrite then
      match s.bw? n with
      | some _ => s.abandon n .abortedByHost
      | none => (s.endWrite n .abortedByHost).endTask n .abortedByHost
    else s.endTask n .abortedByHost

/-- R308: FORCE stops the task in hand and the suspended one, which a gaffer that holds nothing else takes up first. -/
def State.forceStop (s : State) (n : Nat) : State :=
  let s := s.stopHand n
  (if s.bit (TASK_STATUS n) TASK_STATUS_SUSP && !s.bit (TASK_STATUS n) TASK_STATUS_BUSY then s.resumeSuspended n else s).stopHand n

/-- A change of mode (R29): at once if the station is idle, else at its next band boundary. DEDUCED: log entry 165. -/
def State.selectMode (s : State) (n : Nat) (planned : Bool) : State :=
  let s := s.setStn (toStn n) (fun t => { t with wantPlanned := some planned })
  if s.holdsTask n then s else s.applyMode n

/-! ## The dispatcher (R319) -/

/-- A BAND_WRITE of a checkpoint goes ahead of the data bands of its disc (R337). -/
def Task.ckpt (t : Task) : Bool := t.kind == .bandWrite && t.first

/-- The commands a task serves: those of its parison for a BAND_WRITE. -/
def State.served (s : State) (t : Task) : List Nat :=
  if t.kind = .bandWrite then s.cmdsIn (t.args.getD 1 0) else t.cmds

/-- R321: one of its commands is aged. -/
def State.agedTask (s : State) (t : Task) : Bool :=
  (s.served t).any (fun i => match s.cmd? i with | some c => c.aged | none => false)

/-- The first of a list in admission order. DEDUCED: log entry 37. -/
def firstTask (l : List Task) : Option Task :=
  l.foldl (fun (b : Option Task) t => match b with
    | none => some t
    | some x => if t.order < x.order ∨ (t.order = x.order ∧ t.id < x.id) then some t else some x) none

/-- R26: a capture's rate, in 10 MB/s, and the rates of the captures that run or are suspended. -/
def captureRate (comp : Bool) : Nat := if comp then 336 else 504

def State.captureLoad (s : State) : Nat :=
  let of (t : Task) : Nat := if t.kind = .capture then captureRate ((t.args.getD 2 0) % 2 == 1) else 0
  ((s.work.inHand ++ s.work.suspended).map (fun e => of e.2)).sum

/-- Planned mode (R31, R33): a read slot serves reads of its disc for its duration; between slots the station serves what is no
work of the plan; when the plan has run out it stays idle. A change of mode, and a forced action (R308), wait for no slot. -/
def State.planAllows (s : State) (n : Nat) (t : Task) : Bool :=
  let x := s.station (toStn n)
  if !x.planned || t.kind == .mode || t.first && !t.ckpt then true
  else if x.planOut then false
  else match x.slotRun with
    | some p => x.slotOn && p.read && t.kind == .bandRead && !x.planNew && decide (s.now - x.slotSince < p.dur)
    | none => t.kind != .bandRead && (t.kind != .bandWrite || t.ckpt)

/-- The tasks that station n may be handed now. -/
def State.eligible (s : State) (n : Nat) : List Task :=
  s.work.tasks.filter (fun t => t.stn == n && s.planAllows n t && !(t.kind == .bandWrite && s.tooHot) &&
    (t.kind != .capture || decide (s.captureLoad + captureRate ((t.args.getD 2 0) % 2 == 1) ≤ 4000)))

/-- R319: the task that is next, and whether it is taken in the turn of STANDARD and BULK (none: not).
DEDUCED: log entries 37, 38. -/
def State.nextTask (s : State) (n : Nat) : Option (Task × Option Bool) :=
  let l := s.eligible n
  let forced := l.filter (fun t => t.first && !t.ckpt)
  let sch := l.filter (fun t => t.cls == 1 && !t.ckpt)
  let aged := l.filter (fun t => t.ckpt || s.agedTask t)
  let std := l.filter (fun t => t.cls == 0 && !t.ckpt)
  let blk := l.filter (fun t => t.cls == 2 && !t.ckpt)
  let pick := match firstTask forced, firstTask sch, firstTask aged, firstTask std, firstTask blk with
    | some t, _, _, _, _ => some (t, none)
    | none, some t, _, _, _ => some (t, none)
    | none, none, some t, _, _ => some (t, none)
    | none, none, none, some a, some b =>
      if 4 ≤ SMap.getD s.work.stdRun 0 n then some (b, some false) else some (a, some true)
    | none, none, none, some a, none => some (a, none)
    | none, none, none, none, b => b.map (fun b => (b, none))
  match pick with
  | none => none
  | some (t, turn) =>
    if t.kind = .bandWrite then
      match firstTask (l.filter Task.ckpt) with
      | some c => some (c, if t.ckpt then turn else none)
      | none => some (t, turn)
    else some (t, turn)

/-- R300, R342: the VAULT_UNMOUNTs whose checkpoint parison `p` is part of. -/
def State.unmounts (s : State) (p : Parison) : List Nat :=
  if p.ckpt.isNone then []
  else (s.work.cmds.filter (fun c => capOPC c.caps == 0x0A && capVAULT c.caps == p.vault && !c.ended && !c.held)).map (·.id)

/-- R29, R306: an action that selects a mode has its turn. DEDUCED: log entry 165. -/
def State.modeTask (s : State) (n : Nat) (t : Task) : State :=
  let s : State := { s with work.tasks := s.work.tasks.filter (fun x => x.id != t.id) }
  (s.selectMode n (t.args.headD 0 == 1)).taskResult t .ok

/-- The task is handed over, a BAND_WRITE with the next position of its disc; a parison that cannot go there is placed again. -/
def State.giveTask (s : State) (n : Nat) (t : Task) : State :=
  if t.kind = .mode then s.modeTask n t
  else if t.kind ≠ .bandWrite then s.handOver n t
  else
    let drop : State := { s with work.tasks := s.work.tasks.filter (fun x => x.id != t.id) }
    match s.taskParison t with
    | none => drop
    | some p => match s.disc? p.vault (p.disc.getD 0) with
      | none => drop.returnParison p
      | some d => match d.nextPos with
        | none => drop.returnParison p
        | some l =>
          if d.stn ≠ some n then drop.returnParison p
          else
            let s := (s.served t ++ s.unmounts p).foldl (fun (s : State) i => s.setCmd i (fun c => { c with started := true })) s
            s.handOver n { t with args := [l, p.id, 0, 0, 0, 0] }

/-! ## The band plan (R31 to R33, R305) -/

/-- One slot of Table 11.6; none: a KIND, a reserved byte, or a write slot's DUR or starting slot that is not as the table says.
DEDUCED: log entry 131. -/
def readSlot (b : Bytes) : Option PlanSlot :=
  let k := leNat (slice b 0 1)
  let z := leNat (slice b 1 1) + leNat (slice b 28 4) + leNat (slice b 40 24)
  let w := leNat (slice b 4 4) / 16 % 128 + leNat (slice b 24 4)
  if 2 ≤ k ∨ z ≠ 0 ∨ (k = 0 ∧ w ≠ 0) then none
  else some ⟨k == 1, leNat (slice b 2 2), leNat (slice b 4 4), leNat (slice b 8 4), leNat (slice b 12 4), leNat (slice b 16 8),
    leNat (slice b 24 4), leNat (slice b 32 8)⟩

/-- R305: a plan of slots replaces or extends the station's; a slot that waits for its start goes with the old one. False: it would exceed
65,536 slots. -/
def State.takePlan (s : State) (n : Nat) (l : List PlanSlot) (append : Bool) : State × Bool :=
  let x := s.station (toStn n)
  if append then
    if 65536 < x.plan.length + l.length then (s, false)
    else (s.setStn (toStn n) (fun t => { t with plan := t.plan ++ l, planOut := t.planOut && l.isEmpty }), true)
  else if 65536 < l.length then (s, false)
  else
    let s := s.setStn (toStn n) (fun t => { t with plan := l, planOut := t.planOut && l.isEmpty })
    match x.slotRun with
    | some p =>
      (if !x.slotOn then s.dropSlot n false
       else if p.read then
        let s := s.setStn (toStn n) (fun t => { t with planNew := true })
        if s.bit (TASK_STATUS n) TASK_STATUS_BUSY then s.trapCause n 13 3 else s
      else s, true)
    | none => (s, true)

/-- The parison that a write slot of vault `v` on disc `d` takes (R31): the oldest due one, not begun. DEDUCED: log entry 58. -/
def State.slotParison (s : State) (n v d : Nat) : Option Parison :=
  s.ledger.parisons.find? (fun p => p.vault == v && p.due && p.ckpt.isNone &&
    (p.disc.isNone || (p.disc == some d && s.work.tasks.any (fun t => t.stn == n && t.kind == .bandWrite && t.args.getD 1 0 == p.id))))

/-- The slot is taken up, and its task handed to the gaffer with its start time (R231). -/
def State.handSlot (s : State) (n : Nat) (p : PlanSlot) (t : Task) : State :=
  let s := s.setStn (toStn n) (fun x => { x with
    plan := x.plan.drop 1, slotRun := some p, slotOn := false, planNew := false, slotDue := false, slotSpeed := some p.speed })
  s.handOver n { t with id := s.work.nextTask }

/-- R31, R231: an idle station in planned mode takes up the next slot of its plan: a write slot once a complete image of its vault waits and
its place is the layer's next (R64), a read slot as a BAND_READ of its location that asks for no frame. One whose start time has passed
is skipped (R32). Its start time is ARG2 and ARG3 of a
write, ARG3 and ARG5 of a read. DESIGN CHOICE: log entry 200. -/
def State.planHand (s : State) (n : Nat) : State :=
  let x := s.station (toStn n)
  match x.slotRun, x.plan with
  | none, p :: _ => match s.disc? p.vault p.disc with
    | none => s
    | some d =>
      let s : State := { s with work.nextTask := s.work.nextTask + 1 }
      let lo := p.start % 2 ^ 32
      let hi := p.start / 2 ^ 32
      if d.stn ≠ some n || !x.loaded || !x.planned || x.planOut then s
      else if p.start ≠ 0 && !s.bit CLK_STAT CLK_STAT_UNSET && decide (p.start < s.stamp) then
        (s.setStn (toStn n) (fun t => { t with plan := t.plan.drop 1 })).skipSlot n
      else if p.read then s.handSlot n p ⟨0, n, .bandRead, [], 0, s.work.nextId, [p.loc, 0, 0, lo, 0, hi], false, [], false⟩
      else if s.bindWait p.vault d then s
      else match s.slotParison n p.vault d.idx with
        | none => s
        | some q =>
          let loc := p.loc / 2048 * 2048
          if !(d.frontier.any (fun f => f == loc)) || d.full then s
          else
            let s : State := { s with
              work.tasks := s.work.tasks.filter (fun t => !(t.kind == .bandWrite && t.args.getD 1 0 == q.id)),
              ledger.parisons := s.ledger.parisons.map (fun (x : Parison) => if x.id = q.id then { x with disc := some d.idx } else x) }
            let s := (s.cmdsIn q.id).foldl (fun (s : State) i => s.setCmd i (fun c => { c with started := true })) s
            s.handSlot n p ⟨0, n, .bandWrite, [], 0, (s.cmdsIn q.id).foldl min s.work.nextId, [loc, q.id, lo, hi, 0, 0], false, [], false⟩
  | _, _ => s

/-- R31: the place of a write slot is shown, and its own strategy set sent. DEDUCED: log entry 65. -/
def State.slotSet (s : State) (n : Nat) (p : PlanSlot) : State :=
  let loc := p.loc / 2048 * 2048
  (s.setReg (WR_BAND n) (BitVec.ofNat 32 loc)).sendSet n (locLayer loc) (locZone loc) p.stab

/-- R31, R32: the slot in hand begins at its start time, a read slot once its starting frame position comes, or is skipped: it would be late, its
place is not reached, its clock is unset, or a write's preconditions are not met. DEDUCED: log entry 67. -/
def State.beginSlot (s : State) (n : Nat) (p : PlanSlot) : State :=
  let (s, r) := s.approach n (s.reg (TASK_ARG n 0)).toNat
  let on (s : State) : State := s.setStn (toStn n) (fun t => { t with slotOn := true, slotSince := s.now })
  if r ≠ some true ∨ (p.start ≠ 0 ∧ s.bit CLK_STAT CLK_STAT_UNSET) ∨ s.slotLate p then s.dropSlot n true
  else if p.read then (s.setStn (toStn n) (fun t => { t with slotDue := true })).readSlotBegins n p
  else
    let loc := p.loc / 2048 * 2048
    let s := s.slotSet n p
    match s.inHand? n with
    | none => s.dropSlot n true
    | some t => match s.taskParison t with
      | none => s.dropSlot n true
      | some q =>
        if !(s.preBitsAt n loc (fun x => x.1 == p.stab)).all id || s.tooHot then s.dropSlot n true
        else (on s).startBand n loc q p.stab

/-- PLAN_SLOT_START (R31 to R33, R355): the start time of the next slot of the plan has come: the slot in hand begins or is skipped; one that
the station has not taken up is skipped, never run late. DEDUCED: log entry 67. -/
def State.planSlotStart (s : State) (n : Nat) : State :=
  let x := s.station (toStn n)
  let due (p : PlanSlot) : Bool := p.start == 0 || decide (p.start ≤ s.stamp) || s.bit CLK_STAT CLK_STAT_UNSET
  if !x.planned || s.fatal n then s
  else match x.slotRun, x.plan with
    | some p, rest =>
      if !x.slotOn then (if due p then s.beginSlot n p else s)
      else match rest with
        | [] => s
        | q :: l => if q.start ≠ 0 && due q then (s.setStn (toStn n) (fun t => { t with plan := l })).raiseStn n 16 [] else s
    | none, [] => s
    | none, p :: l => if due p then (s.setStn (toStn n) (fun t => { t with plan := l })).skipSlot n else s

/-! ## Dispatch -/

/-- R323, R234: a schuss task waits behind another: a pre-emption is requested, and taken at once before a write's first slot. -/
def State.askPreempt (s : State) (n : Nat) : State :=
  let waits := (s.eligible n).any (fun t => t.cls == 1 && !t.ckpt)
  let hand := match s.inHand? n with | some t => t.cls == 1 && !t.ckpt | none => false
  if !waits || hand || s.bit (TASK_STATUS n) TASK_STATUS_SUSP || (s.station (toStn n)).planned then s
  else
    let s := s.setGaf n (fun g => { g with preempt := true })
    match s.bw? n with
    | some b => if b.begun then s else s.preemptPoint n
    | none => if s.inTask n .bandWrite then s.preemptPoint n else s

/-- A read slot whose time is over, or whose plan has been replaced, ends with no read in progress. -/
def State.readSlotOver (s : State) (n : Nat) : State :=
  let x := s.station (toStn n)
  match x.slotRun with
  | some p => if x.slotOn && p.read && (x.planNew || decide (p.dur ≤ s.now - x.slotSince)) then s.slotOver n else s
  | none => s

/-- DISPATCH (R319, R229, R234, R242, R425): an idle gaffer is handed the next task of its station. DEDUCED: log entry 38. -/
def State.dispatch (s : State) (n : Nat) : State :=
  if !(s.work.tasks.any (fun t => t.stn == n)) && !s.bit (TASK_STATUS n) TASK_STATUS_SUSP && !(s.station (toStn n)).planned then s
  else if !s.isOn (domSTN n) then s.wake (domSTN n)
  else if s.work.hold && s.bit (SEQ_BANK n) SEQ_BANK_PEND then s
  else if s.bit (TASK_STATUS n) TASK_STATUS_BUSY then s.askPreempt n
  else if s.bit (TASK_STATUS n) TASK_STATUS_SUSP then
    match s.nextTask n with
    | some (t, _) => if t.cls = 1 && !t.ckpt || t.first && !t.ckpt then s.giveTask n t else s.resumeSuspended n
    | none => s.resumeSuspended n
  else match s.nextTask n with
    | none => (s.readSlotOver n).planHand n
    | some (t, turn) =>
      let run := SMap.getD s.work.stdRun 0 n
      let s : State := { s with work.stdRun := SMap.put s.work.stdRun 0 n (match turn with | some true => run + 1 | some false => 0 | none => run) }
      s.giveTask n t

/-- COMMAND_AGED (R321). -/
def State.commandAged (s : State) (id : Nat) : State := match s.cmd? id with
  | none => s
  | some c =>
    if c.started || c.ended || s.cmdCls c == 1 || decide (s.now < c.admitted + 500000) then s
    else s.setCmd id (fun c => { c with aged := true })

/-! ## Activation of microcode (R242, R243, Table 8.9) -/

/-- FW_ACTIVATE of microcode by command `id`: the device bank changes and every station is to switch. -/
def State.activateMicro (s : State) (id : Nat) : State :=
  let b := 1 - s.fld (SEQ_BANK 0) SEQ_BANK_DEV
  let s : State := { s with work.hold := true, work.activation := some id }
  let s := (List.range 16).foldl (fun (s : State) n => (s.setFld (SEQ_BANK n) SEQ_BANK_DEV b).setBit (SEQ_BANK n) SEQ_BANK_PEND true) s
  (List.range 16).foldl (fun (s : State) n =>
    if s.holdsTask n && s.isOn (domSTN n) && !s.fatal n then s else s.switchBank n) s

/-- ACTIVATION_DISPATCH_TIMEOUT (R242): the hold on dispatch ends. -/
def State.holdEnds (s : State) : State := { s with work.hold := false }

end Sys2Proof.Machine
end

