-- ==== Sys2Proof/Machine/Security.lean ====
section
/-!
DEFINITION. Keys (R346 to R348), the clock (R354, R355), firmware images (R367 to R371), the life cycle (R362, R365, R372 to
R378) and what JTAG may reach (R374, R375).
-/

namespace Sys2Proof.Machine

/-! ## Keys -/

/-- R347: the device KEK. -/
def State.deviceKek (s : State) : Option Bytes :=
  s.sec.seed.map (fun x => hkdf32 x (ascii "VK1640 kek" ++ [BitVec.ofNat 8 s.sec.kekGen]))

/-- R347: the private seed of the identity key. -/
def State.idSeed (s : State) : Option Bytes := s.sec.seed.map (fun x => hkdf32 x (ascii "VK1640 identity"))

/-- R348: the KEK in force. DEDUCED: log entry 98. -/
def State.kek (s : State) : Option Bytes := match s.deviceKek, s.sec.okek with
  | none, _ => none
  | some k, none => some k
  | some k, some w => keyUnwrap k w

/-- R362: the identity public key is shown. -/
def State.showIdentity (s : State) : State :=
  let pub := match s.idSeed with | some x => edPub x | none => zeros 32
  (List.range 8).foldl (fun (s : State) i => s.setReg (ID_PUB i) (BitVec.ofNat 32 (leNat (slice pub (4 * i) 4)))) s

/-- R253: the Device Serial Number of an identity public key. -/
def serialOf (pub : Bytes) : Nat := leNat ((sha512 pub).take 8)

/-- R346, R372: LC_NONCE is renewed; while the source fails it cannot be.
DESIGN CHOICE: log entry 6. DEDUCED: log entries 95, 213. -/
def State.renewNonce (s : State) : State :=
  if !s.sec.entropyOk then s
  else
    let (b, s) := s.entropy 8
    (s.setReg LC_NONCE_LO (BitVec.ofNat 32 (leNat (b.take 4)))).setReg LC_NONCE_HI (BitVec.ofNat 32 (leNat (b.drop 4)))

/-- LC_NONCE. -/
def State.nonce (s : State) : Nat := (s.reg LC_NONCE_LO).toNat + 2 ^ 32 * (s.reg LC_NONCE_HI).toNat

/-- R365, R366, R369, R372: the registers whose fields come from OTP and flash show them. DEDUCED: log entry 96. -/
def State.showOtp (s : State) : State :=
  let s := s.setFld LC_STAT LC_STAT_STATE s.sec.lc
  let s := (s.setBit LC_STAT LC_STAT_OWNER s.sec.ownerDig.isSome).setBit LC_STAT LC_STAT_OKEK s.sec.okek.isSome
  let s := (s.setFld FW_SVN FW_SVN_SVN0 (s.sec.svn.getD 0 0)).setFld FW_SVN FW_SVN_SVN1 (s.sec.svn.getD 1 0)
  let s := (s.setFld FW_STAT FW_STAT_SLOT0 (s.sec.slot.getD 0 0)).setFld FW_STAT FW_STAT_SLOT1 (s.sec.slot.getD 1 0)
  let s := (s.setBit FW_STAT FW_STAT_STG0 (s.sec.staged.getD 0 false)).setBit FW_STAT FW_STAT_STG1 (s.sec.staged.getD 1 false)
  s.showIdentity

/-! ## The certificate chain (R362) -/

/-- One DER element: its tag, its content and what follows. -/
def derNext (b : Bytes) : Option (Nat × Bytes × Bytes) := match b with
  | t :: l :: r =>
    let k := l.toNat
    if k < 128 then (if k ≤ r.length then some (t.toNat, r.take k, r.drop k) else none)
    else
      let n := k - 128
      let len := beNat (r.take n)
      let r := r.drop n
      if n ≤ 4 ∧ len ≤ r.length then some (t.toNat, r.take len, r.drop len) else none
  | _ => none

/-- The elements of a DER content, in order. -/
def derList : Nat → Bytes → List (Nat × Bytes)
  | 0, _ => []
  | k + 1, b => match derNext b with
    | some (t, c, r) => (t, c) :: derList k r
    | none => []

/-- The subject public key of a certificate, if it is an Ed25519 key: SEQUENCE (OID 1.3.101.112), BIT STRING. -/
def certKey (cert : Bytes) : Option Bytes :=
  match derList 3 cert with
  | (0x30, body) :: _ => match derList 3 body with
    | (0x30, tbs) :: _ =>
      let l := derList 12 tbs
      let l := match l with | (0xA0, _) :: r => r | r => r
      (match l[5]? with
        | some (0x30, spki) => (match derList 2 spki with
          | [(0x30, alg), (0x03, key)] =>
            if alg = [0x06#8, 0x03#8, 0x2b#8, 0x65#8, 0x70#8] ∧ key.length = 33 ∧ key.head? = some 0#8 then some (key.drop 1) else none
          | _ => none)
        | _ => none)
    | _ => none
  | _ => none

/-- The last certificate of a chain, which begins with the maker's root. -/
def leafCert : Nat → Bytes → Option Bytes
  | 0, _ => none
  | k + 1, b => match derNext b with
    | none => none
    | some (_, _, []) => some b
    | some (_, _, r) => leafCert k r

/-- R362: does the stored chain's leaf carry the identity key? -/
def State.certOk (s : State) : Bool := match s.idSeed, leafCert 64 s.sec.cert with
  | some x, some c => certKey c == some (edPub x)
  | _, _ => false

/-! ## Firmware images (R367, R368, R371) -/

def imgSvn (b : Bytes) : Nat := leNat (slice b 8 4)
def imgLen (b : Bytes) : Nat := leNat (slice b 12 4)
def imgVer (b : Bytes) : Nat := leNat (slice b 16 8)
def imgCommit (b : Bytes) : Bool := (slice b 7 1).any (fun x => x.getLsbD 0)

/-- R368, R371: the checks of an image of target `t`. -/
def State.imageOk (s : State) (t : Nat) (b : Bytes) : Bool :=
  let part := match s.part with | .vk1640 => 0 | .vk1608 => 1
  decide (256 < b.length) && b.take 4 == [0x56#8, 0x4B#8, 0x46#8, 0x57#8] && leNat (slice b 4 2) == 1 && leNat (slice b 6 1) == t
  && b.length == 256 + imgLen b && (leNat (slice b 24 8)).testBit part
  && (match s.sec.fwDig with | some d => sha512 (slice b 32 32) == d | none => true)
  && edVerify (slice b 32 32) (b.take 192) (slice b 192 64) && sha512 (b.drop 256) == slice b 64 64
  && decide (s.sec.svn.getD t 0 ≤ imgSvn b)

/-- The image in a flash slot of target `t`. -/
def State.slotImage (s : State) (t k : Nat) : Option Bytes := SMap.get? s.sec.images (2 * t + k)

/-- R223, R241, R368: an image goes into a microcode bank; one that failed its check leaves the bank invalid.
DESIGN CHOICE: log entries 9, 10. -/
def State.loadBank (s : State) (b : Nat) (img : Bytes) (ok : Bool) : State :=
  let m : SMap Nat := if ok then (Config.imageMicro (img.drop 256)).foldl (fun (m : SMap Nat) e => SMap.put m 0 (e.1 % 16384) (e.2 % 2 ^ 27)) [] else []
  let n : SMap Nat := if ok then (Config.imageNano (img.drop 256)).foldl (fun (m : SMap Nat) e => SMap.put m 0 (e.1 % 4096) (e.2 % 2 ^ 136)) [] else []
  let img := if ok then img else []
  if b = 0 then { s with stores.microA := m, stores.nanoA := n, stores.okA := ok, stores.imgA := img }
  else { s with stores.microB := m, stores.nanoB := n, stores.okB := ok, stores.imgB := img }

/-- FW_STAGE (R241, R368): the image is written to the slot not in force, and for microcode to the bank not in force, and
checked. -/
def State.fwStage (s : State) (t : Nat) (img : Bytes) : State × Status :=
  let k := 1 - s.sec.slot.getD t 0
  let dev := s.fld (SEQ_BANK 0) SEQ_BANK_DEV
  if img.length ≠ 256 + imgLen img then (s, .invalidField)
  else if t = 1 ∧ (s.work.activation.isSome ∨ (List.range 16).any (fun n => s.fld (SEQ_BANK n) SEQ_BANK_CUR != dev)) then (s, .invalidField)
  else
    let ok := s.imageOk t img
    let s : State := { s with
      sec.images := if ok then SMap.ins (2 * t + k) img s.sec.images else SMap.del (2 * t + k) s.sec.images,
      sec.staged := s.sec.staged.set t ok }
    let s := if t = 1 then s.loadBank (1 - dev) img ok else s
    let s := s.setBit FW_STAT (if t = 0 then FW_STAT_STG0 else FW_STAT_STG1) ok
    if ok then (s, .ok) else ((s.setBit FW_STAT (if t = 0 then FW_STAT_BAD0 else FW_STAT_BAD1) true).raise 37 [t], .invalidField)

/-- R369: the staged slot of target `t` becomes the one in force; COMMIT burns the count. -/
def State.takeSlot (s : State) (t : Nat) : State :=
  let k := 1 - s.sec.slot.getD t 0
  let img := (s.slotImage t k).getD []
  let s : State := { s with sec.slot := s.sec.slot.set t k, sec.staged := s.sec.staged.set t false }
  let s : State := if imgCommit img && decide (s.sec.svn.getD t 0 < imgSvn img) then { s with sec.svn := s.sec.svn.set t (imgSvn img) } else s
  s.showOtp.setReg (FW_VER t) (BitVec.ofNat 32 (imgVer img))

/-- FW_ACTIVATE of firmware (R318, R369): the bench core restarts on the staged image; the command ends when it runs again.
DEDUCED: log entry 93. -/
def State.activateFirmware (s : State) (id : Nat) : State :=
  if !s.sec.staged.getD 0 false then s.finishWith id .invalidField
  else
    let s := s.takeSlot 0
    { s with sec.benchUp := false }

/-- FW_ACTIVATE of microcode (R242, R369). -/
def State.activateMicrocode (s : State) (id : Nat) : State :=
  if !s.sec.staged.getD 1 false then s.finishWith id .invalidField
  else (s.takeSlot 1).activateMicro id

/-! ## The life cycle -/

/-- R373: is a token valid for one of the kinds? -/
def State.tokenOk (s : State) (kind : Nat) (b : Bytes) : Bool :=
  let signer := some (sha512 (slice b 32 32))
  let key := if kind = 2 then signer == s.sec.makerDig || signer == s.sec.ownerDig
    else if kind = 4 ∨ kind = 5 then signer == s.sec.ownerDig else signer == s.sec.makerDig
  b.length == 128 && b.take 4 == [0x56#8, 0x4B#8, 0x54#8, 0x4B#8] && leNat (slice b 4 1) == kind && leNat (slice b 8 8) == s.sec.serial
  && leNat (slice b 16 8) == s.nonce && key && edVerify (slice b 32 32) (b.take 64) (slice b 64 64)

/-- R364: every secure session ends. -/
def State.endSessions (s : State) : State := { s with pcie.sessions := [] }

/-- R372, R374: a transition to state `k`: sessions and debug grants end. DEDUCED: log entry 96. -/
def State.toLc (s : State) (k : Nat) : State :=
  let s : State := { s with sec.lc := k }
  let s := ((s.setFld LC_STAT LC_STAT_STATE k).setBit LC_STAT LC_STAT_DBG false).setBit LC_STAT LC_STAT_TELEM false
  s.endSessions

/-- R378: a vault is mounted, or being mounted. -/
def State.anyVault (s : State) : Bool := !s.ledger.vaults.isEmpty || !s.ledger.mounting.isEmpty

/-- R376: the keys are zeroised. -/
def State.zeroise (s : State) : State :=
  let s : State := { s with sec.okek := none, sec.dir := [], sec.kekGen := s.sec.kekGen + 1 }
  s.setBit LC_STAT LC_STAT_OKEK false

/-- R372: a command ends with RESULT `r`; the nonce is renewed whatever it is. -/
def State.lcDone (s : State) (r : Nat) : State := (s.setFld LC_STAT LC_STAT_RESULT r).renewNonce

/-- ENTER_MAKER (R372): the part leaves BLANK. DESIGN CHOICE: log entry 6. -/
def State.enterMaker (s : State) (tok : Bytes) : State :=
  if s.sec.lc ≠ 0 then s.lcDone 1
  else if !s.sec.entropyOk then s.lcDone 5
  else
    let (seed, s) := s.entropy 32
    let s : State := { s with sec.seed := some seed, sec.kekGen := 0, sec.makerDig := some (sha512 (tok.take 32)),
                              sec.fwDig := some (sha512 (slice tok 32 32)) }
    let pub := match s.idSeed with | some x => edPub x | none => zeros 32
    let s : State := { s with sec.serial := serialOf pub }
    ((s.toLc 1).showIdentity).lcDone 0

def State.enterField (s : State) (tok : Bytes) : State :=
  if s.sec.lc ≠ 1 ∨ ¬ s.bit LC_STAT LC_STAT_CERT then s.lcDone 1
  else if !s.tokenOk 6 (tok.take 128) then s.lcDone 2
  else (s.toLc 2).lcDone 0

def State.enterReturn (s : State) (tok : Bytes) : State :=
  if s.sec.lc ≠ 2 then s.lcDone 1
  else if s.sec.ownerDig.isNone then s.lcDone 4
  else if s.anyVault then s.lcDone 3
  else if !s.tokenOk 3 (tok.take 128) || !s.tokenOk 4 (slice tok 128 128) then s.lcDone 2
  else (s.zeroise.toLc 3).lcDone 0

def State.enterScrap (s : State) (tok : Bytes) : State :=
  if s.sec.lc = 4 then s.lcDone 1
  else if s.anyVault then s.lcDone 3
  else if s.sec.lc = 2 ∧ s.sec.ownerDig.isSome ∧ ¬ s.tokenOk 5 (tok.take 128) then s.lcDone 2
  else
    let s := s.zeroise
    let s : State := { s with sec.seed := none }
    (((s.toLc 4).showIdentity).setBit LC_STAT LC_STAT_CERT false).lcDone 0

def State.debugUnlock (s : State) (tok : Bytes) : State :=
  if s.sec.lc ≠ 1 ∧ s.sec.lc ≠ 3 then s.lcDone 1
  else if !s.tokenOk 1 (tok.take 128) then s.lcDone 2
  else (s.setBit LC_STAT LC_STAT_DBG true).lcDone 0

def State.telemetry (s : State) (tok : Bytes) : State :=
  if s.sec.lc ≠ 2 then s.lcDone 1
  else if !s.tokenOk 2 (tok.take 128) then s.lcDone 2
  else (s.setBit LC_STAT LC_STAT_TELEM true).lcDone 0

/-- R374: the grants end. -/
def State.endDebug (s : State) : State := (s.setBit LC_STAT LC_STAT_DBG false).setBit LC_STAT LC_STAT_TELEM false

def State.debugLock (s : State) : State := s.endDebug.lcDone 0

def State.certStore (s : State) (len : Nat) (tok : Bytes) : State :=
  if s.sec.lc ≠ 1 ∨ len = 0 ∨ 4096 < len then s.lcDone 1
  else ({ s with sec.cert := tok.take len } : State).lcDone 0

def State.ownerEnrol (s : State) (tok : Bytes) : State :=
  if s.sec.lc ≠ 2 ∨ s.sec.ownerDig.isSome then s.lcDone 1
  else ((({ s with sec.ownerDig := some (sha512 (tok.take 32)) } : State)).setBit LC_STAT LC_STAT_OWNER true).lcDone 0

/-- R372, Table 13.9: what a command reads from host memory, from LC_TOK on: (offset, length). DEDUCED: log entry 94. -/
def State.tokenParts (s : State) (op len : Nat) : List (Nat × Nat) := match op with
  | 1 => [(0, 64)]
  | 3 => [(0, 128), (128, 128)]
  | 4 => if s.sec.lc = 2 ∧ s.sec.ownerDig.isSome = true then [(0, 128)] else []
  | 8 => if len ≤ 4096 then [(0, len)] else []
  | 9 => [(0, 32)]
  | _ => if op = 2 ∨ op = 5 ∨ op = 6 then [(0, 128)] else []

/-- A read of host memory by the PF without PASID, page by page (R372, R291). -/
def State.pfRead (s : State) (a n : Nat) : State :=
  let ask (s : State) (a n : Nat) : State :=
    if n = 0 then s
    else (if s.holds 0 none (a / 4096) then s else s.emit (.atsReq 0 none (a / 4096))).emit (.hostRead 0 none a n)
  let k := min n (4096 - a % 4096)
  ask (ask s a k) (a + k) (n - k)

/-- R372: the tokens of a command are read from LC_TOK. DEDUCED: log entry 94. -/
def State.readTokens (s : State) (op len : Nat) : State :=
  let base := (s.reg LC_TOK_LO).toNat + 2 ^ 32 * (s.reg LC_TOK_HI).toNat
  (s.tokenParts op len).foldl (fun (s : State) p => s.pfRead (base + p.1) p.2) s

/-- R20, Table 1.2, R372: LC_CMD is the bench core's; a write of it with GO runs the command `op` of Table 13.9. E038 says that
it was refused. DEDUCED: log entry 94. -/
def State.lcRun (s : State) (op len : Nat) (tok : Bytes) : State :=
  let s := match op with
    | 1 => s.enterMaker tok
    | 2 => s.enterField tok
    | 3 => s.enterReturn tok
    | 4 => s.enterScrap tok
    | 5 => s.debugUnlock tok
    | 6 => s.telemetry tok
    | 7 => s.debugLock
    | 8 => s.certStore len tok
    | 9 => s.ownerEnrol tok
    | _ => s.lcDone 1
  if s.fld LC_STAT LC_STAT_RESULT = 0 then s else s.raise 38 [op, s.fld LC_STAT LC_STAT_RESULT]

/-! ## The clock -/

/-- CLOCK_SET (R355): a write of CLK_SET_HI loads the clock. -/
def State.clockSet (s : State) (hi : Word) : State :=
  let s := s.setReg CLK_SET_HI hi
  let v := (s.reg CLK_SET_LO).toNat + 2 ^ 32 * hi.toNat
  let back := decide (v % 2 ^ 63 < s.aon.clock)
  let s : State := { s with aon.clock := v % 2 ^ 63 }
  let s := s.setBit CLK_STAT CLK_STAT_UNSET false
  if back then (s.setBit CLK_STAT CLK_STAT_BACK true).raise 31 [] else s

/-- CLK_NOW_LO_READ (R379): the read returns the low bits and latches the high ones. -/
def State.clockRead (s : State) : State :=
  let t := s.stamp
  ({ s with sec.clkHi := some (t / 2 ^ 32) } : State).emit (.readData (BitVec.ofNat 32 t))

/-- R379: a read of CLK_NOW_HI returns what a read of CLK_NOW_LO has latched for it, else the high bits of the clock now. -/
def State.clockReadHi (s : State) : State :=
  let v := match s.sec.clkHi with | some h => h | none => s.stamp / 2 ^ 32
  ({ s with sec.clkHi := none } : State).emit (.readData (BitVec.ofNat 32 v))

end Sys2Proof.Machine
end

