-- ==== Sys2Proof/Machine/Vaults.lean ====
section
/-!
DEFINITION. Vaults (ch. 12): the directory and VAULT_CREATE (R328, R351), VAULT_MOUNT (R329, R330, R339 to R341, R344, R352),
VAULT_UNMOUNT (R342), VAULT_QUERY (R343) and SEAL_EXPORT (R357).
-/

namespace Sys2Proof.Machine

/-! ## The map's size (R335) -/

/-- The recorded (VBA, version) pairs of a vault's user blocks. -/
def Vault.recorded (v : Vault) : List (Nat × Nat) :=
  ((v.bands.flatMap (fun b => b.entries.map (fun e => (e.vba, e.ver)))).filter (fun e => decide (e.1 < 2 ^ 63))).eraseDups

/-- The VBAs that have a recorded version. -/
def Vault.mapped (v : Vault) : List Nat := (v.recorded.map (·.1)).eraseDups

/-- R335: the bytes that a vault's map takes in the ledger region. -/
def Vault.mapBytes (v : Vault) : Nat :=
  65536 + 8 * v.nblk + 48 * (v.discs.map (·.positions)).sum + 8 * (v.bands.map (fun b => b.relocs.length)).sum
  + 16 * (v.recorded.length - v.mapped.length) + 16 * (v.discs.map (fun d => d.dropped.length)).sum

/-- The bytes of the ledger region in use. -/
def State.mapUsed (s : State) : Nat := (s.ledger.vaults.map (·.mapBytes)).sum

/-- R335: the region can take 16 bytes for each block of a WRITE that already has a recorded version. -/
def State.mapFits (s : State) (v : Vault) (vbas : List Nat) : Bool :=
  let m := v.mapped
  decide (s.mapUsed + 16 * (vbas.filter (fun a => m.contains a)).length ≤ (s.region 3).2)

/-! ## The directory (R328) -/

/-- The function that the directory binds a vault to. -/
def State.boundTo (s : State) (vault : Nat) : Option Nat := (s.sec.dir.find? (fun e => e.1 == vault)).map (·.2)

/-- The first nonzero number not in use from a free number on, modulo 2^32. -/
def freeId (used : List Nat) (k : Nat) : Nat :=
  match (List.range (used.length + 2)).find? (fun i => (k + i) % 2 ^ 32 != 0 && !used.contains ((k + i) % 2 ^ 32)) with
  | some i => (k + i) % 2 ^ 32
  | none => 1

/-- VAULT_CREATE (R328, R351): keys, directory entry and vault record. DESIGN CHOICE: log entry 6. DEDUCED: log entry 97. -/
def State.vaultCreate (s : State) (id : Nat) : State := match s.cmd? id, s.kek with
  | none, _ => s
  | some _, none => s.finishWith id .internal
  | some c, some kek =>
    if !s.sec.entropyOk then s.finishWith id .internal
    else if 1024 ≤ s.sec.dir.length then s.finishWith id .bufferExhausted
    else
      let (k, s) := s.drawNat
      let vid := freeId (s.sec.dir.map (·.1)) k
      let (dataKey, s) := s.entropy 32
      let (seed, s) := s.entropy 32
      let (pfx, s) := s.entropy 4
      let rec' := vaultRecord seed (edPub seed) (keyWrap kek dataKey) (keyWrap kek seed) (kcv kek) vid (leNat pfx) (cap c.caps 32 8) s.stamp
      let s : State := { s with sec.dir := s.sec.dir ++ [(vid, cap c.caps 24 2)] }
      (s.setCmd id (fun c => { c with res1 := 256 })).result id rec'

/-- VAULT_CREATE with REBIND (R328): the binding changes, or the entry goes. DEDUCED: log entry 98. -/
def State.vaultRebind (s : State) (id : Nat) : State := match s.cmd? id with
  | none => s
  | some c =>
    let v := capVAULT c.caps
    if (s.kek).isNone then s.finishWith id .internal
    else if (s.boundTo v).isNone || (s.vault? v).isSome || s.ledger.mounting.contains v then s.finishWith id .invalidField
    else
      let fn := cap c.caps 24 2
      let dir := if fn = 0xFFFF then s.sec.dir.filter (fun e => e.1 != v)
        else s.sec.dir.map (fun e => if e.1 = v then (v, fn) else e)
      ({ s with sec.dir := dir } : State).finishWith id .ok

/-! ## VAULT_MOUNT: the record (R352) -/

/-- R352: the failing check of a vault record, counted from 1; the keys when every check passes. -/
def recordKeys (vault : Nat) (kek b : Bytes) : Nat × Bytes × Bytes :=
  if b.length ≠ 256 ∨ b.take 4 ≠ [0x42#8, 0x52#8, 0x56#8, 0x52#8] ∨ leNat (slice b 4 2) ≠ 1 then (1, [], [])
  else if leNat (slice b 8 4) ≠ vault then (2, [], [])
  else if slice b 32 8 ≠ kcv kek then (3, [], [])
  else match keyUnwrap kek (slice b 40 40), keyUnwrap kek (slice b 80 40) with
    | some dk, some seed =>
      if dk.length ≠ 32 ∨ seed.length ≠ 32 then (4, [], [])
      else if edPub seed ≠ slice b 120 32 then (5, [], [])
      else if !edVerify (slice b 120 32) (b.take 192) (b.drop 192) then (6, [], [])
      else (0, dk, seed)
    | _, _ => (4, [], [])

/-! ## VAULT_MOUNT: the offered discs (Table 12.1) -/

/-- The stations that a VAULT_MOUNT names. -/
def mountMask (c : Capsule) : List Nat := (List.range 16).filter (fun n => (cap c 24 2).testBit n)

/-- The disc index of a binding record (Table 2.11). -/
def bindIdx (b : Bytes) : Nat := leNat (slice b 12 4)

/-- R66: the identity record, if it is one that the controller can use. -/
def DiscFound.identity (f : DiscFound) : Option Bytes := (leadRecord f.ident).filter identityOk

/-- The disc ID (Table 2.10). -/
def DiscFound.discId (f : DiscFound) : Nat := match f.identity with | some b => leNat (slice b 8 16) | none => 0

/-- The binding copies that decode (R65, R66). -/
def DiscFound.bindings (f : DiscFound) : List Bytes := (f.copies.filterMap id).filterMap (fun l => (leadRecord l).map (·.take 160))

/-- The binding record in force (Table 2.11). -/
def DiscFound.binding (f : DiscFound) : Bytes := f.bindings.headD []

/-- R66: no usable identity record; every copy unwritten; copies that all fail, disagree or carry no valid signature; or a bound disc. -/
def DiscFound.kind (f : DiscFound) : DiscKind :=
  if f.identity.isNone then .rejected
  else if f.copies.all (·.isNone) then .blank
  else match f.bindings with
    | [] => .disagree
    | b :: l => if l.all (· == b) && bindingValid b then .bound else .disagree

/-- What station n found; none: nothing was reported. -/
def foundAt (l : List DiscFound) (n : Nat) : Option DiscFound := l.find? (fun f => f.stn == n)

/-- Table 12.1, R302: the outcome of an offered station: the first failure in R302's order, or its disc, attached or to be bound. -/
def State.offered (s : State) (vault : Nat) (pub : Bytes) (l : List DiscFound) (mask : List Nat) (n : Nat) : Status × Option DiscFound :=
  if s.unusableStn n || (s.station (toStn n)).retired || !s.bankOk (s.fld (SEQ_BANK n) SEQ_BANK_DEV) then (.stationUnavailable, none)
  else if !(s.station (toStn n)).loaded then (.invalidField, none)
  else match foundAt l n with
    | none => (.invalidField, none)
    | some f => match f.kind with
      | .rejected => (.invalidField, none)
      | .disagree => (.sealMismatch, none)
      | .blank => (.ok, some f)
      | .bound =>
        if mask.any (fun m => m != n && (match foundAt l m with
            | some g => g.kind == .bound && bindIdx g.binding == bindIdx f.binding | none => false)) then (.sealMismatch, none)
        else if leNat (slice f.binding 8 4) ≠ vault ∨ slice f.binding 40 32 ≠ pub then (.invalidField, none)
        else (.ok, some f)

/-! ## VAULT_MOUNT: the bands of a disc (R338 to R340) -/

/-- R62: the seal record of a band as read; empty: not built. -/
def BandRead.record (r : BandRead) : Bytes := (builtSeal (fun q => (r.seals[q]?).filter (fun b => b.length == 4160))).getD []

/-- R178: trailer and user bytes of a band's data frames. -/
def BandRead.datas (r : BandRead) : List (Trailer × Bytes) :=
  (r.frames.filter (fun f => f.length == 4160 && crcOk f && (readTrailer f).kind == 0)).map (fun f => (readTrailer f, f.take 4096))

/-- The BAND_SEQ that the trailers carry; 0: none. DEDUCED: log entry 103. -/
def BandRead.seq (r : BandRead) : Nat := (r.datas.map (·.1.seq)).foldl max 0

/-- R340: a replayed band counts. -/
def replayCounts (pub : Bytes) (vault discId : Nat) (r : BandRead) : Bool :=
  sealValid pub r.record && decide ((readSeal r.record).vault = vault ∧ (readSeal r.record).discId = discId)

/-- A counted band as its seal record tells it. DEDUCED: log entry 103. -/
def replayBand (idx : Nat) (r : BandRead) : Band :=
  let q := readSeal r.record
  ⟨q.seq, idx, r.loc, q.n, q.flags % 4, q.relocs.map relocBytes,
   ((List.zip (List.range q.entries.length) q.entries).filter (fun e => e.2.2 != 0)).map (fun e => ⟨e.1, e.2.1, e.2.2⟩), q.time⟩

/-- A checkpoint's band: its entries name VBAs that no user block carries (R338). -/
def Band.isCkpt (b : Band) : Bool := b.entries.any (fun e => decide (2 ^ 63 ≤ e.vba))

def insBand (b : Band) : List Band → List Band
  | [] => [b]
  | x :: l => if b.seq ≤ x.seq then b :: x :: l else x :: insBand b l

/-- Bands in BAND_SEQ order. -/
def sortBands (l : List Band) : List Band := l.foldl (fun a b => insBand b a) []

/-- Table 12.4 step 3: the written positions of a layer from one of them on, and the first that is not written (R336). -/
def spanFrom (written : List Nat) : Nat → Nat → List Nat × Nat
  | 0, l => ([], l)
  | k + 1, l => if written.contains l then let r := spanFrom written k (nextLoc l); (l :: r.1, r.2) else ([], l)

/-- A band whose seal counts, with what the seal says. -/
abbrev SealedRead := BandRead × SealRec

/-- The band that holds block `i` of checkpoint `no`. -/
def ckHolder (l : List SealedRead) (no i : Nat) : Option SealedRead := l.find? (fun x => x.2.entries.contains (2 ^ 63 + i, no))

/-- Block `i` of checkpoint `no`, as decoded. -/
def ckBlock (l : List SealedRead) (no i : Nat) : Option Bytes :=
  (ckHolder l no i).bind (fun x => (x.1.datas.find? (fun d => d.1.vba == 2 ^ 63 + i && d.1.ver == no)).map (·.2))

/-- A complete checkpoint: its first band, its bands, the record of its last band, what it says and its own bands as read. -/
structure CkRead where
  loc : Nat
  bands : Nat
  last : Bytes
  head : CkHead
  descs : List CkBand
  drops : List (Nat × Nat)
  own : List BandRead
  deriving DecidableEq, Repr

/-- Checkpoint `no` as read: none, not complete (R337); else the BAND_SEQ of a band that could not be read, or what it says. -/
def ckRead (l : List SealedRead) (no : Nat) : Option (Nat ⊕ CkRead) := match ckHolder l no 0 with
  | none => none
  | some x => match (ckBlock l no 0).filter ckMagic with
    | none => some (.inl x.2.seq)
    | some b =>
      let n := ((readCkHead b).length + 4095) / 4096
      let is := List.range n
      match is.mapM (ckHolder l no) with
      | none => none
      | some hs => match is.mapM (ckBlock l no), (List.zip is hs).find? (fun h => (ckBlock l no h.1).isNone) with
        | some bs, _ =>
          let c := readCheckpoint bs.flatten
          some (.inr ⟨x.1.loc, ckBandCount n, (hs.getLastD x).1.record, c.1, c.2.1, c.2.2, (hs.map (·.1)).eraseDups⟩)
        | none, some h => some (.inl h.2.2.seq)
        | none, none => some (.inl x.2.seq)

def insDesc (k : Nat) : List Nat → List Nat
  | [] => [k]
  | x :: l => if x < k then k :: x :: l else if x = k then x :: l else x :: insDesc k l

/-- The numbers of the checkpoints that sealed bands name, highest first. -/
def ckNumbers (l : List SealedRead) : List Nat :=
  (l.flatMap (fun x => (x.2.entries.filter (fun e => decide (2 ^ 63 ≤ e.1))).map (·.2))).foldl (fun a k => insDesc k a) []

/-- Table 12.4 step 6: a checkpoint's chain, back to checkpoint 1, and the BAND_SEQ of a band of it that could not be read.
DEDUCED: log entry 99. -/
def ckChain (l : List SealedRead) : Nat → CkRead → List CkRead × Option Nat
  | 0, c => ([c], none)
  | k + 1, c =>
    if c.head.prevBands = 0 then ([c], none)
    else
      let named := (c.descs.find? (fun b => b.loc == c.head.prevLoc)).map (·.seq)
      match l.find? (fun x => x.1.loc == c.head.prevLoc) with
      | none => ([c], some (named.getD 0))
      | some x => match ckRead l (((x.2.entries.find? (fun e => e.1 == 2 ^ 63)).map (·.2)).getD 0) with
        | some (.inr d) => let r := ckChain l k d; (c :: r.1, r.2)
        | some (.inl q) => ([c], some q)
        | none => ([c], some x.2.seq)

/-- An offered disc as steps 3 to 6 of Table 12.4 leave it. -/
structure DiscRead where
  found : DiscFound
  idx : Nat
  frontier : List Nat
  head : Option CkRead
  tried : Nat
  /-- the checkpoints' bands, as described -/
  covered : List CkBand
  /-- a checkpoint band that could not be read -/
  bad : Option Nat
  /-- the bands replayed (R340), those that count and those that are void -/
  counted : List BandRead
  void : List BandRead
  /-- the highest BAND_SEQ met -/
  top : Nat
  deriving DecidableEq, Repr

/-- Table 12.4 steps 3 to 6, R340: frontiers, the latest complete checkpoint and its chain, and the bands to replay; those of a checkpoint, which
is not complete, are void. -/
def readDisc (pub : Bytes) (vault : Nat) (f : DiscFound) : DiscRead :=
  let ok := replayCounts pub vault f.discId
  let sealed := (f.bands.filter ok).map (fun r => (r, readSeal r.record))
  let nos := ckNumbers sealed
  let got := nos.findSome? (ckRead sealed)
  let head := match got with | some (.inr c) => some c | _ => none
  let chain := match head with | some c => ckChain sealed nos.length c | none => ([], none)
  let from' (y : Nat) : Nat := match head with | some c => c.head.frontier.getD y (firstLoc y) | none => firstLoc y
  let written := f.bands.map (·.loc)
  let spans := (List.range 16).map (fun y => spanFrom written f.bands.length (from' y))
  let again := (match head with | some c => (c.descs.filter (fun b => b.flags.testBit 3)).map (·.loc) | none => []) ++ spans.flatMap (·.1)
  let replay := f.bands.filter (fun r => again.contains r.loc)
  let counts (r : BandRead) : Bool := ok r && !(replayBand 0 r).isCkpt
  ⟨f, bindIdx f.binding, spans.map (·.2), head, nos.headD 0, chain.1.flatMap (·.descs),
   match got with | some (.inl q) => some q | _ => chain.2, replay.filter counts, replay.filter (fun r => !counts r),
   (sealed.map (·.2.seq) ++ f.bands.map (·.seq)).foldl max 0⟩

/-- The counted bands of an attached disc: those that the checkpoints cover with the head's own, and those that count by replay (R340). -/
def DiscRead.bands (f : DiscRead) : List Band × List Band :=
  ((f.covered.filter (fun b => decide (b.flags / 4 % 4 = 0))).map (fun b =>
      (⟨b.seq, f.idx, b.loc, b.n, b.flags, b.relocs, b.entries.map (fun e => ⟨e.2.2, e.1, e.2.1⟩), 0⟩ : Band))
     ++ (match f.head with | some c => c.own | none => []).map (replayBand f.idx),
   f.counted.map (replayBand f.idx))

/-- R332: versions that reached a disc in frames: its dropped list and the trailers of its void bands. -/
def DiscRead.versions (f : DiscRead) : List (Nat × Nat) :=
  ((match f.head with | some c => c.drops | none => []) ++ f.void.flatMap (fun r => r.datas.map (fun d => (d.1.vba, d.1.ver)))).filter
    (fun e => decide (e.1 < 2 ^ 63))

/-- The frontiers of a disc that holds nothing. -/
def emptyFrontier : List Nat := (List.range 16).map firstLoc

/-- R61: the digest that the next seal of a disc carries: that of the band sealed last on it, of the replayed ones and the head's. -/
def DiscRead.digest (f : DiscRead) : Bytes :=
  let recs := (match f.head with | some c => [c.last] | none => []) ++ f.counted.map (·.record)
  match recs.foldl (fun (m : Option Bytes) r => match m with
      | none => some r
      | some x => if (readSeal x).seq < (readSeal r).seq then some r else some x) none with
  | some r => sha512 r
  | none => sha512 f.found.binding

/-- The disc as the vault holds it once attached (Table 12.4 steps 3 to 6). `all`: every recorded (VBA, version); `top`: the highest BAND_SEQ
counted, which a disc that holds no band must not be behind if its first band is to take its record's number (R333).
DEDUCED: log entry 100. -/
def DiscRead.attach (all : List (Nat × Nat)) (top : Nat) (f : DiscRead) : Disc :=
  let (cov, rep) := f.bands
  let q := leNat (slice f.found.binding 72 8)
  let own := (match f.head with | some c => c.own | none => []).map (replayBand f.idx)
  let void := f.void.map (fun r => (⟨r.seq, f.idx, r.loc, 0, 4, [], [], 0⟩ : Band))
  let since := (rep.filter (fun b => !b.isCkpt)).length
  let drop := f.versions.eraseDups.filter (fun x => !all.any (fun e => e.1 == x.1 && decide (x.2 ≤ e.2)))
  let (no, loc, n) := match f.head with | some c => (c.head.no, c.loc, c.bands) | none => (0, 0, 0)
  ⟨f.idx, some f.found.stn, f.found.discId, f.frontier, no, loc, n, f.tried,
   0, 0, [], since, decide (4096 ≤ since), false, f.digest,
   if cov.isEmpty && rep.isEmpty && void.isEmpty && decide (top ≤ q) then some q else none, sortBands (own ++ rep ++ void), drop, false⟩

/-- R332: next versions after a mount. -/
def nextVersions (l : List (Nat × Nat)) : List (Nat × Nat) :=
  l.foldl (fun (m : List (Nat × Nat)) e => match m.find? (fun x => x.1 == e.1) with
    | none => m ++ [(e.1, e.2 + 1)]
    | some x => if x.2 ≤ e.2 then m.map (fun y => if y.1 = e.1 then (e.1, e.2 + 1) else y) else m) []

/-- R341: the list entries of the bands counted by replay. -/
def sinceOf (l : List Band) : List Since := (sortBands l).map (fun b => ⟨b.seq, b.loc, b.disc, b.flags % 4, b.n, b.time⟩)

/-- R329: the binding record of a blank disc that takes index `idx`, with the vault's next BAND_SEQ. -/
def bindingOf (time : Nat) (v : Vault) (idx : Nat) (f : DiscFound) : Bytes :=
  bindingRecord v.sealSeed v.sealPub v.id idx f.discId time v.nextSeq

/-- R203, R329: a binding copy that was written (`done`) passes verification in all its frames, or decodes on the full-ladder read back with a
valid signature. DESIGN CHOICE: log entry 201. -/
def bindStands (b : Bytes) (f : DiscFound) (done : List Bool) : Bool :=
  let mine {α : Type} (l : List α) : List α := ((List.zip done l).filter (·.1)).map (·.2)
  (mine f.verified).any (fun l => l.length == 64 &&
    (List.zip (List.range 64) l).all (fun x => decide (x.2.1 ≤ 900) && x.2.2 == leadFrame 3 x.1 b))
  || (mine f.readBack).any (fun l => (leadRecord l).any (fun r => bindingValid (r.take 160)))

/-- R329: a blank disc is bound. DEDUCED: log entry 99. -/
def bindDisc (time : Nat) (v : Vault) (idx : Nat) (f : DiscFound) : Vault :=
  let b := bindingOf time v idx f
  let d : Disc := ⟨idx, some f.stn, f.discId, emptyFrontier, 0, 0, 0, 0, 0, 0, [], 0, false, false, sha512 b, some v.nextSeq, [], [], false⟩
  { v with discs := v.discs ++ [d], nextSeq := v.nextSeq + 1 }

/-- R329: the blank discs take the next indices in station order; each with its binding record. -/
def bindAll (time : Nat) (v : Vault) (l : List DiscFound) : Vault × List (DiscFound × Bytes) :=
  l.foldl (fun (a : Vault × List (DiscFound × Bytes)) f =>
    (bindDisc time a.1 a.1.discs.length f, a.2 ++ [(f, bindingOf time a.1 a.1.discs.length f)])) (v, [])

/-- R65, R201, R329: the three binding copies of each disc, at positions 1 to 3 of zone L; one whose preconditions do not hold is not written.
The answer says which were. DESIGN CHOICE: log entry 201. -/
def State.writeCopies (s : State) (l : List (DiscFound × Bytes)) : State × List (List Bool) :=
  l.foldl (fun (a : State × List (List Bool)) x =>
    let r := (List.range 3).foldl (fun (c : State × List Bool) i => match c.1.bandPlace x.1.stn 0 (i + 1) with
      | some s => (s.writeRecord x.1.stn 3 x.2 (x.1.counts.getD i 0), c.2 ++ [true])
      | none => (c.1, c.2 ++ [false])) (a.1, [])
    (r.1, a.2 ++ [r.2])) (s, [])

/-- The vault with the discs of `att` attached, and its next versions and next BAND_SEQ (R332, R333). DEDUCED: log entry 99. -/
def attachAll (v : Vault) (att : List DiscRead) : Vault :=
  let parts := att.map (·.bands)
  let kept := v.bands.filter (fun b => !att.any (fun f => f.idx == b.disc))
  let bands := sortBands (kept ++ parts.flatMap (fun p => p.1 ++ p.2))
  let all := (bands.flatMap (fun b => b.entries.map (fun e => (e.vba, e.ver)))).filter (fun e => decide (e.1 < 2 ^ 63))
  let top := (bands.map (·.seq)).foldl max 0
  let discs := att.map (·.attach all top)
  let vers := all ++ att.flatMap (·.versions)
  let old := v.nextVer.map (fun e => (e.1, e.2 - 1))
  let seqs := bands.map (·.seq) ++ att.flatMap (fun f =>
    f.top :: leNat (slice f.found.binding 72 8) :: f.covered.map (·.seq))
  let keep := (v.discs.filter (fun d => !discs.any (fun e => e.idx == d.idx))).map (·.passed (bands.flatMap (·.entries)))
  { v with
    bands := bands, discs := keep ++ discs, nextVer := nextVersions (old ++ vers), nextSeq := max v.nextSeq (seqs.foldl max 0 + 1),
    sealed := v.sealed ++ (sinceOf (parts.flatMap (·.2))).filter (fun e => !v.sealed.any (fun x => x.seq == e.seq)) }

/-- Table 12.4 step 5: every disc index below D is attached. -/
def indicesOk (v : Vault) (att : List DiscRead) : Bool :=
  let d := max ((att.map (fun f => match f.head with | some c => c.head.count | none => 0)).foldl max 0) ((v.discs.map (fun d => d.idx + 1)).foldl max 0)
  (List.range d).all (fun i => v.discs.any (fun x => x.idx == i && x.stn.isSome))

/-- The mount fails with `st`: nothing is bound, attached or mounted. DEDUCED: log entry 97. -/
def State.mountFails (s : State) (id vault : Nat) (st : Status) : State :=
  ({ s with ledger.mounting := s.ledger.mounting.filter (fun x => x != vault) } : State).finishWith id st

/-- Table 12.4 steps 5 to 8, over the vault as it was before and the offered discs that passed Table 12.1. Where several blank discs are bound,
each disc but the last takes one checkpoint, behind all the bindings. DEDUCED: log entries 99, 100. -/
def State.mountDiscs (s : State) (id : Nat) (fresh : Bool) (v : Vault) (fs : List DiscFound) : State :=
  let att := (fs.filter (fun f => f.kind == .bound && !v.discs.any (fun d => d.idx == bindIdx f.binding && d.stn.isSome))).map
    (readDisc v.sealPub v.id)
  let blank := fs.filter (fun f => f.kind == .blank)
  let v1 := attachAll v att
  let first := att.findSome? (fun f => if f.head.isNone then f.bad else none)
  if first.isNone && fresh && !indicesOk v1 att then s.mountFails id v.id .stationUnavailable
  else match first.or (att.findSome? (·.bad)) with
    | some q => (s.setCmd id (fun c => { c with bandSeq := q })).mountFails id v.id .mediumReadError
    | none =>
      if !blank.isEmpty && v1.discs.any (fun d => d.stn.isNone) then s.mountFails id v.id .stationUnavailable
      else if s.stations < v1.discs.length + blank.length then s.mountFails id v.id .mediumFull
      else
        let others := s.ledger.vaults.filter (fun x => x.id != v.id)
        if (s.region 3).2 < (others.map (·.mapBytes)).sum + v1.mapBytes then s.mountFails id v.id .bufferExhausted
        else if (s.boundTo v.id).isNone && decide (1024 ≤ s.sec.dir.length) then s.mountFails id v.id .bufferExhausted
        else
          let (v2, bound) := bindAll s.stamp v1 blank
          let (s, done) := s.writeCopies bound
          if (List.zip bound done).any (fun x => !bindStands x.1.2 x.1.1 x.2) then
            (s.setVault v.id (fun x => { x with nextSeq := max x.nextSeq v2.nextSeq })).mountFails id v.id .writeVerifyFail
          else
          let s : State := if (s.boundTo v.id).isNone then { s with sec.dir := s.sec.dir ++ [(v.id, v.fn)] } else s
          let s : State := { s with ledger.vaults := others ++ [v2] }
          let hi := if fresh then (v1.bands.map (·.seq)).foldl max 0
            else ((att.map (·.bands)).flatMap (fun p => (p.1 ++ p.2).map (·.seq))).foldl max 0
          let s := s.setCmd id (fun c => { c with phase := 3, res0 := hi, res1 := v1.sealed.length - v.sealed.length })
          let s := if blank.isEmpty then s else ((v2.discs.map (·.idx)).dropLast).foldl (fun (s : State) i => s.checkpoint v.id i) s
          let s := v2.discs.foldl (fun (s : State) d => if d.ckptDue then s.checkpoint v.id d.idx else s) s
          s.checkVault v.id

/-- VAULT_MOUNT once its record has arrived (R330, R339, R344, R352). -/
def State.mountRecord (s : State) (id : Nat) : State := match s.cmd? id with
  | none => s
  | some c =>
    let vid := capVAULT c.caps
    let b := c.inBytes.drop c.lead
    if s.fatal ctxLEDGER then s.mountFails id vid .internal
    else match s.kek with
      | none => s.mountFails id vid .internal
      | some kek => match recordKeys vid kek b with
        | (0, dk, seed) =>
          let old := s.vault? vid
          if old.isNone && decide (256 ≤ s.ledger.vaults.length) then s.mountFails id vid .bufferExhausted
          else
            let age := let a := cap c.caps 26 2; if a = 0 then 50 else a
            let v : Vault := match old with
              | some v => v
              | none => ⟨vid, c.fn, leNat (slice b 16 8), leNat (slice b 12 4), dk, seed, slice b 120 32, age, [], [], [], 1, [], [], false⟩
            let mask := mountMask c.caps
            let mine (n : Nat) : Bool := v.discs.any (fun d => d.stn == some n)
            let rs := (mask.filter (fun n => !mine n)).map (s.offered vid v.sealPub c.found (mask.filter (fun n => !mine n)))
            let bad := rs.filter (fun r => r.1 != .ok)
            match bad with
            | r :: l => s.mountFails id vid (l.foldl (fun st x => worse st x.1) r.1)
            | [] => s.mountDiscs id old.isNone v (rs.filterMap (·.2))
        | (k, _, _) => (s.raise 30 [k]).mountFails id vid .invalidField

/-! ## VAULT_UNMOUNT (R342) -/

/-- VAULT_UNMOUNT begins: open parisons are written at once, and it waits for the commands admitted before it. -/
def State.vaultUnmount (s : State) (id : Nat) : State := match s.cmd? id with
  | none => s
  | some c =>
    let vid := capVAULT c.caps
    if s.fatal ctxLEDGER then s.finishWith id .internal
    else
      let s := (s.setVault vid (fun v => { v with closing := true })).setCmd id (fun c => { c with phase := 0 })
      (s.flushBefore id (some vid)).checkVault vid

/-! ## VAULT_QUERY (R343) -/

/-- Table 12.6. -/
def State.summary (s : State) (v : Vault) : Bytes :=
  let att := v.discs.filter (fun d => d.stn.isSome)
  leBytes 4 v.id ++ leBytes 2 v.fn ++ leBytes 1 v.discs.length ++ leBytes 1 (v.discs.length - att.length) ++ leBytes 8 v.nblk
  ++ leBytes 8 ((v.bands.map (·.seq)).foldl max 0) ++ leBytes 8 v.mapped.length ++ leBytes 8 (v.recorded.length - v.mapped.length)
  ++ leBytes 8 ((att.map (·.free)).sum) ++ leBytes 8 s.mapUsed ++ zeros 8

/-- Table 12.7. -/
def sinceBytes (e : Since) : Bytes :=
  leBytes 8 e.seq ++ leBytes 4 e.loc ++ leBytes 1 e.disc ++ leBytes 1 e.flags ++ leBytes 2 e.n ++ leBytes 8 e.time ++ zeros 8

/-- A version as VERSIONS lists it: highest version first, then highest BAND_SEQ. -/
def insVer (e : Nat × Band × Nat) : List (Nat × Band × Nat) → List (Nat × Band × Nat)
  | [] => [e]
  | x :: l => if x.1 < e.1 ∨ x.1 = e.1 ∧ x.2.1.seq < e.2.1.seq then e :: x :: l else x :: insVer e l

/-- Table 12.8: the records of a VBA. -/
def Vault.versions (v : Vault) (vba : Nat) : List Bytes :=
  let l := v.bands.flatMap (fun b => (b.entries.filter (fun e => e.vba == vba)).map (fun e => (e.ver, b, e.d)))
  let l := l.foldl (fun a e => insVer e a) []
  let top := (l.map (·.1)).foldl max 0
  l.map (fun e =>
    let best := !l.any (fun x => x.1 == e.1 && decide (e.2.1.seq < x.2.1.seq))
    leBytes 8 e.2.1.seq ++ leBytes 4 e.1 ++ leBytes 4 e.2.1.loc ++ leBytes 1 e.2.1.disc
    ++ leBytes 1 ((if e.1 = top then 1 else 0) + (if best then 2 else 0)) ++ leBytes 2 e.2.2 ++ zeros 12)

def insDisc (d : Disc) : List Disc → List Disc
  | [] => [d]
  | x :: l => if d.idx ≤ x.idx then d :: x :: l else x :: insDisc d l

/-- Table 12.9. -/
def discBytes (d : Disc) : Bytes :=
  leBytes 1 d.idx ++ leBytes 1 (d.stn.getD 0xFF) ++ leBytes 2 ((if d.full then 1 else 0) + (if d.closed then 2 else 0)) ++ leBytes 16 d.discId
  ++ leBytes 4 d.free ++ leBytes 4 d.ckptNo ++ leBytes 4 d.since

/-- Whole records as far as the output space holds them. -/
def State.records (s : State) (id size : Nat) (rs : List Bytes) : State := match s.cmd? id with
  | none => s
  | some c =>
    let bs := (rs.take (capDLEN c.caps / size)).flatten
    (s.setCmd id (fun c => { c with res1 := bs.length })).result id bs

/-- VAULT_QUERY: the records that QSEL selects. -/
def State.vaultQuery (s : State) (id : Nat) : State := match s.cmd? id with
  | none => s
  | some c => match s.vault? (capVAULT c.caps) with
    | none => s.finishWith id .vaultNotMounted
    | some v =>
      if s.fatal ctxLEDGER then s.finishWith id .internal
      else
        let q := cap c.caps 24 4
        if q = 0 then s.records id 64 [s.summary v]
        else if q = 1 then s.records id 32 (v.sealed.map sinceBytes)
        else if q = 2 then s.records id 32 (v.versions (cap c.caps 32 8))
        else s.records id 32 ((v.discs.foldl (fun l d => insDisc d l) []).map discBytes)

/-! ## SEAL_EXPORT (R357) -/

/-- A counted band of the export: a band pass is queued, or its disc is absent. DEDUCED: log entry 56. -/
def State.exportBand (s : State) (id : Nat) (v : Vault) (first i : Nat) : State :=
  match v.bands.find? (fun b => b.seq == first + i), s.cmd? id with
  | some b, some c => match (match v.discs.find? (fun d => d.idx == b.disc) with | some d => d.stn | none => none) with
    | none => s
    | some n =>
      if s.unusableStn n || (s.station (toStn n)).retired then s
      else
        let s := s.setCmd id (fun c => { c with records := c.records.set i (some []) })
        s.addTask n .bandRead [id] (s.cmdCls c) id [b.loc, 0, 0, 0, 16 * s.ladderSteps n (s.cmdCls c), 0] false
  | _, _ => s

/-- SEAL_EXPORT begins: each counted band of an attached disc is read. -/
def State.sealExport (s : State) (id : Nat) : State := match s.cmd? id with
  | none => s
  | some c => match s.vault? (capVAULT c.caps) with
    | none => s.finishWith id .vaultNotMounted
    | some v =>
      if s.fatal ctxLEDGER then s.finishWith id .internal
      else
        let first := cap c.caps 24 8
        let n := cap c.caps 32 4
        let s := s.setCmd id (fun c => { c with records := List.replicate n none, phase := 2 })
        let s := (List.range n).foldl (fun (s : State) i => s.exportBand id v first i) s
        s.finishExport id

end Sys2Proof.Machine
end

