-- ==== Sys2Proof/Machine/Power.lean ====
section
/-!
DEFINITION. DOMAIN_SET and its entries (R419 to R423, R431), wakes (R424, R428), and what a station loses when its island is
reset (R12, R456).
-/

namespace Sys2Proof.Machine

/-! ## What a reset of a station's island leaves -/

/-- R12, R456: the station as after a wake from OFF: what its mechanism, its disc and SPI flash hold stays.
DEDUCED: log entry 143. -/
def Station.afterOff (t : Station) : Station :=
  { loaded := t.loaded, ident := t.ident, unusable := t.unusable, cal := { deltas := t.cal.deltas } }

/-- Table 16.8: stations that the BIST record in force marks unusable are unavailable. -/
def State.showUnusable (s : State) (n : Nat) : State :=
  if (s.fld BIST_STAT BIST_STAT_STN_UNUS).testBit n || (s.fld BIST_STAT BIST_STAT_CC_UNUS).testBit (n / 4) then
    (s.setBit (STN_STAT n) STN_STAT_UNAVAIL true).setStn (toStn n) (fun t => { t with unusable := true })
  else s

/-- The registers of station n take their reset values (R12); the gaffer takes the device bank (R243). -/
def State.resetStnRegs (s : State) (n : Nat) : State :=
  let dev := s.fld (SEQ_BANK n) SEQ_BANK_DEV
  let s := s.resetRegs (inRange (stnKey n 0) 0x10000)
  let s := (s.setFld (SEQ_BANK n) SEQ_BANK_DEV dev).setFld (SEQ_BANK n) SEQ_BANK_CUR dev
  s.showUnusable n

/-- The island of station n is reset as from OFF: the work it held is gone. DEDUCED: log entry 143. -/
def State.resetStation (s : State) (n : Nat) : State :=
  let s : State := { s with work.inHand := SMap.del n s.work.inHand, work.suspended := SMap.del n s.work.suspended }
  let s := s.setStn (toStn n) Station.afterOff
  let s := s.setFld CAL_CTL CAL_CTL_LIVE (let m := s.fld CAL_CTL CAL_CTL_LIVE; if m.testBit n then m - 2 ^ n else m)
  (s.clearFatal n).resetStnRegs n

/-- R418, R12: domain `d` enters OFF: what it holds is lost. -/
def State.offDomain (s : State) (d : Nat) : State :=
  let s := s.setDom d 3
  if 11 ≤ d then s.resetStation (d - 11)
  else s.resetRegs (domHolds d)

/-! ## Step 1: the checks of R419 -/

/-- The value that TARGET gives domain `d`. -/
def targetOf (t d : Nat) : Nat := t / 2 ^ (2 * d) % 4

def domains : List Nat := List.range 27

/-- The domains whose OFF is reached by reset only (Table 15.2). -/
def offByReset : List Nat := [1, 2, 5, 6]

/-- R419: the state that domain `d` would have; a waking domain counts as ON. -/
def State.domAfter (s : State) (t d : Nat) : Nat :=
  if targetOf t d ≠ 0 then targetOf t d else if s.dom d = 0 then 1 else s.dom d

/-- R419: the targets pass. -/
def State.targetsOk (s : State) (t : Nat) : Bool :=
  decide (t < 2 ^ 54) && targetOf t 0 == 0 && domains.all (fun d =>
    !(offByReset.contains d && targetOf t d == 3) && !(fusedDom s.part d && targetOf t d != 0)
    && (s.domAfter t d != 1 || (domNeeds d).all (fun x => s.domAfter t x == 1)))

/-! ## Step 2: refusals (Table 15.3) -/

/-- Commands other than the DOMAIN_SET that are outstanding. -/
def State.others (s : State) (id : Nat) : List Cmd := s.work.cmds.filter (fun c => c.id != id)

/-- A task is held by station n or waits for it, or a band is placed on it. DEDUCED: log entry 142. -/
def State.stnWork (s : State) (n : Nat) : Bool :=
  s.holdsTask n || s.work.tasks.any (fun t => t.stn == n) || !(s.bands n).isEmpty

/-- Any parison or band is not yet sealed or void. -/
def State.anyParison (s : State) : Bool :=
  !s.ledger.parisons.isEmpty || (List.range 16).any (fun n => !(s.bands n).isEmpty)

/-- The command is to use the cipher engine, or the seal engine. DEDUCED: log entry 111. -/
def usesCipher (c : Cmd) : Bool :=
  [1, 3, 0x11].contains (capOPC c.caps) || (capOPC c.caps == 2 && c.blocks.any (fun b => b.at' == .waiting))
/-- Commands whose work needs the seal engine. DEDUCED: log entry 111. -/
def usesSeal (c : Cmd) : Bool :=
  [2, 0x12, 0x10, 0x09].contains (capOPC c.caps) || (isRead c && (cap c.caps 32 4).testBit 0)

/-- Table 15.3: domain `d` refuses to enter state `t`. DEDUCED: log entry 142. -/
def State.refuses (s : State) (id d t : Nat) : Bool :=
  let cs := s.others id
  if d = 1 then !s.power.l12 || !s.power.aspm || !cs.isEmpty || (match s.pcie.doe with | .ready _ => true | _ => false)
  else if d = 2 then !cs.isEmpty
  else if d = 3 then cs.any usesCipher || (t == 3 && !s.ledger.vaults.isEmpty)
  else if d = 4 then cs.any usesSeal || s.anyParison || (t == 3 && (!s.ledger.vaults.isEmpty || !s.pcie.sessions.isEmpty))
  else if d = 5 then s.bit CC_MAINT CC_MAINT_BUSY
  else if d = 6 then !s.mem.waiting.isEmpty || s.anyParison || decide (0 < s.ringUsed)
    || cs.any (fun c => !c.bufs.isEmpty || decide (0 < capDLEN c.caps))
  else if d ≤ 10 then (List.range 4).any (fun k => s.stnWork (4 * (d - 7) + k))
  else
    let n := d - 11
    s.stnWork n || s.fld (MOT_SPST n) MOT_SPST_STATE != 0 || (List.range 8).any (fun L => s.fld (LP_STAT n L) LP_STAT_MODE_NOW != 0)
    || s.bit (SLD_STAT n) SLD_STAT_MOVING

/-! ## The sequence of an entry (Table 15.4) -/

/-- R422: a deferred domain: HOST, CORE, CACHE or MEM named RET. -/
def isDeferred (x : Nat × Nat) : Bool := [1, 2, 5, 6].contains x.1 && x.2 == 2

/-- Every named domain enters its target in one step. DEDUCED: log entry 141. -/
def State.commitEntry (s : State) (e : PmEntry) : State :=
  let s := s.account e 1 31
  let s := e.named.foldl (fun (s : State) x => if x.2 = 3 then s.offDomain x.1 else s.setDom x.1 2) s
  let s : State := if e.named.any (fun x => x.1 == domMEM) then { s with mem.rows := [] } else s
  { s with power.entry := none, power.stopped := [] }

/-- Step 2: a named domain refuses, or the immediate domains begin to stop; with none, the completion is due. -/
def State.agree (s : State) (e : PmEntry) : State :=
  match e.named.find? (fun x => s.refuses e.cmd x.1 x.2) with
  | some x => ({ (s.account e 2 x.1) with power.entry := none } : State).finish e.cmd .invalidField
  | none =>
    if e.named.all isDeferred then
      (({ s with power.entry := some { e with stage := .deferred } } : State).setBit PM_LAST PM_LAST_PEND true).finish e.cmd .ok
    else { s with power.entry := some { e with stage := .stopping } }

/-- Step 1 (R419, R422): the checks; then the domains named ON wake, and those whose entry must start from ON. -/
def State.domainStep1 (s : State) (id : Nat) : State := match s.cmd? id with
  | none => s
  | some c =>
    let t := cap c.caps 24 8
    if c.ended || c.held then s
    else if !s.targetsOk t then s.finish id .invalidField
    else
      let s := s.setCmd id (fun c => { c with started := true, phase := 4 })
      let ons := domains.filter (fun d => targetOf t d == 1)
      let named := (domains.filter (fun d => decide (2 ≤ targetOf t d))).map (fun d => (d, targetOf t d))
      let wakes := ons ++ (named.filter (fun x => decide (s.dom x.1 ≠ x.2 ∧ s.dom x.1 ≠ 1))).map (·.1)
      let s := wakes.foldl (fun (s : State) d => s.wake d) s
      if named.isEmpty then s
      else
        let e : PmEntry := ⟨id, c.cid, named, wakes, EntryStage.waking⟩
        if s.allOn wakes then s.agree e else ({ s with power.entry := some e } : State)

/-- DOMAIN_SET begins: at once, or when the entry before it has committed or aborted (R422). DEDUCED: log entry 141. -/
def State.domainSet (s : State) (id : Nat) : State :=
  if s.power.entry.isSome || !s.power.queue.isEmpty then { s with power.queue := s.power.queue ++ [id] }
  else s.domainStep1 id

/-- A DOMAIN_SET that names only ON ends once every domain it names is ON (R419). -/
def State.onlyOnDone (s : State) : State :=
  let done (c : Cmd) : Bool := capOPC c.caps == 0x28 && c.phase == 4 && !c.ended
    && domains.all (fun d => decide (targetOf (cap c.caps 24 8) d < 2))
    && domains.all (fun d => targetOf (cap c.caps 24 8) d != 1 || s.isOn d)
  ((s.work.cmds.filter done).map (·.id)).foldl (fun (s : State) i => s.finish i .ok) s

/-- R422: what may go on once domains have changed: the entry whose domains have woken, and the next DOMAIN_SET. -/
def State.powerPass (s : State) : State :=
  let s := s.onlyOnDone
  let s := match s.power.entry with
    | some e => if e.stage = EntryStage.waking ∧ s.allOn e.wakes then s.agree e else s
    | none => s
  match s.power.entry, s.power.queue.filter (fun i => match s.cmd? i with | some c => !c.ended && !c.held | none => false) with
  | none, id :: rest => ({ s with power.queue := rest } : State).domainStep1 id
  | _, _ => s

/-- DOMAIN_STOP_DONE (steps 3 to 5): every immediate domain has stopped. -/
def State.stopDone (s : State) : State := match s.power.entry with
  | none => s
  | some e =>
    if e.stage ≠ .stopping then s
    else if e.named.any isDeferred then
      let s : State := { s with power.entry := some { e with stage := .deferred }, power.stopped := (e.named.filter (fun x => !isDeferred x)).map (·.1) }
      (s.setBit PM_LAST PM_LAST_PEND true).finish e.cmd .ok
    else (s.commitEntry e).finish e.cmd .ok

/-- DOMAIN_STOP_TIMEOUT (R423): domain `d` has not stopped within 1 ms. DEDUCED: log entry 140. -/
def State.stopTimeout (s : State) (d : Nat) : State := match s.power.entry with
  | none => s
  | some e => if e.stage ≠ EntryStage.waking ∧ e.named.any (fun x => x.1 == d) then s.abortEntry d else s

/-- Dirty lines go back to buffer memory. -/
def State.cleanAll (s : State) : State :=
  s.mem.cache.foldl (fun (s : State) e => (s.writeBack e.2).setLine (e.1 % 16) { e.2 with dirty := false }) s

/-- DEFERRED_STOP (steps 6 and 7): the completion has been sent; the deferred domains stop and every named domain commits. -/
def State.deferredStop (s : State) : State := match s.power.entry with
  | none => s
  | some e =>
    if e.stage ≠ .deferred || (s.cmd? e.cmd).isSome then s
    else s.cleanAll.commitEntry e

/-! ## Wakes -/

/-- DOMAIN_READY (R424): domain `d` is ON; a station that wakes while the protection is in force comes under it (R154). -/
def State.domainReady (s : State) (d : Nat) : State :=
  if !s.power.waking.any (fun x => x.1 == d) then s
  else
    let s : State := { s with power.waking := s.power.waking.filter (fun x => x.1 != d) }
    let s := s.setDom d 1
    if 11 ≤ d && s.power.protect then s.protectStn (d - 11) else s

end Sys2Proof.Machine
end

