-- ==== Sys2Proof/Machine/Admit.lean ====
section
/-!
DEFINITION. The checks that a capsule meets (R299, R303, Tables 11.3 and 11.4, with R283, R308, R328, R358, R441) and when a
capsule is read at all (R270, R315, R322).
-/

namespace Sys2Proof.Machine

/-! ## Check 1: the opcode -/

/-- Table 11.1: opcodes that only the PF issues. -/
def pfOnly : List Nat := [0x08, 0x19, 0x1A, 0x20, 0x21, 0x28, 0x38, 0x39]

/-! ## Check 2: fields -/

/-- Table 11.3: the named bytes of bytes 24 to 63, as (offset, length). -/
def namedBytes (c : Capsule) : List (Nat × Nat) := match capOPC c with
  | 0x01 => [(24, 8), (32, 4), (40, 8), (48, 4)]
  | 0x02 => [(24, 8)]
  | 0x03 => [(24, 8), (32, 4), (36, 4), (40, 8), (48, 4)]
  | 0x08 => [(24, 2), (26, 2), (32, 8)]
  | 0x09 => [(24, 2), (26, 2)]
  | 0x0B => [(24, 4), (32, 8)]
  | 0x10 => [(24, 8), (32, 4)]
  | 0x11 => [(24, 1), (25, 1), (28, 4), (32, 8), (40, 4), (44, 12), (56, 8)]
  | 0x12 => [(24, 1), (32, 8)]
  | 0x18 => [(24, 1), (25, 1), (26, 2), (28, 4), (32, 4), (40, 8), (48, 8), (56, 4)]
  | 0x19 => [(24, 1), (25, 1), (28, 4)]
  | 0x1A => [(24, 1), (25, 1), (26, 1), (28, 4)]
  | 0x20 => [(24, 1), (26, 2), (28, 4)]
  | 0x28 => [(24, 8)]
  | 0x30 => [(24, 2), (26, 1)]
  | 0x31 => [(24, 2), (28, 4)]
  | 0x38 => [(24, 1)]
  | 0x39 => [(24, 1)]
  | _ => []

/-- Every byte from 24 to 63 that Table 11.3 does not name is 0 (R303). -/
def restZero (c : Capsule) : Bool :=
  (List.range 40).all (fun i => (namedBytes c).any (fun f => decide (f.1 ≤ 24 + i ∧ 24 + i < f.1 + f.2)) || cap c (24 + i) 1 == 0)

/-- R282: the opcodes whose VAULT_ID names a vault. -/
def namesVault (c : Capsule) : Bool :=
  [0x01, 0x02, 0x03, 0x09, 0x0A, 0x0B, 0x10, 0x18].contains (capOPC c) || (capOPC c == 0x08 && (cap c 26 2).testBit 0)

/-- Table 11.4: the opcodes without data. -/
def noData (c : Capsule) : Bool := [0x04, 0x05, 0x0A, 0x28, 0x30, 0x39, 0x3F].contains (capOPC c)

/-- R282, R283: FLAGS, VAULT_ID, DPTR, DLEN and LCOUNT. DEDUCED: log entry 104. -/
def headOk (c : Capsule) : Bool :=
  decide (cap c 1 1 < 4) && (!capXRDY c || capOPC c == 0x02) && (namesVault c || capVAULT c == 0)
  && (if noData c then capDPTR c == 0 && capDLEN c == 0 && capLCOUNT c == 0 && !capLIST c
      else if capLIST c then decide (1 ≤ capLCOUNT c ∧ capLCOUNT c ≤ 4096 ∧ capDPTR c % 16 = 0 ∧ 0 < capDLEN c)
      else capLCOUNT c == 0)

/-- Table 11.4: DLEN of a READ or WRITE. -/
def blocksOk (n : Nat) : Bool := decide (n % 4096 = 0 ∧ 4096 ≤ n ∧ n ≤ 67108864)

/-- R188, Table 11.3: RFLAGS, SOFT_PTR and SOFT_LEN. DEDUCED: log entry 105. -/
def softOk (c : Capsule) : Bool :=
  decide (cap c 32 4 < 4 ∧ cap c 40 8 % 64 = 0 ∧ cap c 48 4 % 37504 = 0) && ((cap c 32 4).testBit 1 || cap c 48 4 == 0)

/-- Table 13.5: the output length of a CRYPT as its capsule tells it. DEDUCED: log entry 109. -/
def cryptOut (c : Capsule) : Nat :=
  let n := capDLEN c
  let a := cap c 28 4
  match cap c 24 1 with
  | 0 => n - a + 16
  | 1 => n - a - 16
  | 2 => n
  | 3 => 8 * ((n + 7) / 8) + 8
  | _ => 0

/-- R358, R359: MODE, KSEL, DLEN, AADLEN and OUT_LEN of a CRYPT. -/
def cryptOk (c : Capsule) : Bool :=
  let n := capDLEN c
  let a := cap c 28 4
  let m := cap c 24 1
  decide (m < 5 ∧ cap c 25 1 < 3 ∧ (cap c 25 1 = 2 → m = 3) ∧ 1 ≤ n ∧ n ≤ 67108864 ∧ cryptOut c ≤ cap c 40 4)
  && decide ((m = 0 → a ≤ n) ∧ (m = 1 → 16 ≤ n ∧ a + 16 ≤ n) ∧ (2 ≤ m → a = 0) ∧ (m = 3 → n ≤ 4096)
    ∧ (m = 4 → 16 ≤ n ∧ n ≤ 4104 ∧ n % 8 = 0))

/-- Table 16.4: STEP, STN and PARAM of a CAL_RUN. -/
def State.calOk (s : State) (c : Capsule) : Bool :=
  let st := cap c 26 2
  let n := cap c 24 1
  let p := cap c 28 4
  let stn := decide (n < s.stations)
  if st = 0x01 ∨ st = 0x03 ∨ st = 0x31 then n == 0xFF && p == 0
  else if st = 0x02 then n == 0xFF
  else if st = 0x10 ∨ st = 0x11 then stn && p == 0
  else if 0x12 ≤ st ∧ st ≤ 0x14 then stn
  else if st = 0x20 ∨ st = 0x21 then stn && p == 0 && s.accepted 0 featLivecal
  else if st = 0x30 then (stn || n == 0xFF) && p == 0
  else false

/-- R303: the fields that each opcode names, and the features that Table 11.1 asks for. DEDUCED: log entries 105, 106, 110. -/
def State.fieldsOk (s : State) (fn : Nat) (c : Capsule) : Bool :=
  let n := capDLEN c
  let stn := decide (cap c 24 1 < s.stations)
  match capOPC c with
  | 0x01 => blocksOk n && softOk c
  | 0x02 => blocksOk n && (!capXRDY c || s.accepted fn featXferRdy)
  | 0x03 => n == 4096 && softOk c && s.accepted fn featVersions
  | 0x08 =>
    if (cap c 26 2).testBit 0 then decide (cap c 26 2 = 1 ∧ n = 0 ∧ (cap c 24 2 < 64 ∨ cap c 24 2 = 0xFFFF))
    else decide (cap c 26 2 = 0 ∧ 256 ≤ n ∧ cap c 24 2 < 64 ∧ 1 ≤ cap c 32 8 ∧ cap c 32 8 ≤ 2 ^ 40)
  | 0x09 => n == 256 && (mountMask c).all (fun k => decide (k < s.stations))
  | 0x0B => decide (cap c 24 4 < 4)
  | 0x10 => decide (1 ≤ cap c 32 4 ∧ cap c 32 4 ≤ 4096)
  | 0x11 => cryptOk c
  | 0x12 => decide (cap c 24 1 = 0 ∧ 1 ≤ n ∧ n ≤ 67108864)
  | 0x18 =>
    let comp := (cap c 25 1).testBit 0
    stn && decide (cap c 25 1 < 4) && s.accepted fn featForensic && (!comp || s.accepted fn featCompand)
    && (if (cap c 25 1).testBit 1 then n == 0
        else decide (1 ≤ cap c 28 4 ∧ cap c 28 4 * epochSize comp ≤ n ∧ cap c 56 4 % 16 = 0))
  | 0x19 => stn && decide (cap c 25 1 < 2 ∧ 1 ≤ cap c 28 4 ∧ cap c 28 4 ≤ 65536 ∧ n = 64 * cap c 28 4) && s.accepted fn featPlanned
  | 0x1A =>
    let a := cap c 25 1
    stn && decide (1 ≤ a ∧ a ≤ 7 ∧ cap c 26 1 < 2 ∧ n = if a = 1 then 32 else 0) && (a != 7 || s.accepted fn featPlanned)
  | 0x20 => s.calOk c
  | 0x30 => decide (cap c 24 2 < 256 ∧ cap c 26 1 < 2)
  | 0x31 =>
    let q := cap c 24 2
    decide (1 ≤ cap c 28 4) && (decide (q < 256 ∨ q = 0xFFFF) || (q == 0xFFFE && fn == 0))
  | 0x38 => if cap c 24 1 = 0 then decide (257 ≤ n ∧ n ≤ 16777216) else decide (cap c 24 1 = 1 ∧ 257 ≤ n ∧ n ≤ 2097152)
  | 0x39 => decide (cap c 24 1 < 2)
  | _ => true

/-- R446: after SHUTDOWN only BIST_REPORT, LOG_READ and NOP are accepted. -/
def State.shutOk (s : State) (c : Capsule) : Bool :=
  !s.bit BIST_STAT BIST_STAT_SHUT || [0x21, 0x31, 0x3F].contains (capOPC c)

/-- Check 2 of R299, with R284. -/
def State.check2 (s : State) (fn sq : Nat) (c : Capsule) : Bool :=
  headOk c && restZero c && s.fieldsOk fn c && s.shutOk c
  && !(s.work.cmds.any (fun x => x.fn == fn && x.sq == sq && x.cid == capCID c && !x.mute))

/-! ## Checks 3 and 4: the vault and its blocks -/

/-- The mount or the unmount of a vault runs. DEDUCED: log entry 107. -/
def State.vaultBusy (s : State) (vid : Nat) : Bool :=
  s.ledger.mounting.contains vid || (match s.vault? vid with | some v => v.closing | none => false)

/-- Check 3 of R299 (R328, R342, R344), and R303 for the station of a capture. DEDUCED: log entry 107. -/
def State.check3 (s : State) (fn : Nat) (c : Capsule) : Status :=
  let vid := capVAULT c
  if !namesVault c || capOPC c == 0x08 then .ok
  else if capOPC c = 0x09 then
    match s.boundTo vid with
    | some f => if f ≠ fn then .vaultNotMounted else if s.vaultBusy vid then .invalidField else .ok
    | none => if fn ≠ 0 then .vaultNotMounted else if s.vaultBusy vid then .invalidField else .ok
  else if capOPC c = 0x0A then
    if fn ≠ 0 ∧ s.boundTo vid ≠ some fn then .vaultNotMounted
    else if s.vaultBusy vid then .invalidField
    else if (s.vault? vid).isNone then .vaultNotMounted
    else .ok
  else if s.boundTo vid ≠ some fn ∨ (s.vault? vid).isNone ∨ s.vaultBusy vid = true then .vaultNotMounted
  else if capOPC c == 0x18 && !(match s.vault? vid with
      | some v => v.discs.any (fun d => d.stn == some (cap c 24 1))
      | none => false) then .invalidField
  else .ok

/-- The next version of a VBA (R331). -/
def Vault.next (v : Vault) (vba : Nat) : Nat := match v.nextVer.find? (fun e => e.1 == vba) with
  | some e => e.2
  | none => 1

/-- The VBAs of a READ, READ_VERSION or WRITE. -/
def vbasOf (c : Capsule) : List Nat := (List.range (capDLEN c / 4096)).map (fun i => cap c 24 8 + i)

/-- Check 4 of R299 (R331, R334, R343, R357). -/
def State.check4 (s : State) (c : Capsule) : Status := match s.vault? (capVAULT c) with
  | none => .ok
  | some v =>
    if capOPC c = 0x01 then (if v.nblk < cap c 24 8 + capDLEN c / 4096 then .outOfRange else .ok)
    else if capOPC c = 0x02 then
      if v.nblk < cap c 24 8 + capDLEN c / 4096 ∨ (vbasOf c).any (fun a => decide (65535 < v.next a)) then .outOfRange else .ok
    else if capOPC c = 0x03 then
      if v.nblk < cap c 24 8 + 1 ∨ (v.holding (cap c 24 8) (cap c 36 4) (2 ^ 64)).isNone then .outOfRange else .ok
    else if capOPC c = 0x0B ∧ cap c 24 4 = 2 then (if v.nblk ≤ cap c 32 8 then .outOfRange else .ok)
    else if capOPC c = 0x10 then
      if (v.bands.map (fun b => if b.flags / 4 % 2 = 1 then 0 else b.seq)).foldl max 0 < cap c 24 8 + cap c 32 4 - 1 then .outOfRange else .ok
    else .ok

/-- R345: the commands that need the map. DEDUCED: log entry 108. -/
def needsMap (c : Capsule) : Bool := [0x01, 0x02, 0x03, 0x09, 0x0A, 0x0B, 0x10].contains (capOPC c)

/-! ## Check 5: buffers -/

/-- R320: the buffers of a command, as the sizes of ALLOC. DEDUCED: log entry 36. -/
def bufNeed (c : Capsule) : List Nat :=
  if [0x01, 0x02, 0x03, 0x09, 0x11, 0x12, 0x19, 0x38].contains (capOPC c) then bufSizes (capDLEN c)
  else if [0x08, 0x0B, 0x10, 0x1A, 0x20, 0x21, 0x31].contains (capOPC c) then bufSizes (min (capDLEN c) mib2)
  else []

/-- Check 5 of R299 (R320, R335). -/
def State.check5 (s : State) (schuss : Bool) (c : Capsule) : Bool :=
  s.everFits (bufNeed c) schuss
  && (capOPC c != 0x02 || (match s.vault? (capVAULT c) with | some v => s.mapFits v (vbasOf c) | none => true))

/-- R299: the status of the first check that a capsule fails; OK where it passes all. DEDUCED: log entry 108. -/
def State.checks (s : State) (fn sq : Nat) (schuss : Bool) (c : Capsule) : Status :=
  if (rowOf c).isNone || (pfOnly.contains (capOPC c) && fn != 0) then .invalidOpcode
  else if !s.check2 fn sq c then .invalidField
  else if s.check3 fn c ≠ .ok then s.check3 fn c
  else if s.fatal ctxLEDGER && needsMap c then .internal
  else if s.check4 c ≠ .ok then s.check4 c
  else if !s.check5 schuss c then .bufferExhausted
  else .ok

/-! ## Reading a capsule -/

/-- SCHUSS commands outstanding, of a function or of all. -/
def State.schussCount (s : State) (p : Cmd → Bool) : Nat := (s.work.cmds.filter (fun c => s.cmdCls c == 1 && p c)).length

/-- R249, R257, R265, R274, R296, R309, R315, R322: nothing but the order among rings keeps a capsule of SQ (fn, sq) from being read now. -/
def State.canFetch (s : State) (fn : Fn) (sq : Nat) (q : Sq) : Bool :=
  s.bit ID_DEV ID_DEV_READY && s.fnExists fn.val && !(s.func fn).d3hot && !s.ideHeld
  && s.fld (SQ_STAT fn.val sq) SQ_STAT_STATE == 1 && !s.bit (SQ_STAT fn.val sq) SQ_STAT_FAULT
  && s.fld (SQ_STAT fn.val sq) SQ_STAT_HEAD != q.tail
  && !(s.work.cmds.any (fun c => c.fn == fn.val && c.sq == sq && capOPC c.caps == 0x05 && !c.mute))
  && (q.cls != 1 || decide (s.schussCount (fun c => c.fn == fn.val) < s.fld (QS_LIM fn.val) QS_LIM_SCH_MAX ∧ s.schussCount (fun _ => true) < 64))

/-- A capsule of SQ (fn, sq) may be read and admitted now; of the capsules that one round of polls found on several rings, those of the lower
function, then of the lower SQ, go first (R300). DEDUCED: log entry 233. -/
def State.mayFetch (s : State) (fn : Fn) (sq : Nat) (q : Sq) : Bool :=
  s.canFetch fn sq q && !(s.rings.sqs.any (fun e => decide (e.1 < ringKey fn.val sq) && !q.found.isEmpty
    && (e.2.found.head?.map (·.1)) == (q.found.head?.map (·.1)) && s.canFetch (toFn (e.1 / 256)) (e.1 % 256) e.2))

/-- What the world brings with a capsule: what the stations find (R339), what a device-wide calibration step measures (R442), what
a self-test finds (R446). -/
structure CapIn where
  found : List DiscFound := []
  meas : Option CalMeas := none
  bist : List BistFind := []
  deriving DecidableEq, Repr

/-- The next admission number, above that of every outstanding command (R300). -/
def State.freshId (s : State) : Nat := s.work.cmds.foldl (fun n c => max n (c.id + 1)) s.work.nextId

/-- An admitted command. -/
def newCmd (id fn sq now : Nat) (c : Capsule) (x : CapIn) : Cmd :=
  { id := id, fn := fn, sq := sq, cid := capCID c, caps := c, admitted := now, started := [0x04, 0x05, 0x30].contains (capOPC c), aged := false,
    held := false, reserved := false, bufs := [], xrdyPosted := false, xrdyTaken := false, xrdySlot := 0, phase := 3, lead := 0, segsIn := [],
    segsOut := [], off := 0, parked := false, pr := .none, fails := 0, inBytes := [], outBytes := [], outDone := false, status := .ok,
    errAddr := 0, station := 0xFF, bandSeq := 0, detail := 0, res0 := 0, res1 := 0, waits := [], blocks := [], verLimits := [], found := x.found, records := [], poison := [],
    meas := x.meas, bist := x.bist, ended := false, mute := false }

/-- R313, R331: a READ knows which versions belong to WRITEs admitted before it. -/
def State.takeLimits (s : State) (id : Nat) (c : Capsule) : State := match s.vault? (capVAULT c) with
  | none => s
  | some v => s.setCmd id (fun x => { x with verLimits := (vbasOf c).map v.next })

/-- R331: the blocks of a WRITE take the next versions of their VBAs. -/
def State.takeVersions (s : State) (id : Nat) (c : Capsule) : State := match s.vault? (capVAULT c) with
  | none => s
  | some v =>
    let bs := (vbasOf c).map (fun a => (⟨a, v.next a, .waiting, [], 0, 0⟩ : WBlock))
    let keep := v.nextVer.filter (fun e => !(bs.any (fun b => b.vba == e.1)))
    let s := s.setVault v.id (fun v => { v with nextVer := keep ++ bs.map (fun b => (b.vba, b.ver + 1)) })
    s.setCmd id (fun x => { x with blocks := bs })

end Sys2Proof.Machine
end

