-- ==== Sys2Proof/Machine/Capsule.lean ====
section
/-!
DEFINITION. The capsules' work: admission (R299, R300, R320), the transfer-ready handshake (R289), segment lists and data in (R283,
R292), READ and its sources (R313), CRYPT and HASH (R358 to R361), plans and station control (R305, R306), calibration (R441), logs
(R311, R455), QUEUE_RESET (R310) and the rest.
-/

namespace Sys2Proof.Machine

/-! ## READ (R313, R334) -/

/-- The WRITE among the outstanding ones of the same SQ that is the source of a block: the latest admitted before the READ that names
the block and has not dropped it. DEDUCED: log entry 112. -/
def State.writeSource (s : State) (c : Cmd) (vba : Nat) : Option (Cmd × WBlock) :=
  let l := s.work.cmds.filterMap (fun w =>
    if capOPC w.caps ≠ 2 ∨ w.mute = true ∨ w.fn ≠ c.fn ∨ w.sq ≠ c.sq ∨ capVAULT w.caps ≠ capVAULT c.caps ∨ c.id ≤ w.id then none
    else match w.blocks.find? (fun b => b.vba == vba) with
      | none => none
      | some b => match b.at' with
        | .dropped => none
        | .recorded _ => some (w, b)
        | _ => if w.ended then none else some (w, b))
  l.foldl (fun (m : Option (Cmd × WBlock)) x => match m with
    | none => some x
    | some y => if y.1.id < x.1.id then some x else some y) none

/-- The latest ended WRITE of the same SQ, of those admitted before the READ, that recorded the block: its admission number and version.
DEDUCED: log entry 112. -/
def State.writtenSource (s : State) (c : Cmd) (vba : Nat) : Option (Nat × Nat) :=
  (s.work.written.filter (fun e => e.1 == (c.fn, c.sq, capVAULT c.caps, vba) && decide (e.2.1 < c.id))).foldl
    (fun (m : Option (Nat × Nat)) e => match m with
      | none => some e.2
      | some y => if y.1 < e.2.1 then some e.2 else some y) none

/-- R313: versions at or above it belong to WRITEs admitted after the READ (R331). -/
def Cmd.verLimit (c : Cmd) (vba : Nat) : Nat := c.verLimits.getD (vba - cap c.caps 24 8) (2 ^ 32)

/-- A block read from the medium at a version. -/
def State.mediumBlock (v : Vault) (c : Cmd) (vba ver : Nat) : WBlock × Option (Req × Band) := match v.holding vba ver (2 ^ 64) with
  | none => (⟨vba, ver, .dropped, [], 0, 0⟩, none)
  | some (b, e) => (⟨vba, ver, .waiting, [], 0, 0⟩, some (⟨c.id, vba, ver, e.d⟩, b))

/-- R395: the poisoned lines of the block at offset `o` of a WRITE's data, as offsets in the block. -/
def State.blockPoison (s : State) (w : Cmd) (o : Nat) : List (Nat × Nat) :=
  ((s.poisonedLines w).filter (fun p => decide (o ≤ p.1 ∧ p.1 < o + 4096))).map (fun p => (p.1 - o, p.2))

/-- R313: where a READ's block comes from, and the read of the medium that it needs; (offset, length) of the parts of its bytes that carry
the poison mark (R395). DEDUCED: log entry 112. -/
def State.readBlock (s : State) (v : Vault) (c : Cmd) (vba : Nat) : WBlock × Option (Req × Band) × List (Nat × Nat) :=
  let medium (ver : Nat) : WBlock × Option (Req × Band) × List (Nat × Nat) := let m := State.mediumBlock v c vba ver; (m.1, m.2, [])
  let latest : WBlock × Option (Req × Band) × List (Nat × Nat) := match v.latest vba (c.verLimit vba) with
    | none => (⟨vba, 0, .dropped, [], 0, 0⟩, none, [])
    | some ver => medium ver
  let ended : WBlock × Option (Req × Band) × List (Nat × Nat) := match s.writtenSource c vba with
    | some e => medium e.2
    | none => latest
  let of (w : Cmd) (b : WBlock) : WBlock × Option (Req × Band) × List (Nat × Nat) := match b.at' with
    | .recorded _ => medium b.ver
    | .waiting => (⟨vba, b.ver, .forward w.id, [], 0, 0⟩, none, [])
    | _ => (⟨vba, b.ver, .gathered, b.data, 0, 0⟩, none, s.blockPoison w (4096 * (vba - cap w.caps 24 8)))
  match s.writeSource c vba with
  | none => ended
  | some (w, b) => match s.writtenSource c vba with
    | some e => if w.id < e.1 then ended else of w b
    | none => of w b

/-- The blocks of a READ are found: those that come from the medium are read, one that is nowhere ends it with OUT_OF_RANGE. -/
def State.mapBlocks (s : State) (id : Nat) (v : Vault) (l : List (WBlock × Option (Req × Band) × List (Nat × Nat))) : State :=
  let vbas := l.map (fun x => x.1.vba)
  let s := s.setCmd id (fun c => { c with
    blocks := c.blocks.map (fun b => match l.find? (fun x => x.1.vba == b.vba) with | some x => x.1 | none => b) })
  let first := match s.cmd? id with | some c => cap c.caps 24 8 | none => 0
  let ps := l.flatMap (fun x => x.2.2.map (fun p => (4096 * (x.1.vba - first) + p.1, p.2)))
  let s := if ps.isEmpty then s else s.markPoison id ps
  let s := if l.any (fun x => x.1.at' == .dropped && vbas.contains x.1.vba) then s.note id .outOfRange else s
  s.queueReads id v.id (l.filterMap (fun x => x.2.1))

/-- READ and READ_VERSION begin (R313, R334). -/
def State.beginRead (s : State) (id : Nat) : State := match s.cmd? id with
  | none => s
  | some c => match s.vault? (capVAULT c.caps) with
    | none => s.finishWith id .vaultNotMounted
    | some v =>
      let s := s.setCmd id (fun c => { c with blocks := (vbasOf c.caps).map (fun a => ⟨a, 0, .waiting, [], 0, 0⟩) })
      let l := if capOPC c.caps = 3 then (vbasOf c.caps).map (fun a => let m := State.mediumBlock v c a (cap c.caps 36 4); (m.1, m.2, []))
        else (vbasOf c.caps).map (s.readBlock v c)
      (s.mapBlocks id v l).finishRead id

/-- R313: the READs that await bytes of a WRITE take them once they have arrived, or take the next source where the WRITE has
dropped the block. -/
def State.forwardOne (s : State) (id : Nat) : State := match s.cmd? id with
  | none => s
  | some c =>
    let due := c.blocks.filter (fun b => match b.at' with
      | .forward w => (match s.writeSource c b.vba with
        | some (x, y) => x.id != w || y.at' != .waiting
        | none => true)
      | _ => false)
    if due.isEmpty || c.ended || c.held then s
    else match s.vault? (capVAULT c.caps) with
      | none => s.finishWith id .vaultNotMounted
      | some v => (s.mapBlocks id v (due.map (fun b => s.readBlock v c b.vba))).finishRead id

def State.forwards (s : State) : State :=
  ((s.work.cmds.filter (fun c => isRead c && !c.ended && c.blocks.any (fun b => match b.at' with | .forward _ => true | _ => false))).map
    (·.id)).foldl (fun (s : State) i => s.forwardOne i) s

/-! ## CRYPT and HASH -/

/-- R359: the key that KSEL selects; none: a key blob whose integrity check fails. -/
def State.cryptKey (s : State) (c : Cmd) : Option Bytes := match cap c.caps 25 1 with
  | 0 => some (c.inBytes.take 32)
  | 1 => (match s.kek with | some k => (keyUnwrap k (c.inBytes.take 40)).bind (fun b => if b.length = 32 then some b else none) | none => none)
  | _ => s.kek

/-- The data of a command, after its key or list bytes. -/
def Cmd.dataIn (c : Cmd) : Bytes := c.inBytes.drop c.lead

/-- R358, R360: the output of a CRYPT; none: its tag or its integrity check fails. -/
def cryptRun (c : Cmd) (key : Bytes) : Option Bytes :=
  let d := c.dataIn
  let a := cap c.caps 28 4
  let iv := leBytes 12 (cap c.caps 44 12)
  match cap c.caps 24 1 with
  | 0 => let r := gcmEnc key iv (d.take a) (d.drop a); some (r.1 ++ r.2)
  | 1 => gcmDec key iv (d.take a) ((d.drop a).take (d.length - a - 16)) (d.drop (d.length - 16))
  | 2 => some (aesCtr key iv 1 d)
  | 3 => some (keyWrap key d)
  | _ => keyUnwrap key d

/-- CRYPT once its data has arrived. On a failed check the output that is held is overwritten with zeros, and none is written (R360).
DEDUCED: log entry 109. -/
def State.cryptDone (s : State) (id : Nat) : State := match s.cmd? id with
  | none => s
  | some c => match s.cryptKey c with
    | none => s.finishWith id (if cap c.caps 25 1 ≠ 0 ∧ s.kek.isNone = true then .internal else .invalidField)
    | some k =>
      let s := if s.dataPoisoned c 0 c.dataIn.length || c.status == .dataPoisoned then s.poisonAll id else s
      match cryptRun c k with
      | none => (s.wipeHeld c c.dataIn.length).finishWith id .authFail
      | some out =>
        if cap c.caps 40 4 < out.length then s.finishWith id .invalidField
        else (s.setCmd id (fun c => { c with res1 := out.length, segsOut := [(cap c.caps 32 8, out.length)] })).result id out

/-- HASH once its data has arrived (R361). -/
def State.hashDone (s : State) (id : Nat) : State := match s.cmd? id with
  | none => s
  | some c =>
    let s := if s.dataPoisoned c 0 c.dataIn.length || c.status == .dataPoisoned then s.poisonAll id else s
    (s.setCmd id (fun c => { c with segsOut := [(cap c.caps 32 8, 64)] })).result id (sha512 c.dataIn)

/-! ## Data in -/

/-- PLAN_LOAD once its slots have arrived (R305, Table 11.6). -/
def State.planDone (s : State) (id : Nat) : State := match s.cmd? id with
  | none => s
  | some c =>
    let slots := (chunks 64 c.dataIn).map readSlot
    if slots.any (·.isNone) then s.finishWith id .invalidField
    else
      let (s, ok) := s.takePlan (cap c.caps 24 1) (slots.filterMap (fun x => x)) ((cap c.caps 25 1).testBit 0)
      (s.setCmd id (fun x => { x with station := cap c.caps 24 1 })).finishWith id (if ok then .ok else .invalidField)

/-- The data of a command has all arrived. -/
def State.allIn (s : State) (id : Nat) : State := match s.cmd? id with
  | none => s
  | some c =>
    let s := s.setCmd id (fun c => { c with phase := 3 })
    match capOPC c.caps with
    | 0x09 => s.mountRecord id
    | 0x11 => s.cryptDone id
    | 0x12 => s.hashDone id
    | 0x19 => s.planDone id
    | 0x38 => let r := s.fwStage (cap c.caps 24 1) c.dataIn; r.1.finishWith id r.2
    | _ => s

/-- R292, R349: each block of a WRITE whose 4,096 bytes have arrived goes on to the gather stage. -/
def State.gatherArrived (s : State) (id : Nat) : State := match s.cmd? id with
  | none => s
  | some c =>
    let n := c.dataIn.length / 4096
    let first := cap c.caps 24 8
    let due := (c.blocks.filter (fun b => b.at' == .waiting && decide (b.vba - first < n))).map (fun b =>
      { b with at' := BlockAt.gathered, data := slice c.dataIn (4096 * (b.vba - first)) 4096, arrived := s.now })
    let s := s.setCmd id (fun c => { c with blocks := c.blocks.map (fun b => match due.find? (fun x => x.vba == b.vba) with | some x => x | none => b) })
    due.foldl (fun (s : State) b => s.gatherBlock id (capVAULT c.caps) b) s

/-- What a CRYPT reads before its data (R359). -/
def keySeg (c : Capsule) : List (Nat × Nat) :=
  if capOPC c ≠ 0x11 then []
  else match cap c 25 1 with
    | 0 => [(cap c 56 8, 32)]
    | 1 => [(cap c 56 8, 40)]
    | _ => []

/-! ## Outgoing and other work -/

/-- The waiting capture, its area kept in `segsIn` (R189, Table 11.4). -/
def State.captureBegin (s : State) (id : Nat) (c : Cmd) (segs : List (Nat × Nat)) : State :=
  let s := s.setCmd id (fun c => { c with segsIn := segs, phase := 3 })
  s.addTask (cap c.caps 24 1) .capture [id] (s.cmdCls c) id [cap c.caps 32 4, cap c.caps 28 4, cap c.caps 25 1 % 2, 0, 0, 0] false

/-- FORENSIC_CAPTURE with STOP (R308); a capture still waiting for its station is none that runs. DEDUCED: log entry 106. -/
def State.captureEnd (s : State) (id : Nat) (c : Cmd) : State := match s.captureFor c.fn c.sq (cap c.caps 26 2) with
  | none => s.finishWith id .invalidField
  | some e => (s.stopCapture e.1 e.2).finishWith id .ok

/-- Table 11.7: the task of an action. DEDUCED: log entry 165. -/
def actionTask (a : Nat) : TaskKind := match a with
  | 1 => .load
  | 2 => .spin
  | 3 => .park
  | 4 => .stow
  | 5 => .retire
  | _ => .mode

/-- The buffer in the bench area that a LOAD of station n is given for its identity record. DESIGN CHOICE: log entry 204. -/
def identAt (n : Nat) : Nat := 0x2000000 + 64 * n

/-- The arguments of an action's task; of a mode, 1 for planned. -/
def actionArgs (a n arg : Nat) : List Nat := match actionTask a with
  | .spin => [arg]
  | .load => [identAt n]
  | .mode => [if a = 7 then 1 else 0]
  | _ => []

/-- STATION_CTL (R306, R308). DEDUCED: log entry 165. -/
def State.stationCtl (s : State) (id : Nat) (c : Cmd) : State :=
  let n := cap c.caps 24 1
  let force := (cap c.caps 26 1).testBit 0
  let s := s.setCmd id (fun c => { c with station := n })
  let s := if force then s.forceStop n else s
  let a := cap c.caps 25 1
  s.addTask n (actionTask a) [id] (s.cmdCls c) id (actionArgs a n (cap c.caps 28 4)) force

/-- SHUTDOWN (R446, Table 16.4). -/
def State.shutdown (s : State) (id : Nat) (c : Cmd) : State :=
  let stns := List.range s.stations
  if !s.ledger.vaults.isEmpty || stns.any (fun n => s.holdsTask n || s.spinState n != 0) then s.calEnd id 0x31 0xFF 2 (s.tempOf 1) 0xFF []
  else
    let s := (stns.filter (fun n => s.bit (STN_CTL n) STN_CTL_ENABLE)).foldl (fun (s : State) n => s.stationBist n c.bist) s
    let s : State := { s with evt.wearFlash := s.evt.wear }
    ((s.deviceBist c.bist).setBit BIST_STAT BIST_STAT_SHUT true).calEnd id 0x31 0xFF 0 (s.tempOf 1) 0xFF []

/-- The signed PARAM of a TEMP step. -/
def paramInt (c : Capsule) : Int := let v := cap c 28 4; if v < 2 ^ 31 then v else (v : Int) - 2 ^ 32

/-- CAL_RUN (R441). DEDUCED: log entries 75, 77. -/
def State.calRun (s : State) (id : Nat) (c : Cmd) : State :=
  let step := cap c.caps 26 2
  let n := cap c.caps 24 1
  if step = 0x30 then (s.bistClear n).calEnd id step n 0 (s.tempOf 1) 0xFF []
  else if step = 0x31 then s.shutdown id c
  else if step ≤ 3 then s.devBegin id step (paramInt c.caps) c.meas
  else if s.unusableStn n || (s.station (toStn n)).retired then (s.setCmd id (fun c => { c with station := n })).finishWith id .stationUnavailable
  else s.addTask n .calStep [id] (s.cmdCls c) id [step, 0, cap c.caps 28 4, 0, 0, 0] false

/-- Table 11.9. -/
def errBytes (r : ErrRec) : Bytes :=
  leBytes 2 r.sqid ++ leBytes 2 r.cid ++ leBytes 1 r.opc ++ leBytes 1 (statusCode r.status) ++ leBytes 1 r.station
  ++ leBytes 1 (if r.froze then 1 else 0) ++ leBytes 8 r.vba ++ leBytes 8 r.bandSeq ++ leBytes 4 r.xfer ++ leBytes 4 r.detail
  ++ leBytes 8 r.errAddr ++ leBytes 8 r.time ++ zeros 16

/-- Table 17.3. -/
def evtBytes (r : EvtRec) : Bytes :=
  leBytes 2 r.event ++ leBytes 2 r.merged ++ leBytes 1 r.ctx ++ leBytes 1 r.fn ++ zeros 2 ++ leBytes 8 r.time
  ++ fit 16 (r.detail.flatMap (fun d => leBytes 4 d))

/-- LOG_READ (R311): oldest first; what is returned leaves the log. -/
def State.logRead (s : State) (id : Nat) (c : Cmd) : State :=
  let f := toFn c.fn
  let q := cap c.caps 24 2
  let log := (List.zip (List.range (s.func f).errLog.length) (s.func f).errLog)
  let mine := (log.filter (fun e => q == 0xFFFF || e.2.sqid == q)).take (min (cap c.caps 28 4) (capDLEN c.caps / 64))
  let keep := log.filter (fun e => !(mine.any (fun m => m.1 == e.1)))
  let lost := (s.func f).errLost
  let s := s.setFunc f (fun g => { g with errLog := keep.map (·.2), errLost := 0 })
  (s.setCmd id (fun c => { c with res0 := lost, res1 := mine.length })).result id (mine.flatMap (fun e => errBytes e.2))

/-- LOG_READ of the event log (R455). -/
def State.eventLogRead (s : State) (id : Nat) (c : Cmd) : State :=
  let n := min (cap c.caps 28 4) (capDLEN c.caps / 32)
  let mine := s.evt.log.take n
  let lost := s.evt.lost
  let s : State := { s with evt.log := s.evt.log.drop n, evt.lost := 0 }
  (s.setCmd id (fun c => { c with res0 := lost, res1 := mine.length })).result id (mine.flatMap evtBytes)

/-- QUEUE_RESET (R310). -/
def State.queueReset (s : State) (id : Nat) (c : Cmd) : State :=
  let k := cap c.caps 24 2
  if k = c.sq then s.finishWith id .invalidField
  else match s.sq? c.fn k with
    | none => s.finishWith id .invalidField
    | some q =>
      let st := s.fld (SQ_STAT c.fn k) SQ_STAT_STATE
      if st = 2 then s.finishWith id .invalidField
      else
        let ids := ((s.ofSq c.fn k).filter (fun x => !x.started && !x.ended)).map (·.id)
        let s := ids.foldl (fun (s : State) i => s.finish i (if st = 3 then .queueFrozen else .abortedByReset)) s
        let hd := s.fld (SQ_STAT c.fn k) SQ_STAT_HEAD
        let discard := cap c.caps 26 1 = 1
        let skipped := if discard then (q.tail + q.size - hd) % q.size else 0
        let s := if discard && skipped != 0 then (s.setFld (SQ_STAT c.fn k) SQ_STAT_HEAD q.tail).putSq c.fn k { q with shadowDue := true, found := [], fetch := if q.fetch = 0 then 0 else 3 } else s
        let cut := if discard && skipped != 0 && q.fetch != 0 then 1 else 0
        let s := s.setFld (SQ_STAT c.fn k) SQ_STAT_STATE 1
        (s.setCmd id (fun c => { c with waits := ids, res0 := ids.length + cut, res1 := skipped - cut })).releaseWaits

/-! ## Starting a command's work -/

/-- The domains beyond HOST and CORE that a command needs (R424, Table 15.2). DEDUCED: log entry 111. -/
def cmdDomains (c : Capsule) : List Nat :=
  let o := capOPC c
  (if [1, 2, 3, 8, 9, 0x11].contains o then [domCRYPTO] else [])
  ++ (if [2, 8, 9, 0x10, 0x12].contains o || ((o == 1 || o == 3) && (cap c 32 4).testBit 0) then [domSEAL] else [])

/-- R22: the commands that the bench core serves. -/
def benchCmd (c : Capsule) : Bool := [0x20, 0x21, 0x38, 0x39].contains (capOPC c)

/-- R22, R370: the bench core cannot serve the command; the boot ROM serves FW_STAGE and FW_ACTIVATE of firmware. -/
def State.benchFails (s : State) (c : Capsule) : Bool :=
  benchCmd c && (s.fatal ctxBENCH || (s.bit FW_STAT FW_STAT_ROM && !([0x38, 0x39].contains (capOPC c) && cap c 24 1 == 0)))

/-- R318, R441: the command waits for the bench core: it restarts, or a device-wide step runs. DEDUCED: log entry 76. -/
def State.benchWaits (s : State) (c : Capsule) : Bool :=
  benchCmd c && (!s.sec.benchUp || s.sec.benchHalt || (capOPC c == 0x20 && decide (cap c 26 2 ≤ 3) && s.cal.running.isSome))

/-- Table 16.8: an engine that the command needs is unusable. -/
def State.engineGone (s : State) (c : Capsule) : Bool :=
  let m := s.fld BIST_UNUS BIST_UNUS_MASK
  (m.testBit 6 && [2, 9, 0x12, 0x10].contains (capOPC c))
  || (m.testBit 4 && m.testBit 5 && [1, 2, 3, 8, 9, 0x11].contains (capOPC c))

/-- Table 16.8: no microcode can be staged. -/
def State.stageShut (s : State) (c : Capsule) : Bool :=
  let m := s.fld BIST_UNUS BIST_UNUS_MASK
  capOPC c == 0x38 && cap c 24 1 == 1 && (m.testBit 1 || m.testBit 3 || ((m.testBit 0 || m.testBit 2) && s.fld (SEQ_BANK 0) SEQ_BANK_DEV == 1))

/-- A command whose data segments are known and that takes no data from the host does its work. VAULT_CREATE starts with its engine operation,
FW_ACTIVATE with the bench core's; every other command when its first task is handed over or its first DMA is issued (R300). -/
def State.work' (s : State) (id : Nat) (segs : List (Nat × Nat)) : State := match s.cmd? id with
  | none => s
  | some c =>
    let s := s.setCmd id (fun c => { c with segsOut := segs, phase := 3, started := c.started || [0x08, 0x39].contains (capOPC c.caps) })
    match capOPC c.caps with
    | 0x01 => s.beginRead id
    | 0x03 => s.beginRead id
    | 0x04 => (s.flushBefore id none).releaseWaits
    | 0x05 => (s.flushBefore id none).releaseWaits
    | 0x08 => if (cap c.caps 26 2).testBit 0 then s.vaultRebind id else s.vaultCreate id
    | 0x0A => s.vaultUnmount id
    | 0x0B => s.vaultQuery id
    | 0x10 => s.sealExport id
    | 0x18 => if (cap c.caps 25 1).testBit 1 then s.captureEnd id c else s.captureBegin id c segs
    | 0x1A => s.stationCtl id c
    | 0x20 => s.calRun id c
    | 0x21 => s.report id (cutRecord (capDLEN c.caps) 64 16 s.bistRecord)
    | 0x28 => s.domainSet id
    | 0x30 => s.queueReset id c
    | 0x31 => if cap c.caps 24 2 = 0xFFFE then s.eventLogRead id c else s.logRead id c
    | 0x39 => if cap c.caps 24 1 = 0 then s.activateFirmware id else s.activateMicrocode id
    | _ => s.finishWith id .ok

/-- The segments of a command's data are known: data from the host is pulled, other commands do their work. -/
def State.haveSegs (s : State) (id : Nat) (segs : List (Nat × Nat)) : State := match s.cmd? id with
  | none => s
  | some c =>
    if [0x02, 0x09, 0x11, 0x12, 0x19, 0x38].contains (capOPC c.caps) then
      let k := keySeg c.caps
      (s.setCmd id (fun c => { c with phase := 1, segsIn := k ++ segs, lead := segBytes k, inBytes := [] })).pump id
    else s.work' id segs

/-- A command with its buffers begins its transfer or its work, waits (phase 5) for a domain or for the bench core, or ends where what it
needs has failed (R22, R345, R370, R424, Table 16.8). -/
def State.startTransfer (s : State) (id : Nat) : State := match s.cmd? id with
  | none => s
  | some c =>
    let need := (cmdDomains c.caps).filter (fun d => !s.isOn d)
    let wait (s : State) : State := s.setCmd id (fun c => { c with phase := 5 })
    if c.ended || c.held then s
    else if s.benchFails c.caps then s.finishWith id .internal
    else if s.fatal ctxLEDGER && needsMap c.caps then s.fail id .internal
    else if s.engineGone c.caps then s.fail id .internal
    else if s.stageShut c.caps then s.finishWith id .invalidField
    else if capOPC c.caps = 0x11 ∧ cap c.caps 25 1 ≠ 0 ∧ s.kek.isNone = true then s.finishWith id .internal
    else if !need.isEmpty then wait (need.foldl (fun (s : State) d => s.wake d) s)
    else if s.benchWaits c.caps then wait s
    else if capLIST c.caps then
      (s.setCmd id (fun c => { c with phase := 0, inBytes := [], segsIn := [(capDPTR c.caps, 16 * capLCOUNT c.caps)] })).pump id
    else s.haveSegs id (if capDLEN c.caps = 0 then [] else [(capDPTR c.caps, capDLEN c.caps)])

/-- R289: with its buffers reserved, a WRITE with XRDY posts its XFER_READY entry; any other command goes on. -/
def State.reserved' (s : State) (id : Nat) : State := match s.cmd? id with
  | none => s
  | some c =>
    if capXRDY c.caps then
      let s := s.setCmd id (fun c => { c with phase := 6 })
      match s.sq? c.fn c.sq with
      | none => s
      | some q => s.pushEntry c.fn q.cq ⟨id, c.fn, c.sq, c.cid, .ok, 1, 0, capDLEN c.caps, 0, 0, none⟩
    else s.startTransfer id

/-- R320: a command reserves all its buffers at once, behind earlier ones of its class that still wait. -/
def State.tryReserve (s : State) (id : Nat) : State := match s.cmd? id with
  | none => s
  | some c =>
    if c.ended || c.held || c.reserved then s
    else
      let cls := s.cmdCls c
      let wait : State := s.setCmd id (fun c => { c with phase := 7 })
      if (bufNeed c.caps).isEmpty then (s.setCmd id (fun c => { c with reserved := true })).reserved' id
      else if s.work.cmds.any (fun x => decide (x.id < id) && !x.ended && !x.held && x.phase == 7 && !x.reserved && s.cmdCls x == cls) then wait
      else match s.allocAll (bufNeed c.caps) (cls == 1) with
        | (none, _) => wait
        | (some hs, s) => (s.setCmd id (fun c => { c with reserved := true, bufs := hs })).reserved' id

/-- R300, R331: a capsule that passes every check is an outstanding command: a WRITE takes its versions, a READ their limits, a VAULT_MOUNT is known to run. -/
def State.enrol (s : State) (fn sq : Nat) (c : Capsule) (x : CapIn) : State :=
  let id := s.freshId
  let s : State := { s with work.nextId := id + 1, work.cmds := s.work.cmds ++ [newCmd id fn sq s.now c x] }
  let s := if capOPC c = 2 then s.takeVersions id c else if capOPC c = 1 then s.takeLimits id c else s
  if capOPC c = 9 then { s with ledger.mounting := s.ledger.mounting ++ [capVAULT c] } else s

/-- R300: a capsule that passes every check is admitted. -/
def State.acceptCap (s : State) (fn sq : Nat) (c : Capsule) (x : CapIn) : State := (s.enrol fn sq c x).tryReserve s.freshId

/-- Where the next capsule of an SQ lies. -/
def State.capAddr (s : State) (fn sq : Nat) (q : Sq) : Nat := q.base + 64 * s.fld (SQ_STAT fn sq) SQ_STAT_HEAD

/-- The 64 bytes at the head have been read, under the ring's PASID (R291), and the head moves past them (R279).
DEDUCED: log entry 233. -/
def State.takeHead (s : State) (fn sq : Nat) (q : Sq) : State :=
  let s := if q.fetch = 0 then s.emit (.hostRead fn q.pasid (s.capAddr fn sq q) 64) else s
  let hd := (s.fld (SQ_STAT fn sq) SQ_STAT_HEAD + 1) % q.size
  (s.setFld (SQ_STAT fn sq) SQ_STAT_HEAD hd).putSq fn sq { q with shadowDue := true, fetch := 0, found := q.found.dropWhile (fun e => e.2 == hd) }

/-- R291: the read of the capsule at the head of SQ (fn, sq) is issued, once it may be read and a translation of its page is held. -/
def State.startFetch (s : State) (fn : Fn) (sq : RingNo) : State := match s.sq? fn.val sq.val with
  | none => s
  | some q =>
    if q.fetch ≠ 0 || !s.isOn domHOST || !s.isOn domCORE || !s.mayFetch fn sq.val q
      || !s.holds fn.val q.pasid (s.capPage fn.val sq.val q) then s
    else (s.putSq fn.val sq.val { q with fetch := 1 }).emit (.hostRead fn.val q.pasid (s.capAddr fn.val sq.val q) 64)

/-- The reads of capsules that can be issued now are. -/
def State.startFetches (s : State) : State :=
  (s.rings.sqs.filter (fun e => e.2.fetch == 0 && e.2.tail != s.fld (SQ_STAT (e.1 / 256) (e.1 % 256)) SQ_STAT_HEAD)).foldl
    (fun (s : State) e => s.startFetch (toFn (e.1 / 256)) (Fin.ofNat 256 (e.1 % 256))) s

/-- R297: a capsule whose read was in flight when a DELETE_SQ or a DISCARD cut it off ends without an admitted command. -/
def State.cutCapsule (s : State) (fn sq : Nat) (q : Sq) (c : Capsule) : State :=
  let st : Status := if q.fetch = 2 then .abortedByHost else .abortedByReset
  let s := if q.fetch = 2 then s.takeHead fn sq q else s.putSq fn sq { q with fetch := 0 }
  let mine (x : Cmd) : Bool := q.fetch == 3 && capOPC x.caps == 0x30 && x.fn == fn && cap x.caps 24 2 == sq && !x.ended
  let s : State := { s with work.cmds := s.work.cmds.map (fun x => if mine x then { x with waits := x.waits ++ [s.work.nextId] } else x) }
  s.reject fn sq c st

/-- A capsule is read from SQ (fn, sq) at its head, once a translation of its page is held (R260): it is checked, and rejected or admitted
(R299, R300). -/
def State.readCapsule (s : State) (fn : Fn) (sq : RingNo) (c : Capsule) (x : CapIn) : State := match s.sq? fn.val sq.val with
  | none => s
  | some q =>
    if 2 ≤ q.fetch then s.cutCapsule fn.val sq.val q c
    else if !s.isOn domHOST || !s.isOn domCORE then (s.wake domHOST).wake domCORE
    else if !s.mayFetch fn sq.val q then (if q.fetch = 0 then s else s.putSq fn.val sq.val { q with fetch := 0 })
    else if q.fetch == 0 && !s.holds fn.val q.pasid (s.capPage fn.val sq.val q) then s.emit (.atsReq fn.val q.pasid (s.capPage fn.val sq.val q))
    else
      let s := s.takeHead fn.val sq.val q
      let st := s.checks fn.val sq.val (q.cls == 1) c
      if st = .ok then s.acceptCap fn.val sq.val c x else s.reject fn.val sq.val c st

/-! ## Data that arrives -/

/-- Bytes have arrived for command `id` (R283, R292): the list is read, a WRITE's blocks go on, and a command whose data is all there does
its work. -/
def State.arrived (s : State) (id : Nat) : State := match s.cmd? id with
  | none => s
  | some c =>
    let more := (nextChunk c.segsIn).isSome
    if c.phase = 0 then
      if more then s.pump id
      else match parseList c.inBytes (capDLEN c.caps) with
        | none => s.fail id .invalidField
        | some segs => (s.setCmd id (fun c => { c with inBytes := [], lead := 0 })).haveSegs id segs
    else if capOPC c.caps = 2 then
      let s := s.gatherArrived id
      if more then s.pump id else s.setCmd id (fun c => if c.phase = 1 then { c with phase := 3 } else c)
    else if more then s.pump id
    else s.allIn id

/-! ## What every command's end goes through -/

/-- A mount runs as long as its VAULT_MOUNT has not ended. -/
def State.liveMounts (s : State) : State :=
  { s with ledger.mounting := s.ledger.mounting.filter (fun v => s.work.cmds.any (fun c => capOPC c.caps == 9 && capVAULT c.caps == v && !c.ended)) }

/-- R318, R424: commands that waited for a domain or for the bench core, and WRITEs whose XFER_READY has been taken, go on. -/
def State.resumeWaiting (s : State) : State :=
  (s.inTurn (s.work.cmds.filter (fun c => !c.ended && !c.held && (c.phase == 5 || (c.phase == 6 && c.xrdyTaken))))).foldl
    (fun (s : State) i => s.startTransfer i) s

end Sys2Proof.Machine
end

