-- ==== Sys2Proof/Machine/Checks.lean ====
section
/-!
DEFINITION. Machine checks on the contexts of Table 1.2 (R20, R22, R345, R456), the handshake channels (R16 to R19) and MC_RECOVER
(R456).
-/

namespace Sys2Proof.Machine

/-! ## The ledger engine (R345) -/

/-- The commands that need the map fail with INTERNAL; a WRITE keeps only its blocks in bands being written. -/
def State.failMapCommands (s : State) : State :=
  let ids := (s.work.cmds.filter (fun c => !c.ended && (needsMap c.caps || capOPC c.caps == 9))).map (·.id)
  ids.foldl (fun (s : State) i => match s.cmd? i with
    | none => s
    | some c =>
      if capOPC c.caps = 2 then
        (if c.blocks.all (fun b => match b.at' with | .waiting => false | .gathered => false | _ => true) then s else s.failWrite i .internal)
      else s.fail i .internal) s

/-- A BAND_WRITE that is suspended before its band has begun ends (R345). -/
def State.dropKeptBand (s : State) (n : Nat) : State := match (s.station (toStn n)).writeKept with
  | none => s
  | some b =>
    let s := s.setStn (toStn n) (fun t => { t with writeKept := none })
    let s := (s.setBit (TASK_STATUS n) TASK_STATUS_SUSP false).setFld (TASK_STATUS n) TASK_STATUS_RESULT (statusCode .internal)
    let s : State := { s with work.suspended := SMap.del n s.work.suspended }
    if b.par.ckpt.isSome then s else s.failParison b.par.id (b.seq.getD 0) 0 .internal

/-- R345: what the ledger engine's entry into FATAL does: bands being written go on, every other parison is dropped, and every
other command that needs the map ends with INTERNAL. -/
def State.ledgerFatal (s : State) : State :=
  let s := s.setFatal ctxLEDGER
  let s : State := { s with work.tasks := s.work.tasks.filter (fun t => t.kind != .bandWrite) }
  let s := (List.range 16).foldl (fun (s : State) n =>
    let s := s.dropKeptBand n
    match s.bw? n with
    | some b => if b.begun then s else s.giveBack n .internal
    | none => s) s
  let ps := s.ledger.parisons
  let s : State := { s with ledger.parisons := [] }
  let s := ps.foldl (fun (s : State) p => if p.ckpt.isSome then s else s.failParison p.id 0 0 .internal) s
  s.failMapCommands

/-! ## The bench core (R22) -/

/-- R22, R364: what the bench core's entry into FATAL does. -/
def State.benchFatal (s : State) : State :=
  let s := s.setFatal ctxBENCH
  let ids := (s.work.cmds.filter (fun c => !c.ended && benchCmd c.caps)).map (·.id)
  let s := ids.foldl (fun (s : State) i => s.finishWith i .internal) s
  let s : State := { s with cal.running := none }
  ((s.setBit CAL_STAT CAL_STAT_BUSY false).setBit CAL_STAT CAL_STAT_REFRESH false).endSessions

/-! ## Machine checks (R20, R456) -/

/-- R20, R456: a machine check on context `ctx`; `cmd` names the command of a COMMAND context. In FATAL it is only logged.
DEDUCED: log entry 157. -/
def State.machineCheck (s : State) (ctx : Nat) (cmd : Option Nat) : State :=
  if ctx < 16 then s.stationCheck ctx
  else
    let s := s.countCheck ctx
    if ctx = ctxLEDGER then
      (if s.fatal ctxLEDGER then s.raiseIn 3 ctx 0xFF [] else (s.raiseIn 3 ctx 0xFF []).ledgerFatal)
    else if ctx = ctxBENCH then
      (if s.fatal ctxBENCH then s.raiseIn 4 ctx 0xFF [] else s.benchFatal.raiseIn 4 ctx 0xFF [])
    else
      let s := s.raiseIn 5 ctx 0xFF []
      match cmd with
      | some i => s.fail i .internal
      | none => s

/-! ## Handshake channels (R16 to R19) -/

def State.chan (s : State) (ch : Nat) : Chan := SMap.getD s.chans {} ch

def State.setChan (s : State) (ch : Nat) (c : Chan) : State := { s with chans := SMap.put s.chans {} ch c }

/-- R16: the parity bit that makes the number of ones of a byte and its bit odd. -/
def parityBit (x : Byte) : Bool := (List.range 8).foldl (fun p i => p ^^ x.getLsbD i) true

/-- R16: a byte with its bit passes. -/
def byteOk (x : Byte × Bool) : Bool := x.2 == parityBit x.1

/-- R16: a dual-rail wire is sound while its rails differ. -/
def Rails.ok (r : Rails) : Bool := r.t != r.f

/-- R16: a word is accepted if each of its bytes passes; a fault on the wires counts as a parity error. -/
def ChRx.ok (x : ChRx) : Bool := byteOk x.tagA && byteOk x.tagB && x.data.all byteOk && x.req.ok && x.ack.ok

/-- R19: the tag, from the copy whose byte passes; the first, where both do. DEDUCED: log entry 159. -/
def ChRx.tag? (x : ChRx) : Option Nat :=
  if byteOk x.tagA then some (x.tagA.1.toNat % 32) else if byteOk x.tagB then some (x.tagB.1.toNat % 32) else none

/-- The word as it travels: both copies of the tag, and a parity bit on every byte. -/
def ChWord.sent (w : ChWord) : ChRx :=
  let tag : Byte := BitVec.ofNat 8 (w.ctx % 32)
  let one (x : Byte) : Byte × Bool := (x, parityBit x)
  ⟨one tag, one tag, w.data.map one, ⟨true, false⟩, ⟨true, false⟩⟩

/-- CHANNEL_WORD (R16, R17): word `w` enters channel `ch` and is received as `x`. With 8 words standing the sender stalls; behind a replay
the word waits in order; a word that passes is accepted and acknowledged; one that fails is discarded and its replay asked for.
DEDUCED: log entry 159. -/
def State.channelWord (s : State) (ch : Nat) (w : ChWord) (x : ChRx) : State :=
  let c := s.chan ch
  if 8 ≤ c.buf.length then s
  else if c.replay then s.setChan ch { c with buf := c.buf ++ [w] }
  else if x.ok then s
  else s.setChan ch { c with buf := [w], fails := 1, replay := true, replays := c.replays + 1 }

/-- R18: the fourth failure of the oldest word, whose tag is `ctx`: it and every word behind it of that context are discarded, and the
context meets a machine check; the others are replayed. DEDUCED: log entry 157. -/
def State.channelCheck (s : State) (ch ctx : Nat) (w : ChWord) : State :=
  let c := s.chan ch
  let rest := (c.buf.drop 1).filter (fun x => x.ctx != ctx)
  let s := s.setChan ch { c with buf := rest, fails := 0, replay := !rest.isEmpty, checks := c.checks + 1 }
  (s.raiseIn 1 ctx 0xFF [ch]).machineCheck ctx w.cmd

/-- R19: neither copy of the tag of the oldest word passes: every command with a word in the buffer ends with INTERNAL.
DEDUCED: log entry 158. -/
def State.channelTagLost (s : State) (ch : Nat) : State :=
  let c := s.chan ch
  let ids := (c.buf.filterMap (fun w => w.cmd)).eraseDups
  let s := s.setChan ch { c with buf := [], fails := 0, replay := false }
  ids.foldl (fun (s : State) i => s.fail i .internal) (s.raise 2 [ch])

/-- The words of a replay that pass before the first that fails, and that word with what arrived for it. A word of which `rx` says nothing
arrives as it was sent. -/
def replayPassed : List ChWord → List ChRx → Nat × Option ChRx
  | [], _ => (0, none)
  | w :: ws, rx =>
    let x := rx.headD w.sent
    if x.ok then let r := replayPassed ws rx.tail; (r.1 + 1, r.2) else (0, some x)

/-- CHANNEL_REPLAY (R17 to R19): a replay of channel `ch` completes; its words are received as `rx`, in order.
DESIGN CHOICE: log entry 172. -/
def State.channelReplay (s : State) (ch : Nat) (rx : List ChRx) : State :=
  let c := s.chan ch
  if !c.replay then s
  else
    let r := replayPassed c.buf rx
    match c.buf.drop r.1, r.2 with
    | w :: rest, some x =>
      let fails := if r.1 = 0 then c.fails + 1 else 1
      let s := s.setChan ch { c with buf := w :: rest, fails := fails }
      if fails < 4 then s.setChan ch { c with buf := w :: rest, fails := fails, replays := c.replays + 1 }
      else match x.tag? with
        | some ctx => s.channelCheck ch ctx w
        | none => s.channelTagLost ch
    | _, _ => s.setChan ch { c with buf := [], fails := 0, replay := false }

/-! ## MC_RECOVER (R456) -/

/-- A recovery that is not accepted, or of a context that is not in FATAL. -/
def State.recoverRefused (s : State) : State := s.setBit MC_LAST MC_LAST_REFUSED true

/-- MC_RECOVER bit n: station n's island is reset as from OFF. -/
def State.recoverStation (s : State) (n : Nat) : State :=
  if !s.fatal n || s.spinState n != 0 then s.recoverRefused else s.resetStation n

/-- MC_RECOVER bit 16: every vault counts as unmounted (R345); the keys of bands still being written stay until these end. -/
def State.recoverLedger (s : State) : State :=
  if !s.fatal ctxLEDGER then s.recoverRefused
  else
    let kept := s.ledger.vaults.filter (fun v => s.vaultWriting v.id)
    { (s.clearFatal ctxLEDGER) with
        ledger.vaults := [], ledger.parisons := [], ledger.mounting := [], ledger.released := s.ledger.released ++ kept }

/-- MC_RECOVER bit 17: the bench core restarts; secure sessions end (R364). -/
def State.recoverBench (s : State) : State :=
  if !s.fatal ctxBENCH then s.recoverRefused
  else ({ (s.clearFatal ctxBENCH) with sec.benchUp := false } : State).endSessions

/-- A write of MC_RECOVER: each bit set asks for one context. -/
def State.writeRecover (s : State) (w : Word) : State :=
  let s := (List.range 16).foldl (fun (s : State) n => if w.getLsbD n then s.recoverStation n else s) s
  let s := if w.getLsbD 16 then s.recoverLedger else s
  if w.getLsbD 17 then s.recoverBench else s

/-- R345: the keys of a released vault go once no band of it is being written. -/
def State.pruneReleased (s : State) : State :=
  { s with ledger.released := s.ledger.released.filter (fun v => s.vaultWriting v.id) }

end Sys2Proof.Machine
end

