-- ==== Sys2Proof/Machine/Supply.lean ====
section
/-!
DEFINITION. The supply (R412 to R417), resets (R12, R250, R417), the start (R249, R370, R390, R391, R406, R448, R477, R478), the lift
bus (R426, R427) and thermal shutdown (R462).
-/

namespace Sys2Proof.Machine

/-! ## The supply monitor (R413, R414) -/

/-- Table 15.9: VWARN in force, mV. -/
def State.vwarn (s : State) : Nat := max 6500 (min 38000 (s.fld PM_VWARN PM_VWARN_VWARN))

/-- R414: VIN has fallen through VWARN; one that falls again before the recovery is no second dip. -/
def State.supplyFall (s : State) : State :=
  if s.bit PM_SUPPLY PM_SUPPLY_WARN then s.setBit PM_SUPPLY PM_SUPPLY_RECOV false
  else
    let s := (s.setBit PM_SUPPLY PM_SUPPLY_WARN true).bump PM_SUPPLY PM_SUPPLY_DIPS 1
    ((s.raise 10 []).vinStepFails).checkWrites

/-- R414: the comparison of VIN with the VWARN in force; the recovery period runs while VIN stands above VWARN + 0.5 V. -/
def State.compareVin (s : State) : State :=
  if s.aon.vin < s.vwarn then s.supplyFall
  else s.setBit PM_SUPPLY PM_SUPPLY_RECOV (s.bit PM_SUPPLY PM_SUPPLY_WARN && decide (s.vwarn + 500 < s.aon.vin))

/-- SUPPLY_WARNING (R413, R414): the monitor finds VIN at `mv`. DEDUCED: log entry 28. -/
def State.supplyWarning (s : State) (mv : Nat) : State := ({ s with aon.vin := mv } : State).compareVin

/-- SUPPLY_RECOVERY (R414): VIN has stood above VWARN + 0.5 V for 2 ms. -/
def State.supplyRecovery (s : State) (mv : Nat) : State :=
  let s : State := { s with aon.vin := mv }
  if !s.bit PM_SUPPLY PM_SUPPLY_WARN || decide (mv ≤ s.vwarn + 500) then s.compareVin
  else
    let s := (s.setBit PM_SUPPLY PM_SUPPLY_WARN false).setBit PM_SUPPLY PM_SUPPLY_RECOV false
    (s.raise 11 []).checkWrites

/-- A write of PM_VWARN (R414). -/
def State.writeVwarn (s : State) (w : Word) : State := (s.setFld PM_VWARN PM_VWARN_VWARN (fldGet PM_VWARN_VWARN w)).compareVin

/-! ## Resets -/

/-- PWR_GOOD and the bit that shows it. -/
def State.setPwrGood (s : State) (b : Bool) : State := ({ s with pins.pwrGood := b } : State).setBit PM_SUPPLY PM_SUPPLY_PGOOD b

/-- The registers that lie in AON and lose nothing as the other domains go to OFF: events and steering, power (R432, R466). -/
def aonKey (k : Nat) : Bool := inRange 0x20000 0x20000 k

/-- R12: at PERST# and at RESET# deassertion the power registers of Table 15.9 take their reset values, and LNK_STAT's count of recoveries
its own. PM_DSTAT, PGOOD, the straps of PM_LIFT and the link's width and rate show what they show. The event registers are R466's exception.
DEDUCED: log entry 133. -/
def State.resetPower (s : State) : State :=
  let pm (k : Nat) : Bool := inRange 0x30000 0x10000 k && k != PM_DSTAT_LO.key && k != PM_DSTAT_HI.key
  let s := (s.resetRegs pm).setFld PM_LIFT PM_LIFT_ADDR s.pins.straps
  (s.setBit PM_SUPPLY PM_SUPPLY_PGOOD s.pins.pwrGood).setReg LNK_STAT (s.reg LNK_STAT &&& 0x1FF#32)

/-- Table 0.1: what identifies the part. -/
def State.showPart (s : State) : State := match s.part with
  | .vk1640 => s
  | .vk1608 => (s.setFld ID_DEV ID_DEV_PART 0x1608).setFld ID_STN ID_STN_STATIONS 0x00FF

/-- Every domain but AON stands in state `v`; the part's fused domains stay OFF (R420, Table 0.1). DEDUCED: log entry 132. -/
def State.allDomains (s : State) (v : Nat) : State :=
  (domains.drop 1).foldl (fun (s : State) d => s.setDom d (if fusedDom s.part d then 3 else v)) s.showPart

/-- R1, Table 0.1: the reset state of either part; `State.reset` is the VK1640's. DEDUCED: log entry 134. -/
def State.resetOf (p : Part) : State := match p with
  | .vk1640 => State.reset
  | .vk1608 => ({ State.reset with part := .vk1608 } : State).allDomains 1

/-- What the flash and OTP keep across a reset (Table 18.7, ch. 13): a staged image counts as staged no more (Table 13.13). -/
def Sec.afterReset (x : Sec) : Sec := { x with staged := [false, false], clkHi := none, benchUp := true, benchHalt := false }

/-- R250, R416, R34: every domain except AON goes to OFF: commands, rings, mounted vaults, unsealed bands and the buffer memory's
contents are gone. What lies in AON, in OTP, in SPI flash and in the mechanisms stays.
DEDUCED: log entries 132, 133, 135, 213. -/
def State.resetBlock (s : State) : State :=
  let tsd := s.reg HLTH_STAT &&& 0xF0000000#32
  let unset := s.bit CLK_STAT CLK_STAT_UNSET
  let s : State := { s with
    power := {},
    pcie := {},
    fns := Vector.replicate 64 {},
    rings := {},
    work := { nextId := s.work.nextId, nextTask := s.work.nextTask },
    sec := s.sec.afterReset,
    stores := {},
    ledger := { nextPar := s.ledger.nextPar },
    evt := { hour := s.evt.hour, wear := s.evt.wearFlash, wearFlash := s.evt.wearFlash },
    cal := { deltas := s.cal.deltas, bist := s.cal.bist, bistTime := s.cal.bistTime, badStn := s.cal.badStn, badCc := s.cal.badCc, badOther := s.cal.badOther, used := s.cal.used },
    mem := { saved := s.mem.saved },
    chans := [],
    stn := s.stn.map Station.afterOff }
  let s := ((s.resetRegs (fun k => !aonKey k)).setReg HLTH_STAT tsd).setBit CLK_STAT CLK_STAT_UNSET unset
  let s := s.setBit PM_LAST PM_LAST_PEND false
  s.allDomains 3

/-- R249, R420: the start may begin. DEDUCED: log entries 136, 138. -/
def State.mayStart (s : State) : Bool :=
  s.aon.powered && decide (5500 ≤ s.aon.vin) && !s.pins.perst && !s.pins.rst && !s.aon.lockout

/-- The start begins: every domain of the part is ON, with its reset values (R12, R420). DEDUCED: log entry 138. -/
def State.beginStart (s : State) : State := if s.mayStart then s.allDomains 1 else s

/-- PERST_ASSERT (R250, R257). -/
def State.perstAssert (s : State) : State := { s.resetBlock with pins.perst := true }

/-- PERST_DEASSERT (R249): WAKE# is released (R257), and the start begins. DEDUCED: log entry 132. -/
def State.perstDeassert (s : State) : State :=
  if !s.pins.perst then s else ({ s with pins.perst := false, pins.wakeLow := false } : State).resetPower.beginStart

/-- HOT_RESET (R250). -/
def State.hotReset (s : State) : State := s.resetBlock.beginStart

/-- RESET_ASSERT (R417, R475): RESET# has been low for `ns`; a pulse between 1 µs and 10 µs may be ignored. The link stays as it is. -/
def State.resetAssert (s : State) (ns : Nat) : State :=
  let act (s : State) : State :=
    let (up, rc, rr, lnk) := (s.pcie.linkUp, s.pcie.recov, s.pcie.recovRaised, s.reg LNK_STAT)
    let s := s.resetBlock.setReg LNK_STAT (lnk &&& 0x1FF#32)
    { s with pins.rst := true, pcie.linkUp := up, pcie.recov := rc, pcie.recovRaised := rr }
  if ns ≤ 1000 then s
  else if 10000 ≤ ns then act s
  else let (b, s) := s.drawBool; if b then act s else s

/-- RESET_DEASSERT (R477). -/
def State.resetDeassert (s : State) : State := if !s.pins.rst then s else ({ s with pins.rst := false } : State).resetPower.beginStart

/-- VRST_FALL (R416): VIN falls through VRST, to `mv`. -/
def State.vrstFall (s : State) (mv : Nat) : State :=
  if 5500 ≤ mv then s else ((({ s with aon.vin := mv } : State).compareVin).setPwrGood false).resetBlock

/-- VRST_RISE (R416): VIN rises through VRST, to `mv`. -/
def State.vrstRise (s : State) (mv : Nat) : State :=
  if mv < 5800 || s.pins.pwrGood then s else ({ s with aon.vin := mv } : State).beginStart

/-- RAIL_FAULT (R417). DEDUCED: log entry 136. -/
def State.railFault (s : State) : State := (s.setPwrGood false).resetBlock

/-- AON_POWER_LOSS (R412, R452, R466): below 4.0 V nothing is powered. DEDUCED: log entry 137. -/
def State.aonPowerLoss (s : State) (mv : Nat) : State :=
  if 4000 ≤ mv then s
  else
    let s := s.resetBlock.resetRegs (fun _ => true)
    let s := (({ s with aon := { powered := false, vin := mv } } : State).setPwrGood false).allDomains 3
    { s with pins.wakeLow := false }

/-- AON_POWER_UP (R412, R459, R466): AON gains power: the straps are read, and what lies in AON takes its reset values.
DEDUCED: log entry 137. -/
def State.aonPowerUp (s : State) (straps : Nat) : State :=
  if s.aon.powered then s
  else
    let s := s.resetRegs (fun _ => true)
    let s : State := { s with aon := { vin := max 4000 s.aon.vin }, pins.straps := straps % 8 }
    ((s.setFld PM_LIFT PM_LIFT_ADDR (straps % 8)).setPwrGood false).allDomains 3

/-- THERMAL_SHUTDOWN (R462): sensor `k` has reached 125 °C. DEDUCED: log entry 138. -/
def State.thermalShutdown (s : State) (k : Nat) : State :=
  if !s.aon.powered then s
  else
    let s := (s.setPwrGood false).resetBlock
    let s := (s.setBit HLTH_STAT HLTH_STAT_TSD true).setFld HLTH_STAT HLTH_STAT_TSENS k
    { s with aon.lockout := true, aon.tsdDue := true }

/-! ## The start (R477) -/

/-- R448: what the BIST record marks unusable takes effect. -/
def State.applyBist (s : State) : State :=
  let s := (s.setFld BIST_STAT BIST_STAT_STN_UNUS (maskOf s.cal.badStn)).setFld BIST_STAT BIST_STAT_CC_UNUS (maskOf s.cal.badCc)
  let s := s.setFld BIST_UNUS BIST_UNUS_MASK (maskOf s.cal.badOther)
  let s : State := { s with evt.coreSramBad := s.cal.badOther.contains 24 }
  (List.range s.stations).foldl (fun (s : State) n => s.showUnusable n) s

/-- The image of target `t` in flash slot `k`, if it passes (R368, R371). DEDUCED: log entry 92. -/
def State.bootImage (s : State) (t k : Nat) : Option Bytes := match s.slotImage t k with
  | some b => if s.imageOk t b then some b else none
  | none => none

/-- R370: the slot that the start uses for target `t`: the one in force, or else the other. -/
def State.bootSlot (s : State) (t : Nat) : Option (Nat × Bytes) :=
  let k := s.sec.slot.getD t 0
  match s.bootImage t k, s.bootImage t (1 - k) with
  | some b, _ => some (k, b)
  | none, some b => some (1 - k, b)
  | none, none => none

/-- R363, R370: the bench core runs the firmware that passes, which is then the image in force, or stays in the boot ROM. -/
def State.loadFirmware (s : State) : State := match s.bootSlot 0 with
  | some (_, b) => { (s.setBit FW_STAT FW_STAT_ROM false).setReg (FW_VER 0) (BitVec.ofNat 32 (imgVer b)) with sec.running := b }
  | none => { s.setBit FW_STAT FW_STAT_ROM true with sec.running := [] }

/-- R370: the bench core is loaded; the microcode goes into bank A, or into bank B where
BIST has marked bank A (Table 16.8). DEDUCED: log entry 92. -/
def State.boot (s : State) : State :=
  let s := s.loadFirmware
  let m := s.reg BIST_UNUS
  let badA := m.getLsbD 0 || m.getLsbD 2
  let badB := m.getLsbD 1 || m.getLsbD 3
  let bank := if badA then 1 else 0
  let s := (List.range 16).foldl (fun (s : State) n => (s.setFld (SEQ_BANK n) SEQ_BANK_DEV bank).setFld (SEQ_BANK n) SEQ_BANK_CUR bank) s
  match s.bootSlot 1 with
  | some (_, b) => if badA && badB then s else (s.loadBank bank b true).setReg (FW_VER 1) (BitVec.ofNat 32 (imgVer b))
  | none => s

/-- R390, R391: full training of the four channels: `found` is each channel's setting (none: it has none), `savedOk` says whether the
settings saved in flash work. -/
def State.trainAtStart (s : State) (found : List (Option Nat)) (savedOk : List Bool) : State :=
  let set (c : Nat) : Option Nat := match found.getD c none with
    | some x => some x
    | none => if savedOk.getD c false then s.mem.saved.getD c none else none
  let settings := (List.range 4).map set
  let failed := (List.range 4).filter (fun c => (set c).isNone)
  let allNew := (List.range 4).all (fun c => (found.getD c none).isSome)
  let masks := (List.range 6).map (fun k => (s.reg (MEM_XOR_LO k)).toNat + 2 ^ 32 * (s.reg (MEM_XOR_HI k)).toNat)
  let s : State := { s with mem.settings := settings, mem.saved := if allNew then settings else s.mem.saved, mem.xor := masks, mem.trainedAt := s.now }
  let s := s.setFld MEM_STAT MEM_STAT_CH_FAIL (maskOf failed)
  let s := s.setBit MEM_STAT MEM_STAT_READY failed.isEmpty
  if failed.isEmpty then s else s.raise 19 [maskOf failed]

/-- START (R477): the controller becomes ready for link training. `t7` is sensor 7 in °C (R462); `found` and `savedOk` are the memory
training's findings. -/
def State.start (s : State) (t7 : Int) (found : List (Option Nat)) (savedOk : List Bool) : State :=
  if s.aon.lockout && decide (100 < t7) then s
  else
    let s : State := if s.aon.lockout then ({ s with aon.lockout := false } : State).beginStart else s
    if !s.mayStart || s.pcie.trainReady then s
    else
      let s := if s.dom domHOST = 3 then s.beginStart else s
      let s := s.setPwrGood true
      let s := s.applyBist.showOtp.renewNonce
      let s := s.setBit LC_STAT LC_STAT_CERT s.certOk
      let s := ((s.boot).trainAtStart found savedOk).loadFrames
      let s := if s.aon.tsdDue then ({ s with aon.tsdDue := false } : State).raise 8 [s.fld HLTH_STAT HLTH_STAT_TSENS] else s
      let s := s.compareVin
      { s with pcie.trainReady := true }

/-- DATA_LINK_UP (R249). -/
def State.dataLinkUp (s : State) (width speed : Nat) (flit : Bool) : State :=
  if !s.pcie.trainReady || !([1, 2, 4, 8].contains width) || speed = 0 || 6 < speed then s
  else
    let s := (s.setFld LNK_STAT LNK_STAT_WIDTH width).setFld LNK_STAT LNK_STAT_SPEED speed
    { (s.setBit LNK_STAT LNK_STAT_FLIT flit) with pcie.linkUp := true }

/-- R478: what the lift-bus matches before the start left to do. DEDUCED: log entry 156. -/
def State.lateMatches (s : State) : State :=
  let k := s.aon.e012Due
  let msg := s.aon.e012Msg
  let s : State := { s with aon.e012Due := 0, aon.e012Msg := false }
  let s := (List.range k).foldl (fun (s : State) _ => s.logEvent 12 31 0xFF []) s
  if msg && s.bit (EVT_STEER 12) EVT_STEER_EN then
    s.eventMsg (toFn (s.fld (EVT_STEER 12) EVT_STEER_FN)) (s.fld (EVT_STEER 12) EVT_STEER_VEC)
  else s

/-- DEVICE_READY (R249, R391, Table 16.8): ID_DEV.READY becomes 1, and enabled rings begin. -/
def State.deviceReady (s : State) : State :=
  if !s.pcie.trainReady || s.bit ID_DEV ID_DEV_READY || !s.bit MEM_STAT MEM_STAT_READY || s.evt.coreSramBad then s
  else (s.setBit ID_DEV ID_DEV_READY true).lateMatches.releaseMsgs

/-! ## The lift bus (R426, R427) -/

/-- LIFT_FRAME (R426, R427): a frame with address `a` and check byte `c`; a match is acknowledged behind the check byte; `stop` says that a
stop condition ended the frame. DEDUCED: log entry 156. -/
def State.liftFrame (s : State) (a c : Nat) (stop : Bool) : State :=
  let good := a % 256 + c % 256 == 255
  let ours := good && (a % 256 == 0xB0 + s.fld PM_LIFT PM_LIFT_ADDR || a % 256 == 0xBF)
  let acked := if ours then s.emit .liftAck else s
  if !s.aon.powered then s
  else if !stop || !good then acked.bump PM_LIFT PM_LIFT_BAD 1
  else if !ours then s
  else
    let s := acked.bump PM_LIFT PM_LIFT_MATCHES 1
    let s := if s.bit ID_DEV ID_DEV_READY then s.raise 12 []
      else
        let was := s.pending? 12
        { (s.setPending 12) with aon.e012Due := s.aon.e012Due + 1, aon.e012Msg := s.aon.e012Msg || !was }
    if s.dom domHOST = 3 then (if s.pins.perst then { s with pins.wakeLow := true } else s)
    else ((domains.drop 1).filter (fun d => (s.reg PM_LWAKE).getLsbD d)).foldl (fun (s : State) d => s.wake d) s

end Sys2Proof.Machine
end

