-- ==== Sys2Proof/Machine/CfgSpace.lean ====
section
/-!
DEFINITION. Configuration space (R248, R253, R254): the identity of Table 9.2, the BARs of Table 9.3, the capabilities of Table 9.4 with the parts
and options of Table 9.1, and what AER logs (R252). The layout within a capability is PCI Express's own (PRESUMED, with the log entries named
below).
-/

namespace Sys2Proof.Machine

/-- A dword of configuration space: bits hardwired to those of `val`, bits software writes, bits it clears by writing 1, bits the controller alone
changes, and the reset value. The bits of none of these kinds are either live, read from elsewhere in the state, or left open. -/
structure CfgRow where
  off : Nat
  hard : Word
  val : Word := 0
  rw : Word := 0
  w1c : Word := 0
  ro : Word := 0
  init : Word := 0
  deriving DecidableEq, Repr

/-! ## Chains of capabilities (Table 9.4) -/

/-- The header of an extended capability: its identifier and the offset of the next; its version is left open.
PRESUMED: log entry 205. -/
def extHead (off ident next : Nat) : CfgRow := ⟨off, 0xFFF0FFFF#32, BitVec.ofNat 32 (next * 2 ^ 20 + ident), 0, 0, 0, 0⟩

/-- Extended capabilities, each pointing at the next in the list. -/
def extChain : List (Nat × Nat) → List CfgRow
  | [] => []
  | [x] => [extHead x.1 x.2 0]
  | x :: y :: l => extHead x.1 x.2 y.1 :: extChain (y :: l)

/-- Table 9.4: the extended capabilities of the PF: offset and identifier. PRESUMED: log entry 205. -/
def pfExt : List (Nat × Nat) :=
  [(0x100, 0x01), (0x148, 0x03), (0x158, 0x0E), (0x160, 0x10), (0x1A0, 0x0F), (0x1B0, 0x13), (0x1D0, 0x1B), (0x1E0, 0x19), (0x200, 0x25),
   (0x210, 0x26), (0x240, 0x2A), (0x280, 0x31), (0x2A0, 0x27), (0x2C0, 0x1E), (0x2D0, 0x2E), (0x300, 0x30)]

/-- Table 9.4: those of a VF. -/
def vfExt : List (Nat × Nat) := [(0x100, 0x01), (0x158, 0x0E), (0x1A0, 0x0F), (0x1B0, 0x13)]

/-! ## The dwords -/

/-- Where AER's prefix log lies. -/
def prefixLog : List Nat := [0x138, 0x13C, 0x140, 0x144]

/-- AER (R252): status, mask, severity, the first error pointer with no ECRC, the header log and the prefix log (Table 9.1).
PRESUMED: log entry 205. -/
def aerRows : List CfgRow :=
  [⟨0x104, 0, 0, 0, 0x00005000#32, 0, 0⟩, ⟨0x108, 0x00080000#32, 0, 0x0077F030#32, 0, 0, 0x00400000#32⟩,
   ⟨0x10C, 0x00080000#32, 0, 0x0077F030#32, 0, 0, 0x00462030#32⟩, ⟨0x114, 0, 0, 0x0000F1C1#32, 0, 0, 0x00006000#32⟩,
   ⟨0x118, 0xFFFFF7E0#32, 0, 0, 0, 0x0000081F#32, 0⟩,
   ⟨0x11C, 0, 0, 0, 0, 0xFFFFFFFF#32, 0⟩, ⟨0x120, 0, 0, 0, 0, 0xFFFFFFFF#32, 0⟩, ⟨0x124, 0, 0, 0, 0, 0xFFFFFFFF#32, 0⟩,
   ⟨0x128, 0, 0, 0, 0, 0xFFFFFFFF#32, 0⟩]
  ++ prefixLog.map (fun o => ⟨o, 0, 0, 0, 0, 0xFFFFFFFF#32, 0⟩)

/-- What every function has (Tables 9.1 and 9.4): the PCI Express capability's device registers, MSI-X, AER, ARI, ATS and PRI.
PRESUMED: log entry 205. -/
def bothRows : List CfgRow :=
  [⟨0x00, 0, 0, 0, 0, 0, 0⟩, ⟨0x04, 0x0018FEB9#32, 0x00100000#32, 0x00000146#32, 0, 0, 0⟩, ⟨0x08, 0, 0, 0, 0, 0, 0⟩, ⟨0x0C, 0xFF7F0000#32, 0, 0, 0, 0, 0⟩,
   ⟨0x2C, 0, 0, 0, 0, 0, 0⟩, ⟨0x3C, 0x0000FF00#32, 0, 0, 0, 0, 0⟩,
   ⟨0x50, 0xC1FFFFFF#32, 0x0002A010#32, 0, 0, 0, 0⟩, ⟨0x54, 0xF003F03F#32, 0x10008022#32, 0, 0, 0, 0⟩,
   ⟨0x58, 0xFFC08600#32, 0, 0x000079FF#32, 0x000F0000#32, 0, 0x00002910#32⟩, ⟨0x5C, 0x003C0FFF#32, 0x00040886#32, 0, 0, 0, 0⟩,
   ⟨0x74, 0xFFFFFFFF#32, 0x0063001F#32, 0, 0, 0, 0⟩, ⟨0x78, 0xFFFFEFE0#32, 0, 0x0000101F#32, 0, 0, 0⟩, ⟨0x7C, 0x800001FF#32, 0x0000007E#32, 0, 0, 0, 0⟩,
   ⟨0xA0, 0x3800FFFF#32, 0x00000011#32, 0, 0, 0, 0⟩, ⟨0x15C, 0xFFFFFFFF#32, 0, 0, 0, 0, 0⟩,
   ⟨0x1A4, 0x7FFF001F#32, 0, 0, 0, 0, 0⟩, ⟨0x1B4, 0x80FCFFFE#32, 0x80000000#32, 0, 0, 0, 0⟩, ⟨0x1B8, 0xFFFFFFFF#32, 512, 0, 0, 0, 0⟩,
   ⟨0x1BC, 0, 0, 0, 0, 0, 0⟩]
  ++ aerRows

/-- A BAR of Table 9.3, 64-bit and non-prefetchable: its low and its high dword. -/
def barRows (off size : Nat) : List CfgRow :=
  [⟨off, BitVec.ofNat 32 (size - 1), 4, BitVec.ofNat 32 (2 ^ 32 - size), 0, 0, 0⟩, ⟨off + 4, 0, 0, 0xFFFFFFFF#32, 0, 0, 0⟩]

/-- Configuration space of the PF. PRESUMED: log entry 205. -/
def pfCfg : List CfgRow :=
  bothRows ++ barRows 0x10 0x1000000 ++ barRows 0x18 0x10000 ++ barRows 0x20 0x1000
  ++ [⟨0x34, 0xFFFFFFFF#32, 0x40, 0, 0, 0, 0⟩, ⟨0x40, 0xFE07FFFF#32, 0xC0035001#32, 0, 0, 0, 0⟩, ⟨0x44, 0x000000F4#32, 0, 0x00000100#32, 0, 0, 0⟩,
      ⟨0x60, 0x00000E35#32, 0, 0x000001C8#32, 0, 0, 0⟩, ⟨0x80, 0, 0, 0x0000000F#32, 0, 0, 0x00000006#32⟩,
      ⟨0xA4, 0xFFFFFFFF#32, 2, 0, 0, 0, 0⟩, ⟨0xA8, 0xFFFFFFFF#32, 0x8002#32, 0, 0, 0, 0⟩,
      ⟨0x14C, 0, 0, 0, 0, 0, 0⟩, ⟨0x150, 0, 0, 0, 0, 0, 0⟩,
      ⟨0x164, 0x00000005#32, 4, 0, 0, 0, 0⟩, ⟨0x168, 0xFFFFFFC6#32, 0, 0x00000038#32, 0, 0, 0⟩, ⟨0x16C, 0xFFFFFFFF#32, 0x003F003F#32, 0, 0, 0, 0⟩,
      ⟨0x170, 0xFFFF0000#32, 0, 0, 0, 0, 0⟩, ⟨0x174, 0xFFFFFFFF#32, 0x00010001#32, 0, 0, 0, 0⟩, ⟨0x178, 0x0000FFFF#32, 0, 0, 0, 0, 0⟩,
      ⟨0x17C, 0xFFFFFFFF#32, 1, 0, 0, 0, 0⟩, ⟨0x180, 0xFFFFFFFF#32, 1, 0, 0, 0, 0⟩]
  ++ barRows 0x184 0x10000 ++ barRows 0x18C 0x4000
  ++ [⟨0x194, 0xFFFFFFFF#32, 0, 0, 0, 0, 0⟩, ⟨0x198, 0xFFFFFFFF#32, 0, 0, 0, 0, 0⟩, ⟨0x19C, 0xFFFFFFFF#32, 0, 0, 0, 0, 0⟩,
      ⟨0x1D4, 0xFFFEFFFF#32, 0x00001400#32, 0, 0, 0, 0⟩,
      ⟨0x1E4, 0, 0, 0, 0, 0, 0⟩, ⟨0x1E8, 0, 0, 0, 0, 0, 0⟩, ⟨0x204, 0, 0, 0, 0, 0, 0⟩, ⟨0x208, 0, 0, 0, 0, 0, 0⟩,
      ⟨0x2C4, 0x0000001F#32, 0x1F#32, 0, 0, 0, 0⟩, ⟨0x2C8, 0, 0, 0x0000000B#32, 0, 0, 0⟩,
      ⟨0x2D4, 0, 0, 0, 0, 0, 0⟩, ⟨0x2D8, 0x80000001#32, 0, 2, 0, 0, 0⟩, ⟨0x2DC, 0, 0, 0, 0, 0, 0⟩, ⟨0x2E0, 0xFFFFFFFF#32, 0, 0, 0, 0, 0⟩,
      ⟨0x2E4, 0, 0, 0, 0, 0, 0⟩,
      ⟨0x304, 0x00FF00FF#32, 0x41, 0, 0, 0, 0⟩, ⟨0x308, 0xFFFFFFFF#32, 0, 0, 0, 0, 0⟩, ⟨0x30C, 0, 0, 1, 0, 0, 0⟩, ⟨0x310, 0, 0, 0, 0, 0, 0⟩]
  ++ ([0x214, 0x218, 0x21C, 0x220, 0x244, 0x248, 0x24C, 0x284, 0x288, 0x28C, 0x2A4, 0x2A8].map (fun o => ⟨o, 0, 0, 0, 0, 0, 0⟩))
  ++ extChain pfExt

/-- Configuration space of a VF (R253): BARs, status and control of the link are the PF's. PRESUMED: log entry 205. -/
def vfCfg : List CfgRow :=
  bothRows
  ++ [⟨0x34, 0xFFFFFFFF#32, 0x50, 0, 0, 0, 0⟩, ⟨0xA4, 0xFFFFFFFF#32, 2, 0, 0, 0, 0⟩, ⟨0xA8, 0xFFFFFFFF#32, 0x2002#32, 0, 0, 0, 0⟩]
  ++ extChain vfExt

def cfgRow (f off : Nat) : Option CfgRow := (if f = 0 then pfCfg else vfCfg).find? (fun r => r.off == off)

/-! ## Reading and writing -/

/-- Table 9.2: the device ID of a function. -/
def State.deviceId (s : State) (f : Nat) : Nat := match s.part, f == 0 with
  | .vk1640, true => 0x1640 | .vk1640, false => 0x1641 | .vk1608, true => 0x1608 | .vk1608, false => 0x1609

/-- The live bits of a dword: which they are, and what they read. PRESUMED: log entry 148. -/
def State.cfgLive (s : State) (f : Fn) (off : Nat) : Word × Word :=
  let b (x : Bool) (k : Nat) : Nat := if x then 2 ^ k else 0
  let all (n : Nat) : Word × Word := (0xFFFFFFFF#32, BitVec.ofNat 32 n)
  let g := s.func f
  let busy := match s.pcie.doe with | .busy => true | _ => false
  let ready := match s.pcie.doe with | .ready _ => true | _ => false
  if off = 0x00 then all (s.deviceId f.val * 65536 + 0x1F3A)
  else if off = 0x08 then all (0x01800000 + s.fld ID_DEV ID_DEV_STEP)
  else if off = 0x2C then all (if boardOk s.sec.board then leNat (slice s.sec.board 8 2) + 65536 * leNat (slice s.sec.board 10 2) else 0x1F3A)
  else if off = 0xA0 then (0xC7FF0000#32, BitVec.ofNat 32 ((s.vecCount f.val - 1) % 2048 * 65536 + b g.funcMask 30 + b g.msixEn 31))
  else if off = 0x1A4 then (0x80000000#32, BitVec.ofNat 32 (b g.ats 31))
  else if off = 0x1B4 then (1#32, BitVec.ofNat 32 (b g.pri 0))
  else if off = 0x1BC then all g.priAlloc
  else if f.val ≠ 0 then (0, 0)
  else if off = 0x44 then (3#32, BitVec.ofNat 32 (b g.d3hot 0 + b g.d3hot 1))
  else if off = 0x60 then (0x03FF0002#32, BitVec.ofNat 32 (b s.power.aspm 1 + 65536 * s.fld LNK_STAT LNK_STAT_SPEED + 2 ^ 20 * s.fld LNK_STAT LNK_STAT_WIDTH))
  else if off = 0x14C then all (s.sec.serial % 2 ^ 32)
  else if off = 0x150 then all (s.sec.serial / 2 ^ 32)
  else if off = 0x168 then (1#32, BitVec.ofNat 32 (b s.pcie.vfEnable 0))
  else if off = 0x170 then (0x0000FFFF#32, BitVec.ofNat 32 s.pcie.numVfs)
  else if off = 0x178 then (0xFFFF0000#32, BitVec.ofNat 32 (s.deviceId 1 * 65536))
  else if off = 0x1D4 then (0x00010000#32, BitVec.ofNat 32 (b s.pcie.pasidEn 16))
  else if off = 0x2C8 then (4#32, BitVec.ofNat 32 (b s.power.l12 2))
  else if off = 0x2DC then (0x80000001#32, BitVec.ofNat 32 (b busy 0 + b ready 31))
  else if off = 0x310 then (0x0000000F#32, if s.pcie.ideSecure then 2 else 0)
  else (0, 0)

/-- What the kept bits of a dword hold. -/
def State.cfgKept (s : State) (f : Fn) (off : Nat) : Word := match cfgRow f.val off with
  | none => 0
  | some r => SMap.getD (s.func f).cfg r.init off

/-- The kept bits of a dword take a value. -/
def State.keepCfg (s : State) (f : Fn) (off : Nat) (w : Word) : State := match cfgRow f.val off with
  | none => s
  | some r => s.setFunc f (fun g => { g with cfg := SMap.put g.cfg r.init off w })

/-- A write of dword `off`: its writable bits take the value, and those that a 1 clears are cleared; IDE is enabled only where the PF has stored F_IDE
(R265). -/
def State.storeCfg (s : State) (f : Fn) (off : Nat) (w : Word) : State := match cfgRow f.val off with
  | none => s
  | some r =>
    let ok := off != 0x30C || (s.reg (FEAT_DRV 0 0)).getLsbD 8
    let old := s.cfgKept f off
    if ok then s.keepCfg f off (((old &&& ~~~r.rw) ||| (w &&& r.rw)) &&& ~~~(w &&& r.w1c)) else s

/-- A read of dword `off`: 0 where no capability lies (R248); bits that the spec leaves open are free.
PRESUMED: log entry 205. DEDUCED: log entry 235. -/
def State.configRead (s : State) (f : Fn) (off : Nat) : State := match cfgRow f.val off with
  | none => s.emit (.readData 0)
  | some r =>
    let (lm, lv) := s.cfgLive f off
    let kept := r.rw ||| r.w1c ||| r.ro
    let known := (r.val &&& r.hard) ||| (s.cfgKept f off &&& kept) ||| (lv &&& lm)
    let open' := ~~~(r.hard ||| kept ||| lm)
    if open' = 0 then s.emit (.readData known)
    else ({ s with fresh := s.fresh + 1 } : State).emit (.readData (known ||| (Config.freeWord s.fresh &&& open')))

/-! ## BARs (R254) -/

/-- The size of BAR `b` of a function (Table 9.3): 0 for a BAR it lacks. -/
def barSize (f b : Nat) : Nat :=
  if f = 0 then (if b = 0 then 0x1000000 else if b = 2 then 0x10000 else if b = 4 then 0x1000 else 0)
  else if b = 0 then 0x10000 else if b = 2 then 0x4000 else 0

/-- Where BAR `b` of function `f` lies on the bus: VF v's window lies at the VF BAR base plus (v − 1) times the window size. -/
def State.barBase (s : State) (f b : Nat) : Nat :=
  let at' (off : Nat) : Nat := (s.cfgKept 0 off).toNat + 2 ^ 32 * (s.cfgKept 0 (off + 4)).toNat
  if f = 0 then at' (0x10 + 4 * b) else at' (0x184 + 4 * b) + (f - 1) * barSize f b

/-! ## AER (R252) -/

/-- R252: AER of function `f` logs an error at bit `k` of its status; the first one that is not masked is pointed at, and the header of its TLP and its
prefixes, which no command gives, are logged with it where it has one. Device Status shows a fatal or a non-fatal error, as its severity says.
PRESUMED: log entry 206. -/
def State.aerLog (s : State) (f : Fn) (k : Nat) (header : Bool) : State :=
  let st := s.cfgKept f 0x104
  let masked := (s.cfgKept f 0x108).getLsbD k
  let first := !(st.getLsbD ((s.cfgKept f 0x118).toNat % 32))
  let s := s.keepCfg f 0x104 (st ||| (1#32 <<< k))
  let s := s.keepCfg f 0x58 (s.cfgKept f 0x58 ||| (1#32 <<< (if (s.cfgKept f 0x10C).getLsbD k then 18 else 17)))
  if masked || !first then s
  else
    let s := s.keepCfg f 0x118 (BitVec.ofNat 32 k)
    let free (s : State) (o : Nat) (m : Word) : State :=
      ({ s with fresh := s.fresh + 1 } : State).keepCfg f o ((s.cfgKept f o &&& ~~~m) ||| (Config.freeWord s.fresh &&& m))
    if header then ([0x11C, 0x120, 0x124, 0x128] ++ prefixLog).foldl (fun (s : State) o => free s o 0xFFFFFFFF#32) (free s 0x118 0x800#32)
    else s

/-- What an FLR leaves of a function's configuration space, as PCI Express states: what is sticky, and what rules the link.
PRESUMED: log entry 205. -/
def flrCfg (f : Nat) (m : SMap Word) : SMap Word :=
  m.filter (fun e => [0x104, 0x108, 0x10C, 0x114, 0x118, 0x11C, 0x120, 0x124, 0x128].contains e.1 || prefixLog.contains e.1
    || (f == 0 && [0x60, 0x80, 0x2C8].contains e.1))

end Sys2Proof.Machine
end

