-- ==== Sys2Proof/Machine/Pcie.lean ====
section
/-!
DEFINITION. The PCI Express function: MSI-X tables (R453), function level resets (R255, R256), D-states (R257), poison and time-outs
(R251, R252, R296), VF Enable (R253), page requests (R262, R293), DOE and SPDM (R263, R264, R362 to R366), link IDE (R265) and the
writable fields of configuration space (R248, Table 9.4).
-/

namespace Sys2Proof.Machine

/-! ## Features offered (R258, R259) -/

/-- R258: what VF v is offered under its grant; F_PLANNED, F_LIVECAL and F_IDE never. -/
def State.offer (s : State) (v : Nat) : State :=
  s.setReg (FEAT_DEV v 0) (BitVec.ofNat 32 (s.fld (VF_FEAT v) VF_FEAT_GRANT) &&& 0x2FC#32)

/-! ## MSI-X tables (R248, R453) -/

/-- R453: a message held in the PBA whose vector is no longer masked is sent. -/
def State.msixRelease (s : State) (f : Fn) : State :=
  (s.func f).pba.foldl (fun (s : State) v =>
    if s.vecMasked f v then s
    else
      let s := s.setFunc f (fun g => { g with pba := g.pba.filter (fun x => x != v) })
      if s.undeliverable f v then s else s.postMsg f v) s

/-- A write of word `k` of entry `v` of the MSI-X table of function `f`. -/
def State.msixWrite (s : State) (f : Fn) (v k : Nat) (w : Word) : State :=
  let e := s.msixEnt f v
  let e : MsixEnt := match k with
    | 0 => { e with addr := BitVec.ofNat 64 (e.addr.toNat / 2 ^ 32 * 2 ^ 32 + w.toNat / 4 * 4) }
    | 1 => { e with addr := BitVec.ofNat 64 (e.addr.toNat % 2 ^ 32 + 2 ^ 32 * w.toNat) }
    | 2 => { e with data := w }
    | _ => { e with masked := w.getLsbD 0 }
  (s.setFunc f (fun g => { g with msix := SMap.put g.msix ⟨0, 0, true⟩ v e })).msixRelease f

/-! ## Function level resets -/

/-- A command's task is at a station. DEDUCED: log entry 102. -/
def State.atStation (s : State) (id : Nat) : Bool :=
  s.work.inHand.any (fun e => e.2.cmds.contains id) || s.work.suspended.any (fun e => e.2.cmds.contains id)

/-- R255: the command runs on after an FLR of its function: a WRITE for its blocks that have arrived, one whose task is at a station, a
mount or an unmount whose checkpoint is. DEDUCED: log entry 153. -/
def State.outlives (s : State) (c : Cmd) : Bool :=
  !c.ended && (capOPC c.caps == 2 || s.atStation c.id
    || ((capOPC c.caps == 9 || capOPC c.caps == 0x0A) && c.started && s.ckptBusy (capVAULT c.caps)))

/-- R255: it moves no byte more, and posts nothing; a WRITE's blocks that have not arrived are dropped. DEDUCED: log entry 152. -/
def Cmd.muted (c : Cmd) : Cmd :=
  let drop (b : WBlock) : WBlock := if b.at' = .waiting then { b with at' := .dropped } else b
  { c with mute := true, held := false, phase := if capOPC c.caps = 9 ∨ capOPC c.caps = 0x0A then c.phase else 3, segsIn := [], segsOut := [],
           outBytes := [], blocks := if capOPC c.caps = 2 then c.blocks.map drop else c.blocks }

/-- R255: the commands of function `f`: some run on, silent; the others are gone, with their buffers, held output (R360) and waiting tasks.
DEDUCED: log entry 153. -/
def State.flrCommands (s : State) (f : Nat) : State :=
  let mine := s.work.cmds.filter (fun c => c.fn == f)
  let kept := (mine.filter s.outlives).map (·.id)
  let gone := mine.filter (fun c => !kept.contains c.id)
  let ids := mine.map (·.id)
  let s := gone.foldl (fun (s : State) c => if capOPC c.caps = 0x0A then s.setVault (capVAULT c.caps) (fun v => { v with closing := false }) else s) s
  let s := ids.foldl (fun (s : State) i => s.dropPr i) s
  let held (c : Cmd) : Bool := capOPC c.caps == 0x11 && (cap c.caps 24 1 == 1 || cap c.caps 24 1 == 4)
  let s := (gone.filter held).foldl (fun (s : State) c => s.wipeHeld c c.dataIn.length) s
  let bufs := (gone.filter (fun c => !c.ended)).flatMap (·.bufs)
  let cut (t : Task) : Option Task :=
    let cs := t.cmds.filter (fun i => !ids.contains i)
    if cs.isEmpty && !t.cmds.isEmpty then none else some { t with cmds := cs, reqs := t.reqs.filter (fun r => !ids.contains r.cmd) }
  { s with
      work.toFree := s.work.toFree ++ bufs, work.tasks := s.work.tasks.filterMap cut,
      pcie.prQueue := s.pcie.prQueue.filter (fun i => !ids.contains i),
      work.cmds := s.work.cmds.filterMap (fun c => if c.fn ≠ f then some c else if kept.contains c.id then some c.muted else none) }

/-- R255: the captures of silent commands stop at their next epoch boundary, and what they have in the capture ring is discarded. -/
def State.flrCaptures (s : State) : State :=
  let s : State := { s with work.ring := s.work.ring.filter (fun e => match s.cmd? e.cmd with | some x => !x.mute | none => false) }
  let stop (s : State) (c : Capture) : Capture := match s.cmd? c.cmd with
    | some x => if x.mute then { c with stop := some 1 } else c
    | none => c
  (List.range 16).foldl (fun (s : State) n => s.setRd n (fun r => { r with cap := r.cap.map (stop s), capKept := r.capKept.map (stop s) })) s

/-- R255: every parison that holds blocks of the function's WRITEs is begun. -/
def State.flrParisons (s : State) (f : Nat) : State :=
  let ids := (s.work.cmds.filter (fun c => c.fn == f && c.mute)).map (·.id)
  let ps := s.ledger.parisons.filter (fun p => !p.due && p.blocks.any (fun b => ids.contains b.cmd))
  ps.foldl (fun (s : State) p => s.beginParison p.id) s

/-- R255, R256: the rings of function `f`, its epochs and what hangs on them are gone. -/
def State.flrRings (s : State) (f : Nat) : State :=
  let mine (k : Nat) : Bool := k / 256 == f
  { s with
      rings.sqs := s.rings.sqs.filter (fun e => !mine e.1), rings.cqs := s.rings.cqs.filter (fun e => !mine e.1),
      rings.sqEpoch := s.rings.sqEpoch.filter (fun e => !mine e.1), rings.cqEpoch := s.rings.cqEpoch.filter (fun e => !mine e.1),
      rings.deleting := s.rings.deleting.filter (fun d => d.1 != f), work.written := s.work.written.filter (fun e => e.1.1 != f),
      pcie.atc := s.pcie.atc.filter (fun t => t.1 != f), pcie.invals := s.pcie.invals.filter (fun e => e.1.1 != f),
      pcie.heldMsgs := s.pcie.heldMsgs.filter (fun m => m.1 != f) }

/-- R255, R256, R259: the registers of function `f` that an FLR resets. -/
def State.flrRegs (s : State) (f : Nat) : State :=
  if f = 0 then
    let s := s.resetRegs (fun k => inRange 0x10000 0x1000 k || inRange 0x20 0x14 k)
    s.setFld (QS_LIM 0) QS_LIM_SCH_MAX (s.fld QS_PSCH QS_PSCH_SCH_MAX)
  else
    let s := (s.resetRegs (fun k => k / 2 ^ 24 == f)).offer f
    s.setReg (QS_LIM f) (s.reg (QS_VLIM f))

/-- R255, R256: what an FLR of any one function does. DEDUCED: log entry 149. -/
def State.flrFn (s : State) (f : Fn) : State :=
  let s := ((((s.flrCommands f.val).flrCaptures).flrParisons f.val).flrRings f.val).untold
  (s.flrRegs f.val).setFunc f (fun g => { cfg := flrCfg f.val g.cfg })

/-- VF Enable is cleared (R253, R255): the effects of an FLR on each VF. -/
def State.vfDisable (s : State) : State :=
  let s := (List.range 64).foldl (fun (s : State) v => if v ≠ 0 ∧ s.fnExists v = true then s.flrFn (toFn v) else s) s
  { s with pcie.vfEnable := false }

/-- VF_FLR (R255). -/
def State.vfFlr (s : State) (v : Fn) : State :=
  if v.val = 0 || !s.fnExists v.val then s else (s.flrFn v).emit (.flrDone v.val)

/-- PF_FLR (R256, R364): VF Enable, PASID Enable, the DOE mailbox and the secure sessions go too. DEDUCED: log entry 151. -/
def State.pfFlr (s : State) : State :=
  let s := (s.flrFn 0).vfDisable
  let s : State := { s with pcie.numVfs := 0, pcie.pasidEn := false, pcie.doe := .idle, pcie.ideSecure := false, pcie.ideKeys := [] }
  s.endSessions.emit (.flrDone 0)

/-- R255: a silent command is gone once its tasks have ended or its blocks are settled. DEDUCED: log entry 152. -/
def State.sweepMuted (s : State) : State :=
  ((s.work.cmds.filter (fun c => c.mute && !c.ended)).map (·.id)).foldl (fun (s : State) i => match s.cmd? i with
    | none => s
    | some c =>
      if capOPC c.caps = 2 then s.checkWriteCmd i
      else if capOPC c.caps = 9 ∨ capOPC c.caps = 0x0A then s
      else if s.hasTask i then s else s.finish i .ok) s

/-! ## D-states (R257) -/

/-- Every entry waiting on a CQ of function `f` is written, as far as it may be. -/
def State.postAll (s : State) (f : Fn) : State :=
  (s.rings.cqs.filter (fun e => e.1 / 256 == f.val)).foldl (fun (s : State) e =>
    (List.range e.2.waiting.length).foldl (fun (s : State) _ => s.postEntry f (e.1 % 256) true) s) s

/-- Transfers that could not move go on. DEDUCED: log entry 154. -/
def State.pumpAll (s : State) (p : Cmd → Bool) : State :=
  (s.inTurn (s.work.cmds.filter (fun c => p c && !c.ended))).foldl (fun (s : State) i => s.pump i) s

/-- D3HOT_ENTRY (R257). DEDUCED: log entry 154. -/
def State.d3hotEntry (s : State) (f : Fn) : State := if s.fnExists f.val then s.setFunc f (fun g => { g with d3hot := true }) else s

/-- D0_ENTRY: the completions held are posted in order. DEDUCED: log entry 154. -/
def State.d0Entry (s : State) (f : Fn) : State :=
  if !(s.func f).d3hot then s
  else ((s.setFunc f (fun g => { g with d3hot := false })).postAll f).pumpAll (fun c => c.fn == f.val)

/-! ## The link, poison, time-outs (R251, R252, R296) -/

/-- R251: the link, retrained, takes the rate that software has put into Link Control 2. PRESUMED: log entry 207. -/
def State.retrained (s : State) : State :=
  let rate := (s.cfgKept 0 0x80).toNat % 16
  if s.pcie.rateSet && 1 ≤ rate && rate ≤ 6 then s.setFld LNK_STAT LNK_STAT_SPEED rate else s

/-- LINK_RECOVERY (R251): the 16th entry within one second raises E013, once for that burst. DEDUCED: log entry 155. -/
def State.linkRecovery (s : State) : State :=
  let s := s.retrained
  let l := s.pcie.recov.filter (fun t => decide (s.now < t + 1000000)) ++ [s.now]
  let s := s.bump LNK_STAT LNK_STAT_RECOV 1
  let many := decide (16 ≤ l.length)
  let s' : State := { s with pcie.recov := l, pcie.recovRaised := many }
  if many && !s.pcie.recovRaised then s'.raise 13 [l.length] else s'

/-- POISONED_TLP_WRITE (R252): discarded, and logged by AER. -/
def State.poisonedWrite (s : State) (f : Fn) : State :=
  if s.fnExists f.val then (s.aerLog f 12 true).emit (.aer 0) else s

/-- R296: a capsule read has failed. -/
def State.sqReadFault (s : State) (f : Fn) (k : RingNo) : State :=
  let s := match s.sq? f.val k.val with | some q => (s.putSq f.val k.val { q with fetch := 0 }).freeDeleted | none => s
  if (s.sq? f.val k.val).isNone || s.bit (SQ_STAT f.val k.val) SQ_STAT_FAULT then s
  else (s.setBit (SQ_STAT f.val k.val) SQ_STAT_FAULT true).ringFault f.val [k.val]

/-- R296: a doorbell read has failed: the function is polled no more. -/
def State.pollFault (s : State) (f : Fn) : State :=
  if !s.fnExists f.val then s
  else
    let s := s.setFunc f (fun g => { g with pollLeft := 0, pollOwed := false })
    if s.bit (QS_FLT f.val) QS_FLT_POLL_FAULT then s else (s.setBit (QS_FLT f.val) QS_FLT_POLL_FAULT true).ringFault f.val []

/-- R296: the write of a head shadow has failed. -/
def State.shadowFault (s : State) (f : Fn) : State :=
  if !s.fnExists f.val || s.bit (QS_FLT f.val) QS_FLT_SH_FAULT then s
  else
    let s := (s.setBit (QS_FLT f.val) QS_FLT_SH_FAULT true).setFunc f (fun g => { g with shWait := true })
    (s.shadowsDone f.val).ringFault f.val []

/-- R252, R293: the read of command `id` has failed at its next byte. -/
def State.readFails (s : State) (id : Nat) (st : Status) : State := match s.cmd? id with
  | none => s
  | some c =>
    if !s.reading c then s
    else
      let addr := match nextChunk c.segsIn with | some (a, _) => a | none => 0
      (s.setCmd id (fun c => { c with errAddr := addr })).fail id st

/-- DMA_READ_COMPLETION (R252, R293, R296). -/
def State.readCompletion (s : State) (t : HostRead) (r : ReadBack) : State := match t, r with
  | .command id, .data bs => (match s.cmd? id with
    | none => s
    | some c => if s.reading c then (s.takeIn id bs).arrived id else s)
  | .command id, .poisoned => s.readFails id .dataPoisoned
  | .command id, _ => s.readFails id .dmaFault
  | .capsule _ _, .data _ => s
  | .capsule f k, _ => s.sqReadFault f k
  | .doorbell _, .data _ => s
  | .doorbell f, _ => s.pollFault f

/-- The function that made a read. -/
def State.readFn (s : State) (t : HostRead) : Fn := match t with
  | .command id => (match s.cmd? id with | some c => toFn c.fn | none => 0)
  | .capsule f _ => f
  | .doorbell f => f

/-- COMPLETION_TIMEOUT (R252): logged by AER. -/
def State.readTimeout (s : State) (t : HostRead) : State :=
  let s := (s.aerLog (s.readFn t) 14 false).emit (.aer 1)
  match t with
  | .command id => s.readFails id .dmaFault
  | .capsule f k => s.sqReadFault f k
  | .doorbell f => s.pollFault f

/-! ## VF Enable and page requests -/

/-- VF_ENABLE (R253). PRESUMED: log entry 148. -/
def State.writeVfEnable (s : State) (on : Bool) (num : Nat) : State :=
  if on = s.pcie.vfEnable then s
  else if on then (if num ≤ 63 then { s with pcie.vfEnable := true, pcie.numVfs := num } else s)
  else s.vfDisable

/-- PRI_ENABLE_WRITE (R262, R293). PRESUMED: log entry 148. -/
def State.writePri (s : State) (f : Fn) (on : Bool) : State :=
  if !s.fnExists f.val then s
  else
    let was := (s.func f).pri
    let s := s.setFunc f (fun g => { g with pri := on })
    if on && !was then (s.setBit (QS_FLT f.val) QS_FLT_PRI_STOP false).servePr else s

/-! ## DOE and SPDM -/

/-- R22, R370, R377: every request is answered with an SPDM error response. -/
def State.spdmDown (s : State) : Bool := s.fatal ctxBENCH || s.bit FW_STAT FW_STAT_ROM || s.sec.lc == 4

/-- The bench core's answer to the request in progress. -/
def State.answer (s : State) (r : SpdmResp) : State := ({ s with pcie.doe := .ready r } : State).emit (.spdm r)

/-- DOE_REQUEST (R263): a data object of `len` bytes for protocol `type`: 0 DOE Discovery with its index, 1 CMA/SPDM, 2 Secured CMA/SPDM.
DEDUCED: log entry 91. -/
def State.doeRequest (s : State) (type index len : Nat) : State :=
  if s.dom domHOST == 3 || s.pcie.doe == .busy then s
  else if 16384 < len || 2 < type then s
  else if s.spdmDown then s.answer .error
  else if type = 0 then
    if index ≤ 2 then s.answer (.discovery index ((index + 1) % 3)) else s.answer .error
  else { s with pcie.doe := .busy }

/-- DOE_ABORT (R263). -/
def State.doeAbort (s : State) : State := { s with pcie.doe := .idle }

/-- Table 13.6. DESIGN CHOICE: log entry 12. -/
def State.measurement (s : State) (i : Nat) : Bytes :=
  let img := s.sec.running
  let bit (b : Bool) (k : Nat) : Nat := if b then 2 ^ k else 0
  match i with
  | 1 => Config.bootRomDigest
  | 2 => sha512 img
  | 3 => if s.stores.okA then sha512 s.stores.imgA else zeros 64
  | 4 => if s.stores.okB then sha512 s.stores.imgB else zeros 64
  | 5 => sha512 (Config.servoSection img)
  | 6 => leBytes 1 s.sec.lc
      ++ leBytes 1 (bit (s.bit LC_STAT LC_STAT_DBG) 0 + bit (s.bit LC_STAT LC_STAT_TELEM) 1 + bit (s.fld (SEQ_BANK 0) SEQ_BANK_DEV != 0) 2)
      ++ leBytes 1 (s.sec.svn.getD 0 0) ++ leBytes 1 (s.sec.svn.getD 1 0) ++ leBytes 1 s.sec.kekGen ++ zeros 11
  | _ => sha512 (Config.otpWords (s.part == .vk1608))

/-- R264, Table 9.5: the answer to an SPDM request, and the session it opens. -/
def State.spdmAnswer (s : State) (q : SpdmReq) : SpdmResp × State :=
  let cert := s.bit LC_STAT LC_STAT_CERT
  let open' (x : Nat) : Bool := s.pcie.sessions.any (fun e => e.1 == x)
  match q with
  | .version => (.version 0x12, s)
  | .capabilities => (.capabilities [.cert, .chal, .meas, .measFresh, .keyEx, .encrypt, .mac, .hbeat, .keyUpd], s)
  | .algorithms => (.algorithms "EdDSA Ed25519" "SHA-512" "secp384r1" "AES-256-GCM", s)
  | .digests => (if cert then .digests 1 (sha512 s.sec.cert) else .error, s)
  | .certificate k => (if cert && k == 0 then .certificate s.sec.cert else .error, s)
  | .challenge k => (if cert && k == 0 && s.sec.entropyOk then .done else .error, s)
  | .measurements i =>
    if !s.sec.entropyOk then (.error, s)
    else if i = 0xFF then (.measurements ((List.range 7).map (fun k => (k + 1, s.measurement (k + 1)))), s)
    else if 1 ≤ i ∧ i ≤ 7 then (.measurements [(i, s.measurement i)], s)
    else if i = 0 then (.measurements [], s)
    else (.error, s)
  | .keyExchange x =>
    if cert && s.sec.entropyOk && decide (s.pcie.sessions.length < 2) && !open' x then
      (.done, { s with pcie.sessions := s.pcie.sessions ++ [(x, 0)] })
    else (.error, s)
  | .finish x => (if open' x then .done else .error, s)
  | .heartbeat x => (if open' x then .done else .error, s)
  | .ideKey x set sub dir key =>
    let used := s.pcie.ideSecure && (set == 1) == s.pcie.ideKeySet
    if open' x && decide (set < 2 ∧ sub < 3 ∧ dir < 2 ∧ key.length = 32) && !used then
      (.done, { s with pcie.ideKeys := SMap.ins (6 * set + 2 * sub + dir) key s.pcie.ideKeys })
    else (.error, s)
  | .other => (.error, s)

/-- A request can be answered: one is in progress and the bench core serves it or answers with an error. -/
def State.spdmRuns (s : State) : Bool := s.pcie.doe == .busy && (s.spdmDown || (s.sec.benchUp && !s.sec.benchHalt))

/-- SPDM_REQUEST (R264). DEDUCED: log entries 90, 91. PRESUMED: log entry 232. -/
def State.spdmRequest (s : State) (q : SpdmReq) : State :=
  if !s.spdmRuns then s
  else if s.spdmDown then s.answer .error
  else let (r, s) := s.spdmAnswer q; s.answer r

/-- Is `x` an open session? -/
def State.session (s : State) (x : Nat) : Bool := s.pcie.sessions.any (fun e => e.1 == x)

/-- R366: the conditions of a KEK_INSTALL with payload `b` in session `x`. DEDUCED: log entries 88, 89. -/
def State.kekOk (s : State) (x : Nat) (b : Bytes) (signer : Bytes) : Bool :=
  s.session x && s.sec.lc == 2 && s.sec.ownerDig.isSome && s.sec.dir.isEmpty
  && b.length == 128 && leNat (slice b 0 2) == 2 && slice b 2 6 == zeros 6 && slice b 40 8 == kcv (slice b 8 32)
  && leNat (slice b 48 8) == s.sec.serial && leNat (slice b 56 8) == s.nonce
  && some (sha512 signer) == s.sec.ownerDig && edVerify signer (slice b 40 24) (slice b 64 64)

/-- KEK_INSTALL (R366): `signer` is the key whose digest OTP holds. DEDUCED: log entry 89. -/
def State.kekInstall (s : State) (x : Nat) (b signer : Bytes) : State :=
  if !s.spdmRuns then s
  else if s.spdmDown || !s.kekOk x b signer then s.answer .error
  else match s.deviceKek with
    | none => s.answer .error
    | some k =>
      let s : State := { s with sec.okek := some (keyWrap k (slice b 8 32)) }
      ((s.setBit LC_STAT LC_STAT_OKEK true).renewNonce).answer .done

/-- KEY_UPDATE (R364). DEDUCED: log entry 90. -/
def State.keyUpdate (s : State) (x : Nat) : State :=
  if !s.spdmRuns then s
  else if s.spdmDown || !s.session x then s.answer .error
  else
    let s : State := { s with pcie.sessions := s.pcie.sessions.map (fun e => if e.1 = x then (x, e.2 + 1) else e) }
    s.answer .done

/-- The session ends. -/
def State.dropSession (s : State) (x : Nat) : State := { s with pcie.sessions := s.pcie.sessions.filter (fun e => e.1 != x) }

/-- END_SESSION (R364). -/
def State.endSession (s : State) (x : Nat) : State :=
  if !s.spdmRuns then s
  else if s.spdmDown || !s.session x then s.answer .error
  else (s.dropSession x).answer .done

/-! ## Link IDE (R265) -/

/-- IDE_LEAVE_SECURE. DEDUCED: log entry 151. -/
def State.ideLeave (s : State) : State :=
  if !s.pcie.ideSecure then s
  else
    let s : State := { s with pcie.ideSecure := false }
    if s.accepted 0 featIde && (!s.rings.sqs.isEmpty || !s.rings.cqs.isEmpty) then s.raise 14 [] else s

/-- The polls that are owed begin, once nothing holds them. -/
def State.owedPolls (s : State) : State :=
  (List.range 64).foldl (fun (s : State) f =>
    if (s.func (toFn f)).pollOwed && (s.func (toFn f)).pollLeft == 0 then s.poll (toFn f) else s) s

/-- DMA, polls and messages that were held go on. -/
def State.release' (s : State) : State := (s.pumpAll (fun _ => true)).owedPolls.releaseMsgs

/-- R265: every key of a set has been given. PRESUMED: log entry 232. -/
def State.ideKeyed (s : State) (set : Nat) : Bool := (List.range 6).all (fun i => (SMap.get? s.pcie.ideKeys (6 * set + i)).isSome)

/-- IDE_SECURE: the stream becomes Secure where the PF has stored F_IDE, software has enabled the stream and the key set in use is complete, or the other
one, which is then in use. DEDUCED: log entry 150. -/
def State.ideEnter (s : State) : State :=
  let k := if s.pcie.ideKeySet then 1 else 0
  if !(s.reg (FEAT_DRV 0 0)).getLsbD 8 || s.pcie.ideSecure || !(s.cfgKept 0 0x30C).getLsbD 0 then s
  else if s.ideKeyed k then ({ s with pcie.ideSecure := true } : State).release'
  else if s.ideKeyed (1 - k) then ({ s with pcie.ideSecure := true, pcie.ideKeySet := !s.pcie.ideKeySet } : State).release'
  else s

/-- IDE_KEY_REFRESH: the other key set, once complete, comes into use. PRESUMED: log entry 232. -/
def State.ideRefresh (s : State) : State := if s.pcie.ideSecure && s.ideKeyed (if s.pcie.ideKeySet then 0 else 1) then { s with pcie.ideKeySet := !s.pcie.ideKeySet } else s

/-! ## Configuration space (Table 9.4) -/

/-- The MSI-X control register: enable and Function Mask (R453). PRESUMED: log entry 148. -/
def State.writeMsixCtl (s : State) (f : Fn) (w : Word) : State :=
  (s.setFunc f (fun g => { g with msixEn := w.getLsbD 31, funcMask := w.getLsbD 30 })).msixRelease f

/-- R260, R296: a translation response lets what the rings wait for go on: the poll that is owed, shadows and entries; a failure is a ring fault for a
ring's own areas. DEDUCED: log entry 208. -/
def State.ringsTranslated (s : State) (f : Fn) (pasid : Option Nat) (page : Nat) (ok : Bool) : State :=
  let q := s.qsPasid f.val == pasid
  let poll := q && s.dbBase f.val / 4096 == page && (s.func f).pollOwed && (s.func f).pollLeft == 0
  let s := if !poll then s else if ok then s.poll f else s.pollFault f
  let shadows := (s.rings.sqs.filter (fun e => e.1 / 256 == f.val && e.2.shadowDue && q && s.shPage f.val (e.1 % 256) == page)).map (fun e => e.1 % 256)
  let s := shadows.foldl (fun (s : State) k => if ok then s.writeShadow f.val k else s.shadowFault f) s
  let posts := (s.rings.cqs.filter (fun e => e.1 / 256 == f.val && !e.2.waiting.isEmpty && e.2.pasid == pasid && s.cqPage f.val (e.1 % 256) e.2 == page)).map
    (fun e => e.1 % 256)
  let s := posts.foldl (fun (s : State) k => s.postEntry f k ok) s
  let caps := (s.rings.sqs.filter (fun e => e.1 / 256 == f.val && e.2.pasid == pasid && s.fld (SQ_STAT f.val (e.1 % 256)) SQ_STAT_HEAD != e.2.tail
    && s.capPage f.val (e.1 % 256) e.2 == page)).map (fun e => e.1 % 256)
  if ok then s else caps.foldl (fun (s : State) k => s.sqReadFault f (Fin.ofNat 256 k)) s

/-- R260, R291: a translation response lets the transfers that wait for it go on, then the rings. -/
def State.translated (s : State) (f : Fn) (pasid : Option Nat) (page : Nat) (ok : Bool) : State :=
  (s.xlateDone f pasid page ok).ringsTranslated f pasid page ok

/-- A write of dword `off` of function `f`'s configuration space: the dword's own bits, and the fields that act on the block, where PCI Express puts them within the
capabilities of Table 9.4 (PRESUMED: those layouts are PCI Express's own).
PRESUMED: log entry 148. DEDUCED: log entries 149, 235. -/
def State.configWrite (s : State) (f : Fn) (off : Nat) (w : Word) : State :=
  let pf := f.val == 0
  let s := s.storeCfg f off w
  if off = 0x58 then (if w.getLsbD 15 then (if pf then s.pfFlr else s.vfFlr f) else s)
  else if off = 0xA0 then s.writeMsixCtl f w
  else if off = 0x1A4 then
    let s := s.setFunc f (fun g => { g with ats := w.getLsbD 31 })
    if w.getLsbD 31 then s else { s with pcie.atc := s.pcie.atc.filter (fun t => t.1 != f.val) }
  else if off = 0x1B4 then s.writePri f (w.getLsbD 0)
  else if off = 0x1BC then (s.setFunc f (fun g => { g with priAlloc := w.toNat })).servePr
  else if !pf then s
  else if off = 0x44 then
    (if w.toNat % 4 = 3 then s.d3hotEntry f else if w.toNat % 4 = 0 then s.d0Entry f else s)
  else if off = 0x60 then { s with power.aspm := w.getLsbD 1 }
  else if off = 0x80 then { s with pcie.rateSet := true }
  else if off = 0x168 then s.writeVfEnable (w.getLsbD 0) s.pcie.numVfs
  else if off = 0x170 then (if s.pcie.vfEnable || decide (63 < w.toNat % 65536) then s else { s with pcie.numVfs := w.toNat % 65536 })
  else if off = 0x1D4 then { s with pcie.pasidEn := w.getLsbD 16 }
  else if off = 0x2C8 then { s with power.l12 := w.getLsbD 2 }
  else if off = 0x2D8 then (if w.getLsbD 0 then s.doeAbort else s)
  else if off = 0x2E4 then (match s.pcie.doe with | .ready _ => { s with pcie.doe := .idle } | _ => s)
  else s

end Sys2Proof.Machine
end

