-- ==== Sys2Proof/Machine/RegWrite.lean ====
section
/-!
DEFINITION. Accesses of software to the registers (R2, R9 to R13): where each write goes, the writes with an effect of their own,
the MSI-X tables and PBAs (R266), the nudge pages (R281) and the configuration space (R248).
-/

namespace Sys2Proof.Machine

/-! ## Features and vectors (R258, R259, R266) -/

/-- A write of FEAT_DRV(i) of function `f` (R258). -/
def State.writeFeatDrv (s : State) (f i : Nat) (w : Word) : State :=
  if s.bit (FEAT_STAT f) FEAT_STAT_LOCK then s.setBit (FEAT_STAT f) FEAT_STAT_REFUSED true
  else s.setReg (FEAT_DRV f i) (w &&& s.reg (FEAT_DEV f i))

/-- A write of VF_FEAT(v) (R259): the offer of a disabled VF follows at once. -/
def State.writeVfFeat (s : State) (v : Nat) (w : Word) : State :=
  let s := s.setFld (VF_FEAT v) VF_FEAT_GRANT (fldGet VF_FEAT_GRANT w)
  if s.fnExists v then s else s.offer v

/-- R266: every BASE, and the sum. -/
def State.showVectors (s : State) : State :=
  let r := (List.range 63).foldl (fun (a : State × Nat) i =>
    (a.1.setFld (VF_VEC (i + 1)) VF_VEC_BASE (256 + a.2), a.2 + a.1.fld (VF_VEC (i + 1)) VF_VEC_COUNT)) (s, 0)
  r.1.setFld VFV_STAT VFV_STAT_SUM r.2

/-- A write of VF_VEC(v) (R266): COUNT 0 is taken as 1; one above 64, one past the sum or one under VF Enable is refused. -/
def State.writeVfVec (s : State) (v : Nat) (w : Word) : State :=
  let k := max 1 (fldGet VF_VEC_COUNT w)
  let sum := s.fld VFV_STAT VFV_STAT_SUM - s.fld (VF_VEC v) VF_VEC_COUNT + k
  if s.pcie.vfEnable || decide (64 < k ∨ 1792 < sum) then s.setBit VFV_STAT VFV_STAT_REFUSED true
  else (s.setFld (VF_VEC v) VF_VEC_COUNT k).showVectors

/-! ## Queues (R271, R274, R276, R296) -/

/-- A doorbell word given as 8 bytes. DESIGN CHOICE: log entry 114. -/
def wordOf (b : Bytes) : Option (BitVec 64) := if b.length = 8 then some (BitVec.ofNat 64 (leNat b)) else none

/-- A write at offset `o` of function `f`'s queue set-up block. -/
def State.qsWrite (s : State) (f o : Nat) (w : Word) (data : Bytes) (r : RegRow) (x : Reg) (i : Nat) : State :=
  if o < 0x14 then (if s.hasRing f then s.setBit (QS_STAT f) QS_STAT_REFUSED true else s.plainWrite r x w)
  else if o = 0x18 then s.qsCmd f w (wordOf data)
  else if 0x500 ≤ o then (s.plainWrite r x w).setFull f i
  else s.plainWrite r x w

/-- A write of QS_PSCH or QS_VLIM(v) (R276): the function's QS_LIM mirrors it. -/
def State.shareWrite (s : State) (off : Nat) (w : Word) (r : RegRow) (x : Reg) (i : Nat) : State :=
  let s := s.plainWrite r x w
  if off = 0x11000 then s.setFld (QS_LIM 0) QS_LIM_SCH_MAX (s.fld QS_PSCH QS_PSCH_SCH_MAX)
  else s.setReg (QS_LIM (i + 1)) (s.reg (QS_VLIM (i + 1)))

/-! ## Security (R355, R372) -/

/-- A write of LC_CMD (R372): GO runs the command on the bytes that stand at LC_TOK. DEDUCED: log entry 94. -/
def State.writeLc (s : State) (w : Word) (data : Bytes) : State :=
  let s := s.setReg LC_CMD (w &&& 0x1FFF00FF#32)
  if fldGet LC_CMD_GO w = 0 then s else (s.readTokens (fldGet LC_CMD_OP w) (fldGet LC_CMD_LEN w)).lcRun (fldGet LC_CMD_OP w) (fldGet LC_CMD_LEN w) data

/-! ## Memory (R381, R383, R384, R390, R396, R403, R405, R406, R409) -/

/-- A write of MEM_CTL (R390): TRAIN starts a round. -/
def State.writeMemCtl (s : State) (w : Word) (r : RegRow) : State :=
  let s := s.plainWrite r MEM_CTL w
  if fldGet MEM_CTL_TRAIN w = 0 then s else ({ s with mem.round := true } : State).setBit MEM_CTL MEM_CTL_TRAIN true

def State.memRegWrite (s : State) (off : Nat) (w : Word) (r : RegRow) (x : Reg) (i : Nat) : State :=
  if off = 0x50000 then s.writeMemCtl w r
  else if 0x50010 ≤ off ∧ off < 0x50040 then s.writeXor i (decide (off % 8 = 4)) w
  else if 0x50060 ≤ off ∧ off < 0x5006C then s.writeLayout i w
  else if off = 0x50078 then s.windowWrite w
  else if 0x50080 ≤ off ∧ off < 0x50100 then s.writeRemap i w
  else if 0x50100 ≤ off ∧ off < 0x50110 then s.writeLayout (3 + i) w
  else if 0x50110 ≤ off ∧ off < 0x50120 then (s.plainWrite r x w).poolStat i
  else if off = 0x50130 then s.writeCcCtl w
  else if off = 0x5013C then (s.writeMaint w).tablesJudged s
  else s.plainWrite r x w

/-! ## Where a write goes -/

/-- R11: the effect of a 32-bit software write to offset `off` of function `fn`'s BAR0, whose domain is ON. `data` is what stands in
host memory where the write makes the controller read it (LC_TOK, the doorbell word). -/
def State.applyWrite (s : State) (fn off : Nat) (w : Word) (data : Bytes) : State := match regRow fn off with
  | none => s
  | some (r, x, i) =>
    if fn ≠ 0 then
      if off < 0x40 then (if 0x10 ≤ off ∧ off < 0x20 then s.writeFeatDrv fn i w else s.plainWrite r x w)
      else s.qsWrite fn (off - 0x40) w data r x i
    else if off < 0x10000 then
      if 0x20 ≤ off ∧ off < 0x30 then s.writeFeatDrv 0 i w
      else if 0x100 ≤ off ∧ off < 0x200 then s.writeVfVec (i + 1) w
      else if 0x200 ≤ off then s.writeVfFeat (i + 1) w
      else s.plainWrite r x w
    else if off < 0x11000 then s.qsWrite 0 (off - 0x10000) w data r x i
    else if off < 0x20000 then s.shareWrite off w r x i
    else if off = 0x30000 then s.writeVwarn w
    else if off < 0x50000 then s.plainWrite r x w
    else if off < 0x60000 then s.memRegWrite off w r x i
    else if off = 0x60004 then s.writeLc w data
    else if off = 0x60024 then s.clockSet w
    else if off = 0x70004 then s.writeRecover w
    else if 0x100000 ≤ off then (s.stnWrite ((off - 0x100000) / 0x10000) (off % 0x10000) w false).1
    else s.plainWrite r x w

/-- R13, R424, R425: an access reaches its function through HOST and then its domain: a domain that an entry names aborts it; one not
ON wakes. True: it may proceed. DEDUCED: log entry 145. -/
def State.reach (s : State) (d : Nat) : State × Bool :=
  let s := (s.wake domHOST).wake d
  (s, s.isOn domHOST && s.isOn d)

/-- An access reaches the function at all: HOST is not OFF and the function exists (R253); configuration space answers once the data link
layer is up (R249). DEDUCED: log entries 130, 146. -/
def State.linkReaches (s : State) (fn : Nat) (sp : Space) : Bool :=
  s.dom domHOST != 3 && s.fnExists fn && (sp != .config || s.pcie.linkUp)

/-- The domain that an access reaches: everything but BAR0 lies in HOST. -/
def spaceDom (sp : Space) (fn off : Nat) : Nat := match sp with
  | .bar0 => regDom fn off
  | _ => domHOST

/-- R281: the nudge pages. -/
def nudgePage (sp : Space) (fn off : Nat) : Bool := match sp with
  | .bar4 => fn == 0
  | .bar0 => fn != 0 && decide (0xF000 ≤ off ∧ off < 0x10000)
  | _ => false

/-- A 32-bit write that reaches its space. -/
def State.applyAt (s : State) (fn : Nat) (sp : Space) (off : Nat) (w : Word) (data : Bytes) : State := match sp with
  | .bar0 => s.applyWrite fn off w data
  | .bar2 => if off < 16 * s.vecCount fn then s.msixWrite (toFn fn) (off / 16) (off % 16 / 4) w else s
  | .bar4 => s
  | .config => s.configWrite (toFn fn) off w

/-- A 32-bit software write (R2, R9 to R13). DEDUCED: log entries 145, 146. -/
def State.accessAt (s : State) (fn : Nat) (sp : Space) (off : Nat) (w : Word) (data : Bytes) : State :=
  let d := spaceDom sp fn off
  if !s.linkReaches fn sp || fusedDom s.part d then s
  else
    let (s, on) := s.reach d
    if on then s.applyAt fn sp off w data
    else { s with power.stalled := s.power.stalled ++ [.write fn sp off w data] }

/-- A 32-bit software write to BAR0. -/
def State.access (s : State) (fn off : Nat) (w : Word) (data : Bytes) : State := s.accessAt fn .bar0 off w data

/-- R9, R281: a software write of `size` bytes; one of 8 bytes reaches the lower register first. An access that R9 does not take completes at
once, whatever the domain of its address: it wakes nothing and waits for nothing (R13). DESIGN CHOICE: log entry 229. -/
def State.busWrite (s : State) (fn : Nat) (sp : Space) (off size v : Nat) (data : Bytes) : State :=
  if nudgePage sp fn off then (if s.linkReaches fn sp then s.nudge (toFn fn) else s)
  else if size = 4 ∧ off % 4 = 0 then s.accessAt fn sp off (BitVec.ofNat 32 v) data
  else if size = 8 ∧ off % 8 = 0 then
    (s.accessAt fn sp off (BitVec.ofNat 32 v) data).accessAt fn sp (off + 4) (BitVec.ofNat 32 (v / 2 ^ 32)) data
  else s

/-- What the PBA shows in the 32 bits from vector `v` on. -/
def State.pbaWord (s : State) (f : Fn) (v : Nat) : Word :=
  BitVec.ofNat 32 (((s.func f).pba.filter (fun x => decide (v ≤ x ∧ x < v + 32))).map (fun x => 2 ^ (x - v))).sum

/-- A 32-bit read of BAR2 (Table 9.3). -/
def State.msixRead (s : State) (f : Fn) (off : Nat) : Word :=
  let pba := if f.val = 0 then 0x8000 else 0x2000
  let e := s.msixEnt f (off / 16)
  if off < 16 * s.vecCount f.val then
    (match off % 16 / 4 with
      | 0 => BitVec.ofNat 32 e.addr.toNat
      | 1 => BitVec.ofNat 32 (e.addr.toNat / 2 ^ 32)
      | 2 => e.data
      | _ => if e.masked then 1#32 else 0#32)
  else if pba ≤ off ∧ off < pba + (if f.val = 0 then 32 else 8) then s.pbaWord f (8 * (off - pba))
  else 0#32

/-- What a 32-bit read returns, and its effect: CLK_NOW_LO latches CLK_NOW_HI (R379), MEM_WDATA moves the window (R383). -/
def State.applyRead (s : State) (fn : Nat) (sp : Space) (off : Nat) : State := match sp with
  | .bar0 =>
    if fn = 0 ∧ off = CLK_NOW_LO.key then s.clockRead
    else if fn = 0 ∧ off = CLK_NOW_HI.key then s.clockReadHi
    else if fn = 0 ∧ off = MEM_WDATA.key then let (w, s) := s.windowRead; s.emit (.readData w)
    else (match regRow fn off with
      | none => s.emit (.readData 0#32)
      | some (_, x, _) => s.emit (.readData (s.reg x)))
  | .bar2 => s.emit (.readData (s.msixRead (toFn fn) off))
  | .bar4 => s.emit (.readData 0#32)
  | .config => s.configRead (toFn fn) off

/-- A 32-bit read (R2, R10, R13). -/
def State.readAt (s : State) (fn : Nat) (sp : Space) (off : Nat) : State :=
  let d := spaceDom sp fn off
  if !s.linkReaches fn sp then s
  else if fusedDom s.part d then s.emit (.readData 0#32)
  else
    let (s, on) := s.reach d
    if on then s.applyRead fn sp off
    else { s with power.stalled := s.power.stalled ++ [.read fn sp off] }

/-- A 32-bit read of BAR0. -/
def State.accessRead (s : State) (fn off : Nat) : State := s.readAt fn .bar0 off

/-- R9, R281: a software read of `size` bytes; one that R9 does not take is answered at once. DESIGN CHOICE: log entry 229. -/
def State.busRead (s : State) (fn : Nat) (sp : Space) (off size : Nat) : State :=
  if nudgePage sp fn off then (if s.linkReaches fn sp then s.emit (.readData 0#32) else s)
  else if size = 4 ∧ off % 4 = 0 then s.readAt fn sp off
  else if size = 8 ∧ off % 8 = 0 then (s.readAt fn sp off).readAt fn sp (off + 4)
  else if s.linkReaches fn sp then s.emit (.ones size)
  else s

/-- The stalled accesses whose domains are ON proceed, in order (R13). DEDUCED: log entry 145. -/
def State.replay (s : State) : State :=
  let l := s.power.stalled
  l.foldl (fun (s : State) a => match a with
    | .write fn sp off w data => s.accessAt fn sp off w data
    | .read fn sp off => s.readAt fn sp off) { s with power.stalled := [] }

end Sys2Proof.Machine
end

