-- ==== Sys2Proof/Machine/MemRows.lean ====
section
/-!
DEFINITION. Buffer memory as its ports use it (R380, R388 to R398), the pool operations (R402, R403), accesses to the control cache (R404
to R408) and the end of a maintenance operation (R409).
-/

namespace Sys2Proof.Machine

/-! ## Reads and writes of the ports (R380, R392 to R395) -/

/-- R395: commands whose buffers hold a poisoned line that their engine or their DMA has taken end with DATA_POISONED.
What a cache refill brings is consumed by the access that it serves. DEDUCED: log entry 116. DESIGN CHOICE: log entry 117. -/
def State.takePoison (s : State) (port line : Nat) : State :=
  let at' (c : Cmd) : List (Nat × Nat) := (List.zip (List.range c.bufs.length) c.bufs).filterMap (fun b =>
    let a := s.bufAddr b.2
    if a ≤ 64 * line ∧ 64 * line < a + poolSize (hPool b.2) then some (b.1 * mib2 + (64 * line - a), 64) else none)
  let live (p : Cmd → Bool) : List Cmd := s.work.cmds.filter (fun c => !c.ended && p c)
  if port ≤ 2 then
    let s := (live (fun c => isRead c && !(at' c).isEmpty)).foldl (fun (s : State) c => s.markPoison c.id (at' c)) s
    (live (fun c => [0x11, 0x12].contains (capOPC c.caps) && !(at' c).isEmpty)).foldl (fun (s : State) c => s.note c.id .dataPoisoned) s
  else if port = 6 then
    let off := 64 * line - (s.region 2).1
    match s.work.ring.find? (fun e => s.inRegion 2 (64 * line) 64 && ((off + (s.region 2).2 - e.at') % (s.region 2).2 < e.len)) with
    | none => s
    | some e => match s.cmd? e.cmd with
      | none => s
      | some c =>
        let before := ((s.work.ring.takeWhile (fun x => x.at' != e.at')).filter (fun x => x.cmd == e.cmd)).map (fun x => x.len + x.idx.length)
        s.markPoison e.cmd [(c.off + c.outBytes.length + before.sum + (off + (s.region 2).2 - e.at') % (s.region 2).2, 64)]
  else if port = 7 then (if s.cacheable (64 * line) then s else s.machineCheck ctxBENCH none)
  else if port = 8 then s.machineCheck ctxLEDGER none
  else s

/-- A read is served (R380, R393, R394, R395). DEDUCED: log entry 116. DESIGN CHOICE: log entry 129. -/
def State.readServed (s : State) (port a n : Nat) (wrong : List (Nat × List LineBit)) : State :=
  if memEnd < a + n then
    let s' := (s.emit (.memData port ((List.range n).map (Config.freeByte s.fresh)) true)).raise 16 [port]
    ({ s' with fresh := s.fresh + 1 } : State).takePoison port (a / 64)
  else
    let s := s.eccLines a n wrong
    let s := s.emit (.memData port (s.mem.data.read a n) (s.rangePoisoned a n))
    (s.mem.poison.filter (fun l => decide (a < 64 * l + 64 ∧ 64 * l < a + n))).foldl (fun (s : State) l => s.takePoison port l) s

/-- A write is served (R380, R392, R394): lines written in part are read first, and data computed from poisoned data carries the mark.
DESIGN CHOICE: log entry 210. -/
def State.writeServed (s : State) (port a : Nat) (bs : Bytes) (mark : Bool) (wrong : List (Nat × List LineBit)) : State :=
  if memEnd < a + bs.length then s.raise 16 [port] else
    let part := wrong.filter (fun x => !(decide (a ≤ 64 * x.1 ∧ 64 * x.1 + 64 ≤ a + bs.length)))
    let s := (s.eccLines a bs.length part).memWrite a bs
    if mark then (linesOf a bs.length).foldl (fun (s : State) l => s.setPoison l true) s else s

/-- R388: RT0's FIFO takes what P5 has read, and RT1's is freed of what P6 has written. -/
def State.fifoServed (s : State) (r : MemReq) : State :=
  if r.port = 5 ∧ r.data.isNone then { s with mem.rt0 := min 16384 (s.mem.rt0 + r.len) }
  else if r.port = 6 ∧ r.data.isSome then { s with mem.rt1 := min 65536 (s.mem.rt1 + r.len) }
  else s

/-- A request whose lines have been accessed is answered. -/
def State.reqServed (s : State) (r : MemReq) : State :=
  (match r.data with
    | some bs => s.writeServed r.port r.a bs r.mark r.wrong
    | none => s.readServed r.port r.a r.len r.wrong).fifoServed r

/-- R388: a real-time port is in PANIC: P5 while too little waits in RT0's FIFO, P6 while too little is free in RT1's.
DEDUCED: log entry 121. -/
def State.inPanic (s : State) (port : Nat) : Bool :=
  if port = 5 then decide (s.mem.rt0 < 256 * s.fld (MEM_RT 0) MEM_RT_LOW)
  else if port = 6 then decide (s.mem.rt1 < 256 * s.fld (MEM_RT 1) MEM_RT_LOW)
  else false

/-- R388: the FIFOs of the real-time ports stand as given, and each entry into PANIC is counted. DEDUCED: log entry 121. -/
def State.fifos (s : State) (fill free : Nat) : State :=
  let t : State := { s with mem.rt0 := fill, mem.rt1 := free }
  [5, 6].foldl (fun (u : State) p => if t.inPanic p && !s.inPanic p then u.bump (MEM_RT (p - 5)) MEM_RT_PANICS 1 else u) t

/-- Table 14.3: the place of the access of request `r` to line `x` in the channel's order, the first least: PANIC requests of P5 and P6, URGENT
ones, row hits, the others, reads of the lehr; row hits first among the first two. -/
def State.memLevel (s : State) (r : MemReq) (x : Nat) : Nat :=
  let hit := s.rowHit x
  if s.inPanic r.port then (if hit then 0 else 1)
  else if r.port = 9 then 6
  else if r.urgent then (if hit then 2 else 3)
  else if hit then 4 else 5

/-- Of the lines that a request has still to access in channel `c`, the one it takes first: a row hit, else the lowest. -/
def State.firstLine (s : State) (c : Nat) (r : MemReq) : Option Nat :=
  let l := r.left.filter (fun x => s.channelOf x == c)
  match l.find? s.rowHit with
  | some x => some x
  | none => l.head?

/-- R387: the next access of channel `c`, of the first level that has one the oldest: its line, its request without that line, and the requests
that still wait. DEDUCED: log entry 214. -/
def State.memPick (s : State) (c : Nat) : List MemReq → Option (Nat × MemReq × List MemReq)
  | [] => none
  | r :: l =>
    let take (x : Nat) : Nat × MemReq × List MemReq :=
      let q := { r with left := r.left.filter (fun y => y != x) }
      (x, q, if q.left.isEmpty then l else q :: l)
    match s.firstLine c r, s.memPick c l with
    | none, none => none
    | none, some (y, q, rest) => some (y, q, r :: rest)
    | some x, none => some (take x)
    | some x, some (y, q, rest) => if s.memLevel q y < s.memLevel r x then some (y, q, r :: rest) else some (take x)

/-- R386, R387: channel `c` makes its next access; a request whose last line it was is answered. DEDUCED: log entry 214. -/
def State.serveChannel (s : State) (c : Nat) : State := match s.memPick c s.mem.waiting with
  | none => s
  | some (x, r, rest) =>
    let s : State := { s with mem.waiting := rest }
    let s := s.touchLine (s.hintFor r.port x) x
    if r.left.isEmpty then s.reqServed r else s

/-- The channels `go` make accesses, in that order. DEDUCED: log entry 214. -/
def State.serveMem (s : State) (go : List Nat) : State := go.foldl (fun (s : State) c => s.serveChannel c) s

/-- A request that has no line of the memory to access is answered at once. -/
def State.serveNone (s : State) : State :=
  let now := s.mem.waiting.filter (fun r => r.left.isEmpty)
  now.foldl (fun (s : State) r => s.reqServed r) { s with mem.waiting := s.mem.waiting.filter (fun r => !r.left.isEmpty) }

/-- Every request that waits is served. -/
def State.drainMem (s : State) : State :=
  let s := s.serveNone
  s.serveMem ((s.mem.waiting.flatMap (fun r => r.left)).map (fun x => s.channelOf x))

/-- R380: a request's lines, none where the request is refused. -/
def reqLines (a n : Nat) : List Nat := if memEnd < a + n then [] else linesOf a n

/-- R387, R424: a request comes; with MEM not ON it waits and wakes it; otherwise the channels `go` make their next accesses.
DEDUCED: log entries 130, 214. -/
def State.memRequest (s : State) (r : MemReq) (go : List Nat) : State :=
  let s : State := { s with mem.waiting := s.mem.waiting ++ [r] }
  if s.isOn domMEM then ((s.missCloses r).serveNone).serveMem go else s.wake domMEM

/-- MEMORY_READ: `port` reads `n` bytes at `a`; `wrong` names lines of them and the bits of each that have failed; `fill` bytes wait in RT0's
FIFO and `free` are free in RT1's. -/
def State.memoryRead (s : State) (port a n : Nat) (wrong : List (Nat × List LineBit)) (fill free : Nat) (go : List Nat) : State :=
  ((s.fifos fill free).memRequest ⟨port, a, n, none, wrong, false, false, reqLines a n⟩ go).tablesJudged s

/-- MEMORY_WRITE: `port` writes `bs` at `a`, which carry the poison mark or not. -/
def State.memoryWrite (s : State) (port a : Nat) (bs : Bytes) (mark : Bool) (wrong : List (Nat × List LineBit)) (fill free : Nat)
    (go : List Nat) : State :=
  ((s.fifos fill free).memRequest ⟨port, a, bs.length, some bs, wrong, false, mark, reqLines a bs.length⟩ go).tablesJudged s

/-! ## Refresh and urgency (R388, R389) -/

def pendFld (c : Nat) : Fld := ⟨4 * c + 3, 4 * c⟩

/-- R389: a PANIC request waits for channel `c`. -/
def State.panicWaits (s : State) (c : Nat) : Bool :=
  s.mem.waiting.any (fun r => s.inPanic r.port && r.left.any (fun x => s.channelOf x == c))

/-- REFRESH_DUE (R388, R389): a refresh falls due on channel `c`, with `fill` bytes waiting in RT0's FIFO and `free` bytes free in RT1's.
While a PANIC request waits for the channel it is postponed; the eighth postponed is forced. DEDUCED: log entry 121. -/
def State.refreshDue (s : State) (c : Fin 4) (fill free : Nat) : State :=
  if !s.isOn domMEM then s
  else
    let s := s.fifos fill free
    if !s.panicWaits c then s
    else
      let k := s.fld MEM_REF (pendFld c.val) + 1
      if k < 8 then s.setFld MEM_REF (pendFld c.val) k
      else (s.setFld MEM_REF (pendFld c.val) 7).bump MEM_REF MEM_REF_FORCED 1

/-- R389: while no PANIC request waits, a channel for which nothing waits repays at most one refresh a microsecond.
DESIGN CHOICE: log entry 1. DEDUCED: log entry 121. -/
def State.repayRefresh (s : State) : State :=
  if !s.isOn domMEM || s.mem.waiting.any (fun r => s.inPanic r.port) || s.fld MEM_REF MEM_REF_PEND == 0 then s
  else (List.range 4).foldl (fun (s : State) c =>
    if s.mem.waiting.any (fun r => r.left.any (fun x => s.channelOf x == c)) then s else s.setFld MEM_REF (pendFld c) (s.fld MEM_REF (pendFld c) - 1)) s

/-- The oldest request of a port that is not URGENT becomes so. -/
def makeUrgent (port : Nat) : List MemReq → List MemReq
  | [] => []
  | r :: l => if r.port = port ∧ r.urgent = false then { r with urgent := true } :: l else r :: makeUrgent port l

/-- URGENT_AGE (R388, R397): the oldest waiting request of `port` has waited URG_AGE µs; the real-time ports and the lehr have no such
state. -/
def State.urgentAge (s : State) (port : Fin 10) : State :=
  if port.val = 5 ∨ port.val = 6 ∨ port.val = 9 then s
  else { s with mem.waiting := makeUrgent port.val s.mem.waiting }

/-! ## Training (R390, R391) -/

/-- A round ends: `kept` names the channels that kept their setting. DEDUCED: log entry 127. -/
def State.roundEnds (s : State) (kept : List Nat) : State :=
  let s := s.bump MEM_TRAIN MEM_TRAIN_ROUNDS 1
  let s := s.setFld MEM_STAT MEM_STAT_KEEP (maskOf kept)
  let s := ({ s with mem.round := false, mem.trainedAt := s.now } : State).setBit MEM_CTL MEM_CTL_TRAIN false
  if kept.isEmpty then s else (s.bump MEM_TRAIN MEM_TRAIN_FAILS 1).raise 18 [maskOf kept]

/-- R390: PERIOD minutes have passed since the last round. DEDUCED: log entry 127. -/
def State.roundDue (s : State) : Bool :=
  s.fld MEM_CTL MEM_CTL_PERIOD != 0 && decide (s.mem.trainedAt + s.fld MEM_CTL MEM_CTL_PERIOD * 60000000 ≤ s.now)

/-- R390: the temperature has moved by DTEMP since the last round. DEDUCED: log entry 127. -/
def State.roundTemp (s : State) (temp : Int) : Bool :=
  s.fld MEM_CTL MEM_CTL_DTEMP != 0 && decide (s.fld MEM_CTL MEM_CTL_DTEMP ≤ (temp - s.fldInt MEM_STAT MEM_STAT_TEMP).natAbs)

/-- TRAINING_ROUND (R390, R391): a round at `temp` °C, where one is called for; `found` is each channel's working setting, if it finds one.
DEDUCED: log entry 127. -/
def State.trainingRound (s : State) (temp : Int) (found : List (Option Nat)) : State :=
  if !s.isOn domMEM || !s.bit MEM_STAT MEM_STAT_READY || !(s.mem.round || s.roundDue || s.roundTemp temp) then s
  else
    let s := s.setFldInt MEM_STAT MEM_STAT_TEMP temp
    let set (c : Nat) : Option Nat := match found.getD c none with | some x => some x | none => s.mem.settings.getD c none
    let kept := (List.range 4).filter (fun c => (found.getD c none).isNone)
    ({ s with mem.settings := (List.range 4).map set } : State).roundEnds kept

/-- TRAINING_ROUND_TIMEOUT (R390): the round that runs is abandoned after 1 s; the channels that had not finished keep their settings.
DEDUCED: log entry 127. -/
def State.trainingTimeout (s : State) (open' : List Nat) : State :=
  if !s.isOn domMEM || !s.bit MEM_STAT MEM_STAT_READY || !(s.mem.round || s.roundDue) then s
  else s.roundEnds (if open'.isEmpty then [0, 1, 2, 3] else open'.filter (fun c => decide (c < 4)))

/-! ## The lehr (R397, R398) -/

/-- The lines of buffer memory. -/
def lehrLines : Nat := memEnd / 64

/-- R397: a request waits for the channel of a line. -/
def State.channelBusy (s : State) (line : Nat) : Bool :=
  s.mem.waiting.any (fun r => r.left.any (fun x => s.channelOf x == s.channelOf line))

/-- R398: the minutes of the lap in progress. -/
def State.lapMinutes (s : State) : Nat := s.mem.lapTime / 60000000

/-- R398: a microsecond of a lap passes while MEM is ON; MEM_LAP.NOW shows its minutes.
DESIGN CHOICE: log entry 1. DEDUCED: log entry 128. -/
def State.lapTick (s : State) : State :=
  if !s.isOn domMEM then s
  else
    let s : State := { s with mem.lapTime := s.mem.lapTime + 1 }
    if s.mem.lapTime % 60000000 = 0 then s.setFld MEM_LAP MEM_LAP_NOW (min s.lapMinutes 65535) else s

/-- LEHR_READ: the next line is read, once nothing else waits for its channel; `wrong` names its failed bits. A lap that ends is recorded.
DEDUCED: log entries 128, 214. -/
def State.lehrRead (s : State) (wrong : List LineBit) : State :=
  if !s.isOn domMEM || !s.bit MEM_STAT MEM_STAT_READY || s.channelBusy s.mem.lehr then s
  else
    let s := ((s.touch 9 (64 * s.mem.lehr) 64).eccLine s.mem.lehr (wrong.map (·.val))).tablesJudged s
    if s.mem.lehr + 1 < lehrLines then { s with mem.lehr := s.mem.lehr + 1 }
    else
      let s := (s.setFld MEM_LAP MEM_LAP_LAST (min s.lapMinutes 65535)).setFld MEM_LAP MEM_LAP_NOW 0
      { s with mem.lehr := 0, mem.lapRaised := false, mem.lapTime := 0 }

/-- LEHR_LAP_OVERRUN: the lap in progress has passed LAPMAX. DEDUCED: log entry 128. -/
def State.lapOverrun (s : State) : State :=
  let lim := s.fld MEM_SCRUB MEM_SCRUB_LAPMAX
  if !s.isOn domMEM || decide (lim = 0 ∨ s.lapMinutes ≤ lim) || s.mem.lapRaised then s
  else ({ s with mem.lapRaised := true } : State).raise 21 [s.lapMinutes]

/-! ## Pools (R402, R403) -/

/-- R403: requests in rotating priority, starting after the ID that won last. DEDUCED: log entry 122. -/
def rotate (g : Nat) (l : List (Nat × Nat)) : List (Nat × Nat) :=
  (List.range 32).flatMap (fun i => l.filter (fun x => x.1 % 32 == (g + 1 + i) % 32))

/-- R403: request `x` is one of two or more for a pool that has fewer buffers to give than requests. -/
def State.contended (s : State) (l : List (Nat × Nat)) (schuss : Bool) (x : Nat × Nat) : Bool := match poolFor x.2 with
  | none => false
  | some p =>
    let k := (l.filter (fun y => poolFor y.2 == some p)).length
    decide (2 ≤ k ∧ s.poolFree p - (if p = 3 ∧ ¬ schuss then 64 else 0) < k)

/-- One request is served; a winner of a contended pool moves the pointer (R403). DEDUCED: log entry 122. -/
def State.serveAlloc (s : State) (schuss move : Bool) (x : Nat × Nat) : State :=
  let (h, s) := s.alloc x.2 (x.1 % 32) schuss
  let s := s.emit (.pool (x.1 % 32) h)
  if move && h.isSome then { s with mem.grant := x.1 % 32 } else s

/-- ALLOC: requests (requester, size) of one cycle; `schuss` says that they are made for schuss commands.
DEDUCED: log entry 122. -/
def State.allocRow (s : State) (l : List (Nat × Nat)) (schuss : Bool) : State :=
  if !s.isOn domMEM then s.wake domMEM
  else
    let free := l.filter (fun x => !s.contended l schuss x)
    let hot := rotate s.mem.grant (l.filter (s.contended l schuss))
    hot.foldl (fun (s : State) x => s.serveAlloc schuss true x) (free.foldl (fun (s : State) x => s.serveAlloc schuss false x) s)

/-! ## The control cache (R404 to R409) -/

/-- R404: a group of 8 bytes fails its parity: an odd number of its bits, the parity bit among them, has failed. -/
def parityFails (wrong : List CacheBit) : Bool :=
  (List.range 8).any (fun g => (wrong.filter (fun k => (decide (k.val < 512) && k.val / 64 == g) || k.val == 512 + g)).length % 2 == 1)

/-- Bits of a line have failed in pairs that no parity bit shows. -/
def State.lineFlips (s : State) (line : Nat) (wrong : List CacheBit) : State := match s.cacheWay line with
  | none => s
  | some w =>
    let ks := (wrong.map (·.val)).filter (fun k => decide (k < 512))
    if ks.isEmpty then s else s.setLine w { s.lineAt line w with data := flipBits ks (s.lineAt line w).data }

/-- R408: a parity error in the line that holds the access. True: the access goes on. DEDUCED: log entries 123, 124, 125. -/
def State.lineParity (s : State) (line : Nat) : State × Bool := match s.cacheWay line with
  | none => (s, true)
  | some w =>
    let c := s.lineAt line w
    if !c.dirty then
      let s := s.bump CC_STAT CC_STAT_PCLEAN 1
      (if s.wayLocked w then s.setLine w { c with data := s.mem.data.read (64 * line) 64, poison := s.poisoned line } else s.dropLine line w, true)
    else
      let s := (s.bump CC_STAT CC_STAT_PDIRTY 1).setFld CC_STAT CC_STAT_CTX c.owner
      let s := ((s.writeBack c).setPoison line true).dropLine line w
      (if c.owner < 16 then s.gafferCheck c.owner 2 0 (s.fld (SEQ_BANK c.owner) SEQ_BANK_CUR) (64 * line) else s.machineCheck c.owner none, false)

/-- R395, R226: context `ctx` has taken poisoned data from the control cache: a gaffer's access raises MEMFAULT, the bench core and the ledger
engine meet a machine check. -/
def State.consumed (s : State) (ctx a : Nat) : State :=
  if ctx < 16 then (if s.bit (TASK_STATUS ctx) TASK_STATUS_BUSY then s.trapCause ctx 4 (a % 2 ^ 32) else s)
  else if ctx = ctxBENCH ∨ ctx = ctxLEDGER then s.machineCheck ctx none
  else s

/-- CACHE_ACCESS (R404, R405, R407, R408, R395): context `ctx` reads `n` bytes at `a`, within one line, or writes `data` there; `wrong`
names the bits of the line that have failed while it was cached. DEDUCED: log entries 123, 124. -/
def State.cacheAccess (s : State) (a n ctx : Nat) (data : Option Bytes) (wrong : List CacheBit) : State :=
  if !s.isOn domCACHE then s.wake domCACHE
  else if memEnd ≤ a then
    let s := s.raise 16 [7]
    if data.isSome then s
    else
      let s := s.emit (.memData 7 ((List.range n).map (Config.freeByte s.fresh)) true)
      ({ s with fresh := s.fresh + 1 } : State).consumed ctx a
  else if !s.cacheable a || decide (64 < a % 64 + (match data with | some d => d.length | none => n)) then s
  else
    let s₀ := s
    let (s, go) := if parityFails wrong then s.lineParity (a / 64) else (s.lineFlips (a / 64) wrong, true)
    if !go then s.tablesJudged s₀
    else match data with
      | some d => (s.cacheWrite a ctx d).tablesJudged s₀
      | none =>
        let (b, p, s) := s.cacheRead a n ctx
        let s := s.emit (.memData 7 b p)
        if p then s.consumed ctx a else s

/-- CC_MAINT_DONE (R406, R409). -/
def State.maintDone (s : State) : State :=
  if !s.bit CC_MAINT CC_MAINT_BUSY then s
  else
    let s := s.setBit CC_MAINT CC_MAINT_BUSY false
    let s := s.setFld CC_CTL CC_CTL_LOCK (s.fld CC_CTL CC_CTL_LOCK ||| s.mem.lockDue)
    { s with mem.lockDue := 0 }

end Sys2Proof.Machine
end

