-- ==== Sys2Proof/Machine/Health.lean ====
section
/-!
DEFINITION. The bench core's watch: sensors (R460, R461), wear indicators and their forecasts (R463 to R465), the entropy source (R346),
restarts of the bench core (R318, R456) and JTAG (R374, R375).
-/

namespace Sys2Proof.Machine

/-! ## Sensors (R460, R461) -/

/-- R461: the warning level in 0.01 °C. -/
def State.warnLevel (s : State) : Int := 100 * (min 120 (s.fld HLTH_THERM HLTH_THERM_WARN) : Nat)

/-- The bench core runs (R22, R318, R370, R374). -/
def State.benchRuns (s : State) : Bool := s.benchOk && !s.sec.benchHalt

/-- R461: the last read has found every sensor at least 5 °C below the level. -/
def State.allCool (s : State) : Bool := (List.range 8).all (fun i => decide (s.tempOf i + 500 ≤ s.warnLevel))

/-- SENSOR_READ (R438, R460, R461): the eight readings in 0.01 °C. -/
def State.sensorRead (s : State) (t : List Int) : State :=
  if !s.benchRuns then s
  else
    let s := (List.range 8).foldl (fun (s : State) i => s.setFldInt (CAL_TEMP i) CAL_TEMP_TEMP (t.getD i 0)) s
    let s : State := { s with evt.cool := if s.allCool then min 10 (s.evt.cool + 1) else 0 }
    let s := if (List.range 8).any (fun i => decide (s.warnLevel ≤ t.getD i 0)) && !s.evt.thermal then
        ({ s with evt.thermal := true } : State).raise 7 []
      else s
    s.refresh

/-- THERMAL_WARNING_END (R461): the ten reads of a second have found every sensor at least 5 °C below the level. -/
def State.thermalEnd (s : State) : State := if s.allCool && s.evt.cool == 10 then { s with evt.thermal := false } else s

/-! ## Wear (R463 to R465) -/

/-- Table 17.5: the kind of indicator `w`. -/
def wearKind (w : Nat) : Nat := if w < 64 then w / 16 else if w = 64 then 4 else if w ≤ 72 then 5 else 6

/-- R464: the sums of a least-squares fit of `l`, (hour, value): n, D = nΣx² − (Σx)², B = nΣxy − ΣxΣy, Σx, Σy, and the residual
E = D(nΣy² − (Σy)²) − B². DEDUCED: log entry 161. -/
def fitSums (l : List (Int × Int)) : Int × Int × Int × Int × Int × Int :=
  let n : Int := l.length
  let sx := (l.map (·.1)).sum
  let sy := (l.map (·.2)).sum
  let sxx := (l.map (fun p => p.1 * p.1)).sum
  let sxy := (l.map (fun p => p.1 * p.2)).sum
  let syy := (l.map (fun p => p.2 * p.2)).sum
  let d := n * sxx - sx * sx
  let b := n * sxy - sx * sy
  (n, d, b, sx, sy, d * (n * syy - sy * sy) - b * b)

/-- R464: has an edge of the fit reached the limit `lim` at hour `x`? `edge` 0 is the line, 1 the band's near edge, −1 its far edge; the
line rises towards the limit. -/
def reached (l : List (Int × Int)) (lim edge x : Int) : Bool :=
  let (n, d, b, sx, sy, e) := fitSums l
  let u := n * x - sx
  let g := lim * (n * d) - sy * d - b * u
  let r := (Config.bandSquare l.length : Int) * e * ((n + 1) * d + u * u)
  let q := g * g * (n - 2) * 2 ^ 20
  if edge = 0 then decide (g ≤ 0) else if edge = 1 then decide (g ≤ 0 ∨ q ≤ r) else decide (g ≤ 0 ∧ r ≤ q)

/-- The least whole number below 2^32 from which on `p` holds, where it holds from some number on. -/
def leastFrom (p : Nat → Bool) : Nat → Nat → Nat
  | 0, lo => lo
  | k + 1, lo => if p (lo + 2 ^ k - 1) then leastFrom p k lo else leastFrom p k (lo + 2 ^ k)

/-- R464: the hours from `now` to the moment at which an edge reaches the limit, as far as the rule fixes them: the first whole hour at or
after it, or the one before. DEDUCED: log entry 161. -/
def State.hoursTo (s : State) (l : List (Int × Int)) (lim edge : Int) (now : Nat) : Word × State :=
  let h := leastFrom (fun h => reached l lim edge (now + h : Nat)) 32 0
  let (b, s) := s.drawBool
  if reached l lim edge (now + h : Nat) && decide (h < 2 ^ 32 - 2) then (BitVec.ofNat 32 (if b then h - 1 else h), s)
  else (Config.freeWord s.fresh, { s with fresh := s.fresh + 1 })

/-- R464: P10, P50 and P90 of indicator `w`. DEDUCED: log entry 161. -/
def State.forecast (s : State) (w : Nat) : State :=
  let l := SMap.getD s.evt.wear [] w
  let k := wearKind w
  let lim : Int := s.fld (WEAR_LIM k) WEAR_LIM_LIMIT
  let sg : Int := if k = 3 then -1 else 1
  let pts := l.map (fun p => ((p.1 : Int), sg * (p.2 : Int)))
  let (_, _, b, _, _, _) := fitSums pts
  let all (x : Word) (s : State) : State := ((s.setReg (WEAR_P10 w) x).setReg (WEAR_P50 w) x).setReg (WEAR_P90 w) x
  if l.length < 168 then all 0xFFFFFFFF#32 s
  else if b ≤ 0 then all 0xFFFFFFFE#32 s
  else
    let (p10, s) := s.hoursTo pts (sg * lim) 1 s.evt.hour
    let (p50, s) := s.hoursTo pts (sg * lim) 0 s.evt.hour
    let (p90, s) := s.hoursTo pts (sg * lim) (-1) s.evt.hour
    ((s.setReg (WEAR_P10 w) p10).setReg (WEAR_P50 w) p50).setReg (WEAR_P90 w) p90

/-- R465: E033 is raised once while the P10 of `w` lies below the threshold. DEDUCED: log entry 160. -/
def State.wearWarn (s : State) (w : Nat) : State :=
  let p := (s.reg (WEAR_P10 w)).toNat
  let lim := s.fld HLTH_WARN HLTH_WARN_HOURS
  if p < lim then (if s.evt.warned.contains w then s else ({ s with evt.warned := s.evt.warned ++ [w] } : State).raise 33 [w, p])
  else if lim < p then { s with evt.warned := s.evt.warned.filter (fun x => x != w) }
  else s

/-- The square root of a / b, to nearest. -/
def rootNear (a b : Nat) : Nat :=
  let r := isqrt (a / b)
  if (2 * r + 1) ^ 2 * b ≤ 4 * a then r + 1 else r

/-- R463: the hour's value of indicator `w`, from its source's sum and count; none where the source did not run.
DEDUCED: log entry 160. -/
def State.wearValue (s : State) (w : Nat) : Option Nat :=
  let (sum, k) := SMap.getD s.evt.wearSum (0, 0) w
  let n := w % 16
  if w = 64 then (if s.isOn domMEM then some sum else none)
  else if 48 ≤ w then
    let v := min (s.fld (STN_EYE n) STN_EYE_SA0_V) (s.fld (STN_EYE n) STN_EYE_SA1_V)
    if s.isOn (domSTN n) && decide (0 < v) then some v else none
  else if k = 0 then none
  else if w < 16 then some (rnd sum k).toNat
  else if w < 32 then some (rnd sum (k * 2 ^ 23)).toNat
  else some (rootNear sum k)

/-- R463: the hour's samples: those of the indicators that the controller's own work gives, and the rails' of `l`. -/
def State.wearHour (s : State) (l : List (Nat × Nat)) : List (Nat × Nat) :=
  (((List.range 65).filter (fun w => decide (w = 64 ∨ w % 16 < s.stations))).filterMap (fun w => (s.wearValue w).map (fun v => (w, v))))
  ++ l.filter (fun e => decide (65 ≤ e.1 ∧ e.1 ≤ 73))

/-- WEAR_SAMPLE (R22, R463 to R465): the hour's samples; `l` gives the integrals of the rails and the ripple.
DEDUCED: log entry 160. -/
def State.wearSample (s : State) (l : List (Nat × Nat)) : State :=
  if !s.benchRuns then s
  else
    let h := s.evt.hour
    let s := (s.wearHour l).foldl (fun (s : State) e =>
      let old := SMap.getD s.evt.wear [] e.1
      let new := old.drop (old.length + 1 - 720) ++ [(h, e.2 % 2 ^ 32)]
      let s : State := { s with evt.wear := SMap.ins e.1 new s.evt.wear }
      ((s.setReg (WEAR_VAL e.1) (BitVec.ofNat 32 e.2)).forecast e.1).wearWarn e.1) s
    { s with evt.hour := h + 1, evt.wearSum := [] }

/-- WEAR_FLASH_WRITE (R464). -/
def State.wearFlashWrite (s : State) : State := if s.benchRuns then { s with evt.wearFlash := s.evt.wear } else s

/-! ## The entropy source and the bench core's restart -/

/-- ENTROPY_FAILURE (R346). DEDUCED: log entry 95. -/
def State.entropyFails (s : State) : State := ({ s with sec.entropyOk := false } : State).raise 9 []

/-- ENTROPY_SOURCE_PASS (R346). -/
def State.entropyPass (s : State) : State := { s with sec.entropyOk := true }

/-- BENCH_CORE_RESTART_DONE (R318, R370, R456): the core runs the firmware in force, or stays in the boot ROM; an FW_ACTIVATE of firmware
ends. DEDUCED: log entries 92, 93. -/
def State.benchRestarted (s : State) : State :=
  if s.sec.benchUp then s
  else
    let s : State := { s with sec.benchUp := true }
    let s := s.loadFirmware
    let ids := (s.work.cmds.filter (fun c => !c.ended && c.started && capOPC c.caps == 0x39 && cap c.caps 24 1 == 0)).map (·.id)
    ids.foldl (fun (s : State) i => s.finish i .ok) s

/-! ## JTAG (R374, R375) -/

/-- Full debug access is open. -/
def State.jtagOpen (s : State) : Bool :=
  s.sec.lc == 0 || ((s.sec.lc == 1 || s.sec.lc == 3) && s.bit LC_STAT LC_STAT_DBG)

/-- Read-only access to the health region and the event logs is open. -/
def State.jtagTelem (s : State) : Bool := s.sec.lc == 2 && s.bit LC_STAT LC_STAT_TELEM

/-- The bytes of the register at an offset of the PF's BAR0; none lies there: 0 (R10). -/
def State.regBytes (s : State) (off : Nat) : Bytes :=
  if off = CLK_NOW_LO.key then leBytes 4 (s.stamp % 2 ^ 32)
  else if off = CLK_NOW_HI.key then leBytes 4 (s.stamp / 2 ^ 32)
  else match regRow 0 off with
  | some (_, x, _) => leBytes 4 (s.reg x).toNat
  | none => zeros 4

/-- JTAG_ACCESS (R374, R375): boundary scan in every state; the rest as Table 13.11 opens it. What a scan shows of secrets is zero.
DEDUCED: log entry 162. -/
def State.jtagAccess (s : State) : Jtag → State
  | .boundary => s.emit (.jtag [])
  | .halt b => if s.jtagOpen then { s with sec.benchHalt := b } else s
  | .step => if s.jtagOpen && s.sec.benchHalt then s.emit (.jtag []) else s
  | .memRead a n => if s.jtagOpen && s.isOn domMEM && decide (a + n ≤ memEnd) then s.emit (.jtag (s.mem.data.read a n)) else s
  | .memWrite a bs => if s.jtagOpen && s.isOn domMEM && decide (a + bs.length ≤ memEnd) then s.memWrite a bs else s
  | .regRead off =>
    if s.isOn (regDom 0 off) && (s.jtagOpen || (s.jtagTelem && decide (0x70000 ≤ off ∧ off < 0x80000))) then s.emit (.jtag (s.regBytes off)) else s
  | .regWrite off w => if s.jtagOpen && s.isOn (regDom 0 off) then s.applyWrite 0 off w [] else s
  | .eventLog => if s.jtagOpen || s.jtagTelem then s.emit (.jtag (s.evt.log.flatMap evtBytes)) else s
  | .scan => if s.jtagOpen then s.emit (.jtag (zeros 32)) else s

end Sys2Proof.Machine
end

