-- ==== Sys2Proof/Machine/Finish.lean ====
section
/-!
DEFINITION. What the end of every command's meaning goes through: commands that waited for what the command brought about go on,
and the layout lock and FAULT# follow their causes. DOMAIN_READY and the tick stand here because they need every other family.
-/

namespace Sys2Proof.Machine

/-! ## A domain is ready -/

/-- R84, R243, R445: a station's domain is ON again: its gaffer takes the device bank, its links train where it is enabled, and its trim set
is computed afresh. DEDUCED: log entry 147. -/
def State.stationReady (s : State) (n : Nat) : State :=
  let s := s.setFld (SEQ_BANK n) SEQ_BANK_CUR (s.fld (SEQ_BANK n) SEQ_BANK_DEV)
  let s := s.startPort n
  if s.refreshOn then s.shadowStn n else s

/-- R390: the buffer memory leaves RET with the settings saved at the last successful start training. DEDUCED: log entry 144. -/
def State.restoreTraining (s : State) : State :=
  { s with mem.settings := (List.range 4).map (fun c => match s.mem.saved.getD c none with
      | some x => some x
      | none => s.mem.settings.getD c none) }

/-- DOMAIN_READY (R12, R13, R424): domain `d` is ON, and what waited for it goes on. DEDUCED: log entry 144. -/
def State.domainIsReady (s : State) (d : Nat) : State := match s.power.waking.find? (fun x => x.1 == d) with
  | none => s
  | some x =>
    let s := s.domainReady d
    let s := if d = domMEM ∧ x.2 = false then s.restoreTraining else s
    let s := if d = domMEM then s.drainMem else s
    let s := if 11 ≤ d then s.stationReady (d - 11) else s
    s.replay.release'

/-! ## The end of every meaning -/

/-- Vaults that a VAULT_MOUNT or a VAULT_UNMOUNT still holds go on (R329, R342). -/
def State.checkVaults (s : State) : State :=
  ((s.work.cmds.filter (fun c => !c.ended && (capOPC c.caps == 9 && c.started || capOPC c.caps == 0x0A))).map (fun c => capVAULT c.caps)).foldl
    (fun (s : State) v => s.checkVault v) s

/-- What a step brings about beside the command's own effect: given-up buffers are freed (R320), parisons that wait are placed where they can be (R487), READs take what WRITEs have brought
(R313), commands that waited go on (R318, R424), mounts and unmounts proceed (R342), silent commands end (R255), an entry whose domains
have woken proceeds (R422), FENCEs, FLUSHes and QUEUE_RESETs end (R310, R315, R316), the keys of released vaults go (R345), capsules that can be read are (R291), invalidations
are completed (R260) and the layout locks or unlocks (R381). -/
def State.tidy (s : State) : State :=
  s.reap.placeDue.forwards.resumeWaiting.liveMounts.checkVaults.sweepMuted.powerPass.releaseWaits.pruneReleased.reap.startFetches.settleInvals.layoutLock

/-- The end of every command's meaning: FAULT# follows its causes (R459); the part and the waiting commands are not the meaning's to
change. -/
def State.close (s₀ s : State) : State := ({ s.tidy with part := s₀.part, pending := s₀.pending } : State).settle

/-- A command has been carried out. -/
def finishStep (s₀ s : State) : Res := .next (s₀.close s)

/-! ## Time -/

/-- One microsecond passes (R354): the clock of AON counts, and a postponed refresh is repaid where there is room (R389), and
STN_AXSTAT.AGE of a station whose domain is ON grows (R12, R91), the lehr's lap grows older (R398), and idle rows of buffer memory close (R386).
DESIGN CHOICE: log entry 1. -/
def State.tick (s : State) : State :=
  let s : State := { s with now := s.now + 1, aon.clock := if s.aon.powered then (s.aon.clock + 1) % 2 ^ 63 else s.aon.clock }
  ((List.range 16).foldl (fun (s : State) n => if s.isOn (domSTN n) then s.axTick n else s) s).closeRows.lapTick.repayRefresh

end Sys2Proof.Machine
end

