-- ==== Sys2Proof/Machine/Rows.lean ====
section
/-!
DEFINITION. What the meanings share: a capsule's admission, a write of named fields of a register, and the accesses that several
commands make.
-/

namespace Sys2Proof.Machine

/-! ## Capsules -/

/-- The capsule `caps` of SQ (fn, sq) is the next to be admitted, as command `row` of the opcode table; `x` is what the world brings with
it. Bytes that spell another command are no capsule of this row. DESIGN CHOICE: log entry 4. -/
def capsuleRow (row : CapRow) (fn : Fn) (sq : RingNo) (caps : Capsule) (x : CapIn) (s : State) : Res :=
  if rowFits row caps then finishStep s (s.readCapsule fn sq caps x) else .refused .illFormed

/-- BUFFER_RESERVED (R320): the buffers that command `id` waits for are free. -/
def State.bufferReserved (s : State) (id : Nat) : State := match s.cmd? id with
  | none => s
  | some c => if c.phase = 7 && !c.ended && !c.held then s.tryReserve id else s

/-! ## Register writes by software -/

/-- The function whose window holds register `r`, and its offset in that function's BAR0. -/
def Reg.place (r : Reg) : Nat × Nat := (r.key / 2 ^ 24, r.key % 2 ^ 24)

/-- A 32-bit write of `w` to register `r` (R11). DEDUCED: log entry 163. -/
def State.writeWord (s : State) (r : Reg) (w : Word) : State := s.access r.place.1 r.place.2 w []

/-- A 32-bit write to register `r` that gives the named fields these values and every other field the value it holds.
DEDUCED: log entry 163. -/
def State.writeField (s : State) (r : Reg) (fs : List (Fld × Nat)) (data : Bytes) : State :=
  s.access r.place.1 r.place.2 (fs.foldl (fun w e => fldSet e.1 w e.2) (s.reg r)) data

/-- A QS_CMD word with GO (Table 10.5). -/
def qsWord (op ring : Nat) : Word := BitVec.ofNat 32 (2 ^ 31 + ring % 256 * 2 ^ 16 + op)

/-- A doorbell word as it stands in host memory. -/
def wordBytes : Option (BitVec 64) → Bytes
  | some w => leBytes 8 w.toNat
  | none => []

/-- SR-IOV control (R253): NumVFs, then VF Enable. -/
def State.vfControl (s : State) (on : Bool) (num : Nat) : State :=
  let s := if on then s.accessAt 0 .config 0x170 (BitVec.ofNat 32 num) [] else s
  s.accessAt 0 .config 0x168 (s.cfgKept 0 0x168 ||| (if on then 1#32 else 0#32)) []

/-- R453: a vector's Mask bit is cleared, or (none) the function's Function Mask, MSI-X Enable standing as it is. -/
def State.unmask (s : State) (f : Fn) (v : Option (Fin 256)) : State := match v with
  | some v => s.accessAt f.val .bar2 (16 * v.val + 12) 0#32 []
  | none => s.accessAt f.val .config 0xA0 (if (s.func f).msixEn then 0x80000000#32 else 0#32) []

end Sys2Proof.Machine
end

