-- ==== Sys2Proof/Machine/RowsControl.lean ====
section
/-!
DEFINITION. The meanings of capsules that control stations, calibration, queues, logs, power and firmware: one definition for each command of the opcode table.
-/

namespace Sys2Proof.Machine

/-- FORENSIC_CAPTURE (R26): FORENSIC_CAPTURE is admitted under the 40 GB/s cap, or held, and captures raw samples of a station. -/
def execForensicCapture (fn : Fn) (sq : RingNo) (caps : Capsule) (s : State) : Res := capsuleRow .capture fn sq caps {} s

/-- FORENSIC_CAPTURE_STOP (R308): FORENSIC_CAPTURE with STOP stops the named capture on the same SQ at its next epoch boundary. -/
def execForensicCaptureStop (fn : Fn) (sq : RingNo) (caps : Capsule) (s : State) : Res := capsuleRow .captureStop fn sq caps {} s

/-- PLAN_LOAD_REPLACE (R305): PLAN_LOAD with APPEND 0 replaces the station's plan after the slot that is running. -/
def execPlanLoadReplace (fn : Fn) (sq : RingNo) (caps : Capsule) (s : State) : Res := capsuleRow .planReplace fn sq caps {} s

/-- PLAN_LOAD_APPEND (R305): PLAN_LOAD with APPEND 1 adds slots after the last slot of the plan. -/
def execPlanLoadAppend (fn : Fn) (sq : RingNo) (caps : Capsule) (s : State) : Res := capsuleRow .planAppend fn sq caps {} s

/-- STATION_CTL_LOAD (R306): STATION_CTL ACTION 1 queues a LOAD task for the station. -/
def execStationCtlLoad (fn : Fn) (sq : RingNo) (caps : Capsule) (s : State) : Res := capsuleRow .ctlLoad fn sq caps {} s

/-- STATION_CTL_SPIN (R306): STATION_CTL ACTION 2 queues a SPIN task with ARG as demand. -/
def execStationCtlSpin (fn : Fn) (sq : RingNo) (caps : Capsule) (s : State) : Res := capsuleRow .ctlSpin fn sq caps {} s

/-- STATION_CTL_PARK (R306): STATION_CTL ACTION 3 queues a PARK task. -/
def execStationCtlPark (fn : Fn) (sq : RingNo) (caps : Capsule) (s : State) : Res := capsuleRow .ctlPark fn sq caps {} s

/-- STATION_CTL_STOW (R306): STATION_CTL ACTION 4 queues a STOW task. -/
def execStationCtlStow (fn : Fn) (sq : RingNo) (caps : Capsule) (s : State) : Res := capsuleRow .ctlStow fn sq caps {} s

/-- STATION_CTL_RETIRE (R306): STATION_CTL ACTION 5 queues a RETIRE task. -/
def execStationCtlRetire (fn : Fn) (sq : RingNo) (caps : Capsule) (s : State) : Res := capsuleRow .ctlRetire fn sq caps {} s

/-- STATION_CTL_ADAPTIVE (R29): STATION_CTL ACTION 6 selects adaptive mode from the next band boundary. -/
def execStationCtlAdaptive (fn : Fn) (sq : RingNo) (caps : Capsule) (s : State) : Res := capsuleRow .ctlAdaptive fn sq caps {} s

/-- STATION_CTL_PLANNED (R29): STATION_CTL ACTION 7 selects planned mode, refused unless F_PLANNED is accepted. -/
def execStationCtlPlanned (fn : Fn) (sq : RingNo) (caps : Capsule) (s : State) : Res := capsuleRow .ctlPlanned fn sq caps {} s

/-- STATION_CTL_FORCE (R308): STATION_CTL with FORCE stops the task in hand and any suspended task with reason 2 and runs its action
first. -/
def execStationCtlForce (fn : Fn) (sq : RingNo) (caps : Capsule) (s : State) : Res := capsuleRow .ctlForce fn sq caps {} s

/-- REFIN (R435): CAL_RUN step REFIN calibrates the REFIN ADC against the applied 2.500 V reference. -/
def execRefin (fn : Fn) (sq : RingNo) (caps : Capsule) (meas : Option CalMeas) (s : State) : Res :=
  capsuleRow .calRefin fn sq caps { meas := meas } s

/-- TEMP (R437): CAL_RUN step TEMP calibrates the temperature sensor offsets against the temperature in PARAM. -/
def execTemp (fn : Fn) (sq : RingNo) (caps : Capsule) (meas : Option CalMeas) (s : State) : Res :=
  capsuleRow .calTemp fn sq caps { meas := meas } s

/-- VIN (R435): CAL_RUN step VIN calibrates the VIN monitor and reading through the REFIN ADC. -/
def execVin (fn : Fn) (sq : RingNo) (caps : Capsule) (meas : Option CalMeas) (s : State) : Res :=
  capsuleRow .calVin fn sq caps { meas := meas } s

/-- PD_SENSE (R434): CAL_RUN step PD_SENSE measures the power-stage sense offsets and relative gains. -/
def execPdSense (fn : Fn) (sq : RingNo) (caps : Capsule) (s : State) : Res := capsuleRow .calPd fn sq caps {} s

/-- HF_OFFSET (R442): CAL_RUN step HF_OFFSET trims the head front end ADC offsets with inputs dark. -/
def execHfOffset (fn : Fn) (sq : RingNo) (caps : Capsule) (s : State) : Res := capsuleRow .calOffset fn sq caps {} s

/-- HF_GAIN (R443): CAL_RUN step HF_GAIN runs a band pass and sets the photodetector gains and data offsets. -/
def execHfGain (fn : Fn) (sq : RingNo) (caps : Capsule) (s : State) : Res := capsuleRow .calGain fn sq caps {} s

/-- ZONE_LEARN (R443): CAL_RUN step ZONE_LEARN runs a band pass and writes the zone table entries for the band's layer and zone. -/
def execZoneLearn (fn : Fn) (sq : RingNo) (caps : Capsule) (s : State) : Res := capsuleRow .calZone fn sq caps {} s

/-- TEST_WRITE (R443): CAL_RUN step TEST_WRITE writes and verifies a power ladder in a calibration band and reports each frame. -/
def execTestWrite (fn : Fn) (sq : RingNo) (caps : Capsule) (s : State) : Res := capsuleRow .calTest fn sq caps {} s

/-- LIVE_ON (R444): CAL_RUN step LIVE_ON turns on live offset refinement in linking gaps for a station. -/
def execLiveOn (fn : Fn) (sq : RingNo) (caps : Capsule) (s : State) : Res := capsuleRow .calLiveOn fn sq caps {} s

/-- LIVE_OFF (R444): CAL_RUN step LIVE_OFF turns live refinement off and clears the live deltas. -/
def execLiveOff (fn : Fn) (sq : RingNo) (caps : Capsule) (s : State) : Res := capsuleRow .calLiveOff fn sq caps {} s

/-- BIST_CLEAR (R448): CAL_RUN step BIST_CLEAR removes the unusable marks of a station or of every block from the next start. -/
def execBistClear (fn : Fn) (sq : RingNo) (caps : Capsule) (s : State) : Res := capsuleRow .calBistClear fn sq caps {} s

/-- SHUTDOWN (R446): CAL_RUN step SHUTDOWN runs station BIST on every enabled station and device BIST, then accepts only a few commands.
-/
def execShutdown (fn : Fn) (sq : RingNo) (caps : Capsule) (bist : List BistFind) (s : State) : Res :=
  capsuleRow .calShutdown fn sq caps { bist := bist } s

/-- BIST_REPORT (R449): BIST_REPORT returns the BIST record from SPI flash. -/
def execBistReport (fn : Fn) (sq : RingNo) (caps : Capsule) (s : State) : Res := capsuleRow .bistReport fn sq caps {} s

/-- DOMAIN_SET (R419): DOMAIN_SET checks its targets, wakes domains named ON and runs the atomic entry of the domains named RET or OFF. -/
def execDomainSet (fn : Fn) (sq : RingNo) (caps : Capsule) (s : State) : Res := capsuleRow .domainSet fn sq caps {} s

/-- QUEUE_RESET_RESUME_AFTER (R310): QUEUE_RESET with RESUME_AFTER completes the target SQ's unstarted or held commands and resumes
reading at its head. -/
def execQueueResetResumeAfter (fn : Fn) (sq : RingNo) (caps : Capsule) (s : State) : Res := capsuleRow .resetResume fn sq caps {} s

/-- QUEUE_RESET_DISCARD (R310): QUEUE_RESET with DISCARD completes the unstarted or held commands and moves the head to the tail. -/
def execQueueResetDiscard (fn : Fn) (sq : RingNo) (caps : Capsule) (s : State) : Res := capsuleRow .resetDiscard fn sq caps {} s

/-- LOG_READ (R311): LOG_READ returns the function's error-log records oldest first and removes them. -/
def execLogRead (fn : Fn) (sq : RingNo) (caps : Capsule) (s : State) : Res := capsuleRow .logRead fn sq caps {} s

/-- EVENT_LOG_READ (R455): LOG_READ on the PF with SQ 0xFFFE returns event-log records oldest first and removes them. -/
def execEventLogRead (fn : Fn) (sq : RingNo) (caps : Capsule) (s : State) : Res := capsuleRow .eventLogRead fn sq caps {} s

/-- FW_STAGE_FIRMWARE (R368): FW_STAGE with TARGET 0 writes a bench firmware image to the idle flash slot and checks it. -/
def execFwStageFirmware (fn : Fn) (sq : RingNo) (caps : Capsule) (s : State) : Res := capsuleRow .stageFirmware fn sq caps {} s

/-- FW_STAGE_MICROCODE (R241): FW_STAGE with TARGET 1 writes a microcode image to flash and to the bank not in force and checks it. -/
def execFwStageMicrocode (fn : Fn) (sq : RingNo) (caps : Capsule) (s : State) : Res := capsuleRow .stageMicrocode fn sq caps {} s

/-- FW_ACTIVATE_FIRMWARE (R318): FW_ACTIVATE with TARGET 0 makes the staged slot in force and restarts the bench core on it. -/
def execFwActivateFirmware (fn : Fn) (sq : RingNo) (caps : Capsule) (s : State) : Res := capsuleRow .activateFirmware fn sq caps {} s

/-- FW_ACTIVATE_MICROCODE (R242): FW_ACTIVATE with TARGET 1 switches the device bank and each station at its band boundary. -/
def execFwActivateMicrocode (fn : Fn) (sq : RingNo) (caps : Capsule) (s : State) : Res := capsuleRow .activateMicrocode fn sq caps {} s

/-- NOP (R303): A NOP capsule is admitted and completes. -/
def execNop (fn : Fn) (sq : RingNo) (caps : Capsule) (s : State) : Res := capsuleRow .nop fn sq caps {} s

end Sys2Proof.Machine
end

