-- ==== Sys2Proof/Machine/RowsData.lean ====
section
/-!
DEFINITION. The meanings of commands that move user data and the vault commands: one definition for each command of the opcode table.
-/

namespace Sys2Proof.Machine

/-- READ (R313): A READ capsule is admitted and returns each block from an earlier overlapping WRITE on the same SQ or from the latest
sealed version. -/
def execRead (fn : Fn) (sq : RingNo) (caps : Capsule) (s : State) : Res := capsuleRow .read fn sq caps {} s

/-- WRITE (R23): A WRITE capsule is admitted, takes versions and completes only when its blocks and their band seals are verified. -/
def execWrite (fn : Fn) (sq : RingNo) (caps : Capsule) (s : State) : Res := capsuleRow .write fn sq caps {} s

/-- READ_VERSION (R334): A READ_VERSION capsule reads the named recorded version from the medium without forwarding. -/
def execReadVersion (fn : Fn) (sq : RingNo) (caps : Capsule) (s : State) : Res := capsuleRow .readVersion fn sq caps {} s

/-- FLUSH (R316): A FLUSH completes once every WRITE admitted device-wide before it has completed, and reports their statuses. -/
def execFlush (fn : Fn) (sq : RingNo) (caps : Capsule) (s : State) : Res := capsuleRow .flush fn sq caps {} s

/-- FENCE (R315): A FENCE completes once every command admitted before it has completed, and holds its own SQ until then. -/
def execFence (fn : Fn) (sq : RingNo) (caps : Capsule) (s : State) : Res := capsuleRow .fence fn sq caps {} s

/-- VAULT_CREATE (R328): VAULT_CREATE without REBIND makes the vault keys and record, adds a directory entry and writes the record to the
host. -/
def execVaultCreate (fn : Fn) (sq : RingNo) (caps : Capsule) (s : State) : Res := capsuleRow .vaultCreate fn sq caps {} s

/-- VAULT_CREATE_REBIND (R328): VAULT_CREATE with REBIND changes the bound function of an unmounted vault, or removes its entry when FN is
0xFFFF. -/
def execVaultCreateRebind (fn : Fn) (sq : RingNo) (caps : Capsule) (s : State) : Res := capsuleRow .vaultRebind fn sq caps {} s

/-- VAULT_MOUNT (R339): VAULT_MOUNT checks the vault record, reads the offered discs, replays bands, builds the map and binds blank discs.
-/
def execVaultMount (fn : Fn) (sq : RingNo) (caps : Capsule) (found : List DiscFound) (s : State) : Res :=
  capsuleRow .vaultMount fn sq caps { found := found } s

/-- VAULT_UNMOUNT (R342): VAULT_UNMOUNT waits for earlier writes, writes a checkpoint on each attached disc and releases the map. -/
def execVaultUnmount (fn : Fn) (sq : RingNo) (caps : Capsule) (s : State) : Res := capsuleRow .vaultUnmount fn sq caps {} s

/-- VAULT_QUERY_SUMMARY (R343): VAULT_QUERY with QSEL 0 writes the vault's 64-byte SUMMARY record. -/
def execVaultQuerySummary (fn : Fn) (sq : RingNo) (caps : Capsule) (s : State) : Res := capsuleRow .querySummary fn sq caps {} s

/-- VAULT_QUERY_SEALED_SINCE (R343): VAULT_QUERY with QSEL 1 writes the sealed-since-last-completion list. -/
def execVaultQuerySealedSince (fn : Fn) (sq : RingNo) (caps : Capsule) (s : State) : Res := capsuleRow .querySealed fn sq caps {} s

/-- VAULT_QUERY_VERSIONS (R343): VAULT_QUERY with QSEL 2 writes one record for each band that holds a recorded version of the VBA. -/
def execVaultQueryVersions (fn : Fn) (sq : RingNo) (caps : Capsule) (s : State) : Res := capsuleRow .queryVersions fn sq caps {} s

/-- VAULT_QUERY_DISCS (R343): VAULT_QUERY with QSEL 3 writes one record per disc of the vault. -/
def execVaultQueryDiscs (fn : Fn) (sq : RingNo) (caps : Capsule) (s : State) : Res := capsuleRow .queryDiscs fn sq caps {} s

/-- SEAL_EXPORT (R357): SEAL_EXPORT reads and checks the seal records of a range of bands and writes a header and one entry per band. -/
def execSealExport (fn : Fn) (sq : RingNo) (caps : Capsule) (s : State) : Res := capsuleRow .sealExport fn sq caps {} s

/-- CRYPT_GCM_ENCRYPT (R358): CRYPT mode 0 encrypts the data with AES-256-GCM and writes ciphertext and tag. -/
def execCryptGcmEncrypt (fn : Fn) (sq : RingNo) (caps : Capsule) (s : State) : Res := capsuleRow .cryptGcmEnc fn sq caps {} s

/-- CRYPT_GCM_DECRYPT (R360): CRYPT mode 1 decrypts with AES-256-GCM and releases the plaintext only after the tag check passes. -/
def execCryptGcmDecrypt (fn : Fn) (sq : RingNo) (caps : Capsule) (s : State) : Res := capsuleRow .cryptGcmDec fn sq caps {} s

/-- CRYPT_CTR (R358): CRYPT mode 2 transforms the data with AES-256-CTR. -/
def execCryptCtr (fn : Fn) (sq : RingNo) (caps : Capsule) (s : State) : Res := capsuleRow .cryptCtr fn sq caps {} s

/-- CRYPT_KEY_WRAP (R358): CRYPT mode 3 wraps the data with padding under RFC 5649. -/
def execCryptKeyWrap (fn : Fn) (sq : RingNo) (caps : Capsule) (s : State) : Res := capsuleRow .cryptWrap fn sq caps {} s

/-- CRYPT_KEY_UNWRAP (R360): CRYPT mode 4 unwraps the data and releases it only after the integrity check passes. -/
def execCryptKeyUnwrap (fn : Fn) (sq : RingNo) (caps : Capsule) (s : State) : Res := capsuleRow .cryptUnwrap fn sq caps {} s

/-- HASH (R361): HASH computes SHA-512 over the data on one seal-engine lane and writes the digest. -/
def execHash (fn : Fn) (sq : RingNo) (caps : Capsule) (s : State) : Res := capsuleRow .hash fn sq caps {} s

end Sys2Proof.Machine
end

