-- ==== Sys2Proof/Machine/RowsHealth.lean ====
section
/-!
DEFINITION. The meanings of sensors, calibration refresh, wear, entropy, the channels and JTAG: one definition for each command of the opcode table.
-/

namespace Sys2Proof.Machine

/-- SENSOR_READ (R460): Every 100 ms the bench core reads the sensors, judges the thermal warning and refreshes calibration. -/
def execSensorRead (t : Vector Int 8) (s : State) : Res := finishStep s (s.sensorRead t.toList)

/-- THERMAL_WARNING_END (R461): Every sensor 5 °C below the level for 1 s ends the thermal warning. -/
def execThermalWarningEnd (s : State) : Res := finishStep s (s.thermalEnd)

/-- THERMAL_SHUTDOWN (R462): A sensor at 125 °C inhibits lasers, coasts motion and turns every domain but AON OFF. -/
def execThermalShutdown (sensor : Fin 8) (s : State) : Res := finishStep s (s.thermalShutdown sensor.val)

/-- TRIM_SET_COMMIT (R440): A shadow calibration set comes into force at the first allowed epoch. -/
def execTrimSetCommit (n : Stn) (lead : BitVec 22) (s : State) : Res := finishStep s (s.trimEpoch n.val lead.toNat)

/-- CAL_STEP_TIMEOUT (R442): A calibration step not converged within CAL_CTL.TMO fails and keeps the previous set. -/
def execCalStepTimeout (stn : Option Stn) (s : State) : Res := finishStep s (s.calTimeout stn)

/-- WEAR_SAMPLE (R463): Once an hour each wear indicator is sampled and its forecast refitted. -/
def execWearSample (l : List (Nat × Nat)) (s : State) : Res := finishStep s (s.wearSample l)

/-- WEAR_FLASH_WRITE (R464): Once a day the wear samples are written to SPI flash. -/
def execWearFlashWrite (s : State) : Res := finishStep s (s.wearFlashWrite)

/-- ENTROPY_FAILURE (R346): A failing entropy health test raises an event and refuses random values until it passes. -/
def execEntropyFailure (s : State) : Res := finishStep s (s.entropyFails)

/-- CHANNEL_WORD (R16): A word arrives on a handshake channel and is parity-checked before acceptance. -/
def execChannelWord (ch : Nat) (w : ChWord) (rx : ChRx) (s : State) : Res := finishStep s (s.channelWord ch w rx)

/-- CHANNEL_REPLAY (R17): A replay of a failed word completes, and a fourth failure raises a machine check on its context. -/
def execChannelReplay (ch : Nat) (rx : List ChRx) (s : State) : Res := finishStep s (s.channelReplay ch rx)

/-- ENTROPY_SOURCE_PASS (R346): The entropy source passes its health test again and requests for random values are served once more. -/
def execEntropySourcePass (s : State) : Res := finishStep s (s.entropyPass)

/-- BENCH_CORE_RESTART_DONE (R318): The restarted bench core is running again on the firmware in force, and the commands of R22 that
waited are served. -/
def execBenchCoreRestartDone (s : State) : Res := finishStep s (s.benchRestarted)

/-- JTAG_ACCESS (R374): An access on the JTAG pins performs boundary scan, or debug or telemetry access as the life-cycle state and
DBG/TELEM allow, with keys reading as zero. -/
def execJtagAccess (j : Jtag) (s : State) : Res := finishStep s (s.jtagAccess j)

end Sys2Proof.Machine
end

