-- ==== Sys2Proof/Machine/RowsMedium.lean ====
section
/-!
DEFINITION. The meanings of reading and writing on the medium: one definition for each command of the opcode table.
-/

namespace Sys2Proof.Machine

/-- FRAME_DECODE (R176): A frame's decode attempt runs the iteration schedule once its data are known and yields a result class. -/
def execFrameDecode (n : Stn) (slot : Fin 72) (spiral : Fin 8) (s : State) : Res := finishStep s (s.frameDecode n.val slot.val spiral.val)

/-- OUTER_RECOVERY (R182): Once every frame result of a pass is known, the outer code recovers up to 32 erasures within 500 µs. -/
def execOuterRecovery (n : Stn) (s : State) : Res := finishStep s (s.outerRecovery n.val)

/-- LADDER_PASS (R183): A retry-ladder step makes a further band pass with the changes of its step and soft combining. -/
def execLadderPass (n : Stn) (s : State) : Res := finishStep s (s.ladderPass n.val)

/-- CAPTURE_EPOCH (R190): Each captured epoch's samples and index entry are written, or the epoch is dropped into the gap list. -/
def execCaptureEpoch (n : Stn) (accept : Bool) (s : State) : Res := finishStep s (s.captureEpoch n.val accept)

/-- CAPTURE_DRAIN (R24): The capture ring drains to host buffers in order when the link accepts samples. -/
def execCaptureDrain (id : Nat) (s : State) : Res := finishStep s (s.captureDrain id)

/-- SLOT_START (R204): At each slot of a band the station writes the slot, commits later slots and reads frames into the slot buffer. -/
def execSlotStart (n : Stn) (first : Nat) (refused : List (Nat × Nat)) (s : State) : Res := finishStep s (s.slotStart n.val first refused)

/-- SEAL_SIGNED (R210): The seal engine finishes signing a frozen seal record. -/
def execSealSigned (n : Stn) (s : State) : Res := finishStep s (s.sealSigned n.val)

/-- VERIFY_RESULT (R203): The trail-look verification result of a written frame becomes known. -/
def execVerifyResult (n : Stn) (slot : Fin 72) (spiral : Fin 8) (s : State) : Res :=
  finishStep s (s.verifyFrame n.val slot.val spiral.val)

/-- PARITY_REBUILD_DONE (R209): A refused outer-parity frame rebuilt from the parison is ready for its home slot. -/
def execParityRebuildDone (n : Stn) (j : Fin 32) (ok : Bool) (s : State) : Res := finishStep s (s.parityRebuilt n.val j.val ok)

/-- HOLD_POINT_FIXED (R218): Write power goes off for a hold and the hold point h is fixed. -/
def execHoldPointFixed (n : Stn) (s : State) : Res := finishStep s (s.fixHold n.val false)

/-- HOLD_ADJUST_DONE (R215): The parity and band digest adjustments for the skipped slots of a hold are complete. -/
def execHoldAdjustDone (n : Stn) (s : State) : Res := finishStep s (s.holdAdjusted n.val)

/-- LONG_HOLD (R216): A hold lasting 500 ms closes the band early or continues as an ordinary hold. -/
def execLongHold (n : Stn) (s : State) : Res := finishStep s (s.holdLong n.val)

/-- HOLD_TIMEOUT (R217): A hold or wait reaching HTMO abandons the band. -/
def execHoldTimeout (n : Stn) (s : State) : Res := finishStep s (s.holdTimeout n.val)

/-- BAND_POSITION_PASSAGE (R202): A waiting band begins at the first passage of its position at which every precondition holds. -/
def execBandPositionPassage (n : Stn) (first : Nat) (refused : List (Nat × Nat)) (s : State) : Res :=
  finishStep s (s.passage n.val first refused)

/-- PLAN_SLOT_START (R31): In planned mode a slot starts on the first revolution reaching its position at or after its start time, or is
skipped. -/
def execPlanSlotStart (n : Stn) (s : State) : Res := finishStep s (s.planSlotStart n.val)

/-- LIVE_CAL_GAP (R444): In each linking gap with live calibration on, each stream adjusts its data ADC offset trim. -/
def execLiveCalGap (n : Stn) (ys : Vector (List Int) 16) (s : State) : Res := finishStep s (s.liveGap n.val ys.toList)

end Sys2Proof.Machine
end

