-- ==== Sys2Proof/Machine/RowsMemory.lean ====
section
/-!
DEFINITION. The meanings of buffer memory, the pools and the control cache: one definition for each command of the opcode table.
-/

namespace Sys2Proof.Machine

/-- MEMORY_READ (R394): A port's read of buffer memory corrects single-bit errors or delivers uncorrectable lines poisoned. -/
def execMemoryRead (port : Fin 10) (a len : Nat) (wrong : List (Nat × List LineBit)) (fill free : Nat) (go : List (Fin 4)) (s : State) : Res :=
  finishStep s (s.memoryRead port.val a len wrong fill free (go.map (·.val)))

/-- MEMORY_WRITE (R392): A port's write of buffer memory writes the line and its check word, merging partial writes. -/
def execMemoryWrite (port : Fin 10) (a : Nat) (bytes : Bytes) (mark : Bool) (wrong : List (Nat × List LineBit)) (fill free : Nat) (go : List (Fin 4)) (s : State) : Res :=
  finishStep s (s.memoryWrite port.val a bytes mark wrong fill free (go.map (·.val)))

/-- REFRESH_DUE (R389): Each tREFI a refresh falls due and is issued, postponed under PANIC or forced at the eighth. -/
def execRefreshDue (channel : Fin 4) (fill free : Nat) (s : State) : Res := finishStep s (s.refreshDue channel fill free)

/-- URGENT_AGE (R388): A request waiting URG_AGE µs becomes URGENT. -/
def execUrgentAge (port : Fin 10) (s : State) : Res := finishStep s (s.urgentAge port)

/-- TRAINING_ROUND (R390): A memory training round runs on a period, a temperature change or a request. -/
def execTrainingRound (temp : Int) (found : Vector (Option Nat) 4) (s : State) : Res := finishStep s (s.trainingRound temp found.toList)

/-- TRAINING_ROUND_TIMEOUT (R390): A training round not finished within 1 s is abandoned and keeps its setting. -/
def execTrainingRoundTimeout (left : List (Fin 4)) (s : State) : Res := finishStep s (s.trainingTimeout (left.map (·.val)))

/-- LEHR_READ (R397): The lehr reads the next line when its interval has passed and its channel is idle. -/
def execLehrRead (wrong : List LineBit) (s : State) : Res := finishStep s (s.lehrRead wrong)

/-- LEHR_LAP_OVERRUN (R398): A lap passing LAPMAX minutes raises the lap-overrun event once. -/
def execLehrLapOverrun (s : State) : Res := finishStep s (s.lapOverrun)

/-- CACHE_ACCESS (R404): An access to a cached region hits or installs a line chosen by the LFSR, handling parity errors. -/
def execCacheAccess (a len : Nat) (ctx : Fin 32) (data : Option Bytes) (wrong : List CacheBit) (s : State) : Res :=
  finishStep s (s.cacheAccess a len ctx.val data wrong)

/-- ALLOC (R402): ALLOC takes a buffer from the smallest fitting pool or returns EMPTY. -/
def execAlloc (reqs : List (Fin 32 × Nat)) (schuss : Bool) (s : State) : Res :=
  finishStep s (s.allocRow (reqs.map (fun r => (r.1.val, r.2))) schuss)

/-- SHARE (R402): SHARE adds a holder to a buffer and sets its final owner. -/
def execShare (h : Nat) (who new owner : Fin 32) (off len : Nat) (s : State) : Res :=
  finishStep s (s.share h who.val new.val owner.val off len)

/-- RELEASE (R402): RELEASE removes a holder that is not the final owner. -/
def execRelease (h : Nat) (who : Fin 32) (off len : Nat) (s : State) : Res := finishStep s (s.release h who.val off len)

/-- FREE (R402): FREE raises the buffer's generation and returns it to its cullet list. -/
def execFree (h : Nat) (who : Fin 32) (off len : Nat) (s : State) : Res := finishStep s (s.freeBuf h who.val off len)

end Sys2Proof.Machine
end

