-- ==== Sys2Proof/Machine/RowsMicro.lean ====
section
/-!
DEFINITION. The meanings of the microwords of a gaffer, its traps and its timers: one definition for each command of the opcode table.
-/

namespace Sys2Proof.Machine

/-- ALU (R226): An ALU microword computes DST from A and B and sets the flags. -/
def execAlu (n : Stn) (s : State) : Res := finishStep s (s.alu n.val)

/-- RD (R226): A RD microword loads a station register into DST, or raises REGFAULT. -/
def execRd (n : Stn) (s : State) : Res := finishStep s (s.rdWord n.val)

/-- WR (R226): A WR microword writes a station register, or raises REGFAULT when it is refused. -/
def execWr (n : Stn) (s : State) : Res := finishStep s (s.wrWord n.val)

/-- BR (R227): A BR microword branches when its condition holds. -/
def execBr (n : Stn) (s : State) : Res := finishStep s (s.br n.val)

/-- JMP (R226): A JMP microword sets PC to TARGET. -/
def execJmp (n : Stn) (s : State) : Res := finishStep s (s.jmp n.val)

/-- CALL (R226): A JMP microword with SUBOP bit 0 pushes the return address and jumps. -/
def execCall (n : Stn) (s : State) : Res := finishStep s (s.call n.val)

/-- RET (R226): A RET microword pops the return address. -/
def execRet (n : Stn) (s : State) : Res := finishStep s (s.ret n.val)

/-- RTT (R237): An RTT microword restores the trap frame and continues at the saved PC. -/
def execRtt (n : Stn) (s : State) : Res := finishStep s (s.rtt n.val)

/-- LOOP (R226): A LOOP microword decrements a loop counter and branches if it is not 0. -/
def execLoop (n : Stn) (s : State) : Res := finishStep s (s.loopWord n.val)

/-- WAIT (R228): A WAIT microword clears T and stalls until its condition or its time-out. -/
def execWait (n : Stn) (s : State) : Res := finishStep s (s.waitWord n.val)

/-- WAIT_SATISFIED (R228): A stalled WAIT continues when its condition is satisfied. -/
def execWaitSatisfied (n : Stn) (s : State) : Res := finishStep s (s.waitSatisfied n.val)

/-- WAIT_TIMEOUT (R228): A stalled WAIT reaches its time limit, sets T and continues. -/
def execWaitTimeout (n : Stn) (s : State) : Res := finishStep s (s.waitTimeout n.val)

/-- MEM_LOAD (R226): A MEM microword with SUBOP 0 loads a control-cache word, or raises MEMFAULT. -/
def execMemLoad (n : Stn) (s : State) : Res := finishStep s (s.memLoad n.val)

/-- MEM_STORE (R226): A MEM microword with SUBOP 1 stores a word in the control cache, or raises MEMFAULT. -/
def execMemStore (n : Stn) (s : State) : Res := finishStep s (s.memStore n.val)

/-- LINK (R226): A LINK microword runs an AX transaction and loads its status or sets T. -/
def execLink (n : Stn) (reply : Option (BitVec 16)) (s : State) : Res := finishStep s (s.link n.val (reply.map BitVec.toNat))

/-- BAND_START_WRITE (R226): A BAND microword with SUBOP 0 starts a band write. -/
def execBandStartWrite (n : Stn) (s : State) : Res := finishStep s (s.bandStartWrite n.val)

/-- BAND_START_PASS (R226): A BAND microword with SUBOP 1 starts a band pass. -/
def execBandStartPass (n : Stn) (s : State) : Res := finishStep s (s.bandStartPass n.val)

/-- BAND_START_CAPTURE (R226): A BAND microword with SUBOP 2 starts a capture. -/
def execBandStartCapture (n : Stn) (s : State) : Res := finishStep s (s.bandStartCapture n.val)

/-- BAND_TEST_WRITE (R220): A BAND microword with SUBOP 3 starts a test write in a calibration area. -/
def execBandTestWrite (n : Stn) (s : State) : Res := finishStep s (s.bandTestWrite n.val)

/-- TASK_END (R232): A TASK END microword ends the task with its RESULT, and a suspended task is then restored. -/
def execTaskEnd (n : Stn) (s : State) : Res := finishStep s (s.taskEnd n.val)

/-- TASK_STEP (R226): A TASK STEP microword sets TASK_STATUS.STEP. -/
def execTaskStep (n : Stn) (s : State) : Res := finishStep s (s.taskStep n.val)

/-- TASK_SUSPEND (R234): A TASK SUSPEND microword saves the gaffer state to the suspend frame and frees the gaffer. -/
def execTaskSuspend (n : Stn) (s : State) : Res := finishStep s (s.taskSuspend n.val)

/-- EVT (R226): An EVT microword raises the station event at offset IMM. -/
def execEvt (n : Stn) (s : State) : Res := finishStep s (s.evtWord n.val)

/-- TMR_ARM (R226): A TMR microword with SUBOP 0 arms the micro-timer. -/
def execTmrArm (n : Stn) (s : State) : Res := finishStep s (s.tmrArm n.val)

/-- TMR_DISARM (R226): A TMR microword with SUBOP 1 disarms the micro-timer. -/
def execTmrDisarm (n : Stn) (s : State) : Res := finishStep s (s.tmrDisarm n.val)

/-- TMR_MASK (R226): A TMR microword with SUBOP 2 loads the trap enable mask. -/
def execTmrMask (n : Stn) (s : State) : Res := finishStep s (s.tmrMask n.val)

/-- TRAP (R226): A TRAP microword raises trap cause SOFT with INFO IMM. -/
def execTrap (n : Stn) (s : State) : Res := finishStep s (s.trapWord n.val)

/-- MICRO_TIMER_EXPIRY (R235): The micro-timer expires and raises trap cause TIMER. -/
def execMicroTimerExpiry (n : Stn) (s : State) : Res := finishStep s (s.timerExpiry n.val)

/-- TRAP_TAKEN (R236): A pending enabled trap is taken at a microword boundary, writing the trap frame and entering its routine. -/
def execTrapTaken (n : Stn) (s : State) : Res := finishStep s (s.trapTaken n.val)

end Sys2Proof.Machine
end

