-- ==== Sys2Proof/Machine/RowsMotion.lean ====
section
/-!
DEFINITION. The meanings of the spindle, the sled and the motor bus: one definition for each command of the opcode table.
-/

namespace Sys2Proof.Machine

/-- WOBBLE_ADDRESS (R163): A wobble address is decoded for a frame length and lead spot 4 reports its sync count. -/
def execWobbleAddress (n : Stn) (spot : Fin 8) (word : BitVec 48) (cw : BitVec 36) (s : State) : Res :=
  finishStep s (s.wobbleAddress n.val spot.val word.toNat cw.toNat)

/-- CATCH_MEASURED (R132): After 2 ms in CATCH the rotor is classed as at rest, backward or caught. -/
def execCatchMeasured (n : Stn) (s : State) : Res := finishStep s (s.catchMeasured n.val)

/-- ALIGN_DONE (R133): ALIGN_T elapsed moves the spindle to OPENLOOP. -/
def execAlignDone (n : Stn) (s : State) : Res := finishStep s (s.alignDone n.val)

/-- BRAKE_DONE (R135): Back-EMF below VTH for 2 ms moves the spindle from BRAKE to OFF. -/
def execBrakeDone (n : Stn) (s : State) : Res := finishStep s (s.brakeDone n.val)

/-- ROTOR_LOST (R138): The residual exceeding RES_THR for 16 periods in RUN declares loss and applies the loss reaction. -/
def execRotorLost (n : Stn) (s : State) : Res := finishStep s (s.rotorLost n.val)

/-- SPINDLE_LOSS_TIMEOUT (R139): A task whose speed is not valid 500 ms after a loss ends with SPINDLE_LOST. -/
def execSpindleLossTimeout (n : Stn) (s : State) : Res := finishStep s (s.lossTimeout n.val)

/-- SLED_TICK (R142): Each 10 µs tick the profile generator updates acceleration and velocity and ends or stops a move. -/
def execSledTick (n : Stn) (s : State) : Res := finishStep s (s.sledTick n.val)

/-- VIN_SAMPLE (R148): The controller reads VIN at 1 MHz for the bus supervisor. -/
def execVinSample (mv : Nat) (s : State) : Res := finishStep s (s.vinSample mv)

/-- SELF_PROTECTION (R154): VIN or a local bus at 44 V forces every spindle to PROTECT, clears every enable and inhibits every laser. -/
def execSelfProtection (s : State) : Res := finishStep s (s.protect)

/-- PROTECTION_RELEASE (R154): VIN and every local bus below 43 V for 2 ms release protection and set spindles OFF. -/
def execProtectionRelease (s : State) : Res := finishStep s (s.protectRelease)

/-- REGEN_FAULT_CLEAR (R151): VIN and the local bus below CH_OFF for 2 ms return the supervisor to NORMAL. -/
def execRegenFaultClear (n : Stn) (s : State) : Res := finishStep s (s.regenClear n.val)

end Sys2Proof.Machine
end

