-- ==== Sys2Proof/Machine/RowsPcie.lean ====
section
/-!
DEFINITION. The meanings of resets, function events and the PCI Express link: one definition for each command of the opcode table.
-/

namespace Sys2Proof.Machine

/-- PERST_ASSERT (R250): PERST# asserted resets every domain except AON and voids every unsealed band. -/
def execPerstAssert (s : State) : Res := finishStep s (s.perstAssert)

/-- PERST_DEASSERT (R249): PERST# deasserted begins the start, with link training within 90 ms. -/
def execPerstDeassert (s : State) : Res := finishStep s (s.perstDeassert)

/-- HOT_RESET (R250): A hot reset resets every domain except AON and voids every unsealed band. -/
def execHotReset (s : State) : Res := finishStep s (s.hotReset)

/-- RESET_ASSERT (R417): RESET# asserted for at least 10 µs resets the controller as PERST# does, without touching the link. -/
def execResetAssert (ns : Nat) (s : State) : Res := finishStep s (s.resetAssert ns)

/-- RESET_DEASSERT (R477): RESET# deasserted begins the start. -/
def execResetDeassert (s : State) : Res := finishStep s (s.resetDeassert)

/-- VF_FLR (R255): A Function Level Reset of a VF stops its DMA and polling, drops its unstarted work and resets its state. -/
def execVfFlr (v : Fn) (s : State) : Res := finishStep s (s.vfFlr v)

/-- PF_FLR (R256): A Function Level Reset of the PF resets its rings and function state and clears VF Enable. -/
def execPfFlr (s : State) : Res := finishStep s (s.pfFlr)

/-- D3HOT_ENTRY (R257): A function entering D3hot stops polling, DMA and messages and holds its completions. -/
def execD3hotEntry (f : Fn) (s : State) : Res := finishStep s (s.d3hotEntry f)

/-- D0_ENTRY (R257): A function returning to D0 posts its held completions in order. -/
def execD0Entry (f : Fn) (s : State) : Res := finishStep s (s.d0Entry f)

/-- LINK_RECOVERY (R251): An entry to Recovery from L0 is counted, and 16 in one second raise an event. -/
def execLinkRecovery (s : State) : Res := finishStep s (s.linkRecovery)

/-- POISONED_TLP_WRITE (R252): A poisoned write to the memory space is discarded and logged by AER. -/
def execPoisonedTlpWrite (f : Fn) (s : State) : Res := finishStep s (s.poisonedWrite f)

/-- DMA_READ_COMPLETION (R252): A completion to a device read delivers data, or a poisoned, UR or CA completion ends the command. -/
def execDmaReadCompletion (what : HostRead) (back : ReadBack) (s : State) : Res := finishStep s (s.readCompletion what back)

/-- COMPLETION_TIMEOUT (R252): A device read that times out completes its command with DMA_FAULT and is logged by AER. -/
def execCompletionTimeout (what : HostRead) (s : State) : Res := finishStep s (s.readTimeout what)

/-- TRANSLATION_COMPLETION (R291): An ATS translation response arrives, letting the transfer proceed or parking it with a page request. -/
def execTranslationCompletion (f : Fn) (pasid : Option Nat) (page : Nat) (ok : Bool) (s : State) : Res :=
  finishStep s (s.translated f pasid page ok)

/-- PAGE_RESPONSE (R293): A page request group response resumes the parked transfer or ends its command. -/
def execPageResponse (id : Nat) (code : Fin 16) (s : State) : Res := finishStep s (s.pageResponse id code.val)

/-- ATS_INVALIDATION (R260): An ATS invalidation request completes once every TLP using the translation has been sent or answered. -/
def execAtsInvalidation (f : Fn) (pasid : Option Nat) (page : Nat) (s : State) : Res := finishStep s (s.invalidate f.val pasid page)

/-- DOE_REQUEST (R263): A data object on the DOE mailbox is answered by the bench core within 1 s. -/
def execDoeRequest (type index len : Nat) (s : State) : Res := finishStep s (s.doeRequest type index len)

/-- DOE_ABORT (R263): The DOE Abort bit discards the request in progress and any unread response. -/
def execDoeAbort (s : State) : Res := finishStep s (s.doeAbort)

/-- SPDM_REQUEST (R264): An SPDM request is answered by the responder under the settings of Table 9.5. -/
def execSpdmRequest (q : SpdmReq) (s : State) : Res := finishStep s (s.spdmRequest q)

/-- KEK_INSTALL (R366): A KEK_INSTALL vendor request in a secure session installs the owner KEK if every condition holds. -/
def execKekInstall (session : Nat) (payload signer : Bytes) (s : State) : Res := finishStep s (s.kekInstall session payload signer)

/-- KEY_UPDATE (R364): A KEY_UPDATE from the requester updates the session keys. -/
def execKeyUpdate (session : Nat) (s : State) : Res := finishStep s (s.keyUpdate session)

/-- END_SESSION (R364): END_SESSION ends a secure session. -/
def execEndSession (session : Nat) (s : State) : Res := finishStep s (s.endSession session)

/-- SESSION_TIMEOUT (R364): A secure session with no message for 120 s ends. -/
def execSessionTimeout (session : Nat) (s : State) : Res := finishStep s (s.dropSession session)

/-- IDE_LEAVE_SECURE (R265): The IDE stream leaving Secure raises an event and holds every DMA, poll and message. -/
def execIdeLeaveSecure (s : State) : Res := finishStep s (s.ideLeave)

/-- IDE_SECURE (R265): The IDE stream returning to Secure releases the held DMA, polls and messages. -/
def execIdeSecure (s : State) : Res := finishStep s (s.ideEnter)

/-- IDE_KEY_REFRESH (R265): An IDE key refresh switches key sets without stopping traffic. -/
def execIdeKeyRefresh (s : State) : Res := finishStep s (s.ideRefresh)

end Sys2Proof.Machine
end

