-- ==== Sys2Proof/Machine/RowsPort.lean ====
section
/-!
DEFINITION. The meanings of events of the station port and the loader line: one definition for each command of the opcode table.
-/

namespace Sys2Proof.Machine

/-- SA_HEADER (R75): An SA HEADER block is received and its CRC checked, erasing the previous epoch's samples on failure. -/
def execSaHeader (n : Stn) (lane : Fin 2) (b : Block66) (s : State) : Res := finishStep s (s.saHeader n.val lane.val b)

/-- SERVO_BLOCK (R75): A SERVO_A or SERVO_B block is received, or discarded with the previous values used. -/
def execServoBlock (n : Stn) (lane : Fin 2) (b : Block66) (s : State) : Res := finishStep s (s.servoBlock n.val lane.val b)

/-- SAMPLE_GROUP (R73): A group of three SA data blocks delivering four sample instants is received. -/
def execSampleGroup (n : Stn) (lane : Fin 2) (group : Fin 525) (b : Vector Block66 3) (s : State) : Res :=
  finishStep s (s.sampleGroup n.val lane.val group.val b.toList)

/-- CL_EPOCH (R76): At each epoch the controller sends a CL HEADER followed by the blocks that fall due. -/
def execClEpoch (n : Stn) (s : State) : Res := finishStep s (s.clEpoch n.val)

/-- MI_FRAME (R79): An MI frame is received with the period's samples and trip status. -/
def execMiFrame (n : Stn) (chars : Vector (BitVec 10) 29) (s : State) : Res :=
  finishStep s (s.miReceived n.val (chars.toList.map (·.toNat)))

/-- MOTION_PERIOD (R80): Each PWM period the controller computes the motion loops and sends both copies of the next MO frame. -/
def execMotionPeriod (n : Stn) (s : State) : Res := finishStep s (s.periodTick n.val)

/-- INTERLOCK (R81): IL high for 50 ns clears write enable within 1 µs, sets STN_STAT.IL and raises the interlock event. -/
def execInterlock (n : Stn) (ns : Nat) (s : State) : Res := finishStep s (s.interlock n.val ns)

/-- INTERLOCK_RELEASE (R81): IL low continuously for 10 ms is treated as low again. -/
def execInterlockRelease (n : Stn) (s : State) : Res := finishStep s (s.interlockRelease n.val)

/-- AX_STATUS_POLL (R82): Every 10 ms while the station is enabled the controller sends STATUS on AX. -/
def execAxStatusPoll (n : Stn) (s : State) : Res := finishStep s (s.axPoll n.val)

/-- AX_REPLY (R82): A valid loader reply updates STN_AXSTAT and PRESENT and may raise the loader event. -/
def execAxReply (n : Stn) (w : BitVec 16) (s : State) : Res := finishStep s (s.axReply n.val w.toNat)

/-- AX_REPLY_TIMEOUT (R82): A missing reply counts as none, and three in a row clear PRESENT. -/
def execAxReplyTimeout (n : Stn) (s : State) : Res := finishStep s (s.axMissing n.val)

/-- AX_ATTENTION (R82): A loader holding AX low for 200 µs gets STATUS within 1 ms of the release. -/
def execAxAttention (n : Stn) (released : Bool) (s : State) : Res := finishStep s (s.axAttention n.val released)

/-- LANE_LOST (R86): A lane reaching its loss count is lost and retrained alone by quick training. -/
def execLaneLost (n : Stn) (lanes : List (Fin 5)) (s : State) : Res := finishStep s (s.laneLost n.val (lanes.map (·.val)))

/-- TRAINING_ATTEMPT_END (R85): A lane training attempt ends, passing or retrying or marking the lane failed. -/
def execTrainingAttemptEnd (n : Stn) (lane : Fin 5) (errors eyeV eyeH : Nat) (s : State) : Res :=
  finishStep s (s.trainingEnd n.val lane.val errors eyeV eyeH)

end Sys2Proof.Machine
end

