-- ==== Sys2Proof/Machine/RowsPower.lean ====
section
/-!
DEFINITION. The meanings of supply, power domains and wake: one definition for each command of the opcode table.
-/

namespace Sys2Proof.Machine

/-- SUPPLY_WARNING (R414): VIN falling through VWARN puts every writing station into a hold and raises the supply-warning event. -/
def execSupplyWarning (mv : Nat) (s : State) : Res := finishStep s (s.supplyWarning mv)

/-- SUPPLY_RECOVERY (R414): VIN above VWARN plus 0.5 V for 2 ms clears WARN and ends every hold cause 0. -/
def execSupplyRecovery (mv : Nat) (s : State) : Res := finishStep s (s.supplyRecovery mv)

/-- VRST_FALL (R416): VIN falling through VRST drops PWR_GOOD and turns every domain but AON OFF at once. -/
def execVrstFall (mv : Nat) (s : State) : Res := finishStep s (s.vrstFall mv)

/-- VRST_RISE (R416): VIN rising through VRST begins the start. -/
def execVrstRise (mv : Nat) (s : State) : Res := finishStep s (s.vrstRise mv)

/-- RAIL_FAULT (R417): A rail leaving regulation drops PWR_GOOD and resets the controller. -/
def execRailFault (s : State) : Res := finishStep s (s.railFault)

/-- AON_POWER_UP (R412): AON gaining power reads the straps, marks the clock unset and resets AON state. -/
def execAonPowerUp (straps : Fin 8) (s : State) : Res := finishStep s (s.aonPowerUp straps.val)

/-- DOMAIN_STOP_DONE (R422): The immediate domains of an entry finish stopping and the entry commits or posts its completion. -/
def execDomainStopDone (s : State) : Res := finishStep s (s.stopDone)

/-- DOMAIN_STOP_TIMEOUT (R423): A domain not stopped within 1 ms refuses late and the entry aborts. -/
def execDomainStopTimeout (d : Fin 27) (s : State) : Res := finishStep s (s.stopTimeout d.val)

/-- DEFERRED_STOP (R422): After the completion is sent the deferred domains stop and every named domain commits. -/
def execDeferredStop (s : State) : Res := finishStep s (s.deferredStop)

/-- DOMAIN_WAKE (R424): An access needing a domain not ON wakes it and the domains it needs. -/
def execDomainWake (fn : Fn) (space : Space) (off size : Nat) (s : State) : Res := finishStep s (s.busRead fn.val space off size)

/-- DOMAIN_READY (R424): A waking domain becomes ready and the stalled access proceeds. -/
def execDomainReady (d : Fin 27) (s : State) : Res := finishStep s (s.domainIsReady d.val)

/-- LIFT_FRAME (R427): A lift-bus frame is received, and a match wakes the PM_LWAKE domains or asserts WAKE#. -/
def execLiftFrame (a check : BitVec 8) (stop : Bool) (s : State) : Res := finishStep s (s.liftFrame a.toNat check.toNat stop)

/-- START (R477): After T0 the controller starts its converter and clocks and becomes ready for link training. -/
def execStart (t7 : Int) (found : Vector (Option Nat) 4) (savedOk : Vector Bool 4) (s : State) : Res :=
  finishStep s (s.start t7 found.toList savedOk.toList)

/-- DEVICE_READY (R249): ID_DEV.READY becomes 1 and enabled rings begin. -/
def execDeviceReady (s : State) : Res := finishStep s (s.deviceReady)

/-- AON_POWER_LOSS (R412): VIN falling below 4.0 V leaves the whole controller unpowered, losing the AON pending bits, steering, TSD
record and clock. -/
def execAonPowerLoss (mv : Nat) (s : State) : Res := finishStep s (s.aonPowerLoss mv)

/-- DATA_LINK_UP (R249): The PCIe data link layer comes up, the negotiated width, rate and FLIT mode are shown in LNK_STAT, and
configuration space answers. -/
def execDataLinkUp (width speed : Nat) (flit : Bool) (s : State) : Res := finishStep s (s.dataLinkUp width speed flit)

end Sys2Proof.Machine
end

