-- ==== Sys2Proof/Machine/RowsQueue.lean ====
section
/-!
DEFINITION. The meanings of queue set-up, life-cycle and station register writes that have an effect of their own: one definition for each command of the opcode table.
-/

namespace Sys2Proof.Machine

/-- CREATE_CQ (R272): QS_CMD CREATE_CQ checks its arguments and creates a completion ring with a new epoch. -/
def execCreateCq (f : Fn) (k : RingNo) (word : Option (BitVec 64)) (s : State) : Res :=
  finishStep s (s.access f.val (qsKey f.val 0x18 % 2 ^ 24) (qsWord 1 k.val) (wordBytes word))

/-- CREATE_SQ (R272): QS_CMD CREATE_SQ checks its arguments and creates a submission ring, locking the function's features if it is the
first. -/
def execCreateSq (f : Fn) (k : RingNo) (word : Option (BitVec 64)) (s : State) : Res :=
  finishStep s (s.access f.val (qsKey f.val 0x18 % 2 ^ 24) (qsWord 2 k.val) (wordBytes word))

/-- DELETE_SQ (R275): QS_CMD DELETE_SQ stops capsule fetching and frees the ring once its commands have completed. -/
def execDeleteSq (f : Fn) (k : RingNo) (s : State) : Res := finishStep s (s.access f.val (qsKey f.val 0x18 % 2 ^ 24) (qsWord 3 k.val) [])

/-- DELETE_CQ (R275): QS_CMD DELETE_CQ frees a completion ring that no SQ posts to. -/
def execDeleteCq (f : Fn) (k : RingNo) (s : State) : Res := finishStep s (s.access f.val (qsKey f.val 0x18 % 2 ^ 24) (qsWord 4 k.val) [])

/-- ENTER_MAKER (R372): LC_CMD ENTER_MAKER burns the key digests and a fresh OTP seed and derives the keys. -/
def execEnterMaker (len : BitVec 13) (token : Bytes) (s : State) : Res :=
  finishStep s (s.writeField LC_CMD [(LC_CMD_OP, 1), (LC_CMD_LEN, len.toNat), (LC_CMD_GO, 1)] token)

/-- ENTER_FIELD (R372): LC_CMD ENTER_FIELD with a valid token closes debug and locks RWL fields. -/
def execEnterField (len : BitVec 13) (token : Bytes) (s : State) : Res :=
  finishStep s (s.writeField LC_CMD [(LC_CMD_OP, 2), (LC_CMD_LEN, len.toNat), (LC_CMD_GO, 1)] token)

/-- ENTER_RETURN (R376): LC_CMD ENTER_RETURN with valid tokens zeroises the owner KEK, directory and engines and raises the KEK
generation. -/
def execEnterReturn (len : BitVec 13) (token : Bytes) (s : State) : Res :=
  finishStep s (s.writeField LC_CMD [(LC_CMD_OP, 3), (LC_CMD_LEN, len.toNat), (LC_CMD_GO, 1)] token)

/-- ENTER_SCRAP (R377): LC_CMD ENTER_SCRAP does what ENTER_RETURN does and makes the OTP seed unreadable. -/
def execEnterScrap (len : BitVec 13) (token : Bytes) (s : State) : Res :=
  finishStep s (s.writeField LC_CMD [(LC_CMD_OP, 4), (LC_CMD_LEN, len.toNat), (LC_CMD_GO, 1)] token)

/-- DEBUG_UNLOCK (R374): LC_CMD DEBUG_UNLOCK with a maker debug token sets DBG. -/
def execDebugUnlock (len : BitVec 13) (token : Bytes) (s : State) : Res :=
  finishStep s (s.writeField LC_CMD [(LC_CMD_OP, 5), (LC_CMD_LEN, len.toNat), (LC_CMD_GO, 1)] token)

/-- TELEMETRY (R374): LC_CMD TELEMETRY with a valid token sets TELEM. -/
def execTelemetry (len : BitVec 13) (token : Bytes) (s : State) : Res :=
  finishStep s (s.writeField LC_CMD [(LC_CMD_OP, 6), (LC_CMD_LEN, len.toNat), (LC_CMD_GO, 1)] token)

/-- DEBUG_LOCK (R374): LC_CMD DEBUG_LOCK clears DBG and TELEM. -/
def execDebugLock (s : State) : Res := finishStep s (s.writeField LC_CMD [(LC_CMD_OP, 7), (LC_CMD_LEN, 0), (LC_CMD_GO, 1)] [])

/-- CERT_STORE (R362): LC_CMD CERT_STORE stores the slot 0 certificate chain in SPI flash in MAKER. -/
def execCertStore (len : BitVec 13) (token : Bytes) (s : State) : Res :=
  finishStep s (s.writeField LC_CMD [(LC_CMD_OP, 8), (LC_CMD_LEN, len.toNat), (LC_CMD_GO, 1)] token)

/-- OWNER_ENROL (R365): LC_CMD OWNER_ENROL burns the digest of the owner public key into OTP once. -/
def execOwnerEnrol (len : BitVec 13) (token : Bytes) (s : State) : Res :=
  finishStep s (s.writeField LC_CMD [(LC_CMD_OP, 9), (LC_CMD_LEN, len.toNat), (LC_CMD_GO, 1)] token)

end Sys2Proof.Machine
end

