-- ==== Sys2Proof/Machine/RowsRegister.lean ====
section
/-!
DEFINITION. The meanings of writes and reads of device registers with an effect of their own, and every other register access: one definition for each command of the opcode table.
-/

namespace Sys2Proof.Machine

/-- FEAT_DRV_WRITE (R258): A write of FEAT_DRV stores the accepted features, or is refused while the set is locked. -/
def execFeatDrvWrite (f : Fn) (idx : Fin 4) (w : Word) (s : State) : Res := finishStep s (s.writeWord (FEAT_DRV f.val idx.val) w)

/-- VF_VEC_WRITE (R266): A write of VF_VEC sets a VF's vector count and recomputes every BASE, unless refused. -/
def execVfVecWrite (v : Fin 63) (count : BitVec 7) (s : State) : Res :=
  finishStep s (s.writeField (VF_VEC (v.val + 1)) [(VF_VEC_COUNT, count.toNat)] [])

/-- VF_ENABLE (R253): A change of VF Enable enables the VFs, or disables them with the effects of an FLR on each. -/
def execVfEnable (on : Bool) (num : BitVec 16) (s : State) : Res := finishStep s (s.vfControl on num.toNat)

/-- PRI_ENABLE_WRITE (R293): Setting PRI Enable again clears PRI_STOP so that page requests are made once more. -/
def execPriEnableWrite (f : Fn) (on : Bool) (s : State) : Res :=
  finishStep s (s.accessAt f.val .config 0x1B4 (if on then 1#32 else 0#32) [])

/-- NUDGE (R281): A write to the nudge page starts a poll within 1 µs and returns the function to ACTIVE. -/
def execNudge (f : Fn) (s : State) : Res :=
  finishStep s (s.busWrite f.val (if f.val = 0 then .bar4 else .bar0) (if f.val = 0 then 0 else 0xF000) 4 0 [])

/-- CLOCK_SET (R355): A write of CLK_SET_HI loads the 64-bit clock value, clears UNSET and flags a backward setting. -/
def execClockSet (hi : Word) (s : State) : Res := finishStep s (s.writeWord CLK_SET_HI hi)

/-- CLK_NOW_LO_READ (R379): A read of CLK_NOW_LO returns the low time bits and latches CLK_NOW_HI for the next read. -/
def execClkNowLoRead (s : State) : Res := finishStep s (s.accessRead 0 CLK_NOW_LO.key)

/-- MEM_LAYOUT_WRITE (R381): A write of MEM_LAY or POOL_CNT changes the layout only while unlocked and within 15 GiB. -/
def execMemLayoutWrite (idx : Fin 7) (w : Word) (s : State) : Res :=
  finishStep s (s.writeWord (if idx.val < 3 then MEM_LAY idx.val else POOL_CNT (idx.val - 3)) w)

/-- MEM_XOR_WRITE (R384): A write of MEM_XOR stores a selector mask that follows the rules, for use at the next memory initialisation. -/
def execMemXorWrite (k : Fin 6) (hi : Bool) (w : Word) (s : State) : Res :=
  finishStep s (s.writeWord (if hi then MEM_XOR_HI k.val else MEM_XOR_LO k.val) w)

/-- MEM_REMAP_WRITE (R396): A write of MEM_REMAP redirects a line to a spare after copying it, or copies it back when VALID is cleared. -/
def execMemRemapWrite (idx : Fin 32) (w : Word) (s : State) : Res := finishStep s (s.writeWord (MEM_REMAP idx.val) w)

/-- MEM_WDATA_WRITE (R383): A write of MEM_WDATA writes 4 bytes of the table area at the window address and advances it. -/
def execMemWdataWrite (w : Word) (s : State) : Res := finishStep s (s.writeWord MEM_WDATA w)

/-- MEM_WDATA_READ (R383): A read of MEM_WDATA returns 4 bytes at the window address and advances it. -/
def execMemWdataRead (s : State) : Res := finishStep s (s.accessRead 0 MEM_WDATA.key)

/-- MEM_CTL_TRAIN (R390): A write of MEM_CTL.TRAIN starts a memory training round. -/
def execMemCtlTrain (s : State) : Res := finishStep s (s.writeField MEM_CTL [(MEM_CTL_TRAIN, 1)] [])

/-- CC_CLEAN (R409): CC_MAINT CLEAN writes dirty lines of the range back and keeps them. -/
def execCcClean (len : BitVec 12) (s : State) : Res :=
  finishStep s (s.writeField CC_MAINT [(CC_MAINT_OP, 1), (CC_MAINT_LEN, len.toNat), (CC_MAINT_GO, 1)] [])

/-- CC_INVALIDATE (R409): CC_MAINT INVALIDATE discards lines of the range, skipping locked ways. -/
def execCcInvalidate (len : BitVec 12) (s : State) : Res :=
  finishStep s (s.writeField CC_MAINT [(CC_MAINT_OP, 2), (CC_MAINT_LEN, len.toNat), (CC_MAINT_GO, 1)] [])

/-- CC_CLEAN_INVALIDATE (R409): CC_MAINT CLEAN_INVALIDATE writes back and discards lines of the range. -/
def execCcCleanInvalidate (len : BitVec 12) (s : State) : Res :=
  finishStep s (s.writeField CC_MAINT [(CC_MAINT_OP, 3), (CC_MAINT_LEN, len.toNat), (CC_MAINT_GO, 1)] [])

/-- CC_PRELOAD (R406): CC_MAINT PRELOAD fills lines into the named way with the given owner tag. -/
def execCcPreload (len : BitVec 12) (way : Fin 16) (ctx : Fin 32) (s : State) : Res :=
  finishStep s (s.writeField CC_MAINT [(CC_MAINT_OP, 4), (CC_MAINT_LEN, len.toNat), (CC_MAINT_WAY, way.val), (CC_MAINT_CTX, ctx.val), (CC_MAINT_GO, 1)] [])

/-- CC_MAINT_DONE (R409): A cache maintenance operation ends, clearing BUSY and applying any lock deferred by a PRELOAD. -/
def execCcMaintDone (s : State) : Res := finishStep s (s.maintDone)

/-- CC_SEED_WRITE (R405): A write of CC_CTL.SEED reloads the victim LFSR. -/
def execCcSeedWrite (seed : BitVec 16) (s : State) : Res := finishStep s (s.writeField CC_CTL [(CC_CTL_SEED, seed.toNat)] [])

/-- CC_LOCK_WRITE (R406): A write of CC_CTL.LOCK locks ways, discarded if it would lock every way from 0 to 14. -/
def execCcLockWrite (ways : BitVec 15) (s : State) : Res := finishStep s (s.writeField CC_CTL [(CC_CTL_LOCK, ways.toNat)] [])

/-- PM_VWARN_WRITE (R414): A write of PM_VWARN changes the warning threshold, which counts as a fall if VIN is then below it. -/
def execPmVwarnWrite (v : BitVec 16) (s : State) : Res := finishStep s (s.writeField PM_VWARN [(PM_VWARN_VWARN, v.toNat)] [])

/-- MC_RECOVER_STATION (R456): A write of MC_RECOVER bit n resets station island n out of FATAL when its spindle is OFF. -/
def execMcRecoverStation (n : Stn) (s : State) : Res := finishStep s (s.writeWord MC_RECOVER (BitVec.ofNat 32 (2 ^ n.val)))

/-- MC_RECOVER_LEDGER (R456): A write of MC_RECOVER bit 16 resets the ledger engine, and every vault counts as unmounted. -/
def execMcRecoverLedger (s : State) : Res := finishStep s (s.writeWord MC_RECOVER 0x10000#32)

/-- MC_RECOVER_BENCH (R456): A write of MC_RECOVER bit 17 restarts the bench core from the flash slot in force. -/
def execMcRecoverBench (s : State) : Res := finishStep s (s.writeWord MC_RECOVER 0x20000#32)

/-- EVT_PEND_CLEAR (R453): A W1C write of EVT_PEND clears pending events, with a coinciding raise leaving the bit set. -/
def execEvtPendClear (idx : Fin 16) (w : Word) (s : State) : Res := finishStep s (s.writeWord (EVT_PEND idx.val) w)

/-- MSIX_UNMASK (R453): Unmasking an MSI-X vector sends the message held in the PBA. -/
def execMsixUnmask (f : Fn) (v : Option (Fin 256)) (s : State) : Res := finishStep s (s.unmask f v)

/-- REGISTER_WRITE (R11): A write to a register that has no row of its own behaves by its access type, with RWL discards raising E000. -/
def execRegisterWrite (fn : Fn) (space : Space) (off size v : Nat) (data : Bytes) (s : State) : Res :=
  finishStep s (s.busWrite fn.val space off size v data)

end Sys2Proof.Machine
end

