-- ==== Sys2Proof/Machine/RowsRing.lean ====
section
/-!
DEFINITION. The meanings of polls, doorbells, completions and the dispatcher: one definition for each command of the opcode table.
-/

namespace Sys2Proof.Machine

/-- POLL (R280): A poll, at the ACTIVE or IDLE interval, reads every doorbell word of the function's enabled rings. -/
def execPoll (f : Fn) (sch : Bool) (s : State) : Res := finishStep s (s.poll f sch)

/-- DOORBELL_OBSERVED (R278): A poll's read completion is judged and a valid doorbell word moves an SQ tail or a CQ head. -/
def execDoorbellObserved (f : Fn) (cq : Bool) (k : RingNo) (word : BitVec 64) (s : State) : Res :=
  finishStep s ((if cq then s.cqDoorbell f k.val word else s.sqDoorbell f k.val word).pollAnswered f)

/-- HEAD_SHADOW_WRITE (R279): The SQ head shadow is written within 2 µs of the head moving. -/
def execHeadShadowWrite (f : Fn) (k : RingNo) (ok : Bool) (s : State) : Res :=
  finishStep s (if ok then s.writeShadow f.val k.val else s.shadowFault f)

/-- FUNCTION_IDLE (R280): A function with no change or nudge for IDLE_AFTER ms becomes IDLE. -/
def execFunctionIdle (f : Fn) (s : State) : Res := finishStep s (s.goIdle f)

/-- BUFFER_RESERVED (R320): A waiting command reserves all its buffers at once when they become free. -/
def execBufferReserved (id : Nat) (s : State) : Res := finishStep s (s.bufferReserved id)

/-- DISPATCH (R319): A waiting task is handed to an idle gaffer in class order. -/
def execDispatch (n : Stn) (s : State) : Res := finishStep s (s.dispatch n.val)

/-- COMMAND_AGED (R321): A STANDARD or BULK command not started 500 ms after admission becomes aged. -/
def execCommandAged (id : Nat) (s : State) : Res := finishStep s (s.commandAged id)

/-- COMPLETION_POST (R286): A completion entry is written at the CQ tail when the CQ has room, with its MSI-X message as coalescing
allows. -/
def execCompletionPost (f : Fn) (k : RingNo) (ok : Bool) (s : State) : Res := finishStep s (s.postEntry f k.val ok)

/-- CQ_COALESCE_TIMEOUT (R288): CTIME passing since the first unsignalled entry sends the CQ's MSI-X message. -/
def execCqCoalesceTimeout (f : Fn) (k : RingNo) (s : State) : Res := finishStep s (s.coalesce f k.val)

/-- GATHER_AGE_EXPIRY (R317): A parison whose oldest block has waited GATHER_AGE ms begins writing. -/
def execGatherAgeExpiry (parison : Nat) (s : State) : Res := finishStep s (s.beginParison parison)

/-- ACTIVATION_DISPATCH_TIMEOUT (R242): The hold on dispatch during a microcode activation ends after 20 ms. -/
def execActivationDispatchTimeout (s : State) : Res := finishStep s (s.holdEnds)

end Sys2Proof.Machine
end

