-- ==== Sys2Proof/Machine/RowsServo.lean ====
section
/-!
DEFINITION. The meanings of the optical servo loops: one definition for each command of the opcode table.
-/

namespace Sys2Proof.Machine

/-- LOOP_SAMPLE (R99): At each sample a loop applies pending changes and runs its mode's law. -/
def execLoopSample (n : Stn) (L : Fin 8) (half : Bool) (s : State) : Res := finishStep s (s.loopSample n.val L.val half)

/-- DEFECT_TIMEOUT (R98): A defect lasting longer than DEF_MAX clears LOCKED on FOC and TRK. -/
def execDefectTimeout (n : Stn) (s : State) : Res := finishStep s (s.defectTimeout n.val)

/-- LOCK_SET (R109): After LOCK_N × 8 qualifying samples a loop's LOCKED is set. -/
def execLockSet (n : Stn) (L : Fin 8) (s : State) : Res := finishStep s (s.lockSet n.val L.val)

/-- LOCK_CLEARED (R109): After LOST_N failing samples LOCKED falls, LOSTLK is set and the lock-lost event is raised. -/
def execLockCleared (n : Stn) (L : Fin 8) (s : State) : Res := finishStep s (s.lockCleared n.val L.val)

/-- TUNE_DONE (R114): A tune completing its counted cycles writes T_u, a and K_u and returns the loop to its mode. -/
def execTuneDone (n : Stn) (s : State) : Res := finishStep s (s.tuneDone n.val)

/-- TUNE_TIMEOUT (R115): A tune not complete within TMO × 64 samples ends with STATUS 3. -/
def execTuneTimeout (n : Stn) (s : State) : Res := finishStep s (s.tuneTimeout n.val)

/-- INJECTION_DONE (R116): An injection completing NCYC wraps reports the open-loop gain and phase. -/
def execInjectionDone (n : Stn) (s : State) : Res := finishStep s (s.injDone n.val)

/-- LAYER_JUMP (R112): A sequencer jump request runs the layer jump sequence of Table 4.7. -/
def execLayerJump (n : Stn) (layer : Fin 16) (s : State) : Res := finishStep s (s.jumpStart n.val layer.val)

/-- JUMP_TIMEOUT (R112): A jump not at step 9 within SV_JUMP.TMO fails with STATUS 4. -/
def execJumpTimeout (n : Stn) (s : State) : Res := finishStep s (s.jumpTimeout n.val)

/-- CROSSING_TIMEOUT (R112): Crossings not complete within XTMO of the kick fail the jump with STATUS 3. -/
def execCrossingTimeout (n : Stn) (s : State) : Res := finishStep s (s.crossingTimeout n.val)

end Sys2Proof.Machine
end

