-- ==== Sys2Proof/Machine/RowsStation.lean ====
section
/-!
DEFINITION. The meanings of writes of station registers with an effect of their own: one definition for each command of the opcode table.
-/

namespace Sys2Proof.Machine

/-- STN_CTL_ENABLE (R84): A write of STN_CTL.ENABLE = 1 starts SY and lane training on the station. -/
def execStnCtlEnable (n : Stn) (s : State) : Res :=
  finishStep s (s.writeField (STN_CTL n.val) [(STN_CTL_ENABLE, 1), (STN_CTL_UNFAIL, 0), (STN_CTL_RETRAIN, 0)] [])

/-- STN_CTL_DISABLE (R91): A write of STN_CTL.ENABLE = 0 stops every link if the station is parked, and is otherwise refused. -/
def execStnCtlDisable (n : Stn) (s : State) : Res :=
  finishStep s (s.writeField (STN_CTL n.val) [(STN_CTL_ENABLE, 0), (STN_CTL_UNFAIL, 0), (STN_CTL_RETRAIN, 0)] [])

/-- STN_CTL_UNFAIL (R87): A write of STN_CTL.UNFAIL clears the failed lane marks and starts full training. -/
def execStnCtlUnfail (n : Stn) (s : State) : Res :=
  finishStep s (s.writeField (STN_CTL n.val) [(STN_CTL_UNFAIL, 1), (STN_CTL_RETRAIN, 0)] [])

/-- STN_CTL_RETRAIN (R86): A write of STN_CTL.RETRAIN asks quick training of all lanes, deferred to the end of a band being written. -/
def execStnCtlRetrain (n : Stn) (s : State) : Res :=
  finishStep s (s.writeField (STN_CTL n.val) [(STN_CTL_UNFAIL, 0), (STN_CTL_RETRAIN, 1)] [])

/-- LP_MODE_OFF (R104): A write of LP_CTL.MODE = OFF sets the loop to OFF at its next sample, unless refused. -/
def execLpModeOff (n : Stn) (L : Fin 8) (s : State) : Res := finishStep s (s.writeField (LP_CTL n.val L.val) [(LP_CTL_MODE, 0)] [])

/-- LP_MODE_MANUAL (R105): A write of LP_CTL.MODE = MANUAL sets the loop to MANUAL at its next sample, unless refused. -/
def execLpModeManual (n : Stn) (L : Fin 8) (s : State) : Res := finishStep s (s.writeField (LP_CTL n.val L.val) [(LP_CTL_MODE, 1)] [])

/-- LP_MODE_AUTO (R106): A write of LP_CTL.MODE = AUTO sets the loop to AUTO with the bumpless preset at its next sample, unless refused.
-/
def execLpModeAuto (n : Stn) (L : Fin 8) (s : State) : Res := finishStep s (s.writeField (LP_CTL n.val L.val) [(LP_CTL_MODE, 2)] [])

/-- LP_MODE_HOLD (R105): A write of LP_CTL.MODE = HOLD freezes the loop at its next sample, unless refused. -/
def execLpModeHold (n : Stn) (L : Fin 8) (s : State) : Res := finishStep s (s.writeField (LP_CTL n.val L.val) [(LP_CTL_MODE, 4)] [])

/-- LP_CSEL_SWITCH (R107): A write of LP_CTL.CSEL switches the coefficient bank at the next sample, with the preset in AUTO. -/
def execLpCselSwitch (n : Stn) (L : Fin 8) (bank : Fin 2) (s : State) : Res :=
  finishStep s (s.writeField (LP_CTL n.val L.val) [(LP_CTL_CSEL, bank.val)] [])

/-- LP_ORDER_WRITE (R107): A write of LP_CTL.ORDER changes the compensator order only in OFF or MANUAL and is otherwise refused. -/
def execLpOrderWrite (n : Stn) (L : Fin 8) (order : Fin 2) (s : State) : Res :=
  finishStep s (s.writeField (LP_CTL n.val L.val) [(LP_CTL_ORDER, order.val)] [])

/-- TUNE_START (R113): A write of SV_TUNE_CTL.START replaces the loop's compensator by a relay, unless refused. -/
def execTuneStart (n : Stn) (L : Fin 8) (s : State) : Res :=
  finishStep s (s.writeField (SV_TUNE_CTL n.val) [(SV_TUNE_CTL_LOOP, L.val), (SV_TUNE_CTL_START, 1)] [])

/-- INJECTION_START (R117): A write of SV_INJ_CTL.START starts a sine injection on a loop in AUTO, unless refused. -/
def execInjectionStart (n : Stn) (L : Fin 8) (s : State) : Res :=
  finishStep s (s.writeField (SV_INJ_CTL n.val) [(SV_INJ_CTL_LOOP, L.val), (SV_INJ_CTL_START, 1)] [])

/-- MOT_DEMAND_WRITE (R129): A write of MOT_DEMAND sets the spin demand and latches the spindle on or off by the hysteresis thresholds. -/
def execMotDemandWrite (n : Stn) (demand : BitVec 16) (s : State) : Res :=
  finishStep s (s.writeField (MOT_DEMAND n.val) [(MOT_DEMAND_DEMAND, demand.toNat)] [])

/-- MOT_SRC_WRITE (R125): A write of MOT_CTL.SRC selects the SPD source and, for WOB, sets the expected count to the next wobble sync. -/
def execMotSrcWrite (n : Stn) (src : Fin 2) (s : State) : Res := finishStep s (s.writeField (MOT_CTL n.val) [(MOT_CTL_SRC, src.val)] [])

/-- SLD_GO (R143): A write of SLD_CTL.GO with MODE = MOVE starts a move to SLD_TARGET, unless refused. -/
def execSldGo (n : Stn) (s : State) : Res :=
  finishStep s (s.writeField (SLD_CTL n.val) [(SLD_CTL_MODE, 1), (SLD_CTL_STOP, 0), (SLD_CTL_GO, 1)] [])

/-- SLD_STOP (R145): A write of SLD_CTL.STOP makes a snowplough stop. -/
def execSldStop (n : Stn) (s : State) : Res := finishStep s (s.writeField (SLD_CTL n.val) [(SLD_CTL_STOP, 1), (SLD_CTL_GO, 0)] [])

/-- SLD_MODE_IDLE (R145): A write of SLD_CTL.MODE = IDLE sets the sled idle, with a snowplough stop if it moves. -/
def execSldModeIdle (n : Stn) (s : State) : Res :=
  finishStep s (s.writeField (SLD_CTL n.val) [(SLD_CTL_MODE, 0), (SLD_CTL_STOP, 0), (SLD_CTL_GO, 0)] [])

/-- SLD_MODE_MOVE (R143): A write of SLD_CTL.MODE = MOVE prepares the sled for moves started by GO. -/
def execSldModeMove (n : Stn) (s : State) : Res :=
  finishStep s (s.writeField (SLD_CTL n.val) [(SLD_CTL_MODE, 1), (SLD_CTL_STOP, 0), (SLD_CTL_GO, 0)] [])

/-- SLD_MODE_FOLLOW (R146): A write of SLD_CTL.MODE = FOLLOW makes the sled follow the lens through the SLD loop. -/
def execSldModeFollow (n : Stn) (s : State) : Res :=
  finishStep s (s.writeField (SLD_CTL n.val) [(SLD_CTL_MODE, 2), (SLD_CTL_STOP, 0), (SLD_CTL_GO, 0)] [])

/-- SLD_TARGET_WRITE (R144): A write of SLD_TARGET sets the target, and is discarded with REFUSED during a move. -/
def execSldTargetWrite (n : Stn) (w : Word) (s : State) : Res := finishStep s (s.writeWord (SLD_TARGET n.val) w)

/-- SLD_POS_WRITE (R147): A write of SLD_POS sets P only while the sled is idle and not moving, and is otherwise refused. -/
def execSldPosWrite (n : Stn) (w : Word) (s : State) : Res := finishStep s (s.writeWord (SLD_POS n.val) w)

/-- HTMO_WRITE (R217): A write of WR_CTL.HTMO changes the hold limit at once and abandons any hold that has already lasted that long. -/
def execHtmoWrite (n : Stn) (v : BitVec 16) (s : State) : Res := finishStep s (s.writeField (WR_CTL n.val) [(WR_CTL_HTMO, v.toNat)] [])

end Sys2Proof.Machine
end

