-- ==== Sys2Proof/Machine/RowsTask.lean ====
section
/-!
DEFINITION. The meanings of the tasks of a station: one definition for each command of the opcode table.
-/

namespace Sys2Proof.Machine

/-- LOAD (R244): The LOAD task closes and locks the loader, spins up, acquires focus and reads the identity record. -/
def execLoad (n : Stn) (frames : List Bytes) (s : State) : Res := finishStep s (s.load n.val frames)

/-- PARK (R231): The PARK task stops the spindle, moves the sled to SLD_PMIN and turns the loops off. -/
def execPark (n : Stn) (s : State) : Res := finishStep s (s.park n.val)

/-- STOW (R231): The STOW task parks, unlocks and opens the loader and runs station BIST. -/
def execStow (n : Stn) (bist : List BistFind) (s : State) : Res := finishStep s (s.stow n.val bist)

/-- RETIRE (R231): The RETIRE task stows and then refuses further tasks until the domain passes through OFF. -/
def execRetire (n : Stn) (bist : List BistFind) (s : State) : Res := finishStep s (s.retire n.val bist)

/-- SEEK (R231): The SEEK task brings the station to valid speed and tracking in the named layer and zone. -/
def execSeek (n : Stn) (s : State) : Res := finishStep s (s.seek n.val)

/-- BAND_WRITE (R202): The BAND_WRITE task writes a parison into its band position and ends at seal, void or abandonment. -/
def execBandWrite (n : Stn) (s : State) : Res := finishStep s (s.bandWrite n.val)

/-- BAND_READ (R180): The BAND_READ task runs band passes until every requested frame has passed, been recovered or failed. -/
def execBandRead (n : Stn) (s : State) : Res := finishStep s (s.bandReadTask n.val)

/-- CAPTURE (R189): The CAPTURE task captures raw samples in whole epochs from a start location. -/
def execCapture (n : Stn) (s : State) : Res := finishStep s (s.captureTask n.val)

/-- CAL_STEP (R441): The CAL_STEP task runs a station calibration step. -/
def execCalStep (n : Stn) (meas : Option CalMeas) (s : State) : Res := finishStep s (s.calStep n.val meas)

/-- SPIN (R231): The SPIN task sets the spin demand and waits for the spindle state. -/
def execSpin (n : Stn) (s : State) : Res := finishStep s (s.spinTask n.val)

end Sys2Proof.Machine
end

