-- ==== Sys2Proof/Machine/Dispatch.lean ====
section
/-!
DEFINITION. Which meaning each command has.
-/

namespace Sys2Proof.Machine

/-- The effect of a command on everything but the queue. -/
def exec (i : Instr) (s : State) : Host.Outcome State Fault Refusal :=
  match i with
  | .read fn sq caps => Sys2Proof.Machine.execRead fn sq caps s
  | .write fn sq caps => Sys2Proof.Machine.execWrite fn sq caps s
  | .readVersion fn sq caps => Sys2Proof.Machine.execReadVersion fn sq caps s
  | .flush fn sq caps => Sys2Proof.Machine.execFlush fn sq caps s
  | .fence fn sq caps => Sys2Proof.Machine.execFence fn sq caps s
  | .vaultCreate fn sq caps => Sys2Proof.Machine.execVaultCreate fn sq caps s
  | .vaultCreateRebind fn sq caps => Sys2Proof.Machine.execVaultCreateRebind fn sq caps s
  | .vaultMount fn sq caps found => Sys2Proof.Machine.execVaultMount fn sq caps found s
  | .vaultUnmount fn sq caps => Sys2Proof.Machine.execVaultUnmount fn sq caps s
  | .vaultQuerySummary fn sq caps => Sys2Proof.Machine.execVaultQuerySummary fn sq caps s
  | .vaultQuerySealedSince fn sq caps => Sys2Proof.Machine.execVaultQuerySealedSince fn sq caps s
  | .vaultQueryVersions fn sq caps => Sys2Proof.Machine.execVaultQueryVersions fn sq caps s
  | .vaultQueryDiscs fn sq caps => Sys2Proof.Machine.execVaultQueryDiscs fn sq caps s
  | .sealExport fn sq caps => Sys2Proof.Machine.execSealExport fn sq caps s
  | .cryptGcmEncrypt fn sq caps => Sys2Proof.Machine.execCryptGcmEncrypt fn sq caps s
  | .cryptGcmDecrypt fn sq caps => Sys2Proof.Machine.execCryptGcmDecrypt fn sq caps s
  | .cryptCtr fn sq caps => Sys2Proof.Machine.execCryptCtr fn sq caps s
  | .cryptKeyWrap fn sq caps => Sys2Proof.Machine.execCryptKeyWrap fn sq caps s
  | .cryptKeyUnwrap fn sq caps => Sys2Proof.Machine.execCryptKeyUnwrap fn sq caps s
  | .hash fn sq caps => Sys2Proof.Machine.execHash fn sq caps s
  | .forensicCapture fn sq caps => Sys2Proof.Machine.execForensicCapture fn sq caps s
  | .forensicCaptureStop fn sq caps => Sys2Proof.Machine.execForensicCaptureStop fn sq caps s
  | .planLoadReplace fn sq caps => Sys2Proof.Machine.execPlanLoadReplace fn sq caps s
  | .planLoadAppend fn sq caps => Sys2Proof.Machine.execPlanLoadAppend fn sq caps s
  | .stationCtlLoad fn sq caps => Sys2Proof.Machine.execStationCtlLoad fn sq caps s
  | .stationCtlSpin fn sq caps => Sys2Proof.Machine.execStationCtlSpin fn sq caps s
  | .stationCtlPark fn sq caps => Sys2Proof.Machine.execStationCtlPark fn sq caps s
  | .stationCtlStow fn sq caps => Sys2Proof.Machine.execStationCtlStow fn sq caps s
  | .stationCtlRetire fn sq caps => Sys2Proof.Machine.execStationCtlRetire fn sq caps s
  | .stationCtlAdaptive fn sq caps => Sys2Proof.Machine.execStationCtlAdaptive fn sq caps s
  | .stationCtlPlanned fn sq caps => Sys2Proof.Machine.execStationCtlPlanned fn sq caps s
  | .stationCtlForce fn sq caps => Sys2Proof.Machine.execStationCtlForce fn sq caps s
  | .refin fn sq caps meas => Sys2Proof.Machine.execRefin fn sq caps meas s
  | .temp fn sq caps meas => Sys2Proof.Machine.execTemp fn sq caps meas s
  | .vin fn sq caps meas => Sys2Proof.Machine.execVin fn sq caps meas s
  | .pdSense fn sq caps => Sys2Proof.Machine.execPdSense fn sq caps s
  | .hfOffset fn sq caps => Sys2Proof.Machine.execHfOffset fn sq caps s
  | .hfGain fn sq caps => Sys2Proof.Machine.execHfGain fn sq caps s
  | .zoneLearn fn sq caps => Sys2Proof.Machine.execZoneLearn fn sq caps s
  | .testWrite fn sq caps => Sys2Proof.Machine.execTestWrite fn sq caps s
  | .liveOn fn sq caps => Sys2Proof.Machine.execLiveOn fn sq caps s
  | .liveOff fn sq caps => Sys2Proof.Machine.execLiveOff fn sq caps s
  | .bistClear fn sq caps => Sys2Proof.Machine.execBistClear fn sq caps s
  | .shutdown fn sq caps bist => Sys2Proof.Machine.execShutdown fn sq caps bist s
  | .bistReport fn sq caps => Sys2Proof.Machine.execBistReport fn sq caps s
  | .domainSet fn sq caps => Sys2Proof.Machine.execDomainSet fn sq caps s
  | .queueResetResumeAfter fn sq caps => Sys2Proof.Machine.execQueueResetResumeAfter fn sq caps s
  | .queueResetDiscard fn sq caps => Sys2Proof.Machine.execQueueResetDiscard fn sq caps s
  | .logRead fn sq caps => Sys2Proof.Machine.execLogRead fn sq caps s
  | .eventLogRead fn sq caps => Sys2Proof.Machine.execEventLogRead fn sq caps s
  | .fwStageFirmware fn sq caps => Sys2Proof.Machine.execFwStageFirmware fn sq caps s
  | .fwStageMicrocode fn sq caps => Sys2Proof.Machine.execFwStageMicrocode fn sq caps s
  | .fwActivateFirmware fn sq caps => Sys2Proof.Machine.execFwActivateFirmware fn sq caps s
  | .fwActivateMicrocode fn sq caps => Sys2Proof.Machine.execFwActivateMicrocode fn sq caps s
  | .nop fn sq caps => Sys2Proof.Machine.execNop fn sq caps s
  | .createCq f k word => Sys2Proof.Machine.execCreateCq f k word s
  | .createSq f k word => Sys2Proof.Machine.execCreateSq f k word s
  | .deleteSq f k => Sys2Proof.Machine.execDeleteSq f k s
  | .deleteCq f k => Sys2Proof.Machine.execDeleteCq f k s
  | .enterMaker len token => Sys2Proof.Machine.execEnterMaker len token s
  | .enterField len token => Sys2Proof.Machine.execEnterField len token s
  | .enterReturn len token => Sys2Proof.Machine.execEnterReturn len token s
  | .enterScrap len token => Sys2Proof.Machine.execEnterScrap len token s
  | .debugUnlock len token => Sys2Proof.Machine.execDebugUnlock len token s
  | .telemetry len token => Sys2Proof.Machine.execTelemetry len token s
  | .debugLock => Sys2Proof.Machine.execDebugLock s
  | .certStore len token => Sys2Proof.Machine.execCertStore len token s
  | .ownerEnrol len token => Sys2Proof.Machine.execOwnerEnrol len token s
  | .stnCtlEnable n => Sys2Proof.Machine.execStnCtlEnable n s
  | .stnCtlDisable n => Sys2Proof.Machine.execStnCtlDisable n s
  | .stnCtlUnfail n => Sys2Proof.Machine.execStnCtlUnfail n s
  | .stnCtlRetrain n => Sys2Proof.Machine.execStnCtlRetrain n s
  | .lpModeOff n L => Sys2Proof.Machine.execLpModeOff n L s
  | .lpModeManual n L => Sys2Proof.Machine.execLpModeManual n L s
  | .lpModeAuto n L => Sys2Proof.Machine.execLpModeAuto n L s
  | .lpModeHold n L => Sys2Proof.Machine.execLpModeHold n L s
  | .lpCselSwitch n L bank => Sys2Proof.Machine.execLpCselSwitch n L bank s
  | .lpOrderWrite n L order => Sys2Proof.Machine.execLpOrderWrite n L order s
  | .tuneStart n L => Sys2Proof.Machine.execTuneStart n L s
  | .injectionStart n L => Sys2Proof.Machine.execInjectionStart n L s
  | .motDemandWrite n demand => Sys2Proof.Machine.execMotDemandWrite n demand s
  | .motSrcWrite n src => Sys2Proof.Machine.execMotSrcWrite n src s
  | .sldGo n => Sys2Proof.Machine.execSldGo n s
  | .sldStop n => Sys2Proof.Machine.execSldStop n s
  | .sldModeIdle n => Sys2Proof.Machine.execSldModeIdle n s
  | .sldModeMove n => Sys2Proof.Machine.execSldModeMove n s
  | .sldModeFollow n => Sys2Proof.Machine.execSldModeFollow n s
  | .sldTargetWrite n w => Sys2Proof.Machine.execSldTargetWrite n w s
  | .sldPosWrite n w => Sys2Proof.Machine.execSldPosWrite n w s
  | .htmoWrite n v => Sys2Proof.Machine.execHtmoWrite n v s
  | .featDrvWrite f idx w => Sys2Proof.Machine.execFeatDrvWrite f idx w s
  | .vfVecWrite v count => Sys2Proof.Machine.execVfVecWrite v count s
  | .vfEnable on num => Sys2Proof.Machine.execVfEnable on num s
  | .priEnableWrite f on => Sys2Proof.Machine.execPriEnableWrite f on s
  | .nudge f => Sys2Proof.Machine.execNudge f s
  | .clockSet hi => Sys2Proof.Machine.execClockSet hi s
  | .clkNowLoRead => Sys2Proof.Machine.execClkNowLoRead s
  | .memLayoutWrite idx w => Sys2Proof.Machine.execMemLayoutWrite idx w s
  | .memXorWrite k hi w => Sys2Proof.Machine.execMemXorWrite k hi w s
  | .memRemapWrite idx w => Sys2Proof.Machine.execMemRemapWrite idx w s
  | .memWdataWrite w => Sys2Proof.Machine.execMemWdataWrite w s
  | .memWdataRead => Sys2Proof.Machine.execMemWdataRead s
  | .memCtlTrain => Sys2Proof.Machine.execMemCtlTrain s
  | .ccClean len => Sys2Proof.Machine.execCcClean len s
  | .ccInvalidate len => Sys2Proof.Machine.execCcInvalidate len s
  | .ccCleanInvalidate len => Sys2Proof.Machine.execCcCleanInvalidate len s
  | .ccPreload len way ctx => Sys2Proof.Machine.execCcPreload len way ctx s
  | .ccMaintDone => Sys2Proof.Machine.execCcMaintDone s
  | .ccSeedWrite seed => Sys2Proof.Machine.execCcSeedWrite seed s
  | .ccLockWrite ways => Sys2Proof.Machine.execCcLockWrite ways s
  | .pmVwarnWrite v => Sys2Proof.Machine.execPmVwarnWrite v s
  | .mcRecoverStation n => Sys2Proof.Machine.execMcRecoverStation n s
  | .mcRecoverLedger => Sys2Proof.Machine.execMcRecoverLedger s
  | .mcRecoverBench => Sys2Proof.Machine.execMcRecoverBench s
  | .evtPendClear idx w => Sys2Proof.Machine.execEvtPendClear idx w s
  | .msixUnmask f v => Sys2Proof.Machine.execMsixUnmask f v s
  | .registerWrite fn space off size v data => Sys2Proof.Machine.execRegisterWrite fn space off size v data s
  | .perstAssert => Sys2Proof.Machine.execPerstAssert s
  | .perstDeassert => Sys2Proof.Machine.execPerstDeassert s
  | .hotReset => Sys2Proof.Machine.execHotReset s
  | .resetAssert ns => Sys2Proof.Machine.execResetAssert ns s
  | .resetDeassert => Sys2Proof.Machine.execResetDeassert s
  | .vfFlr v => Sys2Proof.Machine.execVfFlr v s
  | .pfFlr => Sys2Proof.Machine.execPfFlr s
  | .d3hotEntry f => Sys2Proof.Machine.execD3hotEntry f s
  | .d0Entry f => Sys2Proof.Machine.execD0Entry f s
  | .linkRecovery => Sys2Proof.Machine.execLinkRecovery s
  | .poisonedTlpWrite f => Sys2Proof.Machine.execPoisonedTlpWrite f s
  | .dmaReadCompletion what back => Sys2Proof.Machine.execDmaReadCompletion what back s
  | .completionTimeout what => Sys2Proof.Machine.execCompletionTimeout what s
  | .translationCompletion f pasid page ok => Sys2Proof.Machine.execTranslationCompletion f pasid page ok s
  | .pageResponse id code => Sys2Proof.Machine.execPageResponse id code s
  | .atsInvalidation f pasid page => Sys2Proof.Machine.execAtsInvalidation f pasid page s
  | .doeRequest type index len => Sys2Proof.Machine.execDoeRequest type index len s
  | .doeAbort => Sys2Proof.Machine.execDoeAbort s
  | .spdmRequest q => Sys2Proof.Machine.execSpdmRequest q s
  | .kekInstall session payload signer => Sys2Proof.Machine.execKekInstall session payload signer s
  | .keyUpdate session => Sys2Proof.Machine.execKeyUpdate session s
  | .endSession session => Sys2Proof.Machine.execEndSession session s
  | .sessionTimeout session => Sys2Proof.Machine.execSessionTimeout session s
  | .ideLeaveSecure => Sys2Proof.Machine.execIdeLeaveSecure s
  | .ideSecure => Sys2Proof.Machine.execIdeSecure s
  | .ideKeyRefresh => Sys2Proof.Machine.execIdeKeyRefresh s
  | .poll f sch => Sys2Proof.Machine.execPoll f sch s
  | .doorbellObserved f cq k word => Sys2Proof.Machine.execDoorbellObserved f cq k word s
  | .headShadowWrite f k ok => Sys2Proof.Machine.execHeadShadowWrite f k ok s
  | .functionIdle f => Sys2Proof.Machine.execFunctionIdle f s
  | .bufferReserved id => Sys2Proof.Machine.execBufferReserved id s
  | .dispatch n => Sys2Proof.Machine.execDispatch n s
  | .commandAged id => Sys2Proof.Machine.execCommandAged id s
  | .completionPost f k ok => Sys2Proof.Machine.execCompletionPost f k ok s
  | .cqCoalesceTimeout f k => Sys2Proof.Machine.execCqCoalesceTimeout f k s
  | .gatherAgeExpiry parison => Sys2Proof.Machine.execGatherAgeExpiry parison s
  | .activationDispatchTimeout => Sys2Proof.Machine.execActivationDispatchTimeout s
  | .load n frames => Sys2Proof.Machine.execLoad n frames s
  | .park n => Sys2Proof.Machine.execPark n s
  | .stow n bist => Sys2Proof.Machine.execStow n bist s
  | .retire n bist => Sys2Proof.Machine.execRetire n bist s
  | .seek n => Sys2Proof.Machine.execSeek n s
  | .bandWrite n => Sys2Proof.Machine.execBandWrite n s
  | .bandRead n => Sys2Proof.Machine.execBandRead n s
  | .capture n => Sys2Proof.Machine.execCapture n s
  | .calStep n meas => Sys2Proof.Machine.execCalStep n meas s
  | .spin n => Sys2Proof.Machine.execSpin n s
  | .alu n => Sys2Proof.Machine.execAlu n s
  | .rd n => Sys2Proof.Machine.execRd n s
  | .wr n => Sys2Proof.Machine.execWr n s
  | .br n => Sys2Proof.Machine.execBr n s
  | .jmp n => Sys2Proof.Machine.execJmp n s
  | .call n => Sys2Proof.Machine.execCall n s
  | .ret n => Sys2Proof.Machine.execRet n s
  | .rtt n => Sys2Proof.Machine.execRtt n s
  | .loop n => Sys2Proof.Machine.execLoop n s
  | .wait n => Sys2Proof.Machine.execWait n s
  | .waitSatisfied n => Sys2Proof.Machine.execWaitSatisfied n s
  | .waitTimeout n => Sys2Proof.Machine.execWaitTimeout n s
  | .memLoad n => Sys2Proof.Machine.execMemLoad n s
  | .memStore n => Sys2Proof.Machine.execMemStore n s
  | .link n reply => Sys2Proof.Machine.execLink n reply s
  | .bandStartWrite n => Sys2Proof.Machine.execBandStartWrite n s
  | .bandStartPass n => Sys2Proof.Machine.execBandStartPass n s
  | .bandStartCapture n => Sys2Proof.Machine.execBandStartCapture n s
  | .bandTestWrite n => Sys2Proof.Machine.execBandTestWrite n s
  | .taskEnd n => Sys2Proof.Machine.execTaskEnd n s
  | .taskStep n => Sys2Proof.Machine.execTaskStep n s
  | .taskSuspend n => Sys2Proof.Machine.execTaskSuspend n s
  | .evt n => Sys2Proof.Machine.execEvt n s
  | .tmrArm n => Sys2Proof.Machine.execTmrArm n s
  | .tmrDisarm n => Sys2Proof.Machine.execTmrDisarm n s
  | .tmrMask n => Sys2Proof.Machine.execTmrMask n s
  | .trap n => Sys2Proof.Machine.execTrap n s
  | .microTimerExpiry n => Sys2Proof.Machine.execMicroTimerExpiry n s
  | .trapTaken n => Sys2Proof.Machine.execTrapTaken n s
  | .saHeader n lane b => Sys2Proof.Machine.execSaHeader n lane b s
  | .servoBlock n lane b => Sys2Proof.Machine.execServoBlock n lane b s
  | .sampleGroup n lane group b => Sys2Proof.Machine.execSampleGroup n lane group b s
  | .clEpoch n => Sys2Proof.Machine.execClEpoch n s
  | .miFrame n chars => Sys2Proof.Machine.execMiFrame n chars s
  | .motionPeriod n => Sys2Proof.Machine.execMotionPeriod n s
  | .interlock n ns => Sys2Proof.Machine.execInterlock n ns s
  | .interlockRelease n => Sys2Proof.Machine.execInterlockRelease n s
  | .axStatusPoll n => Sys2Proof.Machine.execAxStatusPoll n s
  | .axReply n w => Sys2Proof.Machine.execAxReply n w s
  | .axReplyTimeout n => Sys2Proof.Machine.execAxReplyTimeout n s
  | .axAttention n released => Sys2Proof.Machine.execAxAttention n released s
  | .laneLost n lanes => Sys2Proof.Machine.execLaneLost n lanes s
  | .trainingAttemptEnd n lane errors eyeV eyeH => Sys2Proof.Machine.execTrainingAttemptEnd n lane errors eyeV eyeH s
  | .loopSample n L half => Sys2Proof.Machine.execLoopSample n L half s
  | .defectTimeout n => Sys2Proof.Machine.execDefectTimeout n s
  | .lockSet n L => Sys2Proof.Machine.execLockSet n L s
  | .lockCleared n L => Sys2Proof.Machine.execLockCleared n L s
  | .tuneDone n => Sys2Proof.Machine.execTuneDone n s
  | .tuneTimeout n => Sys2Proof.Machine.execTuneTimeout n s
  | .injectionDone n => Sys2Proof.Machine.execInjectionDone n s
  | .layerJump n layer => Sys2Proof.Machine.execLayerJump n layer s
  | .jumpTimeout n => Sys2Proof.Machine.execJumpTimeout n s
  | .crossingTimeout n => Sys2Proof.Machine.execCrossingTimeout n s
  | .wobbleAddress n spot word cw => Sys2Proof.Machine.execWobbleAddress n spot word cw s
  | .catchMeasured n => Sys2Proof.Machine.execCatchMeasured n s
  | .alignDone n => Sys2Proof.Machine.execAlignDone n s
  | .brakeDone n => Sys2Proof.Machine.execBrakeDone n s
  | .rotorLost n => Sys2Proof.Machine.execRotorLost n s
  | .spindleLossTimeout n => Sys2Proof.Machine.execSpindleLossTimeout n s
  | .sledTick n => Sys2Proof.Machine.execSledTick n s
  | .vinSample mv => Sys2Proof.Machine.execVinSample mv s
  | .selfProtection => Sys2Proof.Machine.execSelfProtection s
  | .protectionRelease => Sys2Proof.Machine.execProtectionRelease s
  | .regenFaultClear n => Sys2Proof.Machine.execRegenFaultClear n s
  | .frameDecode n slot spiral => Sys2Proof.Machine.execFrameDecode n slot spiral s
  | .outerRecovery n => Sys2Proof.Machine.execOuterRecovery n s
  | .ladderPass n => Sys2Proof.Machine.execLadderPass n s
  | .captureEpoch n accept => Sys2Proof.Machine.execCaptureEpoch n accept s
  | .captureDrain id => Sys2Proof.Machine.execCaptureDrain id s
  | .slotStart n first refused => Sys2Proof.Machine.execSlotStart n first refused s
  | .sealSigned n => Sys2Proof.Machine.execSealSigned n s
  | .verifyResult n slot spiral => Sys2Proof.Machine.execVerifyResult n slot spiral s
  | .parityRebuildDone n j ok => Sys2Proof.Machine.execParityRebuildDone n j ok s
  | .holdPointFixed n => Sys2Proof.Machine.execHoldPointFixed n s
  | .holdAdjustDone n => Sys2Proof.Machine.execHoldAdjustDone n s
  | .longHold n => Sys2Proof.Machine.execLongHold n s
  | .holdTimeout n => Sys2Proof.Machine.execHoldTimeout n s
  | .bandPositionPassage n first refused => Sys2Proof.Machine.execBandPositionPassage n first refused s
  | .planSlotStart n => Sys2Proof.Machine.execPlanSlotStart n s
  | .liveCalGap n ys => Sys2Proof.Machine.execLiveCalGap n ys s
  | .memoryRead port a len wrong fill free go => Sys2Proof.Machine.execMemoryRead port a len wrong fill free go s
  | .memoryWrite port a bytes mark wrong fill free go => Sys2Proof.Machine.execMemoryWrite port a bytes mark wrong fill free go s
  | .refreshDue channel fill free => Sys2Proof.Machine.execRefreshDue channel fill free s
  | .urgentAge port => Sys2Proof.Machine.execUrgentAge port s
  | .trainingRound temp found => Sys2Proof.Machine.execTrainingRound temp found s
  | .trainingRoundTimeout left => Sys2Proof.Machine.execTrainingRoundTimeout left s
  | .lehrRead wrong => Sys2Proof.Machine.execLehrRead wrong s
  | .lehrLapOverrun => Sys2Proof.Machine.execLehrLapOverrun s
  | .cacheAccess a len ctx data wrong => Sys2Proof.Machine.execCacheAccess a len ctx data wrong s
  | .alloc reqs schuss => Sys2Proof.Machine.execAlloc reqs schuss s
  | .share h who new owner off len => Sys2Proof.Machine.execShare h who new owner off len s
  | .release h who off len => Sys2Proof.Machine.execRelease h who off len s
  | .free h who off len => Sys2Proof.Machine.execFree h who off len s
  | .supplyWarning mv => Sys2Proof.Machine.execSupplyWarning mv s
  | .supplyRecovery mv => Sys2Proof.Machine.execSupplyRecovery mv s
  | .vrstFall mv => Sys2Proof.Machine.execVrstFall mv s
  | .vrstRise mv => Sys2Proof.Machine.execVrstRise mv s
  | .railFault => Sys2Proof.Machine.execRailFault s
  | .aonPowerUp straps => Sys2Proof.Machine.execAonPowerUp straps s
  | .domainStopDone => Sys2Proof.Machine.execDomainStopDone s
  | .domainStopTimeout d => Sys2Proof.Machine.execDomainStopTimeout d s
  | .deferredStop => Sys2Proof.Machine.execDeferredStop s
  | .domainWake fn space off size => Sys2Proof.Machine.execDomainWake fn space off size s
  | .domainReady d => Sys2Proof.Machine.execDomainReady d s
  | .liftFrame a check stop => Sys2Proof.Machine.execLiftFrame a check stop s
  | .sensorRead t => Sys2Proof.Machine.execSensorRead t s
  | .thermalWarningEnd => Sys2Proof.Machine.execThermalWarningEnd s
  | .thermalShutdown sensor => Sys2Proof.Machine.execThermalShutdown sensor s
  | .trimSetCommit n lead => Sys2Proof.Machine.execTrimSetCommit n lead s
  | .calStepTimeout stn => Sys2Proof.Machine.execCalStepTimeout stn s
  | .wearSample l => Sys2Proof.Machine.execWearSample l s
  | .wearFlashWrite => Sys2Proof.Machine.execWearFlashWrite s
  | .entropyFailure => Sys2Proof.Machine.execEntropyFailure s
  | .channelWord ch w rx => Sys2Proof.Machine.execChannelWord ch w rx s
  | .channelReplay ch rx => Sys2Proof.Machine.execChannelReplay ch rx s
  | .start t7 found savedOk => Sys2Proof.Machine.execStart t7 found savedOk s
  | .deviceReady => Sys2Proof.Machine.execDeviceReady s
  | .aonPowerLoss mv => Sys2Proof.Machine.execAonPowerLoss mv s
  | .entropySourcePass => Sys2Proof.Machine.execEntropySourcePass s
  | .benchCoreRestartDone => Sys2Proof.Machine.execBenchCoreRestartDone s
  | .dataLinkUp width speed flit => Sys2Proof.Machine.execDataLinkUp width speed flit s
  | .jtagAccess j => Sys2Proof.Machine.execJtagAccess j s

end Sys2Proof.Machine
end

