-- ==== Sys2Proof/Safety.lean ====
section
/-!
DEFINITION. What the statements speak of: the invariants of the block, and the states in which nothing waits on what a command brings
about.
-/

namespace Sys2Proof

open Machine

/-- R459: FAULT# is driven low exactly while one of its causes stands. -/
def FaultPinAgrees (s : State) : Prop := s.pins.faultLow = s.faultCause

/-- R381: while a ring exists the layout of the buffer memory is locked. -/
def LayoutLocked (s : State) : Prop := s.rings.sqs ≠ [] ∨ s.rings.cqs ≠ [] → s.bit MEM_CTL MEM_CTL_LOCK = true

/-- R345: the ledger keeps the keys of a released vault only while a band of it is being written. -/
def KeysReleased (s : State) : Prop := ∀ v ∈ s.ledger.released, s.vaultWriting v.id = true

/-- What every step leaves true of the block. -/
structure Inv (s : State) : Prop where
  fault : FaultPinAgrees s
  layout : LayoutLocked s
  keys : KeysReleased s

/-- Nothing waits on what a command brings about: no command of a ring is outstanding, no entry to a low-power state is in progress or
waiting, no vault is being mounted or released, no buffer is due to be freed, no invalidation waits for a read, no parison
waits to be placed, no capsule waits to be read, and the layout is locked exactly while a ring or a mounted
vault needs it (R381). -/
structure Quiet (s : State) : Prop where
  cmds : s.work.cmds = []
  toFree : s.work.toFree = []
  entry : s.power.entry = none
  queue : s.power.queue = []
  mounting : s.ledger.mounting = []
  released : s.ledger.released = []
  lock : s.bit MEM_CTL MEM_CTL_LOCK = (!s.rings.sqs.isEmpty || !s.rings.cqs.isEmpty || !s.ledger.vaults.isEmpty)
  invals : s.pcie.invals = []
  due : s.ledger.parisons.filter (fun p => p.due && p.disc.isNone && p.ckpt.isNone) = []
  fetch : s.rings.sqs.filter (fun e => e.2.fetch == 0 && e.2.tail != s.fld (SQ_STAT (e.1 / 256) (e.1 % 256)) SQ_STAT_HEAD) = []

/-- R13, R424: an access of software to offset `off` of function `fn`'s BAR0 goes through at once: the function exists, no entry to a
low-power state is in progress, and HOST, the register's domain and all that they need are ON. -/
structure Reaches (s : State) (fn off : Nat) : Prop where
  there : s.fnExists fn = true
  whole : fusedDom s.part (regDom fn off) = false
  entry : s.power.entry = none
  on : ∀ d ∈ domClosure domHOST ++ domClosure (regDom fn off), s.dom d = 1

/-- R223, R226, R237: station `n`'s gaffer can run a microword, and the words at its PC pass parity and read as `m` and `o`. -/
structure Fetches (s : State) (n : Nat) (m : Micro) (o : Nano) : Prop where
  can : s.canRun n = true
  word : s.fetch n = .word m o

/-- R237: the state in which a fetched microword runs. -/
def running (s : State) (n : Nat) : State :=
  s.setGaf n (fun g => { g with afterRtt := false, waitLeft := if g.inTrap then g.waitLeft else none })

/-- `s` as a WAIT begins: the time that a trap left it stands. -/
def atWait (s : State) (n : Nat) : State := s.setGaf n (fun g => { g with afterRtt := false })

/-- `v` is `s` with field `f` of register `r` at `x`, and nothing else changed. -/
structure Wrote (s v : State) (r : Reg) (f : Fld) (x : Nat) : Prop where
  rest : v = { s with regs := v.regs }
  here : v.reg r = fldSet f (s.reg r) x
  others : ∀ q : Reg, q.key ≠ r.key → v.reg q = s.reg q

/-- `v` differs from `s` in nothing but the registers among `keys`. -/
structure OnlyRegs (s v : State) (keys : List Nat) : Prop where
  rest : v = { s with regs := v.regs }
  others : ∀ q : Reg, q.key ∉ keys → v.reg q = s.reg q

/-! ## Capsules -/

/-- What a command that is a capsule carries: the row that it stands for, its SQ, its 64 bytes and what the world brings with it. -/
def Instr.capsule : Instr → Option (CapRow × Fn × RingNo × Capsule × CapIn)
  | .read fn sq caps => some (.read, fn, sq, caps, {})
  | .write fn sq caps => some (.write, fn, sq, caps, {})
  | .readVersion fn sq caps => some (.readVersion, fn, sq, caps, {})
  | .flush fn sq caps => some (.flush, fn, sq, caps, {})
  | .fence fn sq caps => some (.fence, fn, sq, caps, {})
  | .vaultCreate fn sq caps => some (.vaultCreate, fn, sq, caps, {})
  | .vaultCreateRebind fn sq caps => some (.vaultRebind, fn, sq, caps, {})
  | .vaultMount fn sq caps found => some (.vaultMount, fn, sq, caps, { found := found })
  | .vaultUnmount fn sq caps => some (.vaultUnmount, fn, sq, caps, {})
  | .vaultQuerySummary fn sq caps => some (.querySummary, fn, sq, caps, {})
  | .vaultQuerySealedSince fn sq caps => some (.querySealed, fn, sq, caps, {})
  | .vaultQueryVersions fn sq caps => some (.queryVersions, fn, sq, caps, {})
  | .vaultQueryDiscs fn sq caps => some (.queryDiscs, fn, sq, caps, {})
  | .sealExport fn sq caps => some (.sealExport, fn, sq, caps, {})
  | .cryptGcmEncrypt fn sq caps => some (.cryptGcmEnc, fn, sq, caps, {})
  | .cryptGcmDecrypt fn sq caps => some (.cryptGcmDec, fn, sq, caps, {})
  | .cryptCtr fn sq caps => some (.cryptCtr, fn, sq, caps, {})
  | .cryptKeyWrap fn sq caps => some (.cryptWrap, fn, sq, caps, {})
  | .cryptKeyUnwrap fn sq caps => some (.cryptUnwrap, fn, sq, caps, {})
  | .hash fn sq caps => some (.hash, fn, sq, caps, {})
  | .forensicCapture fn sq caps => some (.capture, fn, sq, caps, {})
  | .forensicCaptureStop fn sq caps => some (.captureStop, fn, sq, caps, {})
  | .planLoadReplace fn sq caps => some (.planReplace, fn, sq, caps, {})
  | .planLoadAppend fn sq caps => some (.planAppend, fn, sq, caps, {})
  | .stationCtlLoad fn sq caps => some (.ctlLoad, fn, sq, caps, {})
  | .stationCtlSpin fn sq caps => some (.ctlSpin, fn, sq, caps, {})
  | .stationCtlPark fn sq caps => some (.ctlPark, fn, sq, caps, {})
  | .stationCtlStow fn sq caps => some (.ctlStow, fn, sq, caps, {})
  | .stationCtlRetire fn sq caps => some (.ctlRetire, fn, sq, caps, {})
  | .stationCtlAdaptive fn sq caps => some (.ctlAdaptive, fn, sq, caps, {})
  | .stationCtlPlanned fn sq caps => some (.ctlPlanned, fn, sq, caps, {})
  | .stationCtlForce fn sq caps => some (.ctlForce, fn, sq, caps, {})
  | .refin fn sq caps meas => some (.calRefin, fn, sq, caps, { meas := meas })
  | .temp fn sq caps meas => some (.calTemp, fn, sq, caps, { meas := meas })
  | .vin fn sq caps meas => some (.calVin, fn, sq, caps, { meas := meas })
  | .pdSense fn sq caps => some (.calPd, fn, sq, caps, {})
  | .hfOffset fn sq caps => some (.calOffset, fn, sq, caps, {})
  | .hfGain fn sq caps => some (.calGain, fn, sq, caps, {})
  | .zoneLearn fn sq caps => some (.calZone, fn, sq, caps, {})
  | .testWrite fn sq caps => some (.calTest, fn, sq, caps, {})
  | .liveOn fn sq caps => some (.calLiveOn, fn, sq, caps, {})
  | .liveOff fn sq caps => some (.calLiveOff, fn, sq, caps, {})
  | .bistClear fn sq caps => some (.calBistClear, fn, sq, caps, {})
  | .shutdown fn sq caps bist => some (.calShutdown, fn, sq, caps, { bist := bist })
  | .bistReport fn sq caps => some (.bistReport, fn, sq, caps, {})
  | .domainSet fn sq caps => some (.domainSet, fn, sq, caps, {})
  | .queueResetResumeAfter fn sq caps => some (.resetResume, fn, sq, caps, {})
  | .queueResetDiscard fn sq caps => some (.resetDiscard, fn, sq, caps, {})
  | .logRead fn sq caps => some (.logRead, fn, sq, caps, {})
  | .eventLogRead fn sq caps => some (.eventLogRead, fn, sq, caps, {})
  | .fwStageFirmware fn sq caps => some (.stageFirmware, fn, sq, caps, {})
  | .fwStageMicrocode fn sq caps => some (.stageMicrocode, fn, sq, caps, {})
  | .fwActivateFirmware fn sq caps => some (.activateFirmware, fn, sq, caps, {})
  | .fwActivateMicrocode fn sq caps => some (.activateMicrocode, fn, sq, caps, {})
  | .nop fn sq caps => some (.nop, fn, sq, caps, {})
  | _ => none

/-- R299, R300: the capsule `caps` at the head of SQ (fn, sq), `q`, spells row `r`, is read and passes every check. -/
structure Passes (s : State) (r : CapRow) (fn : Fn) (sq : RingNo) (caps : Capsule) (q : Sq) : Prop where
  row : rowOf caps = some r
  ring : s.sq? fn.val sq.val = some q
  on : s.isOn domHOST = true ∧ s.isOn domCORE = true
  may : s.mayFetch fn sq.val q = true
  there : q.fetch < 2 ∧ (q.fetch = 0 → s.holds fn q.pasid (s.capPage fn sq q) = true)
  pass : (s.takeHead fn sq q).checks fn sq (q.cls == 1) caps = .ok

/-- R320: the state `v` that holds command `id` of a ring of class `cls` has an earlier command of that class that waits for its buffers. -/
def queuesBehind (v : State) (id cls : Nat) : Bool :=
  v.work.cmds.any (fun y => decide (y.id < id) && !y.ended && !y.held && y.phase == 7 && !y.reserved && v.cmdCls y == cls)

/-- R320: it also finds its buffers `hs`; `u` is the state that holds the command and its buffers. -/
structure Admitted (s : State) (r : CapRow) (fn : Fn) (sq : RingNo) (caps : Capsule) (x : CapIn) (q : Sq) (hs : List Nat) (u : State) : Prop
    extends Passes s r fn sq caps q where
  turn : bufNeed caps = [] ∨ queuesBehind ((s.takeHead fn sq q).enrol fn sq caps x) s.freshId q.cls = false
  bufs : ((s.takeHead fn sq q).enrol fn sq caps x).allocAll (bufNeed caps) (q.cls == 1) = (some hs, u)

/-- It can also do its work at once: all that it needs is ON and serves (R22, R345, R424, Table 16.8). -/
structure Begins (s : State) (r : CapRow) (fn : Fn) (sq : RingNo) (caps : Capsule) (x : CapIn) (q : Sq) (hs : List Nat) (u : State) : Prop
    extends Admitted s r fn sq caps x q hs u where
  serves : (u.benchFails caps || u.benchWaits caps || u.engineGone caps || u.stageShut caps || (u.fatal ctxLEDGER && needsMap caps)) = false
  key : ¬ (capOPC caps = 0x11 ∧ cap caps 25 1 ≠ 0 ∧ u.kek.isNone = true)
  need : (cmdDomains caps).all (fun d => u.isOn d) = true

/-- Command `id` holds its buffers `hs`. -/
def reservedFor (u : State) (id : Nat) (hs : List Nat) : State := u.setCmd id (fun c => { c with reserved := true, bufs := hs })

/-- Where a command's data goes when no list names it (R283). -/
def plainSegs (caps : Capsule) : List (Nat × Nat) := if capDLEN caps = 0 then [] else [(capDPTR caps, capDLEN caps)]

/-- Command `id` holds its buffers `hs` and does its work. -/
def atWork (u : State) (id : Nat) (hs : List Nat) (caps : Capsule) (started : Bool) : State :=
  u.setCmd id (fun c => { c with reserved := true, bufs := hs, segsOut := plainSegs caps, phase := 3, started := c.started || started })

end Sys2Proof
end

