-- ==== Sys2Proof/WellFormed.lean ====
section
/-!
DEFINITION. Which commands are well formed: a capsule's bytes may not spell another command of the table. Every other operand ranges over
a type that holds no more than the spec allows.
-/

namespace Sys2Proof

open Machine

/-- The command is well formed. -/
def Instr.wf : Instr → Bool
  | .read _ _ caps => rowFits .read caps
  | .write _ _ caps => rowFits .write caps
  | .readVersion _ _ caps => rowFits .readVersion caps
  | .flush _ _ caps => rowFits .flush caps
  | .fence _ _ caps => rowFits .fence caps
  | .vaultCreate _ _ caps => rowFits .vaultCreate caps
  | .vaultCreateRebind _ _ caps => rowFits .vaultRebind caps
  | .vaultMount _ _ caps _ => rowFits .vaultMount caps
  | .vaultUnmount _ _ caps => rowFits .vaultUnmount caps
  | .vaultQuerySummary _ _ caps => rowFits .querySummary caps
  | .vaultQuerySealedSince _ _ caps => rowFits .querySealed caps
  | .vaultQueryVersions _ _ caps => rowFits .queryVersions caps
  | .vaultQueryDiscs _ _ caps => rowFits .queryDiscs caps
  | .sealExport _ _ caps => rowFits .sealExport caps
  | .cryptGcmEncrypt _ _ caps => rowFits .cryptGcmEnc caps
  | .cryptGcmDecrypt _ _ caps => rowFits .cryptGcmDec caps
  | .cryptCtr _ _ caps => rowFits .cryptCtr caps
  | .cryptKeyWrap _ _ caps => rowFits .cryptWrap caps
  | .cryptKeyUnwrap _ _ caps => rowFits .cryptUnwrap caps
  | .hash _ _ caps => rowFits .hash caps
  | .forensicCapture _ _ caps => rowFits .capture caps
  | .forensicCaptureStop _ _ caps => rowFits .captureStop caps
  | .planLoadReplace _ _ caps => rowFits .planReplace caps
  | .planLoadAppend _ _ caps => rowFits .planAppend caps
  | .stationCtlLoad _ _ caps => rowFits .ctlLoad caps
  | .stationCtlSpin _ _ caps => rowFits .ctlSpin caps
  | .stationCtlPark _ _ caps => rowFits .ctlPark caps
  | .stationCtlStow _ _ caps => rowFits .ctlStow caps
  | .stationCtlRetire _ _ caps => rowFits .ctlRetire caps
  | .stationCtlAdaptive _ _ caps => rowFits .ctlAdaptive caps
  | .stationCtlPlanned _ _ caps => rowFits .ctlPlanned caps
  | .stationCtlForce _ _ caps => rowFits .ctlForce caps
  | .refin _ _ caps _ => rowFits .calRefin caps
  | .temp _ _ caps _ => rowFits .calTemp caps
  | .vin _ _ caps _ => rowFits .calVin caps
  | .pdSense _ _ caps => rowFits .calPd caps
  | .hfOffset _ _ caps => rowFits .calOffset caps
  | .hfGain _ _ caps => rowFits .calGain caps
  | .zoneLearn _ _ caps => rowFits .calZone caps
  | .testWrite _ _ caps => rowFits .calTest caps
  | .liveOn _ _ caps => rowFits .calLiveOn caps
  | .liveOff _ _ caps => rowFits .calLiveOff caps
  | .bistClear _ _ caps => rowFits .calBistClear caps
  | .shutdown _ _ caps _ => rowFits .calShutdown caps
  | .bistReport _ _ caps => rowFits .bistReport caps
  | .domainSet _ _ caps => rowFits .domainSet caps
  | .queueResetResumeAfter _ _ caps => rowFits .resetResume caps
  | .queueResetDiscard _ _ caps => rowFits .resetDiscard caps
  | .logRead _ _ caps => rowFits .logRead caps
  | .eventLogRead _ _ caps => rowFits .eventLogRead caps
  | .fwStageFirmware _ _ caps => rowFits .stageFirmware caps
  | .fwStageMicrocode _ _ caps => rowFits .stageMicrocode caps
  | .fwActivateFirmware _ _ caps => rowFits .activateFirmware caps
  | .fwActivateMicrocode _ _ caps => rowFits .activateMicrocode caps
  | .nop _ _ caps => rowFits .nop caps
  | .createCq _ _ _ => true
  | .createSq _ _ _ => true
  | .deleteSq _ _ => true
  | .deleteCq _ _ => true
  | .enterMaker _ _ => true
  | .enterField _ _ => true
  | .enterReturn _ _ => true
  | .enterScrap _ _ => true
  | .debugUnlock _ _ => true
  | .telemetry _ _ => true
  | .debugLock => true
  | .certStore _ _ => true
  | .ownerEnrol _ _ => true
  | .stnCtlEnable _ => true
  | .stnCtlDisable _ => true
  | .stnCtlUnfail _ => true
  | .stnCtlRetrain _ => true
  | .lpModeOff _ _ => true
  | .lpModeManual _ _ => true
  | .lpModeAuto _ _ => true
  | .lpModeHold _ _ => true
  | .lpCselSwitch _ _ _ => true
  | .lpOrderWrite _ _ _ => true
  | .tuneStart _ _ => true
  | .injectionStart _ _ => true
  | .motDemandWrite _ _ => true
  | .motSrcWrite _ _ => true
  | .sldGo _ => true
  | .sldStop _ => true
  | .sldModeIdle _ => true
  | .sldModeMove _ => true
  | .sldModeFollow _ => true
  | .sldTargetWrite _ _ => true
  | .sldPosWrite _ _ => true
  | .htmoWrite _ _ => true
  | .featDrvWrite _ _ _ => true
  | .vfVecWrite _ _ => true
  | .vfEnable _ _ => true
  | .priEnableWrite _ _ => true
  | .nudge _ => true
  | .clockSet _ => true
  | .clkNowLoRead => true
  | .memLayoutWrite _ _ => true
  | .memXorWrite _ _ _ => true
  | .memRemapWrite _ _ => true
  | .memWdataWrite _ => true
  | .memWdataRead => true
  | .memCtlTrain => true
  | .ccClean _ => true
  | .ccInvalidate _ => true
  | .ccCleanInvalidate _ => true
  | .ccPreload _ _ _ => true
  | .ccMaintDone => true
  | .ccSeedWrite _ => true
  | .ccLockWrite _ => true
  | .pmVwarnWrite _ => true
  | .mcRecoverStation _ => true
  | .mcRecoverLedger => true
  | .mcRecoverBench => true
  | .evtPendClear _ _ => true
  | .msixUnmask _ _ => true
  | .registerWrite _ _ _ _ _ _ => true
  | .perstAssert => true
  | .perstDeassert => true
  | .hotReset => true
  | .resetAssert _ => true
  | .resetDeassert => true
  | .vfFlr _ => true
  | .pfFlr => true
  | .d3hotEntry _ => true
  | .d0Entry _ => true
  | .linkRecovery => true
  | .poisonedTlpWrite _ => true
  | .dmaReadCompletion _ _ => true
  | .completionTimeout _ => true
  | .translationCompletion _ _ _ _ => true
  | .pageResponse _ _ => true
  | .atsInvalidation _ _ _ => true
  | .doeRequest _ _ _ => true
  | .doeAbort => true
  | .spdmRequest _ => true
  | .kekInstall _ _ _ => true
  | .keyUpdate _ => true
  | .endSession _ => true
  | .sessionTimeout _ => true
  | .ideLeaveSecure => true
  | .ideSecure => true
  | .ideKeyRefresh => true
  | .poll _ _ => true
  | .doorbellObserved _ _ _ _ => true
  | .headShadowWrite _ _ _ => true
  | .functionIdle _ => true
  | .bufferReserved _ => true
  | .dispatch _ => true
  | .commandAged _ => true
  | .completionPost _ _ _ => true
  | .cqCoalesceTimeout _ _ => true
  | .gatherAgeExpiry _ => true
  | .activationDispatchTimeout => true
  | .load _ _ => true
  | .park _ => true
  | .stow _ _ => true
  | .retire _ _ => true
  | .seek _ => true
  | .bandWrite _ => true
  | .bandRead _ => true
  | .capture _ => true
  | .calStep _ _ => true
  | .spin _ => true
  | .alu _ => true
  | .rd _ => true
  | .wr _ => true
  | .br _ => true
  | .jmp _ => true
  | .call _ => true
  | .ret _ => true
  | .rtt _ => true
  | .loop _ => true
  | .wait _ => true
  | .waitSatisfied _ => true
  | .waitTimeout _ => true
  | .memLoad _ => true
  | .memStore _ => true
  | .link _ _ => true
  | .bandStartWrite _ => true
  | .bandStartPass _ => true
  | .bandStartCapture _ => true
  | .bandTestWrite _ => true
  | .taskEnd _ => true
  | .taskStep _ => true
  | .taskSuspend _ => true
  | .evt _ => true
  | .tmrArm _ => true
  | .tmrDisarm _ => true
  | .tmrMask _ => true
  | .trap _ => true
  | .microTimerExpiry _ => true
  | .trapTaken _ => true
  | .saHeader _ _ _ => true
  | .servoBlock _ _ _ => true
  | .sampleGroup _ _ _ _ => true
  | .clEpoch _ => true
  | .miFrame _ _ => true
  | .motionPeriod _ => true
  | .interlock _ _ => true
  | .interlockRelease _ => true
  | .axStatusPoll _ => true
  | .axReply _ _ => true
  | .axReplyTimeout _ => true
  | .axAttention _ _ => true
  | .laneLost _ _ => true
  | .trainingAttemptEnd _ _ _ _ _ => true
  | .loopSample _ _ _ => true
  | .defectTimeout _ => true
  | .lockSet _ _ => true
  | .lockCleared _ _ => true
  | .tuneDone _ => true
  | .tuneTimeout _ => true
  | .injectionDone _ => true
  | .layerJump _ _ => true
  | .jumpTimeout _ => true
  | .crossingTimeout _ => true
  | .wobbleAddress _ _ _ _ => true
  | .catchMeasured _ => true
  | .alignDone _ => true
  | .brakeDone _ => true
  | .rotorLost _ => true
  | .spindleLossTimeout _ => true
  | .sledTick _ => true
  | .vinSample _ => true
  | .selfProtection => true
  | .protectionRelease => true
  | .regenFaultClear _ => true
  | .frameDecode _ _ _ => true
  | .outerRecovery _ => true
  | .ladderPass _ => true
  | .captureEpoch _ _ => true
  | .captureDrain _ => true
  | .slotStart _ _ _ => true
  | .sealSigned _ => true
  | .verifyResult _ _ _ => true
  | .parityRebuildDone _ _ _ => true
  | .holdPointFixed _ => true
  | .holdAdjustDone _ => true
  | .longHold _ => true
  | .holdTimeout _ => true
  | .bandPositionPassage _ _ _ => true
  | .planSlotStart _ => true
  | .liveCalGap _ _ => true
  | .memoryRead _ _ _ _ _ _ _ => true
  | .memoryWrite _ _ _ _ _ _ _ _ => true
  | .refreshDue _ _ _ => true
  | .urgentAge _ => true
  | .trainingRound _ _ => true
  | .trainingRoundTimeout _ => true
  | .lehrRead _ => true
  | .lehrLapOverrun => true
  | .cacheAccess _ _ _ _ _ => true
  | .alloc _ _ => true
  | .share _ _ _ _ _ _ => true
  | .release _ _ _ _ => true
  | .free _ _ _ _ => true
  | .supplyWarning _ => true
  | .supplyRecovery _ => true
  | .vrstFall _ => true
  | .vrstRise _ => true
  | .railFault => true
  | .aonPowerUp _ => true
  | .domainStopDone => true
  | .domainStopTimeout _ => true
  | .deferredStop => true
  | .domainWake _ _ _ _ => true
  | .domainReady _ => true
  | .liftFrame _ _ _ => true
  | .sensorRead _ => true
  | .thermalWarningEnd => true
  | .thermalShutdown _ => true
  | .trimSetCommit _ _ => true
  | .calStepTimeout _ => true
  | .wearSample _ => true
  | .wearFlashWrite => true
  | .entropyFailure => true
  | .channelWord _ _ _ => true
  | .channelReplay _ _ => true
  | .start _ _ _ => true
  | .deviceReady => true
  | .aonPowerLoss _ => true
  | .entropySourcePass => true
  | .benchCoreRestartDone => true
  | .dataLinkUp _ _ _ => true
  | .jtagAccess _ => true

end Sys2Proof
end

