-- ==== Sys2Proof/Certificates/Slice0/Obligations.lean ====
section
/-!
DEFINITION. The statements about the block: what each command does where its rule's conditions hold, what every step keeps, and what
memories and registers do under reads and writes.
-/

open Sys2Proof Sys2Proof.Machine

/-- For every command c and state s: with c at the front of its queue, step is exec of c on s with the queue's rest, in all three outcomes. With
the queue empty one microsecond passes: the clock of AON counts, STN_AXSTAT.AGE grows for each station whose domain is ON, rows of buffer
memory that close by themselves close, the lehr's lap grows older while MEM is ON and a postponed refresh is repaid where there is room, and
nothing else changes; that this is what an empty queue does is the model's choice (log entry 1). No word of the table spells a command, so
withFetchWord leaves the state as it is. -/
def Obligations.AStepRunsTheCommandInFront : Prop :=
  -- a command waits
  (∀ (c : Instr) (rest : List Instr) (s : State),
      step { s with pending := c :: rest } = exec c { s with pending := rest })
  -- no command waits
  ∧ (∀ (s : State),
      s.pending = [] →
      step s = .next (((List.range 16).foldl (fun (s : State) n => if s.isOn (domSTN n) then s.axTick n else s)
          ({ s with now := s.now + 1, aon.clock := if s.aon.powered then (s.aon.clock + 1) % 2 ^ 63 else s.aon.clock } : State)).closeRows.lapTick.repayRefresh))
  -- no word spells a command
  ∧ (∀ (nbits w : Nat) (s : State),
      s.withFetchWord nbits w = s)

/-- After reset every register reads its reset value, among them POLL (2 µs), IDLE_POLL (1 ms), IDLE_AFTER (10 ms), SCHUSS_STEPS 0 and
EVT_STEER, whose FAULT bit is set for E001 to E006, E008, E019 and station offset 18 and for no other source; no ring exists, no command is
outstanding, no vault is mounted, no station does anything, no command waits; the layout in force is that of Table 14.1 and the pool counts
of R399; and the invariants of Inv hold. -/
def Obligations.WhatResetLeaves : Prop :=
  -- registers
  (∀ (r : Reg),
      State.reset.reg r = r.rst)
  -- reset values that rules name
  ∧ (∀ (f : Fn) (n : Stn) (e : Fin 512),
      State.reset.fld (QS_POLL f) QS_POLL_POLL = 20 ∧ State.reset.fld (QS_POLL f) QS_POLL_IDLE_POLL = 1000
          ∧ State.reset.fld (QS_POLL f) QS_POLL_IDLE_AFTER = 10 ∧ State.reset.fld (RC_RETRY n) RC_RETRY_SCHUSS_STEPS = 0
          ∧ State.reset.bit (EVT_STEER e) EVT_STEER_FAULT = decide ((1 ≤ e.val ∧ e.val ≤ 6) ∨ e.val = 8 ∨ e.val = 19 ∨ (128 ≤ e.val ∧ (e.val - 128) % 24 = 18)))
  -- everything else
  ∧ (State.reset.rings.sqs = [] ∧ State.reset.rings.cqs = [] ∧ State.reset.work.cmds = [] ∧ State.reset.work.tasks = [] ∧ State.reset.ledger.vaults = []
      ∧ State.reset.mem.layout = [96, 384, 2048, 65536, 258048, 16384, 4096] ∧ State.reset.mem.data = [] ∧ State.reset.pins.faultLow = false
      ∧ State.reset.pending = [] ∧ Inv State.reset)

/-- For every state in which FAULT# is low exactly while one of its causes stands, the layout is locked while a ring exists, and the ledger
holds no key of a released vault of which no band is being written: whatever command stands at the front of the queue, or none, if the step
answers a next state then the same three hold of it. -/
def Obligations.EveryStepKeepsTheInvariants : Prop :=
  ∀ s s' : State, Inv s → step s = .next s' → Inv s'

/-- A well-formed command answers a next state, whatever the state: an effect of its own, then the end that every command shares, which leaves
the part and the queue alone, lets FAULT# follow its causes and locks the layout while a ring exists. A capsule whose bytes spell another
command of the table is refused, and nothing else is. Where nothing waits on what the command brings about, that end only settles FAULT#. -/
def Obligations.EveryCommandEndsInItsClose : Prop :=
  -- a well-formed command
  (∀ (c : Instr) (s : State),
      c.wf = true →
      ∃ u, exec c s = .next (s.close u))
  -- an ill-formed one
  ∧ (∀ (c : Instr) (s : State),
      c.wf = false →
      exec c s = .refused .illFormed)
  -- the end of every command
  ∧ (∀ (s u : State),
      (s.close u).part = s.part ∧ (s.close u).pending = s.pending ∧ FaultPinAgrees (s.close u) ∧ LayoutLocked (s.close u))
  -- nothing waits on what the command brings about
  ∧ (∀ (s u : State),
      Quiet u →
      (u.part = s.part ∧ u.pending = s.pending) →
      s.close u = u.settle)

/-- For every function: a 32-bit read that goes through at an offset of BAR0 that no register occupies, or at an offset of BAR2 outside the
MSI-X table and the PBA, returns 0x0000_0000 and changes nothing; a 32-bit write there is discarded, and so is each half of a 64-bit write.
BAR4 holds no register: it reads 0, and beside the nudge of R281 a write of it does nothing. An access that had to wait for a domain has the
same effect once it goes through. -/
def Obligations.AnUnoccupiedOffsetReadsZero : Prop :=
  -- BAR0
  (∀ (f : Fn) (off v : Nat) (data : Bytes) (s : State),
      Reaches s f off →
      (regRow f off = none ∧ nudgePage .bar0 f off = false ∧ off % 4 = 0) →
      exec (.registerWrite f .bar0 off 4 v data) s = .next (s.close s)
          ∧ exec (.domainWake f .bar0 off 4) s = .next (s.close (s.emit (.readData 0#32))))
  -- BAR0, an access that waited, and each half of a 64-bit write
  ∧ (∀ (f : Fn) (off : Nat) (w : Word) (data : Bytes) (s : State),
      regRow f off = none →
      s.applyAt f .bar0 off w data = s ∧ s.applyRead f .bar0 off = s.emit (.readData 0#32))
  -- BAR2
  ∧ (∀ (f : Fn) (off : Nat) (w : Word) (data : Bytes) (s : State),
      16 * s.vecCount f ≤ off →
      (¬ ((if f.val = 0 then 0x8000 else 0x2000) ≤ off ∧ off < (if f.val = 0 then 0x8000 else 0x2000) + (if f.val = 0 then 32 else 8))) →
      s.applyAt f .bar2 off w data = s ∧ s.applyRead f .bar2 off = s.emit (.readData 0#32))
  -- BAR4
  ∧ (∀ (f : Fn) (off : Nat) (w : Word) (data : Bytes) (s : State),
      s.applyAt f .bar4 off w data = s ∧ s.applyRead f .bar4 off = s.emit (.readData 0#32))

/-- On the VK1608, whatever the state: a write of any size to the window of a station from 8 to 15 is discarded, with nothing stalled and no
domain woken; a 32-bit read that reaches the PF returns 0x0000_0000 at once, and a 64-bit read two such words. The domain of such a station
is OFF in every state. -/
def Obligations.StationsThatAVk1608DoesNotHave : Prop :=
  -- writes
  (∀ (n : Stn) (off size v : Nat) (data : Bytes) (s : State),
      (s.part = .vk1608 ∧ 8 ≤ n.val ∧ off < 0x10000 ∧ (size = 4 ∧ off % 4 = 0 ∨ size = 8 ∧ off % 8 = 0)) →
      exec (.registerWrite 0 .bar0 (0x100000 + 0x10000 * n.val + off) size v data) s = .next (s.close s))
  -- 32-bit reads
  ∧ (∀ (n : Stn) (off : Nat) (s : State),
      (s.part = .vk1608 ∧ 8 ≤ n.val ∧ off < 0x10000 ∧ off % 4 = 0) →
      s.linkReaches 0 .bar0 = true →
      exec (.domainWake 0 .bar0 (0x100000 + 0x10000 * n.val + off) 4) s = .next (s.close (s.emit (.readData 0#32))))
  -- 64-bit reads
  ∧ (∀ (n : Stn) (off : Nat) (s : State),
      (s.part = .vk1608 ∧ 8 ≤ n.val ∧ off < 0x10000 ∧ off % 8 = 0) →
      s.linkReaches 0 .bar0 = true →
      exec (.domainWake 0 .bar0 (0x100000 + 0x10000 * n.val + off) 8) s = .next (s.close ((s.emit (.readData 0#32)).emit (.readData 0#32))))
  -- the domain
  ∧ (∀ (n : Stn) (s : State),
      (s.part = .vk1608 ∧ 8 ≤ n.val) →
      s.dom (domSTN n) = 3)

/-- A software write of LP_CTL.MODE = OFF, MANUAL, AUTO or HOLD that reaches station n stores MODE and leaves the mode in force as it is until
the loop's next sample; it is refused, with LP_STAT.REFUSED set and MODE unchanged, while a task holds the station or, for SPD, SIQ and SID,
unless the spindle is OFF. A write naming the mode already in force is taken or refused like any other; at the sample it changes nothing
(the model's reading, log entry 21). A software write of CSEL stores the bank for the next sample and leaves the bank in force; a write of
ORDER is stored in OFF or MANUAL or when it changes nothing, and is otherwise refused with LP_STAT.REFUSED. Either write also writes MODE as
the field stands, with the effect stated for it. -/
def Obligations.LoopControlWrites : Prop :=
  -- LP_MODE_OFF, LP_MODE_MANUAL, LP_MODE_AUTO, LP_MODE_HOLD: taken
  (∀ (n : Stn) (L : Fin 8) (s : State) (c : Instr) (k : Nat),
      (c, k) ∈ [(Instr.lpModeOff n L, 0), (.lpModeManual n L, 1), (.lpModeAuto n L, 2), (.lpModeHold n L, 4)] →
      Reaches s 0 (LP_CTL n L).key →
      s.holdsTask n = false →
      (4 ≤ L.val ∧ L.val ≤ 6 → s.spinState n = 0) →
      ∃ v, Wrote s v (LP_CTL n L) LP_CTL_MODE k
        ∧ exec c s = .next (s.close (v.setLoop n L (fun l => { l with newMode := some k, newHw := false }))))
  -- The same four: refused
  ∧ (∀ (n : Stn) (L : Fin 8) (s : State) (c : Instr) (k : Nat),
      (c, k) ∈ [(Instr.lpModeOff n L, 0), (.lpModeManual n L, 1), (.lpModeAuto n L, 2), (.lpModeHold n L, 4)] →
      Reaches s 0 (LP_CTL n L).key →
      (s.holdsTask n = true ∨ (4 ≤ L.val ∧ L.val ≤ 6 ∧ s.spinState n ≠ 0)) →
      ∃ v, Wrote s v (LP_STAT n L) LP_STAT_REFUSED 1 ∧ exec c s = .next (s.close v))
  -- A change to the mode already in force
  ∧ (∀ (n : Stn) (L : Fin 8) (hw : Bool) (s : State),
      s.modeChange n L (s.mode n L) hw = s)
  -- LP_CSEL_SWITCH
  ∧ (∀ (n : Stn) (L : Fin 8) (bank : Fin 2) (s : State),
      Reaches s 0 (LP_CTL n L).key →
      ∃ v, Wrote s v (LP_CTL n L) LP_CTL_CSEL bank
        ∧ exec (.lpCselSwitch n L bank) s = .next (s.close (v.writeMode n L (s.fld (LP_CTL n L) LP_CTL_MODE) false).1))
  -- LP_ORDER_WRITE: taken
  ∧ (∀ (n : Stn) (L : Fin 8) (order : Fin 2) (s : State),
      Reaches s 0 (LP_CTL n L).key →
      (s.mode n L ≤ 1 ∨ s.fld (LP_CTL n L) LP_CTL_ORDER = order) →
      ∃ v, Wrote s v (LP_CTL n L) LP_CTL_ORDER order
        ∧ exec (.lpOrderWrite n L order) s = .next (s.close (v.writeMode n L (s.fld (LP_CTL n L) LP_CTL_MODE) false).1))
  -- LP_ORDER_WRITE: refused
  ∧ (∀ (n : Stn) (L : Fin 8) (order : Fin 2) (s : State),
      Reaches s 0 (LP_CTL n L).key →
      2 ≤ s.mode n L →
      s.fld (LP_CTL n L) LP_CTL_ORDER ≠ order →
      ∃ v, Wrote s v (LP_STAT n L) LP_STAT_REFUSED 1
        ∧ exec (.lpOrderWrite n L order) s = .next (s.close (v.writeMode n L (s.fld (LP_CTL n L) LP_CTL_MODE) false).1))

/-- A write of START with LOOP = L begins a tune where the loop is in MANUAL or AUTO, and an injection where it is in AUTO, provided that no
tune and no injection runs on the station; STATUS shows 1, the tuned loop passes to TUNE at its next sample, over a MODE write that still
waits for it (the model's choice, log entry 216). Otherwise STATUS shows 6 and nothing starts. -/
def Obligations.MeasurementStarts : Prop :=
  -- TUNE_START: begun
  (∀ (n : Stn) (L : Fin 8) (s : State),
      Reaches s 0 (SV_TUNE_CTL n).key →
      (s.mode n L = 1 ∨ s.mode n L = 2) →
      (s.servo n).tune = none →
      (s.servo n).inj = none →
      ∃ v, Wrote s v (SV_TUNE_CTL n) SV_TUNE_CTL_LOOP L
        ∧ exec (.tuneStart n L) s = .next (s.close
            (((v.setServo n (fun p => { p with tune := some ⟨L, s.mode n L, (s.loop n L).y, true, false, 0, 0, 0, 0, 0, 0⟩ })).setFld
              (SV_TUNE_CTL n) SV_TUNE_CTL_STATUS 1).setLoop n L (fun l => { l with newMode := some 3, newHw := false }))))
  -- TUNE_START: refused
  ∧ (∀ (n : Stn) (L : Fin 8) (s : State),
      Reaches s 0 (SV_TUNE_CTL n).key →
      ((s.mode n L ≠ 1 ∧ s.mode n L ≠ 2) ∨ (s.servo n).tune.isSome ∨ (s.servo n).inj.isSome) →
      ∃ v, Wrote s v (SV_TUNE_CTL n) SV_TUNE_CTL_LOOP L
        ∧ exec (.tuneStart n L) s = .next (s.close (v.setFld (SV_TUNE_CTL n) SV_TUNE_CTL_STATUS 6)))
  -- INJECTION_START: begun
  ∧ (∀ (n : Stn) (L : Fin 8) (s : State),
      Reaches s 0 (SV_INJ_CTL n).key →
      s.mode n L = 2 →
      (s.servo n).tune = none →
      (s.servo n).inj = none →
      ∃ v, Wrote s v (SV_INJ_CTL n) SV_INJ_CTL_LOOP L
        ∧ exec (.injectionStart n L) s = .next (s.close
            (((v.setServo n (fun p => { p with inj := some ⟨L, 0, 0, 0, 0, 0, 0⟩ })).setFld (SV_INJ_CTL n) SV_INJ_CTL_STATUS 1).checkWrite n)))
  -- INJECTION_START: refused
  ∧ (∀ (n : Stn) (L : Fin 8) (s : State),
      Reaches s 0 (SV_INJ_CTL n).key →
      (s.mode n L ≠ 2 ∨ (s.servo n).tune.isSome ∨ (s.servo n).inj.isSome) →
      ∃ v, Wrote s v (SV_INJ_CTL n) SV_INJ_CTL_LOOP L
        ∧ exec (.injectionStart n L) s = .next (s.close (v.setFld (SV_INJ_CTL n) SV_INJ_CTL_STATUS 6)))

/-- A software write of MOT_DEMAND stores the demand and latches the spindle on above T_ON and off below T_OFF (or T_ON - 1 where T_OFF is not
below T_ON), CLAMP showing a curve output above 9,000 rpm; a write of SRC selects the source for SPD's next sample, c_e waiting for the next
wobble sync with WOB; that a spindle which is being stopped in RUN stays with OBS is the model's reading (log entry 196). Both are discarded
with MOT_SPST.REFUSED while a task holds the station. A write of HTMO holds from then on, and a hold or wait that has already lasted as long
is abandoned. GO with MODE = MOVE starts a move to SLD_TARGET, or sets REFUSED during a move or with the target outside SLD_PMIN to
SLD_PMAX; STOP and, while the sled moves or a move has begun, MODE = IDLE make a snowplough stop; MODE = MOVE only prepares; MODE = FOLLOW
drops a move without the event of its end (the model's choices, log entry 228). SLD_TARGET is discarded with REFUSED during a move, and
SLD_POS unless the sled is idle and at rest. -/
def Obligations.MotionAndSledWrites : Prop :=
  -- MOT_DEMAND_WRITE: taken
  (∀ (n : Stn) (d : BitVec 16) (s : State),
      Reaches s 0 (MOT_DEMAND n).key →
      s.holdsTask n = false →
      ∃ v, Wrote s v (MOT_DEMAND n) MOT_DEMAND_DEMAND d.toNat
        ∧ let w := if (v.curveQ n).2 then v.setBit (MOT_SPST n) MOT_SPST_CLAMP true else v
          let ton := s.fld (MOT_HYST n) MOT_HYST_T_ON
          let toff := if ton ≤ s.fld (MOT_HYST n) MOT_HYST_T_OFF then ton - 1 else s.fld (MOT_HYST n) MOT_HYST_T_OFF
          exec (.motDemandWrite n d) s = .next (s.close (if ¬ (s.spin n).on ∧ ton < d.toNat then w.spinOn n
            else if (s.spin n).on ∧ d.toNat < toff then w.spinOff n else w)))
  -- MOT_DEMAND_WRITE: discarded
  ∧ (∀ (n : Stn) (d : BitVec 16) (s : State),
      Reaches s 0 (MOT_DEMAND n).key →
      s.holdsTask n = true →
      exec (.motDemandWrite n d) s = .next (s.close (s.setBit (MOT_SPST n) MOT_SPST_REFUSED true)))
  -- MOT_SRC_WRITE: taken
  ∧ (∀ (n : Stn) (src : Fin 2) (s : State),
      Reaches s 0 (MOT_CTL n).key →
      s.holdsTask n = false →
      ∃ v, Wrote s v (MOT_CTL n) MOT_CTL_SRC src
        ∧ exec (.motSrcWrite n src) s = .next (s.close (if src = 1 ∧ s.spinState n = 4 ∧ (s.spin n).on = false then v
            else v.setSpindle n (fun p => { p with
              newSrc := if p.src = src then none else some src.val, ce := if src = 1 then none else p.ce }))))
  -- MOT_SRC_WRITE: discarded
  ∧ (∀ (n : Stn) (src : Fin 2) (s : State),
      Reaches s 0 (MOT_CTL n).key →
      s.holdsTask n = true →
      ∃ v, Wrote s v (MOT_SPST n) MOT_SPST_REFUSED 1 ∧ exec (.motSrcWrite n src) s = .next (s.close v))
  -- HTMO_WRITE
  ∧ (∀ (n : Stn) (x : BitVec 16) (s : State),
      Reaches s 0 (WR_CTL n).key →
      ∃ v, Wrote s v (WR_CTL n) WR_CTL_HTMO x.toNat
        ∧ exec (.htmoWrite n x) s = .next (s.close (if v.holdExpired n s.now then v.holdTimeout n else v)))
  -- SLD_GO: the move starts
  ∧ (∀ (n : Stn) (s : State),
      Reaches s 0 (SLD_CTL n).key →
      (s.sled n).target = none →
      s.fldInt (SLD_PMIN n) SLD_PMIN_PMIN ≤ s.fldInt (SLD_TARGET n) SLD_TARGET_TARGET →
      s.fldInt (SLD_TARGET n) SLD_TARGET_TARGET ≤ s.fldInt (SLD_PMAX n) SLD_PMAX_PMAX →
      ∃ v, Wrote s v (SLD_CTL n) SLD_CTL_MODE 1
        ∧ exec (.sldGo n) s = .next (s.close ((v.setSled n (fun d => { d with
            target := some (s.fldInt (SLD_TARGET n) SLD_TARGET_TARGET), follow := false })).showSled n)))
  -- SLD_GO: refused
  ∧ (∀ (n : Stn) (s : State),
      Reaches s 0 (SLD_CTL n).key →
      ((s.sled n).target.isSome ∨ s.fldInt (SLD_TARGET n) SLD_TARGET_TARGET < s.fldInt (SLD_PMIN n) SLD_PMIN_PMIN ∨ s.fldInt (SLD_PMAX n) SLD_PMAX_PMAX < s.fldInt (SLD_TARGET n) SLD_TARGET_TARGET) →
      ∃ v, Wrote s v (SLD_CTL n) SLD_CTL_MODE 1
        ∧ exec (.sldGo n) s = .next (s.close ((v.setSled n (fun d => { d with follow := false })).setBit (SLD_STAT n) SLD_STAT_REFUSED true)))
  -- SLD_STOP
  ∧ (∀ (n : Stn) (s : State),
      Reaches s 0 (SLD_CTL n).key →
      s.fld (SLD_CTL n) SLD_CTL_MODE = 1 →
      ∃ v, OnlyRegs s v [] ∧ exec (.sldStop n) s = .next (s.close ((v.setSled n (fun d => { d with follow := false })).snowplough n)))
  -- SLD_STOP, outside MOVE: the mode's own rewriting does what its write does
  ∧ (∀ (n : Stn) (s : State),
      Reaches s 0 (SLD_CTL n).key →
      s.fld (SLD_CTL n) SLD_CTL_MODE ≠ 1 →
      ∃ v, OnlyRegs s v [] ∧ exec (.sldStop n) s = .next (s.close
          ((if s.fld (SLD_CTL n) SLD_CTL_MODE = 2 then v.setSled n (fun d => { d with target := none, creep := false, follow := true })
            else if s.bit (SLD_STAT n) SLD_STAT_MOVING ∨ (s.sled n).target.isSome then v.snowplough n
            else v.setSled n (fun d => { d with follow := false })).snowplough n)))
  -- SLD_MODE_IDLE
  ∧ (∀ (n : Stn) (s : State),
      Reaches s 0 (SLD_CTL n).key →
      ∃ v, Wrote s v (SLD_CTL n) SLD_CTL_MODE 0
        ∧ exec (.sldModeIdle n) s = .next (s.close
            (if s.bit (SLD_STAT n) SLD_STAT_MOVING ∨ (s.sled n).target.isSome then v.snowplough n else v.setSled n (fun d => { d with follow := false }))))
  -- SLD_MODE_MOVE
  ∧ (∀ (n : Stn) (s : State),
      Reaches s 0 (SLD_CTL n).key →
      ∃ v, Wrote s v (SLD_CTL n) SLD_CTL_MODE 1 ∧ exec (.sldModeMove n) s = .next (s.close (v.setSled n (fun d => { d with follow := false }))))
  -- SLD_MODE_FOLLOW
  ∧ (∀ (n : Stn) (s : State),
      Reaches s 0 (SLD_CTL n).key →
      ∃ v, Wrote s v (SLD_CTL n) SLD_CTL_MODE 2
        ∧ exec (.sldModeFollow n) s = .next (s.close (v.setSled n (fun d => { d with target := none, creep := false, follow := true }))))
  -- SLD_TARGET_WRITE
  ∧ (∀ (n : Stn) (w : Word) (s : State),
      Reaches s 0 (SLD_TARGET n).key →
      exec (.sldTargetWrite n w) s = .next (s.close (if (s.sled n).target.isSome then s.setBit (SLD_STAT n) SLD_STAT_REFUSED true
          else s.setReg (SLD_TARGET n) w)))
  -- SLD_POS_WRITE
  ∧ (∀ (n : Stn) (w : Word) (s : State),
      Reaches s 0 (SLD_POS n).key →
      exec (.sldPosWrite n w) s = .next (s.close
          (if s.bit (SLD_STAT n) SLD_STAT_MOVING ∨ (s.fld (SLD_CTL n) SLD_CTL_MODE ≠ 0 ∧ s.fld (SLD_CTL n) SLD_CTL_MODE ≠ 3) then
              s.setBit (SLD_STAT n) SLD_STAT_REFUSED true
            else (s.setReg (SLD_POS n) w).setSled n (fun d => { d with frac := 0 }))))

/-- A rise of ENABLE starts SY at epoch 0 and the training of every lane not marked failed; a fall stops every link where the station is parked
and is otherwise refused with STN_STAT.REFUSED; UNFAIL clears the failed marks and starts full training of an enabled station; RETRAIN
starts quick training at once, or at the end of a band being written. -/
def Obligations.StationControlWrites : Prop :=
  -- STN_CTL_ENABLE: a rise
  (∀ (n : Stn) (s : State),
      Reaches s 0 (STN_CTL n).key →
      s.bit (STN_CTL n) STN_CTL_ENABLE = false →
      ∃ v, Wrote s v (STN_CTL n) STN_CTL_ENABLE 1
        ∧ exec (.stnCtlEnable n) s = .next (s.close
            (((v.setPort n (fun p => { p with
              epochs := 0, clQueue := [], clLeft := 0, nextBit := none, flow := none, clCrc := 0xFFFF#16, clSeen := none })).setBit (STN_STAT n) STN_STAT_SY_RUN true).trainAll n
              (!(s.port n).saved))))
  -- STN_CTL_ENABLE: already 1
  ∧ (∀ (n : Stn) (s : State),
      Reaches s 0 (STN_CTL n).key →
      s.bit (STN_CTL n) STN_CTL_ENABLE = true →
      ∃ v, Wrote s v (STN_CTL n) STN_CTL_ENABLE 1 ∧ exec (.stnCtlEnable n) s = .next (s.close v))
  -- STN_CTL_DISABLE: the station is parked
  ∧ (∀ (n : Stn) (s : State),
      Reaches s 0 (STN_CTL n).key →
      s.bit (STN_CTL n) STN_CTL_ENABLE = true →
      s.parked n = true →
      ∃ v, Wrote s v (STN_CTL n) STN_CTL_ENABLE 0 ∧ exec (.stnCtlDisable n) s = .next (s.close (v.stopLinks n)))
  -- STN_CTL_DISABLE: refused
  ∧ (∀ (n : Stn) (s : State),
      Reaches s 0 (STN_CTL n).key →
      s.bit (STN_CTL n) STN_CTL_ENABLE = true →
      s.parked n = false →
      ∃ v, Wrote s v (STN_STAT n) STN_STAT_REFUSED 1 ∧ exec (.stnCtlDisable n) s = .next (s.close v))
  -- STN_CTL_DISABLE: already 0
  ∧ (∀ (n : Stn) (s : State),
      Reaches s 0 (STN_CTL n).key →
      s.bit (STN_CTL n) STN_CTL_ENABLE = false →
      ∃ v, Wrote s v (STN_CTL n) STN_CTL_ENABLE 0 ∧ exec (.stnCtlDisable n) s = .next (s.close v))
  -- STN_CTL_UNFAIL
  ∧ (∀ (n : Stn) (s : State),
      Reaches s 0 (STN_CTL n).key →
      ∃ v, OnlyRegs s v [] ∧ exec (.stnCtlUnfail n) s = .next (s.close (v.unfail n)))
  -- STN_CTL_RETRAIN
  ∧ (∀ (n : Stn) (s : State),
      Reaches s 0 (STN_CTL n).key →
      ∃ v, OnlyRegs s v [] ∧ exec (.stnCtlRetrain n) s = .next (s.close (if ¬ s.bit (STN_CTL n) STN_CTL_ENABLE then v
          else if (match s.bw? n with | some b => b.begun | none => false) then v.setPort n (fun p => { p with retrainDue := true })
          else v.trainAll n false)))

/-- With no change of mode, bank or source due, a sample of a loop in MANUAL puts LP_DRV.MAN through the limits and the slew limit and shows
error, set-point and measured quantity; in OFF and HOLD the output stands and the quantities are shown; in AUTO the law of R99 runs on the
quantity measured. So it is for every loop: TRK's and SAB's samples send their actuator word too, SPD's shows the curve's clamp, and FOC's,
outside a defect, a jump and a sweep, brings S_avg up to date. A change of mode that is due is taken at the sample. -/
def Obligations.LoopSampleInEachMode : Prop :=
  -- LOOP_SAMPLE in MANUAL
  (∀ (n : Stn) (L : Fin 8) (half : Bool) (s : State),
      (L = 2 ∨ L = 5 ∨ L = 6) →
      s.mode n L = 1 →
      ((s.servo n).taking = false ∧ (s.loop n L).newMode = none ∧ (s.loop n L).sel = s.fld (LP_CTL n L) LP_CTL_CSEL) →
      exec (.loopSample n L half) s = .next (s.close
          (((s.output n L (s.fldInt (LP_DRV n L) LP_DRV_MAN * 2 ^ 25)).setLoop n L (fun l => { l with m := s.measured n L half })).monitor n L
            (satS 24 ((s.loop n L).r - s.measured n L half)) (s.loop n L).r (s.measured n L half) (s.target n L))))
  -- LOOP_SAMPLE in OFF and HOLD
  ∧ (∀ (n : Stn) (L : Fin 8) (half : Bool) (s : State),
      (L = 2 ∨ L = 5 ∨ L = 6) →
      (s.mode n L = 0 ∨ s.mode n L = 4) →
      ((s.servo n).taking = false ∧ (s.loop n L).newMode = none ∧ (s.loop n L).sel = s.fld (LP_CTL n L) LP_CTL_CSEL) →
      exec (.loopSample n L half) s = .next (s.close
          (((s.setLoop n L (fun l => { l with m := s.measured n L half })).showLimits n L false).monitor n L
            (satS 24 ((s.loop n L).r - s.measured n L half)) (s.loop n L).r (s.measured n L half) (s.target n L))))
  -- LOOP_SAMPLE in AUTO
  ∧ (∀ (n : Stn) (L : Fin 8) (half : Bool) (s : State),
      (L = 2 ∨ L = 5 ∨ L = 6) →
      s.mode n L = 2 →
      ((s.servo n).taking = false ∧ (s.loop n L).newMode = none ∧ (s.loop n L).sel = s.fld (LP_CTL n L) LP_CTL_CSEL) →
      exec (.loopSample n L half) s = .next (s.close
          (s.autoSample n L (s.measured n L half) (s.target n L) (s.lockCond n L) false)))
  -- LOOP_SAMPLE: a mode change is taken at the sample
  ∧ (∀ (n : Stn) (L : Fin 8) (half : Bool) (k : Nat) (s : State),
      (L = 2 ∨ L = 5 ∨ L = 6) →
      ((s.servo n).taking = false ∧ (s.loop n L).newMode = some k ∧ (s.loop n L).sel = s.fld (LP_CTL n L) LP_CTL_CSEL) →
      (s.servo n).tune = none →
      (s.servo n).inj = none →
      let v := (s.modeChange n L k (s.loop n L).newHw).setLoop n L (fun l => { l with newMode := none })
      exec (.loopSample n L half) s = .next (s.close
        (v.modeSample n L (v.measured n L half) (v.target n L) (v.lockCond n L) false none)))
  -- LOOP_SAMPLE of every loop but FOC and TRK
  ∧ (∀ (n : Stn) (L : Fin 8) (half : Bool) (s : State),
      (2 ≤ L.val ∧ (L.val = 4 → (s.station n).spin.newSrc = none)) →
      ((s.servo n).taking = false ∧ (s.loop n L).newMode = none ∧ (s.loop n L).sel = s.fld (LP_CTL n L) LP_CTL_CSEL) →
      let u := s.modeSample n L (s.measured n L half) (s.target n L) (s.lockCond n L) false none
      let u := if L.val = 7 then u.setServo n (fun v => { v with trkSum := 0, trkN := 0 }) else u
      let u := if L.val = 4 ∧ (u.curveQ n).2 = true then u.setBit (MOT_SPST n) MOT_SPST_CLAMP true else u
      exec (.loopSample n L half) s = .next (s.close (u.sendAct n L)))
  -- LOOP_SAMPLE of FOC outside a defect, a jump and a sweep
  ∧ (∀ (n : Stn) (half : Bool) (sm : Int) (s : State),
      ((s.servo n).taking = false ∧ (s.loop n 0).newMode = none ∧ (s.loop n 0).sel = s.fld (LP_CTL n 0) LP_CTL_CSEL) →
      ((s.servo n).defect = false ∧ (s.servo n).jump = none ∧ (s.servo n).seek = none ∧ (s.loop n 0).held = false) →
      (sm = sumS (sumChannels (((s.station n).port.instants.drop (if half then 8 else 0)).take 8))) →
      (s.fld (SV_SENSE n) SV_SENSE_DEF_FRAC : Int) * (s.servo n).sAvg ≤ sm * 2 ^ 37 →
      let v := s.setServo n (fun x => { x with sum := sm, fe := s.measured n 0 half, sAvg := x.sAvg + rnd (sm * 2 ^ 29 - x.sAvg) 256 })
      exec (.loopSample n 0 half) s = .next (s.close (v.modeSample n 0 (s.measured n 0 half) (v.target n 0) (v.lockCond n 0) false none)))
  -- LOOP_SAMPLE of TRK outside a defect, a jump and a sweep
  ∧ (∀ (n : Stn) (half : Bool) (s : State),
      ((s.servo n).taking = false ∧ (s.loop n 1).newMode = none ∧ (s.loop n 1).sel = s.fld (LP_CTL n 1) LP_CTL_CSEL) →
      ((s.servo n).defect = false ∧ (s.servo n).jump = none ∧ (s.servo n).seek = none ∧ (s.loop n 1).held = false) →
      let v := s.setServo n (fun x => { x with te := s.measured n 1 half })
      let u := v.modeSample n 1 (s.measured n 1 half) (v.target n 1) (v.lockCond n 1) false none
      let u := u.setServo n (fun x => { x with trkSum := x.trkSum + driveWord (u.loop n 1).y, trkN := x.trkN + 1 })
      exec (.loopSample n 1 half) s = .next (s.close (u.sendAct n 1)))

/-- In AUTO, past its first sample, with no bank or source change, no feed-forward and no injection, a sample of loop L with measured quantity m
and ramp target T moves the set-point r by at most the slope towards T, forms e = r - m in Q1.23, sums b0 e + Σ b_i e[k-i] - Σ a_i u[k-i] in
Q4.28, rounds and saturates it to Q8.40, passes it through the limits and the slew limit, and shifts e and the output into the history; the
mode and every other loop stay. -/
def Obligations.TheControlLaw : Prop :=
  (∀ (n : Stn) (L : Fin 8) (m T : Int) (cond : Bool) (s : State),
      (L.val < 4 ∨ L.val = 7 ∨ s.fld (LP_CTL n L) LP_CTL_FF_MODE = 0) →
      (s.loop n L).enter = false →
      (s.servo n).inj = none →
      let l := s.loop n L
      let b := l.sel
      let N := s.order n L
      let r := satS 24 (l.r + clampI (-(s.slope n L)) (s.slope n L) (T - l.r))
      let e := satS 24 (r - m) * 2 ^ 17
      let v := satS 48 (rnd (s.coef n L b 0 * e + ((List.range N).map (fun i => s.coef n L b (1 + i) * l.eh.getD i 0)).sum
        - ((List.range N).map (fun i => s.coef n L b (4 + i) * l.uh.getD i 0)).sum) (2 ^ 28))
      let y := (s.limited n L (satS 48 v)).2
      let u := s.autoSample n L m T cond false
      (u.loop n L).y = y ∧ (u.loop n L).r = r ∧ (u.loop n L).m = m
        ∧ (u.loop n L).eh = [e, l.eh.getD 0 0, if N = 3 then l.eh.getD 1 0 else 0]
        ∧ (u.loop n L).uh = [y, l.uh.getD 0 0, if N = 3 then l.uh.getD 1 0 else 0]
        ∧ u.mode n L = s.mode n L ∧ (∀ M : Fin 8, M ≠ L → u.loop n M = s.loop n M))

/-- After 8 × LOCK_N qualifying samples in AUTO LOCKED rises; after LOST_N failing samples it falls, LOSTLK is set, the lock-lost event is
raised and, for an optical loop, trap cause LOCK is raised; too few samples change nothing. A defect that has lasted longer than DEF_MAX
samples drops LOCKED on FOC and TRK, which stay held. Speed validity and the write preconditions follow each. -/
def Obligations.LockAndDefects : Prop :=
  -- LOCK_SET
  (∀ (n : Stn) (L : Fin 8) (s : State),
      s.mode n L = 2 →
      s.bit (LP_STAT n L) LP_STAT_LOCKED = false →
      8 * max 1 (s.fld (LP_LOCK n L) LP_LOCK_LOCK_N) ≤ (s.loop n L).good →
      exec (.lockSet n L) s = .next (s.close ((((s.setBit (LP_STAT n L) LP_STAT_LOCKED true).jumpLocked n L).showValid n).checkWrite n)))
  -- LOCK_SET: too early
  ∧ (∀ (n : Stn) (L : Fin 8) (s : State),
      (s.mode n L ≠ 2 ∨ (s.loop n L).good < 8 * max 1 (s.fld (LP_LOCK n L) LP_LOCK_LOCK_N)) →
      exec (.lockSet n L) s = .next (s.close s))
  -- LOCK_CLEARED
  ∧ (∀ (n : Stn) (L : Fin 8) (s : State),
      s.bit (LP_STAT n L) LP_STAT_LOCKED = true →
      max 1 (s.fld (LP_LOCK n L) LP_LOCK_LOST_N) ≤ (s.loop n L).bad →
      let v := ((s.setBit (LP_STAT n L) LP_STAT_LOCKED false).setBit (LP_STAT n L) LP_STAT_LOSTLK true).raiseStn n 4 [L.val]
      exec (.lockCleared n L) s = .next (s.close (((if L < 4 then v.trapCause n 9 L else v).showValid n).checkWrite n)))
  -- DEFECT_TIMEOUT
  ∧ (∀ (n : Stn) (s : State),
      (s.servo n).defect = true →
      (s.servo n).defStuck = false →
      s.fld (SV_SENSE n) SV_SENSE_DEF_MAX < (s.servo n).defLen →
      exec (.defectTimeout n) s = .next (s.close
          ((((((s.setServo n (fun v => { v with defStuck := true })).setLoop n 0 (fun l => { l with stuck := l.held, good := 0, bad := 0 })).setLoop n 1
            (fun l => { l with stuck := l.held, good := 0, bad := 0 })).loseLock n 0).loseLock n 1).checkWrite n)))

/-- A tune whose 11 switches are made writes T_u (2 per counted sample), a = the rounded mean half-span, K_u = 4 H ÷ (π a) in Q16.16, and ends
with STATUS 2; one not complete within 64 × TMO samples ends with STATUS 3, results 0, and its loop returns to the mode it left. An
injection of NCYC wraps reports |L| = |V| ÷ |Y| in Q8.24 and the phase of -V/Y, and ends with STATUS 2. A sequencer's request for another
layer with FOC and TRK locked and no jump running sets STATUS 1, takes RAD to HOLD, takes SAB to MANUAL at the new layer's SAP, and runs the
sequence of Table 4.7; unlocked it sets STATUS 5. A jump that does not reach step 9 within TMO fails with STATUS 4, and crossings not
complete within XTMO with STATUS 3: FOC goes to MANUAL at U_f, TRK and RAD to HOLD, SAB to MANUAL, and lock is lost. -/
def Obligations.TuneInjectionAndJump : Prop :=
  -- TUNE_DONE
  (∀ (n : Stn) (t : Tune) (s : State),
      (s.servo n).tune = some t →
      11 ≤ t.switches →
      0 < satS 24 (rnd t.span 16) →
      let a := satS 24 (rnd t.span 16)
      let ku := rnd ((s.fld (SV_TUNE n) SV_TUNE_H : Nat) * 2 ^ 88) (piQ * a.natAbs)
      exec (.tuneDone n) s = .next (s.close ((((s.setReg (SV_TUNE_TU n) (BitVec.ofNat 32 (min (2 * t.counted) (2 ^ 20 - 1)))).setFld
        (SV_TUNE_A n) SV_TUNE_A_A a.toNat).setReg (SV_TUNE_KU n) (BitVec.ofNat 32 (min ku.toNat (2 ^ 32 - 1)))).endTune n 2)))
  -- TUNE_TIMEOUT
  ∧ (∀ (n : Stn) (t : Tune) (s : State),
      (s.servo n).tune = some t →
      t.switches < 11 →
      64 * s.fld (SV_TUNE_CTL n) SV_TUNE_CTL_TMO ≤ t.total →
      s.mode n t.loop = 3 →
      t.back = 2 →
      exec (.tuneTimeout n) s = .next (s.close
          ((((((s.setServo n (fun v => { v with tune := none })).setFld (SV_TUNE_CTL n) SV_TUNE_CTL_STATUS 3).setReg (SV_TUNE_KU n) 0).setReg
            (SV_TUNE_TU n) 0).setReg (SV_TUNE_A n) 0).setLoop n t.loop (fun l => { l with newMode := some 2, newHw := false, restore := none }))))
  -- INJECTION_DONE
  ∧ (∀ (n : Stn) (i : Inj) (s : State),
      (s.servo n).inj = some i →
      max 1 (s.fld (SV_INJ_CTL n) SV_INJ_CTL_NCYC) ≤ i.wraps →
      i.yc * i.yc + i.ys * i.ys ≠ 0 →
      let mag := rootQ24 (i.vc * i.vc + i.vs * i.vs).toNat (i.yc * i.yc + i.ys * i.ys).toNat
      let ph := angleOf (-(i.vc * i.yc + i.vs * i.ys)) (-(i.vc * i.ys - i.vs * i.yc))
      exec (.injectionDone n) s = .next (s.close (((s.setReg (SV_INJ_MAG n) (BitVec.ofNat 32 (min mag (2 ^ 32 - 1)))).setFld
        (SV_INJ_PH n) SV_INJ_PH_PH ph).endInj n 2)))
  -- LAYER_JUMP: begun
  ∧ (∀ (n : Stn) (m : Fin 16) (s : State),
      m.val ≠ s.fld (SV_JUMP n) SV_JUMP_CUR →
      (s.servo n).jump = none →
      s.bit (LP_STAT n 0) LP_STAT_LOCKED = true →
      s.bit (LP_STAT n 1) LP_STAT_LOCKED = true →
      let v := (s.setFld (SV_JUMP n) SV_JUMP_STATUS 1).setJump n ⟨s.fld (SV_JUMP n) SV_JUMP_CUR, m, 2, 0, 0, 0⟩
      let w := (v.forceMode n 2 4).forceMode n 3 1
      exec (.layerJump n m) s = .next (s.close ((w.setFld (LP_DRV n 3) LP_DRV_MAN (w.fld (SV_LAYER n m) SV_LAYER_SAP)).checkWrite n)))
  -- LAYER_JUMP: not locked
  ∧ (∀ (n : Stn) (m : Fin 16) (s : State),
      m.val ≠ s.fld (SV_JUMP n) SV_JUMP_CUR →
      (s.servo n).jump = none →
      (s.bit (LP_STAT n 0) LP_STAT_LOCKED = false ∨ s.bit (LP_STAT n 1) LP_STAT_LOCKED = false) →
      exec (.layerJump n m) s = .next (s.close (s.setFld (SV_JUMP n) SV_JUMP_STATUS 5)))
  -- JUMP_TIMEOUT and CROSSING_TIMEOUT
  ∧ (∀ (n : Stn) (j : Jump) (c : Instr) (st : Nat) (s : State),
      (s.servo n).jump = some j →
      ((c = .jumpTimeout n ∧ st = 4) ∨ (c = .crossingTimeout n ∧ st = 3 ∧ (j.step = 3 ∨ j.step = 4))) →
      let uf := if j.step ≤ 2 then (s.loop n 0).y else j.uf
      let v := (s.setServo n (fun v => { v with jump := none })).setFld (SV_JUMP n) SV_JUMP_STATUS st
      let w := (v.forceMode n 0 1).setFldInt (LP_DRV n 0) LP_DRV_MAN (driveWord uf)
      let w := ((w.forceMode n 1 4).forceMode n 2 4).forceMode n 3 1
      exec c s = .next (s.close (((((w.loseLock n 0).loseLock n 1).loseLock n 2).loseLock n 3).checkWrite n)))

/-- On a lane in training or up, a HEADER is judged by its CRC-16 over the data blocks before it: one that fails is counted and erases the epoch
before, and the fourth in a row loses the lane. It shows its MAP and the write enable applied, hands the lane's samples to the finished
epoch, begins the groups of 20 epochs where it is the servo lane's first since its training, and reports an epoch of CL, once (log entry
177). A servo block with a valid sync header on the servo lane sets the instant's and all later instants' channels; one with an invalid
header is counted and the previous values stand. A sample group on a lane that is up carries the CRC on and stores its four instants. The
16th invalid sync header within 1,024 blocks loses the lane. At each epoch of a running SY IDLE blocks fill what is left of the epoch that
ends, then the HEADER with the epoch number, the flags and the CRC of the data blocks before goes out first, scrambled behind its sync
header, then the blocks that fall due, and the epoch is counted; a control block sent within the epoch takes one of its block times; a CL
that is down or failed carries nothing. The epoch's servo instants join the group of 20 epochs, with or without a HEADER, and the next
epoch's begin at the last values. An MI frame whose characters and CRC hold and that reports no trip gives the phase currents and the local
bus and lets the bus supervisor follow; an invalid one is only counted, and the fourth motion period in a row without one loses MI. A motion
period takes the observer's outputs, runs SIQ and SID, limits the modulation, sends the next MO frame and advances the forced angle. -/
def Obligations.LaneBlocksAndFrames : Prop :=
  -- SA_HEADER
  (∀ (n : Stn) (k : Fin 2) (b : Block66) (s : State),
      (s.lane n k = 1 ∨ s.lane n k = 2) →
      b.isControl = true →
      b.field 0 8 = 0xA1 →
      let u := s.noteSync n k b
      let ok := b.field 40 16 == ((u.port n).saCrc.getD k 0).toNat
      let bad := if ok then 0 else (u.port n).hdrBad.getD k 0 + 1
      let v := if ok then u else u.bump (STN_LERR n) (if k = 0 then STN_LERR_SA0_ERR else STN_LERR_SA1_ERR) 1
      let v := v.setPort n (fun p => { p with
        hdrNone := p.hdrNone.set k 0, hdrBad := p.hdrBad.set k bad, saCrc := p.saCrc.set k 0xFFFF#16, saNext := p.saNext.set k 0xFFFF#16,
        saEpoch := p.saEpoch.set k (b.field 8 16),
        writeApplied := (b.field 32 8).testBit 1 })
      let v := (v.rollSamples n k ((v.port n).epochOf (b.field 8 16) - 1) (!ok)).setFld (STN_STAT n) STN_STAT_MAP (b.field 32 8 / 4 % 4)
      let v := if k.val = v.servoLane n then v.setPort n (fun p => p.framedBy (v.lane n k == 2)) else v
      let v := v.clReport n (b.field 8 16) (b.field 24 8) ((b.field 32 8).testBit 0)
      exec (.saHeader n k b) s = .next (s.close (if 4 ≤ bad then v.laneLost n [k] else v)))
  -- SA_HEADER: a block that is no HEADER
  ∧ (∀ (n : Stn) (k : Fin 2) (b : Block66) (s : State),
      (s.lane n k = 1 ∨ s.lane n k = 2) →
      (b.isControl = false ∨ b.field 0 8 ≠ 0xA1) →
      exec (.saHeader n k b) s = .next (s.close (s.noteSync n k b)))
  -- A block with a valid sync header, and one with the 16th invalid one in 1,024 (R86)
  ∧ (∀ (n : Stn) (k : Fin 2) (b : Block66) (l : List Nat) (i : Nat) (s : State),
      (s.port n).syncs.getD k (0, []) = (i, l) →
      l.length = 15 →
      (∀ j ∈ l, i < j + 1023) →
      let e (l : List Nat) : State := s.setPort n (fun p => { p with syncs := p.syncs.set k (i + 1, l) })
      s.noteSync n k b = if b.valid then e l else (e (l ++ [i + 1])).laneLost n [k])
  -- What HEADERs report of CL: an epoch already reported counts no more (R91, log entry 177)
  ∧ (∀ (n : Stn) (e errs : Nat) (lock : Bool) (s : State),
      (s.port n).clSeen = some e →
      s.clReport n e errs lock = s)
  -- What HEADERs report of CL: a new epoch (R85, R86)
  ∧ (∀ (n : Stn) (e errs : Nat) (lock : Bool) (s : State),
      (s.port n).clSeen ≠ some e →
      let next := match (s.port n).clSeen with | some x => decide ((x + 1) % 65536 = e) | none => false
      let v := (s.bump (STN_LERR n) STN_LERR_CL_ERR errs).setPort n (fun p => { p with
        clSeen := some e, clGood := if lock && errs == 0 then (if next then p.clGood + 1 else 1) else 0 })
      s.clReport n e errs lock = if lock = false ∧ v.lane n 2 = 2 then v.laneLost n [2] else v)
  -- SERVO_BLOCK: valid
  ∧ (∀ (n : Stn) (k : Fin 2) (b : Block66) (s : State),
      k.val = s.servoLane n →
      s.lane n k = 2 →
      b.isControl = true →
      (b.field 0 8 = 0xA2 ∨ b.field 0 8 = 0xA3) →
      let c := (List.range 4).map (fun i => (BitVec.ofNat 12 (b.field (16 + 12 * i) 12)).toInt)
      let put (l : List Int) : List Int := if b.field 0 8 = 0xA3 then l.take 4 ++ c else c ++ l.drop 4
      exec (.servoBlock n k b) s = .next (s.close ((s.noteSync n k b).setPort n (fun p => { p with
        last := put p.last,
        instants := (List.range 16).map (fun i => if b.field 8 4 ≤ i then put (p.instants.getD i []) else p.instants.getD i []) }))))
  -- SERVO_BLOCK: an invalid sync header
  ∧ (∀ (n : Stn) (k : Fin 2) (b : Block66) (s : State),
      k.val = s.servoLane n →
      s.lane n k = 2 →
      b.valid = false →
      exec (.servoBlock n k b) s = .next (s.close
          ((s.noteSync n k b).bump (STN_LERR n) (if k = 0 then STN_LERR_SA0_ERR else STN_LERR_SA1_ERR) 1)))
  -- SAMPLE_GROUP
  ∧ (∀ (n : Stn) (k : Fin 2) (g : Fin 525) (b : Vector Block66 3) (s : State),
      s.lane n k = 2 →
      let pay := b[0].payload + b[1].payload * 2 ^ 64 + b[2].payload * 2 ^ 128
      let put (m : SMap Nat) (i : Nat) : SMap Nat := SMap.put m 0 (2100 * k + 4 * g + i) (pay / 2 ^ (48 * i) % 2 ^ 48)
      let crc (l : List (BitVec 16)) : List (BitVec 16) :=
        l.set k (blockCrc (blockCrc (blockCrc (l.getD k 0xFFFF#16) b[0].payload) b[1].payload) b[2].payload)
      let v := s.setPort n (fun p => { p with saCrc := crc p.saCrc, saNext := crc p.saNext })
      let v := v.setRd n (fun r => { r with samples := put (put (put (put r.samples 0) 1) 2) 3 })
      exec (.sampleGroup n k g b) s = .next (s.close (((v.noteSync n k b[0]).noteSync n k b[1]).noteSync n k b[2])))
  -- CL_EPOCH
  ∧ (∀ (n : Stn) (s : State),
      s.bit (STN_STAT n) STN_STAT_SY_RUN = true →
      ((s.missHeaders n).lane n 2 = 1 ∨ (s.missHeaders n).lane n 2 = 2) →
      exec (.clEpoch n) s = .next (s.close ((((s.missHeaders n).setPort n Port.servoEpoch).clSendEpoch n).setPort n (fun p => { p with epochs := p.epochs + 1 }))))
  -- CL_EPOCH: what CL carries in it (R71, R76)
  ∧ (∀ (n : Stn) (s : State),
      let p := s.port n
      let flags := (if s.lane n 0 == 1 || s.lane n 1 == 1 then 1 else 0) + (if p.writeEnable then 2 else 0) + 4 * p.mapWant
      let out := epochBlocks 776 250 p.clQueue
      let crc := (out.filter (·.1)).foldl (fun c b => crc16 64 (sentBits b.2) c) 0xFFFF#16
      s.clSendEpoch n = ((s.clWires n (List.replicate p.clLeft (false, 0xC0)
          ++ (false, clBlock 0xC1 [(p.epochs, 16), (flags, 8), (p.clCrc.toNat, 16)]) :: out)).setPort n (fun q => { q with
        clQueue := p.clQueue.drop out.length, clLeft := (if p.epochs % 4 = 3 then 781 else 780) - out.length, flow := flowAfter p.flow out,
        writeEnable := p.writeEnable && (p.nextBit.isSome || (p.clQueue.drop out.length).any (·.1)), clCrc := crc })))
  -- CL: a control block sent within an epoch takes one of its block times (R76)
  ∧ (∀ (n : Stn) (type : Nat) (fields : List (Nat × Nat)) (s : State),
      s.clSend n type fields = (s.clWire n false (clBlock type fields)).setPort n (fun p => { p with clLeft := p.clLeft - 1 }))
  -- CL_EPOCH: an epoch of servo instants ends (R75, R95)
  ∧ (∀ (p : Port),
      let q := p.servoEpoch
      let sum := (List.zip p.slowSum (sumChannels p.instants)).map (fun x => x.1 + x.2)
      q.instants = List.replicate 16 p.last ∧ (p.inFrame = false → q.slowSum = p.slowSum ∧ q.slowDone = p.slowDone ∧ q.framed = p.framed)
        ∧ (p.inFrame = true → q.framed = p.framed + 1 ∧ if (p.framed + 1) % 20 = 0 then q.slowDone = sum ∧ q.slowSum = List.replicate 8 0
            else q.slowDone = p.slowDone ∧ q.slowSum = sum))
  -- CL_EPOCH while CL is down or failed: it is only counted (R70)
  ∧ (∀ (n : Stn) (s : State),
      s.bit (STN_STAT n) STN_STAT_SY_RUN = true →
      ((s.missHeaders n).lane n 2 = 0 ∨ (s.missHeaders n).lane n 2 = 3) →
      exec (.clEpoch n) s = .next (s.close (((s.missHeaders n).setPort n Port.servoEpoch).setPort n (fun p => { p with epochs := p.epochs + 1 }))))
  -- CL_EPOCH: an SA lane whose HEADERs come is left alone (R75, R86)
  ∧ (∀ (n : Stn) (s : State),
      s.lane n 0 = 2 →
      s.lane n 1 = 2 →
      (s.port n).hdrNone = [0, 0] →
      s.missHeaders n = s.setPort n (fun p => { p with hdrNone := [1, 1], saNext := [0xFFFF#16, 0xFFFF#16] }))
  -- MI_FRAME: invalid
  ∧ (∀ (n : Stn) (cs : Vector (BitVec 10) 29) (s : State),
      frameBytes 28 (cs.toList.map (·.toNat)) = none →
      exec (.miFrame n cs) s = .next (s.close ((s.bump (STN_LERR n) STN_LERR_MI_ERR 1).setPort n (fun p => { p with miGood := 0 }))))
  -- MI_FRAME: valid, no trip and no chopper fault
  ∧ (∀ (n : Stn) (cs : Vector (BitVec 10) 29) (b : Bytes) (s : State),
      frameBytes 28 (cs.toList.map (·.toNat)) = some b →
      b.getD 1 0 = 0#8 →
      b.getD 24 0 = 0#8 →
      (s.port n).tripFail = false →
      (s.spin n).chopDue = false →
      s.spinState n ≠ 1 →
      let x (ch : Nat) : Int := s.miValue n ch ((miCodes b).getD ch 0)
      let v := s.setPort n (fun p => { p with
        miSeen := true, miGood := p.miGood + 1, miPeriod := (b.getD 0 0).toNat, moGood := p.moGood + 1, moBad := 0 })
      let v := (v.bump (STN_LERR n) STN_LERR_MO_ERR 0).setSpindle n (fun p => { p with cur := [x 0, x 1, x 2], curLast := p.cur, trips := 0 })
      exec (.miFrame n cs) s = .next (s.close
        ((v.setFld (BUS_STAT n) BUS_STAT_VLOC (clampI 0 65535 (x 8)).toNat).supervise n)))
  -- MI_FRAME: measured in CATCH (R132)
  ∧ (∀ (n : Stn) (cs : Vector (BitVec 10) 29) (b : Bytes) (s : State),
      frameBytes 28 (cs.toList.map (·.toNat)) = some b →
      b.getD 1 0 = 0#8 →
      b.getD 24 0 = 0#8 →
      (s.port n).tripFail = false →
      (s.spin n).chopDue = false →
      s.spinState n = 1 →
      let x (ch : Nat) : Int := s.miValue n ch ((miCodes b).getD ch 0)
      let v := s.setPort n (fun p => { p with
        miSeen := true, miGood := p.miGood + 1, miPeriod := (b.getD 0 0).toNat, moGood := p.moGood + 1, moBad := 0 })
      let v := (v.bump (STN_LERR n) STN_LERR_MO_ERR 0).setSpindle n (fun p =>
        ({ p with cur := [x 0, x 1, x 2], curLast := p.cur, trips := 0 }).catchFrame [x 3, x 4, x 5])
      exec (.miFrame n cs) s = .next (s.close
        ((v.setFld (BUS_STAT n) BUS_STAT_VLOC (clampI 0 65535 (x 8)).toNat).supervise n)))
  -- MOTION_PERIOD
  ∧ (∀ (n : Stn) (s : State),
      (s.lane n 4 ≠ 2 ∨ (s.port n).miSeen = true ∨ (s.port n).miNone < 3) →
      let v := s.setPort n (fun p => if p.miSeen then { p with miSeen := false, miNone := 0 }
        else { p with miNone := p.miNone + 1, miGood := 0, moGood := 0 })
      let v := v.setSpindle n (fun p => { p with lossDecel := false })
      let v := (((v.observe n).loopSample n 5 false).loopSample n 6 false).noteEffort n
      let v := if v.spinState n = 2 ∨ v.spinState n = 3 ∨ v.spinState n = 4 then v.modLimit n else v.setBit (MOT_SPST n) MOT_SPST_MODLIM false
      let v := ((v.setFld (MOT_ANGLE n) MOT_ANGLE_THETA (v.angleNow n / 65536)).sendMo n).openLoop n
      exec (.motionPeriod n) s = .next (s.close
        (if v.spinState n = 4 && !(v.spin n).on && decide ((v.spin n).omega.natAbs < 600 * 512) then v.setSpin n 5 else v)))
  -- MOTION_PERIOD: the fourth without an MI frame loses MI (R86)
  ∧ (∀ (n : Stn) (s : State),
      s.lane n 4 = 2 →
      (s.port n).miSeen = false →
      3 ≤ (s.port n).miNone →
      let v := s.setPort n (fun p => { p with miNone := p.miNone + 1, miGood := 0, moGood := 0 })
      let v := v.setSpindle n (fun p => { p with lossDecel := false })
      exec (.motionPeriod n) s = .next (s.close ((v.laneLost n [4]).motionPeriod n)))
  -- MOTION_PERIOD: outside OPENLOOP and RUN the observer does nothing (R126)
  ∧ (∀ (n : Stn) (s : State),
      s.spinState n ≠ 3 →
      s.spinState n ≠ 4 →
      s.observe n = s)
  -- MOTION_PERIOD: |ê| below VTH counts as a phase error of 1 (R126, R127)
  ∧ (∀ (n : Stn) (s : State),
      s.spinState n = 4 →
      vecLen (backEmf (s.spin n).cur (s.spin n).curLast (s.spin n).dutiesLast (s.vMeas n) (s.fld (MOT_PARAM n) MOT_PARAM_RS : Nat) (s.fld (MOT_PARAM n) MOT_PARAM_LS : Nat)) < s.fld (MOT_CATCH n) MOT_CATCH_VTH * 2 ^ 20 →
      ((s.observe n).spin n).resBad = (s.spin n).resBad + 1 ∧ ((s.observe n).spin n).resGood = 0)

/-- IL high for 50 ns or more stops write power at once, sets STN_STAT.IL and raises the interlock event and trap cause INTERLOCK on its rise;
up to 10 ns nothing happens, and between the two the controller may or may not act (a free value). A further pulse while IL is treated as
high is no new event (log entry 180). Its release clears IL. STATUS is polled every 10 ms of an enabled station whose line the loader does
not hold; a reply with its CRC-4 updates STN_AXSTAT, sets PRESENT with an event on its rise and raises the loader event for an error status;
the third missing reply in a row clears PRESENT; an attention gets STATUS at its release. A lane that is up and reaches its loss count goes
to quick training with a lane event and trap cause LANE, after a loss of CL or an SA lane the strategy set is due again, and the groups of
20 epochs begin afresh where it is the servo lane; the loss of CL takes write power off at once. A training attempt that passes (an SA lane
without bit errors and with 25 mV and 0.25 UI, another lane with eight good epochs, periods or frames) brings its lane up and records an SA
lane's eye; one that fails counts, and after RETRIES attempts marks the lane failed with a lane event and trap cause LANE. The station's
state follows Table 3.12 each time. -/
def Obligations.InterlockLoaderAndLanes : Prop :=
  -- INTERLOCK: acts
  (∀ (n : Stn) (ns : Nat) (s : State),
      50 ≤ ns →
      s.bit (STN_STAT n) STN_STAT_IL = false →
      exec (.interlock n ns) s = .next (s.close
          ((((s.setBit (STN_STAT n) STN_STAT_IL true).raiseStn n 1 []).trapCause n 6 0).stopNow n)))
  -- INTERLOCK: power goes off at once in a band that writes and in one that does not (R81, R214)
  ∧ (∀ (n : Stn) (s : State),
      (s.checkWrite n).bw? n = none →
      s.stopNow n = (s.checkWrite n).powerOffNow n)
  -- INTERLOCK: again while IL is still treated as high (log entry 180)
  ∧ (∀ (n : Stn) (ns : Nat) (s : State),
      50 ≤ ns →
      s.bit (STN_STAT n) STN_STAT_IL = true →
      exec (.interlock n ns) s = .next (s.close (s.powerOffNow n)))
  -- INTERLOCK: too short
  ∧ (∀ (n : Stn) (ns : Nat) (s : State),
      ns ≤ 10 →
      exec (.interlock n ns) s = .next (s.close s))
  -- INTERLOCK: between the two limits
  ∧ (∀ (n : Stn) (ns : Nat) (s : State),
      10 < ns →
      ns < 50 →
      let v : State := { s with fresh := s.fresh + 1 }
      exec (.interlock n ns) s = .next (s.close (if Config.freeBool s.fresh then v.interlockHigh n else v)))
  -- INTERLOCK_RELEASE
  ∧ (∀ (n : Stn) (s : State),
      exec (.interlockRelease n) s = .next (s.close ((s.setBit (STN_STAT n) STN_STAT_IL false).checkWrite n)))
  -- AX_STATUS_POLL
  ∧ (∀ (n : Stn) (s : State),
      s.bit (STN_CTL n) STN_CTL_ENABLE = true →
      (s.port n).axHeld = false →
      exec (.axStatusPoll n) s = .next (s.close (s.emit (.ax n (axLevels (axWord 16))))))
  -- AX_STATUS_POLL while the loader holds the line: its release brings the poll
  ∧ (∀ (n : Stn) (s : State),
      (s.port n).axHeld = true →
      exec (.axStatusPoll n) s = .next (s.close s))
  -- AX_REPLY
  ∧ (∀ (n : Stn) (x : BitVec 12) (s : State),
      s.bit (STN_STAT n) STN_STAT_PRESENT = false →
      let v := ((s.setFld (STN_AXSTAT n) STN_AXSTAT_STATUS x.toNat).setFld (STN_AXSTAT n) STN_AXSTAT_AGE 0).setPort n (fun p => { p with
        misses := 0, axAge := 0, axNew := true })
      let v := (v.setBit (STN_STAT n) STN_STAT_PRESENT true).raiseStn n 2 [1]
      exec (.axReply n (x ++ BitVec.ofNat 4 (crc4 x.toNat))) s = .next (s.close (if x.getLsbD 5 then v.raiseStn n 3 [x.toNat] else v)))
  -- AX_REPLY whose CRC-4 fails counts as none
  ∧ (∀ (n : Stn) (w : BitVec 16) (s : State),
      w.toNat % 16 ≠ crc4 (w.toNat / 16) →
      exec (.axReply n w) s = exec (.axReplyTimeout n) s)
  -- AX_REPLY_TIMEOUT: the third in a row
  ∧ (∀ (n : Stn) (s : State),
      2 ≤ (s.port n).misses →
      s.bit (STN_STAT n) STN_STAT_PRESENT = true →
      exec (.axReplyTimeout n) s = .next (s.close
          (((s.setPort n (fun p => { p with misses := p.misses + 1 })).setBit (STN_STAT n) STN_STAT_PRESENT false).raiseStn n 2 [0])))
  -- AX_REPLY_TIMEOUT: an earlier one
  ∧ (∀ (n : Stn) (s : State),
      (s.port n).misses < 2 →
      exec (.axReplyTimeout n) s = .next (s.close (s.setPort n (fun p => { p with misses := p.misses + 1 }))))
  -- AX_ATTENTION
  ∧ (∀ (n : Stn) (s : State),
      s.bit (STN_CTL n) STN_CTL_ENABLE = true →
      (s.port n).axQueue = [] →
      exec (.axAttention n true) s = .next (s.close ((s.setPort n (fun p => { p with axHeld := false, axQueue := [] })).emit (.ax n (axLevels (axWord 16)))))
          ∧ exec (.axAttention n false) s = .next (s.close (s.setPort n (fun p => { p with axHeld := true }))))
  -- LANE_LOST
  ∧ (∀ (n : Stn) (k : Fin 5) (s : State),
      s.lane n k = 2 →
      let v := (s.trainLanes n [k.val] false).raiseStn n 0 [k.val]
      let v := (if k.val ≤ 2 then v.freshTraining n [k.val] else v).trapLane n
      exec (.laneLost n [k]) s = .next (s.close (if k = 2 then v.stopNow n else v.checkWrite n)))
  -- LANE_LOST of a lane in training: its attempt has failed
  ∧ (∀ (n : Stn) (k : Fin 5) (s : State),
      s.lane n k = 1 →
      exec (.laneLost n [k]) s = .next (s.close (s.attemptLost n k)))
  -- TRAINING_ATTEMPT_END: passed by a lane other than SA0 and SA1: eight good epochs, periods or frames (R85)
  ∧ (∀ (n : Stn) (k : Fin 5) (e v h : Nat) (s : State),
      s.lane n k = 1 →
      2 ≤ k.val →
      (8 ≤ (if k = 2 then (s.port n).clGood else if k = 3 then (s.port n).moGood else (s.port n).miGood)) →
      exec (.trainingAttemptEnd n k e v h) s = .next (s.close (((s.setLane n k 2).setPort n (fun p => p.clearLane k)).settlePort n)))
  -- TRAINING_ATTEMPT_END: passed by SA0 or SA1: no bit errors, 25 mV and 0.25 UI (R85)
  ∧ (∀ (n : Stn) (k : Fin 5) (v h : Nat) (s : State),
      s.lane n k = 1 →
      k.val ≤ 1 →
      25 ≤ v →
      32 ≤ h →
      let w := (s.setLane n k 2).setPort n (fun p => p.clearLane k)
      let w := if k.val = 0 then (w.setFld (STN_EYE n) STN_EYE_SA0_V (min 255 v)).setFld (STN_EYE n) STN_EYE_SA0_H (min 255 h)
        else (w.setFld (STN_EYE n) STN_EYE_SA1_V (min 255 v)).setFld (STN_EYE n) STN_EYE_SA1_H (min 255 h)
      exec (.trainingAttemptEnd n k 0 v h) s = .next (s.close ((w.setPort n (fun p => { p with saved := true })).settlePort n)))
  -- TRAINING_ATTEMPT_END: failed with an attempt left
  ∧ (∀ (n : Stn) (k : Fin 5) (e v h : Nat) (s : State),
      s.lane n k = 1 →
      s.checkPasses n k e v h = false →
      (s.port n).attempts.getD k 0 + 1 < s.retries n →
      exec (.trainingAttemptEnd n k e v h) s = .next (s.close
          (s.setPort n (fun p => { p.clearLane k with attempts := p.attempts.set k ((s.port n).attempts.getD k 0 + 1) }))))
  -- TRAINING_ATTEMPT_END: the last attempt failed
  ∧ (∀ (n : Stn) (k : Fin 5) (e v h : Nat) (s : State),
      s.lane n k = 1 →
      s.checkPasses n k e v h = false →
      s.retries n ≤ (s.port n).attempts.getD k 0 + 1 →
      let w := s.setPort n (fun p => { p.clearLane k with attempts := p.attempts.set k ((s.port n).attempts.getD k 0 + 1) })
      exec (.trainingAttemptEnd n k e v h) s = .next (s.close ((((w.setLane n k 3).raiseStn n 0 [k.val]).trapLane n).settlePort n)))

/-- After 80 measured MI frames in CATCH a rotor at rest goes to ALIGN, one turning backward fails the start when WAIT has passed and otherwise
waits, one turning forward is caught into RUN with the measured angle and speed; ALIGN ends in OPENLOOP with the forced angle and speed 0;
BRAKE ends in OFF. A residual above RES_THR for 16 periods in RUN declares loss: LOST, an event, trap cause SPINDLE, and the armed reaction;
a task whose speed is still not valid 500 ms later ends with SPINDLE_LOST. -/
def Obligations.SpindleStates : Prop :=
  -- WOBBLE_ADDRESS of lead spot 4: the CRC passes (R125, R163)
  (∀ (n : Stn) (w : BitVec 48) (cw : BitVec 36) (s : State),
      wobbleOk w.toNat = true →
      let v := ((s.wobbleSync n cw.toNat).setReg (RC_WOB n) (cw.setWidth 32)).noteWobble n 4 w.toNat cw.toNat
      let v := v.setRd n (fun r => { r with wobble := some w.toNat, wobbles := r.wobbles + 1 })
      exec (.wobbleAddress n 4 w cw) s = .next (s.close
        ((((v.jumpWobble n (w.toNat / 2 ^ 44 % 16)).showValid n).followRadius n w.toNat).checkWrite n)))
  -- WOBBLE_ADDRESS of lead spot 4: the CRC fails
  ∧ (∀ (n : Stn) (w : BitVec 48) (cw : BitVec 36) (s : State),
      wobbleOk w.toNat = false →
      exec (.wobbleAddress n 4 w cw) s = .next (s.close
          (((s.wobbleSync n cw.toNat).setReg (RC_WOB n) (cw.setWidth 32)).noteWobble n 4 w.toNat cw.toNat)))
  -- WOBBLE_ADDRESS of another lead spot
  ∧ (∀ (n : Stn) (q : Fin 8) (w : BitVec 48) (cw : BitVec 36) (s : State),
      q ≠ 4 →
      let v := s.noteWobble n q w.toNat cw.toNat
      let u := v.setRd n (fun r => { r with wobble := some w.toNat, wobbles := r.wobbles + 1 })
      exec (.wobbleAddress n q w cw) s = .next (s.close (if wobbleOk w.toNat then
        (((u.jumpWobble n (w.toNat / 2 ^ 44 % 16)).showValid n).followRadius n w.toNat).checkWrite n else v)))
  -- CATCH_MEASURED: fewer than 80 frames
  ∧ (∀ (n : Stn) (s : State),
      (s.spin n).catchN < 80 →
      exec (.catchMeasured n) s = .next (s.close s))
  -- CATCH_MEASURED: at rest
  ∧ (∀ (n : Stn) (s : State),
      s.spinState n = 1 →
      80 ≤ (s.spin n).catchN →
      (rnd (s.spin n).catchMag (80 * 2 ^ 20)).toNat < s.fld (MOT_CATCH n) MOT_CATCH_VTH →
      exec (.catchMeasured n) s = .next (s.close
          ((s.setSpindle n (fun p => { p with inCatch := p.inCatch + 2, catchN := 0, catchMag := 0, catchTurn := 0 })).setSpin n 2)))
  -- CATCH_MEASURED: backward
  ∧ (∀ (n : Stn) (s : State),
      s.spinState n = 1 →
      80 ≤ (s.spin n).catchN →
      s.fld (MOT_CATCH n) MOT_CATCH_VTH ≤ (rnd (s.spin n).catchMag (80 * 2 ^ 20)).toNat →
      (s.spin n).catchTurn ≤ 0 →
      let v := s.setSpindle n (fun p => { p with inCatch := p.inCatch + 2, catchN := 0, catchMag := 0, catchTurn := 0 })
      exec (.catchMeasured n) s = .next (s.close
        (if s.fld (MOT_CATCH n) MOT_CATCH_WAIT ≤ (s.spin n).inCatch + 2 then v.startFails n else v)))
  -- CATCH_MEASURED: caught
  ∧ (∀ (n : Stn) (s : State),
      s.spinState n = 1 →
      80 ≤ (s.spin n).catchN →
      s.fld (MOT_CATCH n) MOT_CATCH_VTH ≤ (rnd (s.spin n).catchMag (80 * 2 ^ 20)).toNat →
      0 < (s.spin n).catchTurn →
      0 < s.vMeas n →
      let uq := satS 48 (rnd (((rnd (s.spin n).catchMag (80 * 2 ^ 20)).toNat : Int) * sqrt3Q) ((s.vMeas n).natAbs * 2 ^ 20))
      let u := rnd ((s.spin n).catchTurn * 2 ^ 32) 79
      let v := s.setSpindle n (fun p => { p with inCatch := p.inCatch + 2, catchN := 0, catchMag := 0, catchTurn := 0 })
      let v := v.setSpindle n (fun p => { p with theta := p.catchAngle * 2 ^ 32, speedE := u, pll := u, omega := rpm512 u, tries := 0, resBad := 0, resGood := 0 })
      let v := (((v.showSpeed n).setLoop n 6 (fun l => { l with y := 0 })).setLoop n 5 (fun l => { l with y := uq })).setLoop n 4 (fun l => { l with y := 0 })
      exec (.catchMeasured n) s = .next (s.close (v.setSpin n 4)))
  -- ALIGN_DONE
  ∧ (∀ (n : Stn) (s : State),
      s.spinState n = 2 →
      exec (.alignDone n) s = .next (s.close
          ((s.setSpindle n (fun p => { p with thetaF := 0, speedF := 0, resBad := 0, resGood := 0 })).setSpin n 3)))
  -- BRAKE_DONE
  ∧ (∀ (n : Stn) (s : State),
      s.spinState n = 5 →
      exec (.brakeDone n) s = .next (s.close (s.setSpin n 0)))
  -- ROTOR_LOST, without a task in hand
  ∧ (∀ (n : Stn) (s : State),
      s.spinState n = 4 →
      16 ≤ (s.spin n).resBad →
      ((((((s.setSpindle n (fun p => { p with lossDecel := s.decelerating n })).setSpin n 6).setBit (MOT_SPST n) MOT_SPST_LOST true).raiseStn n 6 []).trapSpindle n).bit (TASK_STATUS n) TASK_STATUS_BUSY = false) →
      let v := s.setSpindle n (fun p => { p with lossDecel := s.decelerating n })
      let v := (((v.setSpin n 6).setBit (MOT_SPST n) MOT_SPST_LOST true).raiseStn n 6 []).trapSpindle n
      let r := v.fld (MOT_CTL n) MOT_CTL_LOSS_REACT
      let w := v.setSpindle n (fun p => { p with on := if r = 1 ∨ r = 2 then false else p.on, tries := 0 })
      exec (.rotorLost n) s = .next (s.close (if r = 1 then w.setSpin n 0 else if r = 2 then w.setSpin n 5 else w.toCatch n)))
  -- SPINDLE_LOSS_TIMEOUT
  ∧ (∀ (n : Stn) (t : Nat) (s : State),
      (s.spin n).lostAt = some t →
      s.bit (MOT_SPST n) MOT_SPST_SPD_VALID = false →
      exec (.spindleLossTimeout n) s = .next (s.close ((s.setSpindle n (fun p => { p with lostAt := none })).stopTask n)))

/-- Outside protection the sled's tick runs the stop, the move or the following that is in progress and shows velocity and motion, and leaves a
sled at rest as it is. VIN at 1 MHz is shown in every station that is ON, where a regeneration fault may follow. A bus at 44 V protects
every station once; every bus below 43 V releases them. A regeneration fault clears with the buses below CH_OFF. -/
def Obligations.SledAndBus : Prop :=
  -- SLED_TICK: a move
  (∀ (n : Stn) (t : Int) (s : State),
      s.bit (BUS_STAT n) BUS_STAT_PROTECT = false →
      (s.sled n).snow = false →
      (s.sled n).target = some t →
      exec (.sledTick n) s = .next (s.close ((s.moveTick n t).showSled n)))
  -- SLED_TICK: a snowplough stop
  ∧ (∀ (n : Stn) (s : State),
      s.bit (BUS_STAT n) BUS_STAT_PROTECT = false →
      (s.sled n).snow = true →
      let v := s.sledStep n (brakeAcc (s.sledLimits n).2.1 (s.sledLimits n).2.2 (s.sled n).v (s.sled n).acc)
      let w := ((v.setSled n (fun d => { d with snow := false, frac := 0 })).setBit (SLD_STAT n) SLD_STAT_SNOW true).showSled n
      exec (.sledTick n) s = .next (s.close ((if (v.sled n).v = 0 then (w.raiseStn n 10 []).trapSled n else v).showSled n)))
  -- SLED_TICK: following, and at rest
  ∧ (∀ (n : Stn) (s : State),
      s.bit (BUS_STAT n) BUS_STAT_PROTECT = false →
      (s.sled n).snow = false →
      (s.sled n).target = none →
      exec (.sledTick n) s = .next (s.close ((if (s.sled n).follow = true then s.followTick n else if (s.sled n).v = 0 then s
            else s.sledStep n (brakeAcc (s.sledLimits n).2.1 (s.sledLimits n).2.2 (s.sled n).v (s.sled n).acc)).showSled n)))
  -- SLED_TICK under protection
  ∧ (∀ (n : Stn) (s : State),
      s.bit (BUS_STAT n) BUS_STAT_PROTECT = true →
      exec (.sledTick n) s = .next (s.close s))
  -- VIN_SAMPLE
  ∧ (∀ (mv : Nat) (s : State),
      let v : State := { s with aon.vin := mv }
      exec (.vinSample mv) s = .next (s.close ((List.range s.stations).foldl (fun (v : State) n =>
        if v.isOn (domSTN n) then (v.setFld (BUS_VIN n) BUS_VIN_VIN (min 65535 mv)).checkRegen n else v) v)))
  -- SELF_PROTECTION
  ∧ (∀ (s : State),
      s.busAt 44000 = true →
      s.power.protect = false →
      let v := ({ s with power.protect := true } : State).raise 36 []
      exec .selfProtection s = .next (s.close ((List.range v.stations).foldl (fun (v : State) n => if v.isOn (domSTN n) then v.protectStn n else v) v)))
  -- PROTECTION_RELEASE
  ∧ (∀ (s : State),
      s.busAt 43000 = false →
      s.power.protect = true →
      exec .protectionRelease s = .next (s.close ((List.range s.stations).foldl (fun (v : State) n =>
          if v.bit (BUS_STAT n) BUS_STAT_PROTECT = false then v else
          let v := (v.setFld (BUS_STAT n) BUS_STAT_STATE 0).setBit (BUS_STAT n) BUS_STAT_PROTECT false
          let v := v.setStn (toStn n) (fun t => { t with port.laserOff := v.fatal n })
          let v := v.setSpindle n (fun p => { p with on := false })
          (if v.spinState n = 7 then v.setSpin n 0 else v).supervise n) { s with power.protect := false })))
  -- REGEN_FAULT_CLEAR
  ∧ (∀ (n : Stn) (s : State),
      s.fld (BUS_STAT n) BUS_STAT_STATE = 2 →
      s.fld (BUS_STAT n) BUS_STAT_VLOC < s.chOff n →
      s.fld (BUS_VIN n) BUS_VIN_VIN < s.chOff n →
      exec (.regenFaultClear n) s = .next (s.close ((s.setFld (BUS_STAT n) BUS_STAT_STATE 0).setBit (BUS_STAT n) BUS_STAT_CHON false)))

/-- A fetched ALU microword takes A from SRCA and B from SRCB, from CONST or from IMM without or with its sign. Where its operation is one of
Table 8.4 and its register codes are not reserved, it writes the result to DST unless it is CMP, sets Z and N from the result, C and V as
the operation gives them, and moves on. Where the spec states no C and V for the operation (log entry 80) the two bits are free values, and
so is the result of a shift by 32 or more; everything else is as stated. The sense of C after a subtraction and that of MIN and MAX are
fields of Config. A reserved operation or register code raises ILLEGAL with the microword as INFO, and within a trap routine is a double
fault. -/
def Obligations.AluMicrowords : Prop :=
  -- ALU: every operation but a shift by 32 or more
  (∀ (n : Stn) (m : Micro) (o : Nano) (a b : Word) (s : State),
      Fetches s n m o →
      m.cls = 0 →
      (o.subop % 16 ≤ 12 ∧ o.subop < 64 ∧ (o.subop % 16 = 10 ∨ o.dst < 12)) →
      (o.subop % 16 = 0 ∨ s.mreg n o.srca = some a) →
      ((if o.subop / 16 = 0 then s.mreg n o.srcb else if o.subop / 16 = 1 then some (BitVec.ofNat 32 o.const)
          else if o.subop / 16 = 2 then some (BitVec.ofNat 32 m.imm) else some (BitVec.ofInt 32 (signed8 m.imm))) = some b) →
      (6 ≤ o.subop % 16 ∧ o.subop % 16 ≤ 8 → b.toNat < 32) →
      let op := o.subop % 16
      let less := if Config.minMaxSigned then a.slt b else a.ult b
      let r := [b, a + b, a - b, a &&& b, a ||| b, a ^^^ b, a <<< b.toNat, a >>> b.toNat, a.sshiftRight b.toNat, a * b, a - b,
        if less then a else b, if less then b else a].getD op 0
      let cv : Option (Bool × Bool) := if op = 1 then some (decide (2 ^ 32 ≤ a.toNat + b.toNat), decide ((a + b).toInt ≠ a.toInt + b.toInt))
        else if op = 2 ∨ op = 10 then some (decide (a.toNat < b.toNat) == Config.subCarry, decide ((a - b).toInt ≠ a.toInt - b.toInt)) else none
      let v : State := { running s n with fresh := s.fresh + if cv.isSome then 0 else 2 }
      let v := ((if op = 10 then v else v.setMreg n o.dst r).setFlag n 0 (r == 0)).setFlag n 1 r.msb
      let f := cv.getD (Config.freeBool s.fresh, Config.freeBool (s.fresh + 1))
      exec (.alu n) s = .next (s.close (((v.setFlag n 2 f.1).setFlag n 3 f.2).nextPc n)))
  -- ALU: a shift by 32 or more
  ∧ (∀ (n : Stn) (m : Micro) (o : Nano) (a b : Word) (s : State),
      Fetches s n m o →
      m.cls = 0 →
      (6 ≤ o.subop % 16 ∧ o.subop % 16 ≤ 8 ∧ o.subop < 64 ∧ o.dst < 12) →
      s.mreg n o.srca = some a →
      ((if o.subop / 16 = 0 then s.mreg n o.srcb else if o.subop / 16 = 1 then some (BitVec.ofNat 32 o.const)
          else if o.subop / 16 = 2 then some (BitVec.ofNat 32 m.imm) else some (BitVec.ofInt 32 (signed8 m.imm))) = some b) →
      32 ≤ b.toNat →
      let r := Config.freeWord s.fresh
      let v : State := { running s n with fresh := s.fresh + 3 }
      let v := ((v.setMreg n o.dst r).setFlag n 0 (r == 0)).setFlag n 1 r.msb
      exec (.alu n) s = .next (s.close (((v.setFlag n 2 (Config.freeBool (s.fresh + 1))).setFlag n 3 (Config.freeBool (s.fresh + 2))).nextPc n)))
  -- ALU of a reserved operation or register code
  ∧ (∀ (n : Stn) (m : Micro) (o : Nano) (s : State),
      Fetches s n m o →
      m.cls = 0 →
      (13 ≤ o.subop % 16 ∨ 64 ≤ o.subop ∨ (o.subop % 16 ≠ 10 ∧ 12 ≤ o.dst) ∨ (o.subop % 16 ≠ 0 ∧ 12 ≤ o.srca) ∨ (o.subop < 16 ∧ 12 ≤ o.srcb)) →
      exec (.alu n) s = .next (s.close (if (s.gaf n).inTrap then (running s n).gafferCheck n 1 0 0 (s.pc n)
          else ((running s n).trapCause n 2 (m.cls * 2 ^ 20 + m.nptr * 256 + m.imm)).nextPc n)))

/-- RD loads the station register at OFFSET × 4, plus 4 × SRCA where indexed, and WR writes it as the gaffer; an offset where no register lies,
or a write the register refuses, raises REGFAULT with the offset as INFO. MEM reads or writes the word at SRCA + CONST through the control
cache as the station's own, or raises MEMFAULT, with the line installed where the cache may hold it. LINK stalls while the loader holds AX;
else it sends IMM and the low 4 bits of SRCA and loads the loader's status, or sets T without a reply that passes its CRC-4. A word that
fails parity is a machine check of the station. -/
def Obligations.RegisterAndMemoryMicrowords : Prop :=
  -- RD
  (∀ (n : Stn) (m : Micro) (o : Nano) (off : Nat) (s : State),
      Fetches s n m o →
      m.cls = 1 →
      o.subop < 2 →
      o.dst < 12 →
      s.mOff n o = some off →
      (stnRow n off).isSome = true →
      ∀ r, stnRow n off = some r →
          exec (.rd n) s = .next (s.close (((running s n).setMreg n o.dst (s.reg (r.reg ((off - r.lo) / r.stride)))).nextPc n)))
  -- RD where no register lies
  ∧ (∀ (n : Stn) (m : Micro) (o : Nano) (off : Nat) (s : State),
      Fetches s n m o →
      m.cls = 1 →
      o.subop < 2 →
      o.dst < 12 →
      s.mOff n o = some off →
      (stnRow n off).isNone = true →
      (s.gaf n).inTrap = false →
      exec (.rd n) s = .next (s.close (((running s n).trapCause n 3 off).nextPc n)))
  -- WR
  ∧ (∀ (n : Stn) (m : Micro) (o : Nano) (x : Word) (off : Nat) (s : State),
      Fetches s n m o →
      m.cls = 2 →
      o.subop < 4 →
      ((if o.subop / 2 % 2 = 1 then some (BitVec.ofNat 32 o.const) else s.mreg n o.srca) = some x) →
      s.mOff n o = some off →
      (s.gaf n).inTrap = false →
      ((running s n).stnWrite n off x true).1.gaf n = (running s n).gaf n →
      let w := (running s n).stnWrite n off x true
      exec (.wr n) s = .next (s.close (if w.2 then (w.1.trapCause n 3 off).nextPc n else w.1.nextPc n)))
  -- MEM_LOAD
  ∧ (∀ (n : Stn) (m : Micro) (o : Nano) (a : Word) (s : State),
      Fetches s n m o →
      m.cls = 8 →
      o.subop = 0 →
      o.dst < 12 →
      s.mreg n o.srca = some a →
      s.memFault n (a.toNat + o.const) = false →
      let x := (running s n).cacheRead ((a.toNat + o.const) / 4 * 4) 4 n
      exec (.memLoad n) s = .next (s.close ((x.2.2.setMreg n o.dst (BitVec.ofNat 32 (leNat x.1))).nextPc n)))
  -- MEM_STORE
  ∧ (∀ (n : Stn) (m : Micro) (o : Nano) (a x : Word) (s : State),
      Fetches s n m o →
      m.cls = 8 →
      o.subop = 1 →
      s.mreg n o.srca = some a →
      s.mreg n o.srcb = some x →
      s.memFault n (a.toNat + o.const) = false →
      exec (.memStore n) s = .next (s.close
          (((running s n).cacheWrite ((a.toNat + o.const) / 4 * 4) n (leBytes 4 x.toNat)).nextPc n)))
  -- MEM_LOAD and MEM_STORE refused
  ∧ (∀ (n : Stn) (m : Micro) (o : Nano) (a x : Word) (s : State),
      Fetches s n m o →
      m.cls = 8 →
      o.subop < 2 →
      o.dst < 12 →
      s.mreg n o.srca = some a →
      s.mreg n o.srcb = some x →
      s.memFault n (a.toNat + o.const) = true →
      (s.gaf n).inTrap = false →
      let u := running s n
      let u := if u.cacheable (a.toNat + o.const) then (u.cacheGet ((a.toNat + o.const) / 64) n).2 else u
      exec (if o.subop = 0 then .memLoad n else .memStore n) s = .next (s.close ((u.trapCause n 4 ((a.toNat + o.const) % 2 ^ 32)).nextPc n)))
  -- LINK with a reply whose CRC-4 holds
  ∧ (∀ (n : Stn) (m : Micro) (o : Nano) (a : Word) (x : BitVec 12) (s : State),
      Fetches s n m o →
      m.cls = 9 →
      o.dst < 12 →
      s.mreg n o.srca = some a →
      (s.port n).axHeld = false →
      let v := ((running s n).axSend n m.imm (a.toNat % 16)).axReply n (axWord x.toNat)
      exec (.link n (some (BitVec.ofNat 16 (axWord x.toNat)))) s = .next (s.close ((v.setMreg n o.dst (x.setWidth 32)).nextPc n)))
  -- LINK without a reply, or with one whose CRC-4 fails
  ∧ (∀ (n : Stn) (m : Micro) (o : Nano) (a : Word) (r : Option (BitVec 16)) (s : State),
      Fetches s n m o →
      m.cls = 9 →
      o.dst < 12 →
      s.mreg n o.srca = some a →
      (s.port n).axHeld = false →
      (r.all (fun w => w.toNat % 16 != crc4 (w.toNat / 16)) = true) →
      exec (.link n r) s = .next (s.close
          ((((running s n).axSend n m.imm (a.toNat % 16)).setFlag n 4 true).nextPc n)))
  -- LINK while the loader holds the line: it stalls (R82)
  ∧ (∀ (n : Stn) (m : Micro) (o : Nano) (r : Option (BitVec 16)) (s : State),
      Fetches s n m o →
      m.cls = 9 →
      (s.port n).axHeld = true →
      exec (.link n r) s = .next (s.close s))
  -- A word of any microword command fails parity
  ∧ (∀ (n : Stn) (store addr : Nat) (c : Instr) (s : State),
      c ∈ [Instr.alu n, .rd n, .wr n, .br n, .jmp n, .call n, .ret n, .rtt n, .loop n, .wait n, .memLoad n, .memStore n, .link n none, .evt n, .trap n] →
      s.canRun n = true →
      s.fetch n = .bad store addr →
      let b := s.fld (SEQ_BANK n) SEQ_BANK_CUR
      exec c s = .next (s.close ((s.raise 6 [b, store, addr]).gafferCheck n 0 store b addr)))

/-- BR branches by the signed IMM after the next microword where the masked condition word equals CONST, and otherwise moves on; JMP goes to
TARGET; CALL pushes the next PC, RET pops it, and at a full stack CALL, and at an empty one RET, raises STACK; RTT in a trap routine
restores line 0 of the trap frame and leaves the trap state, and elsewhere raises STACK; LOOP decrements its counter modulo 65,536 and
branches while it is not 0; a JMP or RET of a reserved SUBOP and a LOOP of a register that is no loop counter raise ILLEGAL. Within a trap
routine each of these causes is a double fault. -/
def Obligations.FlowMicrowords : Prop :=
  -- BR
  (∀ (n : Stn) (m : Micro) (o : Nano) (s : State),
      Fetches s n m o →
      m.cls = 3 →
      exec (.br n) s = .next (s.close
          (if (s.condWord n &&& o.mask) = (o.const % 65536 &&& o.mask) then (running s n).setPc n (((s.pc n : Int) + 1 + signed8 m.imm) % 2 ^ 14).toNat
            else (running s n).setPc n (s.pc n + 1))))
  -- JMP
  ∧ (∀ (n : Stn) (m : Micro) (o : Nano) (s : State),
      Fetches s n m o →
      m.cls = 4 →
      o.subop = 0 →
      exec (.jmp n) s = .next (s.close ((running s n).setPc n o.target)))
  -- CALL
  ∧ (∀ (n : Stn) (m : Micro) (o : Nano) (s : State),
      Fetches s n m o →
      m.cls = 4 →
      o.subop = 1 →
      s.fld (SEQ_STAT n) SEQ_STAT_SP < 8 →
      let sp := s.fld (SEQ_STAT n) SEQ_STAT_SP
      let v := (running s n).setGaf n (fun g => { g with stack := g.stack.set sp ((s.pc n + 1) % 2 ^ 14) })
      exec (.call n) s = .next (s.close ((v.setFld (SEQ_STAT n) SEQ_STAT_SP (sp + 1)).setPc n o.target)))
  -- CALL with a full stack, RET with an empty one, RTT outside a trap routine; JMP, RET and LOOP that are illegal
  ∧ (∀ (n : Stn) (m : Micro) (o : Nano) (c : Instr) (k : Nat) (s : State),
      Fetches s n m o →
      ((k = 1 ∧ ((c = .call n ∧ m.cls = 4 ∧ o.subop = 1 ∧ 8 ≤ s.fld (SEQ_STAT n) SEQ_STAT_SP) ∨ (c = .ret n ∧ m.cls = 5 ∧ o.subop = 0 ∧ s.fld (SEQ_STAT n) SEQ_STAT_SP = 0)
            ∨ (c = .rtt n ∧ m.cls = 5 ∧ o.subop = 1 ∧ (s.gaf n).inTrap = false)))
          ∨ (k = 2 ∧ ((c = .jmp n ∧ m.cls = 4 ∧ 2 ≤ o.subop) ∨ (c = .ret n ∧ m.cls = 5 ∧ 2 ≤ o.subop) ∨ (c = .loop n ∧ m.cls = 6 ∧ (o.dst < 8 ∨ 12 ≤ o.dst))))) →
      exec c s = .next (s.close (if (s.gaf n).inTrap then (running s n).gafferCheck n 1 0 0 (s.pc n)
          else ((running s n).trapCause n k (if k = 1 then s.pc n else m.cls * 2 ^ 20 + m.nptr * 256 + m.imm)).setPc n (s.pc n + 1))))
  -- RET
  ∧ (∀ (n : Stn) (m : Micro) (o : Nano) (s : State),
      Fetches s n m o →
      m.cls = 5 →
      o.subop = 0 →
      0 < s.fld (SEQ_STAT n) SEQ_STAT_SP →
      let sp := s.fld (SEQ_STAT n) SEQ_STAT_SP
      exec (.ret n) s = .next (s.close (((running s n).setFld (SEQ_STAT n) SEQ_STAT_SP (sp - 1)).setPc n ((s.gaf n).stack.getD (sp - 1) 0))))
  -- RTT
  ∧ (∀ (n : Stn) (m : Micro) (o : Nano) (s : State),
      Fetches s n m o →
      m.cls = 5 →
      o.subop = 1 →
      (s.gaf n).inTrap = true →
      let v := (running s n).restore0 n ((running s n).readFrame n 0)
      exec (.rtt n) s = .next (s.close ((v.setGaf n (fun g => { g with inTrap := false, afterRtt := true })).setFld (SEQ_STAT n) SEQ_STAT_STATE 1)))
  -- LOOP
  ∧ (∀ (n : Stn) (m : Micro) (o : Nano) (s : State),
      Fetches s n m o →
      m.cls = 6 →
      (8 ≤ o.dst ∧ o.dst < 12) →
      let k := ((s.gaf n).lc.getD (o.dst - 8) 0 + 65535) % 65536
      let v := (running s n).setGaf n (fun g => { g with lc := g.lc.set (o.dst - 8) k })
      exec (.loop n) s = .next (s.close (if k = 0 then v.setPc n (s.pc n + 1) else v.setPc n (((s.pc n : Int) + 1 + signed8 m.imm) % 2 ^ 14).toNat)))

/-- WAIT clears T and moves on at once where its condition holds, and otherwise stalls with its time limit; a satisfied wait moves on, a timed-
out one sets T and moves on. TMR arms the micro-timer TMO × TSCALE ahead, disarms it or loads the trap mask; its expiry raises cause TIMER;
TRAP raises SOFT with IMM. A taken trap is the lowest takeable cause: line 0 of the trap frame is written with the PC, cause and INFO, LAST
and COUNT show it, and the routine at 16 × cause is entered in state TRAP. -/
def Obligations.WaitsTimersAndTraps : Prop :=
  -- WAIT: satisfied at once
  (∀ (n : Stn) (m : Micro) (o : Nano) (s : State),
      Fetches s n m o →
      m.cls = 7 →
      ((atWait s n).setFlag n 4 false).condHolds n o = true →
      exec (.wait n) s = .next (s.close (((atWait s n).setFlag n 4 false).endWait n)))
  -- WAIT: it stalls
  ∧ (∀ (n : Stn) (m : Micro) (o : Nano) (s : State),
      Fetches s n m o →
      m.cls = 7 →
      ((atWait s n).setFlag n 4 false).condHolds n o = false →
      (s.gaf n).waitLeft = none →
      let limit : Option Nat := if o.tmo = 0 then none else some (s.now + tmoUs o)
      exec (.wait n) s = .next (s.close ((((atWait s n).setFlag n 4 false).setGaf n (fun g => { g with wait := some limit, waitLeft := if g.inTrap then g.waitLeft else none })).setFld
        (SEQ_STAT n) SEQ_STAT_STATE 3)))
  -- WAIT_SATISFIED
  ∧ (∀ (n : Stn) (o : Nano) (s : State),
      s.waiting n = some o →
      s.condHolds n o = true →
      exec (.waitSatisfied n) s = .next (s.close (s.endWait n)))
  -- WAIT_TIMEOUT
  ∧ (∀ (n : Stn) (o : Nano) (t : Nat) (s : State),
      s.waiting n = some o →
      (s.gaf n).wait = some (some t) →
      s.condHolds n o = false →
      exec (.waitTimeout n) s = .next (s.close ((s.setFlag n 4 true).endWait n)))
  -- TMR_ARM
  ∧ (∀ (n : Stn) (m : Micro) (o : Nano) (s : State),
      Fetches s n m o →
      m.cls = 13 →
      o.subop = 0 →
      exec (.tmrArm n) s = .next (s.close (((running s n).setGaf n (fun g => { g with timer := some (s.now + tmoUs o) })).nextPc n)))
  -- TMR_DISARM
  ∧ (∀ (n : Stn) (m : Micro) (o : Nano) (s : State),
      Fetches s n m o →
      m.cls = 13 →
      o.subop = 1 →
      exec (.tmrDisarm n) s = .next (s.close (((running s n).setGaf n (fun g => { g with timer := none })).nextPc n)))
  -- TMR_MASK
  ∧ (∀ (n : Stn) (m : Micro) (o : Nano) (s : State),
      Fetches s n m o →
      m.cls = 13 →
      o.subop = 2 →
      exec (.tmrMask n) s = .next (s.close (((running s n).setGaf n (fun g => { g with mask := o.mask })).nextPc n)))
  -- TRAP
  ∧ (∀ (n : Stn) (m : Micro) (o : Nano) (s : State),
      Fetches s n m o →
      m.cls = 14 →
      (s.gaf n).inTrap = false →
      exec (.trap n) s = .next (s.close (((running s n).trapCause n 15 m.imm).nextPc n)))
  -- MICRO_TIMER_EXPIRY
  ∧ (∀ (n : Stn) (t : Nat) (s : State),
      (s.gaf n).timer = some t →
      exec (.microTimerExpiry n) s = .next (s.close ((s.setGaf n (fun g => { g with timer := none })).trapCause n 14 0)))
  -- TRAP_TAKEN from a running microprogram
  ∧ (∀ (n : Stn) (c : Nat) (s : State),
      s.bit (TASK_STATUS n) TASK_STATUS_BUSY = true →
      s.fatal n = false →
      s.fld (SEQ_STAT n) SEQ_STAT_STATE = 1 →
      (s.gaf n).wait = none →
      ((List.range 16).find? (fun i => (s.takeable n).testBit i) = some c) →
      let info := SMap.getD (s.gaf n).info 0 c
      let v := (s.writeFrame n 0 (s.frame0 n (s.pc n) c info)).clearCause n c
      let v := v.setGaf n (fun g => { g with inTrap := true, afterRtt := false, wait := none, waitLeft := (s.gaf n).waitLeft, info := SMap.del c g.info })
      let v := (v.setFld (SEQ_TRAP n) SEQ_TRAP_LAST c).bump (SEQ_TRAP n) SEQ_TRAP_COUNT 1
      exec (.trapTaken n) s = .next (s.close ((v.setFld (SEQ_STAT n) SEQ_STAT_STATE 2).setPc n (16 * c))))

/-- BAND starts a band write of the parison of M1 at M0, a band pass at M0 for the requests and band of the handles M1 and M2 with the flags of
M3, a capture of M1 epochs at M0, or, in a TEST_WRITE step whose preconditions hold, a test write at M0 within the test range of the layer;
TASK END ends the task with the status that IMM names and puts IMM in RESULT, after what that status means for the band of a BAND_WRITE (log
entry 203), TASK STEP shows IMM, TASK SUSPEND puts the task aside with its PC behind the microword; EVT raises the station event at offset
IMM. Each but END and SUSPEND moves on. -/
def Obligations.BandTaskAndEventMicrowords : Prop :=
  -- BAND_START_WRITE
  (∀ (n : Stn) (m : Micro) (o : Nano) (p : Parison) (s : State),
      Fetches s n m o →
      m.cls = 10 →
      o.subop = 0 →
      (s.ledger.parisons.find? (fun p => p.id == s.m n 1) = some p) →
      s.bw? n = none →
      exec (.bandStartWrite n) s = .next (s.close (((running s n).startBand n (s.m n 0) p 0).nextPc n)))
  -- BAND_START_WRITE naming no parison
  ∧ (∀ (n : Stn) (m : Micro) (o : Nano) (s : State),
      Fetches s n m o →
      m.cls = 10 →
      o.subop = 0 →
      (s.ledger.parisons.find? (fun p => p.id == s.m n 1) = none) →
      exec (.bandStartWrite n) s = .next (s.close ((running s n).nextPc n)))
  -- BAND_START_PASS
  ∧ (∀ (n : Stn) (m : Micro) (o : Nano) (s : State),
      Fetches s n m o →
      m.cls = 10 →
      o.subop = 1 →
      exec (.bandStartPass n) s = .next (s.close (((running s n).startPass n (s.m n 0) (s.m n 1) (s.m n 2) (s.m n 3)).nextPc n)))
  -- BAND_START_CAPTURE
  ∧ (∀ (n : Stn) (m : Micro) (o : Nano) (s : State),
      Fetches s n m o →
      m.cls = 10 →
      o.subop = 2 →
      exec (.bandStartCapture n) s = .next (s.close (((running s n).startCapture n (s.m n 0) (s.m n 1) ((s.m n 2).testBit 0)).nextPc n)))
  -- BAND_TEST_WRITE of a TEST_WRITE step whose preconditions hold
  ∧ (∀ (n : Stn) (m : Micro) (o : Nano) (v : State) (s : State),
      Fetches s n m o →
      m.cls = 10 →
      o.subop = 3 →
      (running s n).testRange n (s.m n 0) = false →
      s.inTask n .calStep = true →
      (s.reg (TASK_ARG n 0)).toNat = 0x14 →
      (running s n).testPlace n (s.m n 0) = some v →
      exec (.bandTestWrite n) s = .next (s.close ((v.testWrite n (s.m n 0) (s.m n 1)).nextPc n)))
  -- BAND_TEST_WRITE otherwise writes nothing
  ∧ (∀ (n : Stn) (m : Micro) (o : Nano) (s : State),
      Fetches s n m o →
      m.cls = 10 →
      o.subop = 3 →
      (s.inTask n .calStep = false ∨ (s.reg (TASK_ARG n 0)).toNat ≠ 0x14) →
      exec (.bandTestWrite n) s = .next (s.close ((running s n).nextPc n)))
  -- TASK_END
  ∧ (∀ (n : Stn) (m : Micro) (o : Nano) (s : State),
      Fetches s n m o →
      m.cls = 11 →
      o.subop = 0 →
      exec (.taskEnd n) s = .next (s.close (((running s n).endHand n (codeStatus m.imm)).setFld (TASK_STATUS n) TASK_STATUS_RESULT m.imm)))
  -- TASK_END of any task but a BAND_WRITE: the task ends, and no parison is touched
  ∧ (∀ (n : Stn) (st : Status) (s : State),
      s.inTask n .bandWrite = false →
      s.endHand n st = s.endTask n st)
  -- TASK_END of a BAND_WRITE: a failure ends the band, another status reaches its WRITEs, and the task ends unless its band's end has ended it
  ∧ (∀ (n : Stn) (st : Status) (b : BandWrite) (s : State),
      s.inTask n .bandWrite = true →
      s.bw? n = some b →
      let u := if isFailure st then s.abandon n st else (s.cmdsIn b.par.id).foldl (fun (u : State) i => u.note i st) s
      s.endHand n st = if (u.inHand? n).map (·.id) = (s.inHand? n).map (·.id) then u.endTask n st else u)
  -- TASK_STEP
  ∧ (∀ (n : Stn) (m : Micro) (o : Nano) (s : State),
      Fetches s n m o →
      m.cls = 11 →
      o.subop = 1 →
      exec (.taskStep n) s = .next (s.close (((running s n).setFld (TASK_STATUS n) TASK_STATUS_STEP (m.imm % 16)).nextPc n)))
  -- TASK_SUSPEND outside a band pass
  ∧ (∀ (n : Stn) (m : Micro) (o : Nano) (s : State),
      Fetches s n m o →
      m.cls = 11 →
      o.subop = 2 →
      s.bit (TASK_STATUS n) TASK_STATUS_SUSP = false →
      (s.rd n).pass = none →
      exec (.taskSuspend n) s = .next (s.close ((running s n).suspend n ((s.pc n + 1) % 2 ^ 14) [])))
  -- EVT
  ∧ (∀ (n : Stn) (m : Micro) (o : Nano) (s : State),
      Fetches s n m o →
      m.cls = 12 →
      m.imm < 24 →
      exec (.evt n) s = .next (s.close (((running s n).raiseStn n m.imm []).nextPc n)))

/-- LOAD closes the tray, locks a cartridge that is present, sets out for its first wobble address and, at the identity record's band, takes the
first copy of the record that passes, writes it at ARG0 and ends with OK, or with MEDIUM_READ_ERROR; PARK stops the spindle, opens the
optical loops, brings the sled to SLD_PMIN and ends when all rest; STOW and RETIRE then unlock and open the loader and run station BIST, and
RETIRE refuses further tasks; SEEK ends at its location, SPIN when the spindle stands as commanded; a layer jump is recovered twice; a
loader fault, a time limit or a lost way ends the task with STATION_UNAVAILABLE, and a failure of the loader is told to the commands that
the task serves. The steps of a way are the model's choice (log entry 198), as are the loader's limits without a rule (log entry 199). -/
def Obligations.StationTasks : Prop :=
  -- LOAD begins: the tray is to close
  (∀ (n : Stn) (frames : List Bytes) (s : State),
      s.inTask n .load = true →
      s.way n = none →
      (s.station (toStn n)).loader = none →
      exec (.load n frames) s = .next (s.close
          ((s.setStn (toStn n) (fun t => { t with loader := some (2, s.now), port.axNew := false })).axSend n 2 0)))
  -- LOAD: the tray is closed with a cartridge in it, which is locked next, or without one
  ∧ (∀ (n : Stn) (frames : List Bytes) (since : Nat) (s : State),
      s.inTask n .load = true →
      s.way n = none →
      (s.station (toStn n)).loader = some (2, since) →
      s.loaderStands n 2 since = some true →
      let v := match s.inHand? n with | some t => t.cmds | none => []
      exec (.load n frames) s = .next (s.close (if (s.fld (STN_AXSTAT n) STN_AXSTAT_STATUS).testBit 1 then
          (s.setStn (toStn n) (fun t => { t with loader := some (4, s.now), port.axNew := false })).axSend n 4 0
        else (v.foldl (fun (u : State) i => u.noteAt i 0 3 .stationUnavailable) (s.raiseStn n 3 [])).endTask n .stationUnavailable)))
  -- LOAD: the cartridge is locked: the head sets out for its first wobble address
  ∧ (∀ (n : Stn) (frames : List Bytes) (since : Nat) (s : State),
      s.inTask n .load = true →
      s.way n = none →
      (s.station (toStn n)).loader = some (4, since) →
      s.loaderStands n 4 since = some true →
      exec (.load n frames) s = .next (s.close ((s.setOut n 0 true).goOn n 12)))
  -- LOAD: a fault of the loader or its time limit
  ∧ (∀ (n : Stn) (frames : List Bytes) (c since : Nat) (s : State),
      s.inTask n .load = true →
      s.way n = none →
      (s.station (toStn n)).loader = some (c, since) →
      s.loaderStands n c since = some false →
      let v := match s.inHand? n with | some t => t.cmds | none => []
      exec (.load n frames) s = .next (s.close
        ((v.foldl (fun (u : State) i => u.noteAt i 0 3 .stationUnavailable) (s.raiseStn n 3 [])).endTask n .stationUnavailable)))
  -- LOAD: the head is at the identity record's band, and a copy of the record passes
  ∧ (∀ (n : Stn) (frames : List Bytes) (w : Way) (r : Bytes) (s : State),
      s.inTask n .load = true →
      s.way n = some w →
      w.step = .there →
      w.first = false →
      leadRecord frames = some r →
      let v := s.setStn (toStn n) (fun t => { t with loaded := true, ident := r.take 32 })
      let a := (s.reg (TASK_ARG n 0)).toNat + 2 ^ 32 * (s.reg (TASK_ARG n 1)).toNat
      exec (.load n frames) s = .next (s.close (if identityOk r then (v.memWrite a (r.take 32)).endTask n .ok else v.endTask n .mediumReadError)))
  -- LOAD: no copy of the record passes
  ∧ (∀ (n : Stn) (frames : List Bytes) (w : Way) (s : State),
      s.inTask n .load = true →
      s.way n = some w →
      w.step = .there →
      w.first = false →
      leadRecord frames = none →
      exec (.load n frames) s = .next (s.close
          ((s.setStn (toStn n) (fun t => { t with loaded := true, ident := [] })).endTask n .mediumReadError)))
  -- LOAD, SEEK: a way that is lost fails the task
  ∧ (∀ (n : Stn) (frames : List Bytes) (w : Way) (s : State) (c : Instr),
      ((c = .load n frames ∧ s.inTask n .load = true) ∨ (c = .seek n ∧ s.inTask n .seek = true ∧ w.loc = (s.reg (TASK_ARG n 0)).toNat ∧ w.first = false)) →
      s.way n = some w →
      w.step = .lost →
      exec c s = .next (s.close (s.endTask n .stationUnavailable)))
  -- The way: a layer jump that has failed is recovered twice by acquiring focus again, then the way is lost (R246)
  ∧ (∀ (n : Stn) (w : Way) (s : State),
      w.step = .jumping →
      (s.fld (SV_JUMP n) SV_JUMP_STATUS ≠ 1 ∧ s.fld (SV_JUMP n) SV_JUMP_STATUS ≠ 2) →
      s.wayPoll n w = (if w.again < 2 then (s.acquire n (some (s.loop n 0).y)).wayNext n { w with again := w.again + 1 } .focus
          else s.wayNext n w .lost))
  -- The way sets out: SPD by the curve, SLOPE 8,192 and DEMAND the zone's outer radius (R130, R137)
  ∧ (∀ (n : Stn) (loc : Nat) (s : State),
      (s.station (toStn n)).slotRun = none →
      ((s.setStn (toStn n) (fun t => { t with slotSpeed := none })).atPlace n loc = false) →
      let v := (s.setStn (toStn n) (fun t => { t with slotSpeed := none })).setSpindle n (fun p => { p with zone := some (locZone loc) })
      let v := ((v.setFld (LP_SP n 4) LP_SP_SLOPE 8192).writeSrc n 0 true).1
      let v := (v.writeDemand n ((zoneROut (locZone loc) + 500) / 1000) true).1
      ∃ w, s.setOut n loc false = ((v.showValid n).checkWrite n).wayNext n w .spin ∧ w.loc = loc ∧ w.first = false)
  -- PARK
  ∧ (∀ (n : Stn) (s : State),
      s.inTask n .park = true →
      let v := s.parkHead n
      exec (.park n) s = .next (s.close (if v.2 = true then v.1.endTask n .ok else v.1)))
  -- PARK: the head parks when spindle, sled and loops have come to rest
  ∧ (∀ (n : Stn) (w : Way) (s : State),
      s.way n = some w →
      s.sledRests n = true →
      s.fldInt (SLD_POS n) SLD_POS_POS = s.fldInt (SLD_PMIN n) SLD_PMIN_PMIN →
      s.spinState n = 0 →
      s.parkHead n = ((s.writeSldCtl n 0 false false).1.checkWrite n, true))
  -- PARK begins: DEMAND 0, the optical loops and SLD OFF, the sled sent to SLD_PMIN
  ∧ (∀ (n : Stn) (s : State),
      s.way n = none →
      let v := [0, 1, 2, 3, 7].foldl (fun (s : State) L => s.forceMode n L 0) (s.writeDemand n 0 true).1
      let v := (if (v.sled n).v = 0 then v else (v.writeSldCtl n 1 true false).1).wayNext n ⟨0, false, .homing, 0, 0, false, 0⟩ .homing
      let r := v.fldInt (SLD_PMIN n) SLD_PMIN_PMIN
      s.parkHead n = (if v.sledRests n = false then (v, false)
        else if v.fldInt (SLD_POS n) SLD_POS_POS ≠ r then (v.sendSled n r, false)
        else if v.spinState n ≠ 0 then (v, false)
        else ((v.writeSldCtl n 0 false false).1.checkWrite n, true)))
  -- STOW and RETIRE: the head parks, then the cartridge is unlocked
  ∧ (∀ (n : Stn) (bist : List BistFind) (s : State) (c : Instr),
      ((c = .stow n bist ∧ s.inTask n .stow = true) ∨ (c = .retire n bist ∧ s.inTask n .retire = true)) →
      (s.station (toStn n)).loader = none →
      let v := s.parkHead n
      exec c s = .next (s.close (if v.2 = true then
        (v.1.setStn (toStn n) (fun t => { t with loader := some (5, v.1.now), port.axNew := false })).axSend n 5 0 else v.1)))
  -- STOW and RETIRE: unlocked, the tray is opened
  ∧ (∀ (n : Stn) (bist : List BistFind) (since : Nat) (s : State) (c : Instr),
      ((c = .stow n bist ∧ s.inTask n .stow = true) ∨ (c = .retire n bist ∧ s.inTask n .retire = true)) →
      (s.station (toStn n)).loader = some (5, since) →
      s.loaderStands n 5 since = some true →
      exec c s = .next (s.close ((s.setStn (toStn n) (fun t => { t with loader := some (3, s.now), port.axNew := false })).axSend n 3 0)))
  -- STOW: open
  ∧ (∀ (n : Stn) (bist : List BistFind) (since : Nat) (s : State),
      s.inTask n .stow = true →
      (s.station (toStn n)).loader = some (3, since) →
      s.loaderStands n 3 since = some true →
      let v := (s.setStn (toStn n) (fun t => { t with loaded := false, ident := [] })).discAbsent n
      exec (.stow n bist) s = .next (s.close ((v.stationBist n bist).endTask n .ok)))
  -- RETIRE: open
  ∧ (∀ (n : Stn) (bist : List BistFind) (since : Nat) (s : State),
      s.inTask n .retire = true →
      (s.station (toStn n)).loader = some (3, since) →
      s.loaderStands n 3 since = some true →
      let v := (s.setStn (toStn n) (fun t => { t with loaded := false, ident := [] })).discAbsent n
      let v := (v.stationBist n bist).setStn (toStn n) (fun t => { t with retired := true })
      exec (.retire n bist) s = .next (s.close ((v.endTask n .ok).failQueued n .stationUnavailable)))
  -- STOW and RETIRE: the loader fails
  ∧ (∀ (n : Stn) (bist : List BistFind) (k since : Nat) (s : State) (c : Instr),
      ((c = .stow n bist ∧ s.inTask n .stow = true) ∨ (c = .retire n bist ∧ s.inTask n .retire = true)) →
      (s.station (toStn n)).loader = some (k, since) →
      s.loaderStands n k since = some false →
      let v := match s.inHand? n with | some t => t.cmds | none => []
      exec c s = .next (s.close ((v.foldl (fun (u : State) i => u.noteAt i 0 3 .stationUnavailable) (s.raiseStn n 3 [])).endTask n .stationUnavailable)))
  -- SEEK: the head is there
  ∧ (∀ (n : Stn) (w : Way) (s : State),
      s.inTask n .seek = true →
      s.way n = some w →
      w.loc = (s.reg (TASK_ARG n 0)).toNat →
      w.first = false →
      w.step = .there →
      exec (.seek n) s = .next (s.close (s.endTask n .ok)))
  -- SPIN: the demand is written, and the task ends when the spindle stands as commanded
  ∧ (∀ (n : Stn) (s : State),
      s.inTask n .spin = true →
      s.way n = none →
      let v := (s.writeDemand n ((s.reg (TASK_ARG n 0)).toNat % 65536) true).1.wayNext n ⟨0, false, .spin, 0, 0, false, 0⟩ .spin
      exec (.spin n) s = .next (s.close (if v.inTask n .spin = true ∧ v.spinState n = (if (v.spin n).on then 4 else 0) then v.endTask n .ok else v)))
  -- SPIN: later, likewise
  ∧ (∀ (n : Stn) (w : Way) (s : State),
      s.inTask n .spin = true →
      s.way n = some w →
      (s.spinState n = (if (s.spin n).on then 4 else 0)) →
      exec (.spin n) s = .next (s.close (s.endTask n .ok)))

/-- Each sets out for its location; with it reached, BAND_WRITE takes its parison there and waits for slot 0, BAND_READ begins a band pass, and
CAPTURE begins its capture; where the way is lost the parison goes back and the task ends with STATION_UNAVAILABLE, and a read or capture
ends as its own rule has it. A BAND_WRITE naming no parison ends with INVALID_FIELD (the model's choice, log entry 58). A station's
calibration step measures, or takes its findings. -/
def Obligations.BandAndCalibrationTasks : Prop :=
  -- BAND_WRITE: the head is there
  (∀ (n : Stn) (p : Parison) (w : Way) (s : State),
      s.inTask n .bandWrite = true →
      s.bw? n = none →
      (s.ledger.parisons.find? (fun p => p.id == (s.reg (TASK_ARG n 1)).toNat) = some p) →
      s.way n = some w →
      w.loc = (s.reg (TASK_ARG n 0)).toNat →
      w.first = false →
      w.step = .there →
      s.startTime n 2 3 ≤ s.stamp →
      (s.station (toStn n)).slotRun = none →
      exec (.bandWrite n) s = .next (s.close (s.startBand n (s.reg (TASK_ARG n 0)).toNat p 0)))
  -- BAND_WRITE: the way is lost, and the parison goes back
  ∧ (∀ (n : Stn) (p : Parison) (w : Way) (s : State),
      s.inTask n .bandWrite = true →
      s.bw? n = none →
      (s.ledger.parisons.find? (fun p => p.id == (s.reg (TASK_ARG n 1)).toNat) = some p) →
      s.way n = some w →
      w.loc = (s.reg (TASK_ARG n 0)).toNat →
      w.first = false →
      w.step = .lost →
      exec (.bandWrite n) s = .next (s.close ((s.returnParison p).endTask n .stationUnavailable)))
  -- BAND_WRITE naming no parison
  ∧ (∀ (n : Stn) (s : State),
      s.inTask n .bandWrite = true →
      s.bw? n = none →
      (s.ledger.parisons.find? (fun p => p.id == (s.reg (TASK_ARG n 1)).toNat) = none) →
      exec (.bandWrite n) s = .next (s.close (s.endTask n .invalidField)))
  -- BAND_READ: the head is there, or its way is lost
  ∧ (∀ (n : Stn) (w : Way) (s : State),
      s.inTask n .bandRead = true →
      s.way n = some w →
      w.loc = (s.reg (TASK_ARG n 0)).toNat →
      w.first = false →
      (w.step = .there ∨ w.step = .lost) →
      (s.station (toStn n)).slotRun = none →
      exec (.bandRead n) s = .next (s.close (s.bandRead n (w.step == .there))))
  -- CAPTURE: the head is there, or its way is lost
  ∧ (∀ (n : Stn) (w : Way) (s : State),
      s.inTask n .capture = true →
      (s.rd n).cap = none →
      s.way n = some w →
      w.loc = (s.reg (TASK_ARG n 0)).toNat →
      w.first = false →
      (w.step = .there ∨ w.step = .lost) →
      exec (.capture n) s = .next (s.close (s.captureStart n (w.step == .there))))
  -- BAND_WRITE, BAND_READ and CAPTURE begin by setting out for their location (R130)
  ∧ (∀ (n : Stn) (s : State),
      s.way n = none →
      ∀ loc, let v := (s.setOut n loc false).goOn n 12
        (s.approach n loc).1 = v ∧ (s.approach n loc).2 = (match v.way n with
          | some w => if w.step = .there then some true else if w.step = .lost then some false else none
          | none => none))
  -- CAL_STEP: measuring, then its findings
  ∧ (∀ (n : Stn) (m : CalMeas) (s : State),
      s.inTask n .calStep = true →
      ((s.reg (TASK_ARG n 0)).toNat ≠ stepLiveOn ∧ (s.reg (TASK_ARG n 0)).toNat ≠ stepLiveOff) →
      exec (.calStep n none) s = .next (s.close (s.setCal n (fun c => { c with measuring := true })))
          ∧ exec (.calStep n (some m)) s = .next (s.close (s.stnStep n m)))
  -- CAL_STEP of LIVE_ON or LIVE_OFF
  ∧ (∀ (n : Stn) (m : Option CalMeas) (s : State),
      s.inTask n .calStep = true →
      ((s.reg (TASK_ARG n 0)).toNat = stepLiveOn ∨ (s.reg (TASK_ARG n 0)).toNat = stepLiveOff) →
      exec (.calStep n m) s = .next (s.close
          ((s.setLive n (decide ((s.reg (TASK_ARG n 0)).toNat = stepLiveOn))).stnStepEnd n 0 0xFF [])))

/-- The streams run through a slot once. A frame for which an attempt converges and passes its checks counts under its class, joins the frames
that the pass holds, shows in FLOCK, fixes its lead stream's reference point and refines the neighbour coefficients; any other clears its
bits, leaves its summed LLRs and no reference point. Without a predicted point a frame fails; a lead stream predicts from its last frame,
else behind the wobble sync of the frame. Once all results of a pass are known outer recovery runs: its frames count as class 3, and the
read ends when nothing requested is missing or no ladder step is left; else a ladder step reads the failed positions again with its change
of offset and a fresh zone table. -/
def Obligations.FrameResults : Prop :=
  -- FRAME_DECODE: an attempt yields a class, or the frame fails
  (∀ (n : Stn) (t : Fin 72) (k : Fin 8) (p : Pass) (s : State),
      (s.rd n).pass = some p →
      (p.phase = 0 ∧ p.left.contains (t.val, k.val) = true) →
      let u := s.lookSlot n p t
      let mask : Nat := 2 ^ k.val + (if s.singleLook n then 0 else 2 ^ (k.val + 8))
      let q : Pass := { p with left := p.left.filter (fun x => x != (t.val, k.val)) }
      let fl := u.fld (RC_STAT n) RC_STAT_FLOCK
      let shown (f : Nat) : State := (u.setFld (RC_STAT n) RC_STAT_FLOCK f).setBit (RC_STAT n) RC_STAT_SL (s.singleLook n)
      let old := p.soft.find? (fun (x : SoftRes) => x.slot == t.val && x.spiral == k.val)
      let lost := shown (fl &&& (65535 - mask))
      let best := bestAttempt (lost.attempts n q t k)
      let x : SoftRes := ⟨t, k, (match old with | some o => o.passes + 1 | none => 1), (if u.single n k then 1 else 0) + 2,
        (match best with | some b => b.1 | none => 0), (match best with | some b => b.2.synd | none => 0),
        (match best with | some b => b.2.soft | none => p.sums t k)⟩
      let v := match u.decodeFrame n q t k with
        | some (c, o, a) =>
          let w := shown (fl ||| mask)
          (((w.refineNeighbours n q t k o).setStream n k (fun x => { x with ref := (w.look n k).pred.map (fun i => (t.val, i + o)) })).bump
            (RC_CNT n c) RC_CNT_COUNT 1).setRd n (fun r => { r with
            pass := some { q with got := p.got ++ [(⟨t, k, c, some a.info, u.single n k, p.step, a.raw⟩ : FrameRes)] } })
        | none => (lost.setStream n k (fun x => { x with ref := none })).setRd n (fun r => { r with
            pass := some { q with soft := p.soft.filter (fun (x : SoftRes) => !(x.slot == t.val && x.spiral == k.val)) ++ [x] } })
      exec (.frameDecode n t k) s = .next (s.close ((v.passKnown n).preemptPoint n)))
  -- The streams run through a slot once, the lead ones first (R156)
  ∧ (∀ (n : Stn) (p : Pass) (t : Nat) (s : State),
      (s.rd n).lookSlot = some t →
      s.lookSlot n p t = s)
  -- FRAME_DECODE: without a predicted point, or without an attempt that converges and passes its checks, the frame fails (R165, R167)
  ∧ (∀ (n : Stn) (t : Fin 72) (k : Fin 8) (p : Pass) (s : State),
      ((s.look n k).pred = none ∨ ∀ x ∈ s.attempts n p t k, x.2.conv = false ∨ p.checks t k x.2.info = false) →
      s.decodeFrame n p t k = none)
  -- A stream's prediction (R165): the frame after its reference point, else behind a wobble sync
  ∧ (∀ (n : Stn) (q : Fin 8) (t u : Nat) (r : Int) (s : State),
      (s.stream n q).ref = some (u, r) →
      s.predict n q t none = (if u + 1 = t then some (s.stream n q, r + 40144)
          else (SMap.get? (s.rd n).syncs (8 * t + q)).map (fun c => (s.stream n q).towards (c + 288 * 16))))
  -- OUTER_RECOVERY: the read ends
  ∧ (∀ (n : Stn) (p : Pass) (s : State),
      (s.rd n).pass = some p →
      p.phase = 1 →
      ({ p with got := p.got ++ (p.recover).map (fun f => { f with single := s.singleLook n }), phase := 2 : Pass }.missing = [] ∨ p.steps ≤ p.step) →
      let fs := (p.recover).map (fun f => { f with single := s.singleLook n })
      let v := (s.bump (RC_CNT n 3) RC_CNT_COUNT fs.length).setBit (RC_STAT n) RC_STAT_OUTER false
      exec (.outerRecovery n) s = .next (s.close (v.endPass n { p with got := p.got ++ fs, phase := 2 })))
  -- OUTER_RECOVERY: a ladder step is due
  ∧ (∀ (n : Stn) (p : Pass) (s : State),
      (s.rd n).pass = some p →
      p.phase = 1 →
      ({ p with got := p.got ++ (p.recover).map (fun f => { f with single := s.singleLook n }), phase := 2 : Pass }.missing ≠ []) →
      p.step < p.steps →
      let fs := (p.recover).map (fun f => { f with single := s.singleLook n })
      let v := (s.bump (RC_CNT n 3) RC_CNT_COUNT fs.length).setBit (RC_STAT n) RC_STAT_OUTER false
      exec (.outerRecovery n) s = .next (s.close (v.setRd n (fun r => { r with pass := some { p with got := p.got ++ fs, phase := 2 } }))))
  -- LADDER_PASS
  ∧ (∀ (n : Stn) (p : Pass) (s : State),
      (s.rd n).pass = some p →
      p.phase = 2 →
      let k := p.step + 1
      let L := if k ≤ 4 then 0 else 1
      let d : Int := if k = 3 then s.fld (RC_RETRY n) RC_RETRY_FOFS else if k = 4 then -(s.fld (RC_RETRY n) RC_RETRY_FOFS : Int)
        else if k = 5 then s.fld (RC_RETRY n) RC_RETRY_TOFS else if k = 6 then -(s.fld (RC_RETRY n) RC_RETRY_TOFS : Int) else 0
      let base := s.fldInt (LP_SP n L) LP_SP_TARGET
      let v := if 3 ≤ k ∧ k ≤ 6 then (s.setFldInt (LP_SP n L) LP_SP_TARGET (satS 16 (base + 32 * d))).setBit (LP_STAT n L) LP_STAT_RAMPING
          ((s.loop n L).r != satS 16 (satS 16 (base + 32 * d)) * 2 ^ 8) else s
      let p' : Pass := { p with
        step := k, phase := 0, ztab := s.ztabReg n, zvalid := s.bit (RC_ZTAB_LO n) RC_ZTAB_LO_VALID,
        moved := if 3 ≤ k ∧ k ≤ 6 then some (L, base) else none, left := p.positions.filter (fun x => (p.at? x.1 x.2).isNone) }
      let v := v.setRd n (fun r => { r.fresh with pass := some p' })
      exec (.ladderPass n) s = .next (s.close ((v.setFld (RC_STAT n) RC_STAT_STEP k).setBit (RC_STAT n) RC_STAT_SL
        ((v.setFld (RC_STAT n) RC_STAT_STEP k).singleLook n))))

/-- A capture that is to stop, or whose command is over, ends at the next epoch boundary. An epoch whose lanes are not up is dropped with cause
1, one that cannot leave at once and finds no room in the capture ring with cause 0: a run of dropped epochs with one cause is one gap,
whose record goes to the gap list once an epoch is kept or another cause follows. The others give their samples and a 16-byte index entry,
which go to the host at once or by way of the ring; a translation is asked for a place that has none. The capture's last epoch ends its
task. The ring drains in order when the link takes it, and the bytes of poisoned lines leave with the mark. Which epoch is captured, when
samples go at once and in what order the ring drains are readings of log entry 55. -/
def Obligations.CaptureEpochs : Prop :=
  -- a capture that is to stop, or whose command is over
  (∀ (n : Stn) (accept : Bool) (c : Capture) (s : State),
      (s.rd n).cap = some c →
      (c.stop.isSome = true ∨ (match s.cmd? c.cmd with | some x => x.ended | none => c.cmd != 2 ^ 64) = true) →
      exec (.captureEpoch n accept) s = .next (s.close
          (if s.inTask n .capture then s.endTask n .ok else s.setRd n (fun r => { r with cap := none }))))
  -- an epoch that is dropped: with cause 1 where a lane is not up, with cause 0 where the capture ring has no room
  ∧ (∀ (n : Stn) (accept : Bool) (c : Capture) (why : Nat) (s : State),
      (s.rd n).cap = some c →
      (c.stop = none ∧ (match s.cmd? c.cmd with | some x => x.ended | none => c.cmd != 2 ^ 64) = false) →
      (let E := epochSize c.compand
        let lost := s.lane n (s.servoLane n) ≠ 2 ∨ (s.fld (STN_STAT n) STN_STAT_MAP = 0 ∧ s.lane n (1 - s.servoLane n) ≠ 2) ∨ s.capEpoch n = none
        let direct := accept = true ∧ s.work.ring = [] ∧ (match s.cmd? c.cmd with
          | some x => x.outBytes.isEmpty && (areaPieces x.segsIn (c.k * E) E).all (fun g => s.holds x.fn (s.cmdPasid x) (g.1 / 4096) && s.holds x.fn (s.cmdPasid x) ((g.1 + g.2 - 1) / 4096))
          | none => true) = true
        (lost ∧ why = 1) ∨ (¬ lost ∧ ¬ direct ∧ (s.region 2).2 < s.ringUsed + E ∧ why = 0)) →
      let v := match s.cmd? c.cmd with | some x => s.askPlace x (areaPieces x.segsIn (c.k * epochSize c.compand) (epochSize c.compand)) | none => s
      let same := match c.gap with | some g => decide (g.2.2 = why) | none => false
      let v' := if same then (v, c.gaps) else v.closeGap c
      let gap := match c.gap with | some g => if same then (g.1, g.2.1 + 1, why) else (c.k, 1, why) | none => (c.k, 1, why)
      let u := v'.1.setRd n (fun r => { r with cap := r.cap.map (fun (c' : Capture) => { c' with gap := some gap, gaps := v'.2, dropped := c'.dropped + 1, k := c'.k + 1 }) })
      let u := match (u.rd n).cap with | some c => if c.epochs ≤ c.k then u.captureOver n else u | none => u
      exec (.captureEpoch n accept) s = .next (s.close (u.preemptPoint n)))
  -- an epoch of a command: the link takes it at once, or it goes by way of the ring (R24)
  ∧ (∀ (n : Stn) (accept direct : Bool) (c : Capture) (x : Cmd) (a : PastEpoch) (s : State),
      (s.rd n).cap = some c →
      (s.cmd? c.cmd = some x ∧ x.ended = false ∧ c.stop = none) →
      (s.lane n (s.servoLane n) = 2 ∧ (s.fld (STN_STAT n) STN_STAT_MAP ≠ 0 ∨ s.lane n (1 - s.servoLane n) = 2)) →
      s.capEpoch n = some a →
      (direct = (accept && s.work.ring.isEmpty && x.outBytes.isEmpty && (areaPieces x.segsIn (c.k * epochSize c.compand) (epochSize c.compand)).all (fun g =>
          s.holds x.fn (s.cmdPasid x) (g.1 / 4096) && s.holds x.fn (s.cmdPasid x) ((g.1 + g.2 - 1) / 4096)))) →
      (direct = true ∨ s.ringUsed + epochSize c.compand ≤ (s.region 2).2) →
      let segs := areaPieces x.segsIn (c.k * epochSize c.compand) (epochSize c.compand)
      let u := (s.askPlace x segs).closeGap c
      let at' := cap x.caps 40 8 + 16 * c.k
      let v := if direct then (u.1.capOut c.cmd segs (u.1.capData n c a)).capOut c.cmd [(at', 16)] (u.1.capIndex n c a)
        else u.1.ringIn c.cmd segs (u.1.capData n c a) at' (u.1.capIndex n c a)
      let v := v.setRd n (fun r => { r with cap := r.cap.map (fun (c' : Capture) => { c' with gap := none, gaps := u.2, k := c'.k + 1 }) })
      let v := if accept then v.pump c.cmd else v
      let v := match (v.rd n).cap with | some c => if c.epochs ≤ c.k then v.captureOver n else v | none => v
      exec (.captureEpoch n accept) s = .next (s.close (v.preemptPoint n)))
  -- an epoch in the ring: its bytes behind those that wait, with its place in the host, and its index entry
  ∧ (∀ (id : Nat) (segs : List (Nat × Nat)) (bs idx : Bytes) (idxAt : Nat) (s : State),
      let v := s.ringPut s.work.ringAt bs
      s.ringIn id segs bs idxAt idx = { v with
        work.ring := v.work.ring ++ [⟨id, s.work.ringAt, bs.length, segs, idxAt, idx⟩],
        work.ringAt := (s.work.ringAt + bs.length) % max 1 (v.region 2).2 })
  -- the end of a gap: its record goes to the gap list, if the list has room (R191)
  ∧ (∀ (c : Capture) (k m why : Nat) (x : Cmd) (s : State),
      c.gap = some (k, m, why) →
      s.cmd? c.cmd = some x →
      s.closeGap c = (if cap x.caps 56 4 < 16 * (c.gaps + 1) then s else s.capOut c.cmd [(cap x.caps 48 8 + 16 * c.gaps, 16)]
          (leBytes 4 k ++ leBytes 4 m ++ leBytes 1 why ++ zeros 7), c.gaps + 1))
  -- an epoch of a capture that software alone runs: its samples go nowhere, and its last epoch ends it
  ∧ (∀ (n : Stn) (accept : Bool) (c : Capture) (a : PastEpoch) (s : State),
      (s.rd n).cap = some c →
      (c.cmd = 2 ^ 64 ∧ s.cmd? (2 ^ 64) = none ∧ c.stop = none) →
      (s.lane n (s.servoLane n) = 2 ∧ (s.fld (STN_STAT n) STN_STAT_MAP ≠ 0 ∨ s.lane n (1 - s.servoLane n) = 2)) →
      s.capEpoch n = some a →
      ((accept = true ∧ s.work.ring = []) ∨ s.ringUsed + epochSize c.compand ≤ (s.region 2).2) →
      let v := s.setRd n (fun r => { r with cap := some { c with gap := none, gaps := (s.closeGap c).2, k := c.k + 1 } })
      let v := if accept then v.pump (2 ^ 64) else v
      exec (.captureEpoch n accept) s = .next (s.close
        ((match (v.rd n).cap with | some c => if c.epochs ≤ c.k then v.captureOver n else v | none => v).preemptPoint n)))
  -- CAPTURE_DRAIN: what waits longest in the ring leaves it, with the mark of the lines that carry the poison mark
  ∧ (∀ (id : Nat) (c : Cmd) (e : RingEntry) (rest : List RingEntry) (s : State),
      s.cmd? id = some c →
      (capOPC c.caps = 0x18 ∧ c.phase = 2 ∧ c.ended = false ∧ c.outBytes = []) →
      s.work.ring = e :: rest →
      e.cmd = id →
      let bad := s.mem.poison.filterMap (fun l =>
        let o := (64 * l - (s.region 2).1 + (s.region 2).2 - e.at') % max 1 (s.region 2).2
        if (s.region 2).1 ≤ 64 * l ∧ 64 * l < (s.region 2).1 + (s.region 2).2 ∧ o < e.len then some (c.off + o, 64) else none)
      let v : State := { s with work.ring := rest }
      let v := if bad.isEmpty then v else v.markPoison id bad
      let v := (v.capOut id e.segs (s.ringGet e.at' e.len)).capOut id [(e.idxAt, 16)] e.idx
      exec (.captureDrain id) s = .next (s.close
        ((if rest.any (fun x => x.cmd == id) || v.capturesFor id then v else v.setCmd id (fun c => { c with outDone := true })).pump id)))
  -- CAPTURE_DRAIN: bytes that the command gave out before leave first
  ∧ (∀ (id : Nat) (c : Cmd) (s : State),
      s.cmd? id = some c →
      (capOPC c.caps = 0x18 ∧ c.phase = 2 ∧ c.ended = false ∧ c.outBytes ≠ []) →
      exec (.captureDrain id) s = .next (s.close (s.pump id)))
  -- CAPTURE_DRAIN of a command that gives out no capture, or whose bytes are not the next of the ring
  ∧ (∀ (id : Nat) (s : State),
      ((match s.cmd? id with
          | none => true
          | some c => capOPC c.caps != 0x18 || c.phase != 2 || c.ended || (c.outBytes.isEmpty && (s.work.ring.head?.map (·.cmd)) != some id)) = true) →
      exec (.captureDrain id) s = .next (s.close s))

/-- When slot 0 of a band arrives with every precondition holding the band takes its number and writes; otherwise it waits, the wait counts with
its cause, and the band begins at the first passage at which the preconditions hold. Each later slot up to 70 is written, with the frames
read ahead of it judged; a slot that passes in a hold is only read ahead of; after slot 71 write power goes off and the band settles. A
frozen seal record is signed once the seal engine is done. A parity index has been rebuilt, or is refused. In planned mode a slot that the
station has taken up starts at its start time: a read slot reads from its starting frame position on, a write slot shows its place, sends
its set and begins its band. It is skipped with its event where its place is not reached, its time cannot be told or its first revolution
has passed, and so is a slot that the station has not taken up by then: none runs late. Before its time nothing happens. When a slot is
taken up, and that such a slot is skipped, are the model's readings (log entries 200 and 67). -/
def Obligations.BandAndPlanSlots : Prop :=
  -- SLOT_START: the band begins
  (∀ (n : Stn) (first : Nat) (refused : List (Nat × Nat)) (b : BandWrite) (s : State),
      s.bw? n = some b →
      (b.seq = none ∧ b.waitSince = none ∧ s.freshLoc n = s) →
      (s.tooHot = false ∧ s.preOk n = true) →
      exec (.slotStart n first refused) s = .next (s.close (s.beginBand n first refused)))
  -- SLOT_START: the preconditions do not hold, so the band waits
  ∧ (∀ (n : Stn) (first : Nat) (refused : List (Nat × Nat)) (b : BandWrite) (s : State),
      s.bw? n = some b →
      (b.seq = none ∧ b.waitSince = none ∧ s.freshLoc n = s) →
      (s.tooHot = false ∧ s.preOk n = false) →
      let v := s.setBw n (fun b => { b with waitSince := some s.now })
      let c := (v.failing n).headD 0
      exec (.slotStart n first refused) s = .next (s.close
        ((((v.bump (WR_HOLD n) WR_HOLD_COUNT 1).setFld (WR_HOLD n) WR_HOLD_CAUSE c).setFld (WR_HOLD n) WR_HOLD_HPT 127).raiseStn n 13 [c])))
  -- BAND_POSITION_PASSAGE: a waiting band begins
  ∧ (∀ (n : Stn) (first : Nat) (refused : List (Nat × Nat)) (b : BandWrite) (s : State),
      s.bw? n = some b →
      (b.seq = none ∧ b.waitSince.isSome = true ∧ s.freshLoc n = s) →
      (s.tooHot = false ∧ s.preOk n = true) →
      exec (.bandPositionPassage n first refused) s = .next (s.close (s.beginBand n first refused)))
  -- SLOT_START: a slot of a band that has begun
  ∧ (∀ (n : Stn) (first : Nat) (refused : List (Nat × Nat)) (b : BandWrite) (s : State),
      s.bw? n = some b →
      (b.seq.isSome = true ∧ b.hold = none) →
      b.slot < 71 →
      exec (.slotStart n first refused) s = .next (s.close ((s.writeSlot n first).refuse n (readBound b.slot) refused)))
  -- SLOT_START: a slot that passes in a hold is only read ahead of (R195, R218)
  ∧ (∀ (n : Stn) (first : Nat) (refused : List (Nat × Nat)) (b : BandWrite) (h : Hold) (c : Nat) (s : State),
      s.bw? n = some b →
      (b.seq.isSome = true ∧ b.hold = some h ∧ h.cut = some c) →
      exec (.slotStart n first refused) s = .next (s.close (s.refuse n (readBound (resumeSlot c h.long - 1)) refused)))
  -- Frames that are read and refused (R208, R209, R211)
  ∧ (∀ (n : Stn) (bound : Nat) (refused : List (Nat × Nat)) (b : BandWrite) (s : State),
      s.bw? n = some b →
      s.refuse n bound refused = (((List.range bound).drop b.readTo).foldl
          (fun (v : State) t => v.refuseSlot n t ((List.range 8).filter (fun k => refused.contains (t, k)))) s).setBw n (fun b => { b with readTo := max b.readTo bound }))
  -- Data frames of a slot that are refused: counted, their commands fail, and the band closes early before the slot (R208)
  ∧ (∀ (n : Stn) (t : Nat) (ks : List Nat) (b : BandWrite) (s : State),
      s.bw? n = some b →
      (b.skipped.contains t = false ∧ t ≤ 63) →
      (ks.map (homeIndex t)).filter b.has ≠ [] →
      let ds := (ks.map (homeIndex t)).filter b.has
      let v := (ds.filterMap (fun d => b.par.blocks[d]?)).foldl (fun (v : State) x =>
        ((v.moveBlock x.cmd x.vba .dropped).noteAt x.cmd (b.seq.getD 0) 0 .dataPoisoned).failWrite x.cmd .dataPoisoned) (s.bump (WR_CNT n 4) WR_CNT_COUNT ds.length)
      s.refuseSlot n t ks = (v.setBw n (fun b => { b with lost := b.lost ++ ds })).closeEarly n (8 * t) [])
  -- SLOT_START: slot 71
  ∧ (∀ (n : Stn) (first : Nat) (refused : List (Nat × Nat)) (b : BandWrite) (s : State),
      s.bw? n = some b →
      (b.seq.isSome = true ∧ b.hold = none) →
      b.slot = 71 →
      exec (.slotStart n first refused) s = .next (s.close (((s.powerOff n).setBw n (fun b => { b with slot := 72 })).settleBand n)))
  -- SEAL_SIGNED
  ∧ (∀ (n : Stn) (b : BandWrite) (s : State),
      s.bw? n = some b →
      (b.frozen.isSome = true ∧ b.signed = none) →
      exec (.sealSigned n) s = .next (s.close (s.setBw n (fun x => { x with signed := some s.now }))))
  -- PARITY_REBUILD_DONE
  ∧ (∀ (n : Stn) (j : Fin 32) (b : BandWrite) (s : State),
      s.bw? n = some b →
      b.rebuilding.contains j.val = true →
      exec (.parityRebuildDone n j true) s = .next (s.close (s.setBw n (fun b => { b with rebuilding := b.rebuilding.filter (fun k => k != j.val) })))
          ∧ exec (.parityRebuildDone n j false) s = .next (s.close
            ((s.setBw n (fun b => { b with rebuilding := b.rebuilding.filter (fun k => k != j.val), noParity := b.noParity ++ [j.val] })).bump (WR_CNT n 4)
              WR_CNT_COUNT 1)))
  -- before the start time
  ∧ (∀ (n : Stn) (p : PlanSlot) (rest : List PlanSlot) (s : State),
      ((s.station (toStn n)).planned = true ∧ s.fatal n = false ∧ (s.station (toStn n)).slotRun = none) →
      (s.station (toStn n)).plan = p :: rest →
      (p.start ≠ 0 ∧ s.stamp < p.start ∧ s.bit CLK_STAT CLK_STAT_UNSET = false) →
      exec (.planSlotStart n) s = .next (s.close s))
  -- a read slot that the station has taken up is due, its place reached: it begins, or waits for its starting frame position
  ∧ (∀ (n : Stn) (p : PlanSlot) (v s : State),
      ((s.station (toStn n)).planned = true ∧ s.fatal n = false ∧ (s.station (toStn n)).slotRun = some p ∧ (s.station (toStn n)).slotOn = false) →
      (p.start = 0 ∨ (p.start ≤ s.stamp ∧ v.bit CLK_STAT CLK_STAT_UNSET = false ∧ v.stamp ≤ p.start + 120000000 / max 1 p.speed)) →
      s.approach n (s.reg (TASK_ARG n 0)).toNat = (v, some true) →
      p.read = true →
      exec (.planSlotStart n) s = .next (s.close ((v.setStn (toStn n) (fun t => { t with slotDue := true })).readSlotBegins n p)))
  -- a read slot that is due reads once the wobble address names its band and its starting frame position, and waits until then
  ∧ (∀ (n : Stn) (p : PlanSlot) (s : State),
      (s.station (toStn n)).slotDue = true →
      (p.start = 0 ∨ s.stamp ≤ p.start + 120000000 / max 1 p.speed) →
      s.readSlotBegins n p = (if (s.rd n).wobble.any (fun a => wobbleLayer a == locLayer p.loc && wobbleZone a == locZone p.loc && wobbleBpos a == locBpos p.loc
            && wobbleFpos a == p.loc / 16 % 128) then (s.setStn (toStn n) (fun t => { t with slotOn := true, slotDue := false, slotSince := s.now })).bandRead n true
          else s))
  -- a read slot that is due is skipped once its first revolution after the start time has passed
  ∧ (∀ (n : Stn) (p : PlanSlot) (s : State),
      (s.station (toStn n)).slotDue = true →
      (p.start ≠ 0 ∧ p.start + 120000000 / max 1 p.speed < s.stamp) →
      s.readSlotBegins n p = s.dropSlot n true)
  -- a write slot that the station has taken up starts, its place reached and the preconditions met
  ∧ (∀ (n : Stn) (p : PlanSlot) (t : Task) (q : Parison) (v s : State),
      ((s.station (toStn n)).planned = true ∧ s.fatal n = false ∧ (s.station (toStn n)).slotRun = some p ∧ (s.station (toStn n)).slotOn = false) →
      (p.start = 0 ∨ (p.start ≤ s.stamp ∧ v.bit CLK_STAT CLK_STAT_UNSET = false ∧ v.stamp ≤ p.start + 120000000 / max 1 p.speed)) →
      s.approach n (s.reg (TASK_ARG n 0)).toNat = (v, some true) →
      p.read = false →
      ((v.slotSet n p).inHand? n = some t ∧ (v.slotSet n p).taskParison t = some q) →
      (((v.slotSet n p).preBitsAt n (p.loc / 2048 * 2048) (fun x => x.1 == p.stab)).all id = true ∧ (v.slotSet n p).tooHot = false) →
      exec (.planSlotStart n) s = .next (s.close
          (((v.slotSet n p).setStn (toStn n) (fun t => { t with slotOn := true, slotSince := (v.slotSet n p).now })).startBand n (p.loc / 2048 * 2048) q p.stab)))
  -- a slot that the station has taken up is skipped: its place is not reached, the clock is unset, or it would run late
  ∧ (∀ (n : Stn) (p : PlanSlot) (v s : State) (r : Option Bool),
      ((s.station (toStn n)).planned = true ∧ s.fatal n = false ∧ (s.station (toStn n)).slotRun = some p ∧ (s.station (toStn n)).slotOn = false) →
      (p.start = 0 ∨ p.start ≤ s.stamp ∨ s.bit CLK_STAT CLK_STAT_UNSET = true) →
      s.approach n (s.reg (TASK_ARG n 0)).toNat = (v, r) →
      (r ≠ some true ∨ (p.start ≠ 0 ∧ (v.bit CLK_STAT CLK_STAT_UNSET = true ∨ p.start + 120000000 / max 1 p.speed < v.stamp))) →
      exec (.planSlotStart n) s = .next (s.close (v.dropSlot n true)))
  -- a slot that the station has not taken up is skipped, never run late
  ∧ (∀ (n : Stn) (p : PlanSlot) (rest : List PlanSlot) (s : State),
      ((s.station (toStn n)).planned = true ∧ s.fatal n = false ∧ (s.station (toStn n)).slotRun = none) →
      (s.station (toStn n)).plan = p :: rest →
      (p.start = 0 ∨ p.start ≤ s.stamp ∨ s.bit CLK_STAT CLK_STAT_UNSET = true) →
      exec (.planSlotStart n) s = .next (s.close ((s.setStn (toStn n) (fun t => { t with plan := rest })).skipSlot n)))

/-- A written frame is read on its trail stream at the point where bit 288 was meant to land, WR_LAT.LAG later: it fails without a sync mark,
without convergence in 6 inner iterations, with more than 900 raw errors or where it differs from what was written. WR_CNT0 or WR_CNT1
counts it, and a passing frame's offset joins the mean of R219. A passing data frame or copy is verified. A failing data frame of slots 0 to
58 takes the first free spare of its spiral; with none the band closes early three slots later, and the block is unplaced with those that
leave, in the order of their indices; from slot 59 on the block is unplaced, as is that of a failing copy. A passing seal part counts. Then
the band settles. -/
def Obligations.VerifiedFrames : Prop :=
  -- VERIFY_RESULT: no sync mark found in the window, or no convergence within 6 inner iterations, is a failure (R203)
  (∀ (n : Stn) (t : Fin 72) (k : Fin 8) (b : BandWrite) (s : State),
      s.bw? n = some b →
      let v := s.verifyLook n b t k
      let none' : List (Option (Int × Nat)) := List.replicate 39780 none
      let zero : List Int := List.replicate 39780 0
      let a (o : Int) : Attempt := ((newTrack none' (v.2.field o) (0, 0) (0, 0) []).iterate 6 zero zero).result
      let wrote := (b.wrote.find? (fun x => x.1 == (t.val, k.val))).map (·.2)
      exec (.verifyResult n t k) s = .next (s.close (match v.2.found with
        | none => v.1.verified n t k false 0 false 0
        | some o =>
          let same := (a o).conv && wrote == some (a o).info
          (v.1.noteErrors n t k b (a o).conv (a o).raw same).verified n t k (a o).conv (a o).raw same (64 * o))))
  -- VERIFY_RESULT: the predicted point is where bit 288 was meant to land, LAG later (R203)
  ∧ (∀ (n : Stn) (t : Fin 72) (k : Fin 8) (b : BandWrite) (c : Nat) (s : State),
      (b.starts.find? (fun e => e.1 == t.val) = some (t.val, c)) →
      s.verifyLook n b t k = s.lookAt n (locLayer b.loc) (locZone b.loc) (k.val + 8) t 0
          (some ((s.stream n (k.val + 8)).towards (s.instant n (16 * (c + 288 + s.fld (WR_LAT n) WR_LAT_LAG))))) none)
  -- a data frame that passes
  ∧ (∀ (n : Stn) (t : Fin 72) (k : Fin 8) (raw : Nat) (off : Int) (b : BandWrite) (s : State),
      s.bw? n = some b →
      b.awaited.contains (t.val, k.val) = true →
      (raw ≤ 900 ∧ t.val ≤ 63 ∧ b.has (homeIndex t k) = true) →
      let v := s.setBw n (fun b => { b with awaited := b.awaited.filter (fun x => x != (t.val, k.val)) })
      let v := (v.bump (WR_CNT n 0) WR_CNT_COUNT 1).setBw n (fun b => { b with offSum := b.offSum + off, offCnt := b.offCnt + 1 })
      s.verified n t k true raw true off = (
        ((v.setBw n (fun b => { b with verified := b.verified ++ [homeIndex t k] })).settleBand n)))
  -- a data frame that fails, with a spare free
  ∧ (∀ (n : Stn) (t : Fin 72) (k : Fin 8) (conv : Bool) (raw : Nat) (equal : Bool) (off : Int) (b : BandWrite) (z : Nat) (s : State),
      s.bw? n = some b →
      b.awaited.contains (t.val, k.val) = true →
      (conv = false ∨ 900 < raw ∨ equal = false) →
      (t.val ≤ 58 ∧ b.has (homeIndex t k) = true) →
      b.freeSpare k = some z →
      let v := s.setBw n (fun b => { b with awaited := b.awaited.filter (fun x => x != (t.val, k.val)) })
      let v := (v.bump (WR_CNT n 1) WR_CNT_COUNT 1).bump (WR_CNT n 2) WR_CNT_COUNT 1
      let v := ((v.setBw n (fun b => { b with spares := b.spares ++ [⟨homeIndex t k, t, k, z, false⟩] })).showSpares n).refreeze n
      s.verified n t k conv raw equal off = ( (v.settleBand n)))
  -- a data frame that fails, with no spare free
  ∧ (∀ (n : Stn) (t : Fin 72) (k : Fin 8) (conv : Bool) (raw : Nat) (equal : Bool) (off : Int) (b : BandWrite) (s : State),
      s.bw? n = some b →
      b.awaited.contains (t.val, k.val) = true →
      (conv = false ∨ 900 < raw ∨ equal = false) →
      (t.val ≤ 63 ∧ b.has (homeIndex t k) = true) →
      (t.val ≤ 58 → b.freeSpare k = none) →
      let b' : BandWrite := { b with awaited := b.awaited.filter (fun x => x != (t.val, k.val)) }
      let v := s.setBw n (fun b => { b with awaited := b.awaited.filter (fun x => x != (t.val, k.val)) })
      let v := (v.bump (WR_CNT n 1) WR_CNT_COUNT 1).setBw n (fun b => { b with lost := b.lost ++ [homeIndex t k] })
      let v := if t.val ≤ 58 then v.closeEarly n (8 * (t.val + 3)) [homeIndex t k] else v.unplaceIdx n b' 0 [homeIndex t k] [homeIndex t k]
      s.verified n t k conv raw equal off = v.settleBand n)
  -- a copy in a spare slot
  ∧ (∀ (n : Stn) (t : Fin 72) (k : Fin 8) (pass : Bool) (b : BandWrite) (c : Spare) (s : State),
      s.bw? n = some b →
      b.awaited.contains (t.val, k.val) = true →
      (t.val = 68 ∨ t.val = 69) →
      (b.copies.find? (fun x => x.spare == t.val && x.spiral == k.val) = some c) →
      let v := s.setBw n (fun b => { b with awaited := b.awaited.filter (fun x => x != (t.val, k.val)) })
      let v := v.bump (WR_CNT n (if pass then 0 else 1)) WR_CNT_COUNT 1
      let v := if pass then (v.setBw n (fun b => { b with offSum := b.offSum + 0, offCnt := b.offCnt + 1 })).setBw n (fun b => { b with verified := b.verified ++ [c.d] })
        else (v.setBw n (fun b => { b with lost := b.lost ++ [c.d] })).unplaceIdx n b 0 [c.d] [c.d]
      s.verified n t k pass 0 true 0 = ( (v.settleBand n)))
  -- a seal part that passes
  ∧ (∀ (n : Stn) (t : Fin 72) (k : Fin 8) (raw : Nat) (off : Int) (b : BandWrite) (s : State),
      s.bw? n = some b →
      b.awaited.contains (t.val, k.val) = true →
      (raw ≤ 900 ∧ 70 ≤ t.val) →
      let v := s.setBw n (fun b => { b with awaited := b.awaited.filter (fun x => x != (t.val, k.val)) })
      let v := (v.bump (WR_CNT n 0) WR_CNT_COUNT 1).setBw n (fun b => { b with offSum := b.offSum + off, offCnt := b.offCnt + 1 })
      s.verified n t k true raw true off = (
        ((v.setBw n (fun b => { b with sealOk := b.sealOk ++ [k.val] })).settleBand n)))

/-- The hold point is fixed when write power goes off, at the end of the frame or at once: HPT shows the last slot written, a first hold skips
the slots after it, a second one before slot 63 counts as long and a later one abandons the band; the strategy set is sent again and the
head stepped back. The adjustments, once complete, freeze the record again, or first where the hold passes over slot 60. A hold of 500 ms
closes the band early before its cut, up to slot 62. A recovered, adjusted hold resumes its band at its slot. A hold or a wait that reaches
HTMO abandons the band. That a second hold counts as long, what HPT shows at cut 0 and how a step back shows are the model's readings (log
entries 41, 40 and 175). -/
def Obligations.TheWriteHold : Prop :=
  -- HOLD_POINT_FIXED: the first hold: power goes off at the end of the frame, and the head is stepped back
  (∀ (n : Stn) (b : BandWrite) (h : Hold) (s : State),
      s.bw? n = some b →
      (b.hold = some h ∧ h.cut = none) →
      (b.slot ≠ 71 ∧ b.holds = 1) →
      let v := (s.powerOff n).setBw n (fun b => { b with hold := b.hold.map (fun h => { h with cut := some b.slot }) })
      let v := v.setFld (WR_HOLD n) WR_HOLD_HPT ((b.slot + 127) % 128)
      exec (.holdPointFixed n) s = .next (s.close (((v.skipSlots n b.slot).resendSet n).stepBack n)))
  -- HOLD_POINT_FIXED: a second hold before slot 63 counts as long
  ∧ (∀ (n : Stn) (b : BandWrite) (h : Hold) (s : State),
      s.bw? n = some b →
      (b.hold = some h ∧ h.cut = none) →
      (b.slot < 63 ∧ 2 ≤ b.holds) →
      let v := (s.powerOff n).setBw n (fun b => { b with hold := b.hold.map (fun h => { h with cut := some b.slot }) })
      let v := v.setFld (WR_HOLD n) WR_HOLD_HPT ((b.slot + 127) % 128)
      exec (.holdPointFixed n) s = .next (s.close (((v.longHold n b.slot).resendSet n).stepBack n)))
  -- HOLD_POINT_FIXED: a second hold from slot 63 on abandons the band
  ∧ (∀ (n : Stn) (b : BandWrite) (h : Hold) (s : State),
      s.bw? n = some b →
      (b.hold = some h ∧ h.cut = none) →
      (63 ≤ b.slot ∧ b.slot ≠ 71 ∧ 2 ≤ b.holds) →
      let v := (s.powerOff n).setBw n (fun b => { b with hold := b.hold.map (fun h => { h with cut := some b.slot }) })
      exec (.holdPointFixed n) s = .next (s.close ((v.setFld (WR_HOLD n) WR_HOLD_HPT ((b.slot + 127) % 128)).abandon n .writeHeldTimeout)))
  -- HOLD_POINT_FIXED: the last slot was being written, so the band settles
  ∧ (∀ (n : Stn) (b : BandWrite) (h : Hold) (s : State),
      s.bw? n = some b →
      (b.hold = some h ∧ h.cut = none) →
      b.slot = 71 →
      let v := ((s.powerOff n).setFld (WR_HOLD n) WR_HOLD_HPT 70).setBit (WR_STAT n) WR_STAT_HOLD false
      exec (.holdPointFixed n) s = .next (s.close ((v.setBw n (fun b => { b with hold := none, slot := 72 })).settleBand n)))
  -- Power that goes off at once loses the slot being written (R81, R218)
  ∧ (∀ (n : Stn) (b : BandWrite) (h : Hold) (s : State),
      s.bw? n = some b →
      (b.hold = some h ∧ h.cut = none) →
      b.slot ≠ 71 →
      s.fixHold n true = ((s.powerOffNow n).setBw n (fun b => { b with awaited := b.awaited.filter (fun f => f.1 != b.slot - 1) })).holdPoint n (b.slot - 1))
  -- HOLD_ADJUST_DONE
  ∧ (∀ (n : Stn) (b : BandWrite) (h : Hold) (s : State),
      s.bw? n = some b →
      (b.hold = some h ∧ h.cut.isSome = true ∧ h.adjusted = false) →
      let v := s.setBw n (fun b => { b with hold := b.hold.map (fun h => { h with adjusted := true }) })
      exec (.holdAdjustDone n) s = .next (s.close (if b.frozen.isSome = true ∨ 60 < h.resumeAt then v.freeze n else v)))
  -- LONG_HOLD
  ∧ (∀ (n : Stn) (b : BandWrite) (h : Hold) (c : Nat) (s : State),
      s.bw? n = some b →
      (b.hold = some h ∧ h.cut = some c ∧ h.recovered = false ∧ h.long = false) →
      exec (.longHold n) s = .next (s.close (if c ≤ 62 then s.longHold n c
          else ((s.setBit (WR_HOLD n) WR_HOLD_LONG true).trapCause n 11 2).setBw n (fun b => { b with hold := b.hold.map (fun h => { h with long := true }) }))))
  -- BAND_POSITION_PASSAGE: the held band resumes
  ∧ (∀ (n : Stn) (first : Nat) (refused : List (Nat × Nat)) (b c : BandWrite) (h : Hold) (s : State),
      s.bw? n = some b →
      (b.seq.isSome = true ∧ b.hold = some h ∧ h.cut.isSome = true ∧ h.recovered = true ∧ h.adjusted = true) →
      (s.refuse n (readBound (h.resumeAt - 1)) refused).bw? n = some c →
      freezeOk (s.refuse n (readBound (h.resumeAt - 1)) refused).now h.resumeAt c.frozen = true →
      let v := s.refuse n (readBound (h.resumeAt - 1)) refused
      let w := v.setBw n (fun b => { b with
        hold := none, slot := h.resumeAt,
        sealReady := if h.resumeAt = 70 then (match b.signed with | some t => decide (t * 100 + 10036 ≤ v.now * 100) | none => false) else b.sealReady })
      exec (.bandPositionPassage n first refused) s = .next (s.close ((w.writeSlot n first).refuse n (readBound h.resumeAt) refused)))
  -- BAND_POSITION_PASSAGE: a hold that has not recovered steps the head back (log entry 175)
  ∧ (∀ (n : Stn) (first : Nat) (refused : List (Nat × Nat)) (b : BandWrite) (h : Hold) (s : State),
      s.bw? n = some b →
      (b.seq.isSome = true ∧ b.hold = some h ∧ h.cut.isSome = true ∧ h.recovered = false) →
      exec (.bandPositionPassage n first refused) s = .next (s.close ((s.refuse n (readBound (h.resumeAt - 1)) refused).stepBack n)))
  -- HOLD_TIMEOUT
  ∧ (∀ (n : Stn) (b : BandWrite) (s : State),
      s.bw? n = some b →
      ((b.hold.isSome = true ∧ b.hold.all (fun h => !h.recovered) = true) ∨ (b.waitSince.isSome = true ∧ b.seq = none)) →
      exec (.holdTimeout n) s = .next (s.close (s.abandon n .writeHeldTimeout)))

/-- In a linking gap of a pass or a begun write of a station with live calibration on, each stream whose mean of y is more than 1 from -24 moves
its live delta one code within -32 to 32, and the words that change go into the shadow set. A shadow set comes into force with its TRIM
blocks and COMMIT, and the power stage's corrections with it, at any epoch outside a pass and a band write; in a pass only in the linking
gap or at preamble positions 80 to 239. The direction of a move is the model's reading (log entry 68). The budget of a station's measuring
step running out ends the step with outcome TIMEOUT and no item; that of the running device-wide step ends it with TIMEOUT and clears
CAL_STAT.BUSY; with no such step nothing happens. That one device-wide step runs at a time is the model's reading (log entry 76). -/
def Obligations.LiveCalibrationAndTimeouts : Prop :=
  -- LIVE_CAL_GAP
  (∀ (n : Stn) (ys : Vector (List Int) 16) (s : State),
      ((s.fld CAL_CTL CAL_CTL_LIVE).testBit n = true ∧ s.inTask n .calStep = false) →
      ((s.rd n).pass.isSome = true ∨ (s.bw? n).any (fun b => b.seq.isSome) = true) →
      let step (q : Nat) (d : Int) : Int :=
        let l := ys.toList.getD q []
        let e := (l.map (fun y => y + 24 * 2 ^ 20)).sum
        let one : Int := l.length * 2 ^ 20
        if one < e then clampI (-32) 32 (d + 1) else if e < -one then clampI (-32) 32 (d - 1) else d
      exec (.liveCalGap n ys) s = .next (s.close
        ((s.setCal n (fun c => { c with live := (List.range 16).map (fun q => step q (c.live.getD q 0)) })).shadowStn n)))
  -- LIVE_CAL_GAP does nothing else
  ∧ (∀ (n : Stn) (ys : Vector (List Int) 16) (s : State),
      ((s.fld CAL_CTL CAL_CTL_LIVE).testBit n = false ∨ s.inTask n .calStep = true ∨ ((s.rd n).pass = none ∧ s.bw? n = none)) →
      exec (.liveCalGap n ys) s = .next (s.close s))
  -- TRIM_SET_COMMIT
  ∧ (∀ (n : Stn) (lead : BitVec 22) (new : SMap Int) (s : State),
      (s.scal n).shadow = some new →
      (((s.rd n).pass = none ∧ s.bw? n = none) ∨ 71 * 40144 ≤ lead.toNat ∨ (80 ≤ lead.toNat % 40144 ∧ lead.toNat % 40144 < 240)) →
      let hf := new.filter (fun e => e.1 < 0x100)
      let v := hf.foldl (fun (s : State) e => s.clPut n false (clBlock 0xC7 [(e.1, 12), ((e.2 % 1024).toNat, 10)])) s
      let v := if hf.isEmpty then v else v.clPut n false (clBlock 0xC7 [(0xFFF, 12), (0, 10)])
      let trims := new.foldl (fun (m : SMap Int) e => SMap.ins e.1 e.2 m) (s.scal n).trims
      let pd := (List.range 11).foldl (fun (m : SMap (Int × Int)) ch =>
        SMap.put m (0, 65536) ch (SMap.getD trims 0 (0x200 + ch), SMap.getD trims 65536 (0x300 + ch))) []
      exec (.trimSetCommit n lead) s = .next (s.close (v.setCal n (fun c => { c with shadow := none, trims := trims, pd := pd }))))
  -- TRIM_SET_COMMIT at another epoch of a pass
  ∧ (∀ (n : Stn) (lead : BitVec 22) (s : State),
      (s.rd n).pass.isSome = true →
      (lead.toNat < 71 * 40144 ∧ (lead.toNat % 40144 < 80 ∨ 240 ≤ lead.toNat % 40144)) →
      exec (.trimSetCommit n lead) s = .next (s.close s))
  -- a station's step
  ∧ (∀ (n : Stn) (s : State),
      (s.inTask n .calStep = true ∧ (s.scal n).measuring = true) →
      exec (.calStepTimeout (some n)) s = .next (s.close (s.stnStepEnd n 1 0xFF [])))
  -- the device-wide step
  ∧ (∀ (id step : Nat) (s : State),
      s.cal.running = some (id, step) →
      let v : State := { s with cal.running := none }
      exec (.calStepTimeout none) s = .next (s.close ((v.setBit CAL_STAT CAL_STAT_BUSY false).calEnd id step 0xFF 1 (v.tempOf 1) 0xFF [])))
  -- no step
  ∧ (∀ (s : State),
      s.cal.running = none →
      exec (.calStepTimeout none) s = .next (s.close s))

/-- A QS_CMD write with GO that reaches its function while BUSY is 0 runs its operation. CREATE_CQ and CREATE_SQ whose arguments Table 10.1
admits make the ring with the next epoch, an enabled state, and STATUS OK with the epoch, and lock the features; otherwise STATUS is
INVALID_FIELD, or BUFFER_EXHAUSTED at 1,024 rings. DELETE_SQ ends the commands not started with ABORTED_BY_HOST and frees the ring when none
is left; DELETE_CQ frees a ring that no SQ posts to. While BUSY a write is refused. The doorbell word that stands in memory is taken as read
at the creation; one not given counts as 0 (the model's choices, log entry 114). -/
def Obligations.QueueSetUp : Prop :=
  -- a create or delete reaches its operation
  (∀ (f : Fn) (k : RingNo) (word : Option (BitVec 64)) (s : State),
      Reaches s f (qsKey f 0x18 % 2 ^ 24) →
      s.bit (QS_STAT f) QS_STAT_BUSY = false →
      let v (op : Nat) := (s.setReg (QS_CMD f) (qsWord op k &&& 0x00FF00FF#32)).setBit (QS_STAT f) QS_STAT_BUSY true
      exec (.createCq f k word) s = .next (s.close ((v 1).createCq f k word))
        ∧ exec (.createSq f k word) s = .next (s.close ((v 2).createSq f k word))
        ∧ exec (.deleteSq f k) s = .next (s.close ((v 3).deleteSq f k))
        ∧ exec (.deleteCq f k) s = .next (s.close ((v 4).deleteCq f k)))
  -- while BUSY
  ∧ (∀ (f : Fn) (k : RingNo) (word : Option (BitVec 64)) (s : State) (c : Instr),
      Reaches s f (qsKey f 0x18 % 2 ^ 24) →
      s.bit (QS_STAT f) QS_STAT_BUSY = true →
      c ∈ [Instr.createCq f k word, .createSq f k word, .deleteSq f k, .deleteCq f k] →
      exec c s = .next (s.close (s.setBit (QS_STAT f) QS_STAT_REFUSED true)))
  -- CREATE_CQ makes the ring
  ∧ (∀ (f : Fn) (k : RingNo) (word : Option (BitVec 64)) (u s : State),
      Reaches s f (qsKey f 0x18 % 2 ^ 24) →
      s.bit (QS_STAT f) QS_STAT_BUSY = false →
      u = ((s.setReg (QS_CMD f) (qsWord 1 k &&& 0x00FF00FF#32)).setBit (QS_STAT f) QS_STAT_BUSY true).lockFeatures f →
      (u.createOk f = true ∧ u.cq? f k = none ∧ u.cqUsed f < u.fld (QS_LIM f) QS_LIM_CQ_MAX ∧ u.rings.cqs.length < 1024) →
      (u.qsArg f 3 &&& 0x7F00FF00 = 0 ∧ u.qsArg f 4 < 65536 ∧ u.qsArg f 3 % 256 < u.vecCount f) →
      let ep := nextEpoch (SMap.getD u.rings.cqEpoch 0 (ringKey f k))
      let q : Cq := ⟨u.qsArg f 0 + 2 ^ 32 * u.qsArg f 1, u.qsArg f 2, decide (2 ^ 31 ≤ u.qsArg f 3), u.qsArg f 3 / 65536 % 256, u.qsArg f 3 % 256, u.qsArg f 4,
        u.argPasid f, 0, some (word.getD 0), [], 0, false⟩
      let v : State := { u with rings.cqEpoch := SMap.put u.rings.cqEpoch 0 (ringKey f k) ep }
      exec (.createCq f k word) s = .next (s.close
        (((((v.putCq f k q).setReg (CQ_STAT f k) 0x5#32).qsDone f .ok).setFld (QS_STAT f) QS_STAT_EPOCH ep).ringCount f)))
  -- CREATE_SQ makes the ring
  ∧ (∀ (f : Fn) (k : RingNo) (word : Option (BitVec 64)) (u s : State),
      Reaches s f (qsKey f 0x18 % 2 ^ 24) →
      s.bit (QS_STAT f) QS_STAT_BUSY = false →
      u = ((s.setReg (QS_CMD f) (qsWord 2 k &&& 0x00FF00FF#32)).setBit (QS_STAT f) QS_STAT_BUSY true).lockFeatures f →
      (u.createOk f = true ∧ u.sq? f k = none ∧ u.sqUsed f < u.fld (QS_LIM f) QS_LIM_SQ_MAX ∧ u.rings.sqs.length < 1024) →
      (u.bit (QS_SH_LO f) QS_SH_LO_VALID = true ∧ u.qsArg f 3 < 2048 ∧ u.qsArg f 4 = 0 ∧ u.qsArg f 3 / 256 % 4 ≠ 3) →
      (u.cq? f (u.qsArg f 3 % 256)).isSome = true →
      ((u.qsArg f 3 / 256 % 4 = 1 → u.accepted f featSchuss = true) ∧ (u.qsArg f 3 / 1024 % 2 = 1 → u.accepted f featChained = true)) →
      let ep := nextEpoch (SMap.getD u.rings.sqEpoch 0 (ringKey f k))
      let q : Sq := ⟨u.qsArg f 0 + 2 ^ 32 * u.qsArg f 1, u.qsArg f 2, u.qsArg f 3 % 256, u.qsArg f 3 / 256 % 4, decide (u.qsArg f 3 / 1024 % 2 = 1),
        u.argPasid f, 0, some (word.getD 0), false, false, 0, []⟩
      let v : State := { u with rings.sqEpoch := SMap.put u.rings.sqEpoch 0 (ringKey f k) ep }
      exec (.createSq f k word) s = .next (s.close
        (((((v.putSq f k q).setReg (SQ_STAT f k) 0x1#32).qsDone f .ok).setFld (QS_STAT f) QS_STAT_EPOCH ep).ringCount f)))
  -- DELETE_SQ of a ring with commands: those not started end, and the ring goes when nothing of it is left
  ∧ (∀ (f : Fn) (k : RingNo) (q : Sq) (u s : State),
      Reaches s f (qsKey f 0x18 % 2 ^ 24) →
      s.bit (QS_STAT f) QS_STAT_BUSY = false →
      u = (s.setReg (QS_CMD f) (qsWord 3 k &&& 0x00FF00FF#32)).setBit (QS_STAT f) QS_STAT_BUSY true →
      u.sq? f k = some q →
      let v := (if q.fetch = 0 then u else u.putSq f k { q with fetch := 2 }).setFld (SQ_STAT f k) SQ_STAT_STATE 2
      let ids := (v.work.cmds.filter (fun c => c.fn == f.val && c.sq == k.val && !c.mute && !c.started && !c.ended)).map (·.id)
      let w := ids.foldl (fun (s : State) i => s.finish i .abortedByHost) v
      exec (.deleteSq f k) s = .next (s.close ({ w with rings.deleting := w.rings.deleting ++ [(f.val, k.val)] } : State).freeDeleted))
  -- DELETE_SQ of a ring with nothing left: it is freed at once
  ∧ (∀ (f : Fn) (k : RingNo) (q : Sq) (u s : State),
      Reaches s f (qsKey f 0x18 % 2 ^ 24) →
      s.bit (QS_STAT f) QS_STAT_BUSY = false →
      u = (s.setReg (QS_CMD f) (qsWord 3 k &&& 0x00FF00FF#32)).setBit (QS_STAT f) QS_STAT_BUSY true →
      (u.sq? f k = some q ∧ q.fetch = 0 ∧ u.rings.deleting = []) →
      (u.work.cmds.any (fun c => c.fn == f.val && c.sq == k.val && !c.mute) = false) →
      (u.rings.cqs.any (fun e => e.1 / 256 == f.val && e.2.waiting.any (fun w => w.sq == k.val)) = false) →
      let v := u.setFld (SQ_STAT f k) SQ_STAT_STATE 2
      let v : State := { v with
        rings.sqs := SMap.del (ringKey f k) v.rings.sqs, rings.deleting := [],
        work.written := v.work.written.filter (fun e => !(e.1.1 == f.val && e.1.2.1 == k.val)) }
      exec (.deleteSq f k) s = .next (s.close (((v.setFld (SQ_STAT f k) SQ_STAT_STATE 0).qsDone f .ok).ringCount f)))
  -- DELETE_CQ frees a ring that no SQ posts to
  ∧ (∀ (f : Fn) (k : RingNo) (u s : State),
      Reaches s f (qsKey f 0x18 % 2 ^ 24) →
      s.bit (QS_STAT f) QS_STAT_BUSY = false →
      u = (s.setReg (QS_CMD f) (qsWord 4 k &&& 0x00FF00FF#32)).setBit (QS_STAT f) QS_STAT_BUSY true →
      (u.cq? f k).isSome = true →
      (u.rings.sqs.any (fun e => e.1 / 256 == f.val && e.2.cq == k.val) = false) →
      let v : State := { u with rings.cqs := SMap.del (ringKey f k) u.rings.cqs }
      exec (.deleteCq f k) s = .next (s.close (((v.setFld (CQ_STAT f k) CQ_STAT_STATE 0).qsDone f .ok).ringCount f)))
  -- DELETE_CQ of a ring that an SQ posts to, or of none
  ∧ (∀ (f : Fn) (k : RingNo) (s : State),
      (s.cq? f k = none ∨ s.rings.sqs.any (fun e => e.1 / 256 == f.val && e.2.cq == k.val) = true) →
      s.deleteCq f k = s.qsDone f .invalidField)

/-- A poll of a function that may be polled, once it holds a translation of the doorbell area where it uses ATS, reads the doorbell word of
every ring it has, and in an IDLE function's schuss polls those of its SCHUSS SQs only. A word that an SQ takes moves its tail and makes the
function ACTIVE; a changed word that it does not take counts as a bad doorbell; the same for a CQ's head. A due head shadow is written with
the ring's epoch and head while the function may make DMA. A function none of whose CQs is FULL becomes IDLE. -/
def Obligations.PollsAndDoorbells : Prop :=
  -- POLL
  (∀ (f : Fn) (sch : Bool) (s : State),
      s.mayPoll f = true →
      s.holds f (s.qsPasid f) (s.dbBase f / 4096) = true →
      let addr (base key : Nat) : Nat := s.dbBase f.val + base + 8 * (key % 256)
      let few := sch && (s.func f).idle
      let l := (s.rings.sqs.filter (fun e => e.1 / 256 == f.val && (!few || e.2.cls == 1))).map (fun e => addr 0 e.1)
        ++ (s.rings.cqs.filter (fun e => e.1 / 256 == f.val && !few)).map (fun e => addr 0x800 e.1)
      let rest := (List.range 64).any (fun g => g != f.val && decide (0 < (s.func (toFn g)).pollLeft))
      let r := if rest then s.rings.round else s.rings.round + 1
      let v := ({ s with rings.round := r } : State).setFunc f (fun g => { g with pollLeft := l.length, pollOwed := false, pollRound := r })
      exec (.poll f sch) s = .next (s.close (l.foldl (fun s a => s.emit (.hostRead f.val (s.qsPasid f.val) a 8)) v)))
  -- POLL without a translation of the doorbell area asks for one (R260)
  ∧ (∀ (f : Fn) (sch : Bool) (s : State),
      s.mayPoll f = true →
      s.holds f (s.qsPasid f) (s.dbBase f / 4096) = false →
      exec (.poll f sch) s = .next (s.close ((s.setFunc f (fun g => { g with pollOwed := true })).emit (.atsReq f (s.qsPasid f) (s.dbBase f / 4096)))))
  -- a function that may not be polled
  ∧ (∀ (f : Fn) (sch : Bool) (s : State),
      s.mayPoll f = false →
      exec (.poll f sch) s = .next (s.close s))
  -- an SQ takes its word
  ∧ (∀ (f : Fn) (k : RingNo) (w : BitVec 64) (q : Sq) (s : State),
      s.sq? f k = some q →
      (q.lastWord ≠ some w ∨ q.ignored = true) →
      (w.toNat / 65536 = SMap.getD s.rings.sqEpoch 0 (ringKey f k) ∧ w.toNat % 65536 < q.size) →
      (q.tail + q.size - s.fld (SQ_STAT f k) SQ_STAT_HEAD) % q.size ≤ (w.toNat % 65536 + q.size - s.fld (SQ_STAT f k) SQ_STAT_HEAD) % q.size →
      let x := w.toNat % 65536
      let v := s.putSq f k { q with tail := x, lastWord := some w, ignored := false,
                                    found := if x = q.tail then q.found else q.found ++ [((s.func f).pollRound, x)] }
      let v := if q.lastWord = some w then v else v.setFunc f (fun g => { g with idle := false })
      exec (.doorbellObserved f false k w) s = .next (s.close (v.pollAnswered f)))
  -- an SQ does not take a changed word
  ∧ (∀ (f : Fn) (k : RingNo) (w : BitVec 64) (q : Sq) (s : State),
      s.sq? f k = some q →
      (q.lastWord ≠ some w ∨ q.ignored = true) →
      sqTakes q (SMap.getD s.rings.sqEpoch 0 (ringKey f k)) (s.fld (SQ_STAT f k) SQ_STAT_HEAD) w = false →
      let v := if q.lastWord = some w then s else (s.bump (SQ_STAT f k) SQ_STAT_BADDB 1).setFunc f (fun g => { g with idle := false })
      exec (.doorbellObserved f false k w) s = .next (s.close ((v.putSq f k { q with lastWord := some w, ignored := true }).pollAnswered f)))
  -- a word read before and not ignored is not judged again
  ∧ (∀ (f : Fn) (k : RingNo) (w : BitVec 64) (q : Sq) (s : State),
      (s.sq? f k = some q ∧ q.lastWord = some w ∧ q.ignored = false) →
      exec (.doorbellObserved f false k w) s = .next (s.close (s.pollAnswered f)))
  -- the same for a CQ
  ∧ (∀ (f : Fn) (k : RingNo) (w : BitVec 64) (q : Cq) (s : State),
      (s.cq? f k = some q ∧ q.lastWord = some w ∧ q.ignored = false) →
      exec (.doorbellObserved f true k w) s = .next (s.close (s.pollAnswered f)))
  -- an SQ takes a word exactly where its epoch is the ring's, its index lies in the ring, and the tail does not fall back
  ∧ (∀ (q : Sq) (ep hd : Nat) (w : BitVec 64),
      sqTakes q ep hd w = true ↔ w.toNat / 65536 = ep ∧ w.toNat % 65536 < q.size
          ∧ (q.tail + q.size - hd) % q.size ≤ (w.toNat % 65536 + q.size - hd) % q.size)
  -- a CQ does not take a changed word
  ∧ (∀ (f : Fn) (k : RingNo) (w : BitVec 64) (q : Cq) (s : State),
      s.cq? f k = some q →
      (q.lastWord ≠ some w ∨ q.ignored = true) →
      cqTakes q (SMap.getD s.rings.cqEpoch 0 (ringKey f k)) (s.fld (CQ_STAT f k) CQ_STAT_TAIL) w = false →
      let v := if q.lastWord = some w then s else (s.bump (CQ_STAT f k) CQ_STAT_BADDB 1).setFunc f (fun g => { g with idle := false })
      exec (.doorbellObserved f true k w) s = .next (s.close ((v.putCq f k { q with lastWord := some w, ignored := true }).pollAnswered f)))
  -- a CQ takes its word
  ∧ (∀ (f : Fn) (k : RingNo) (w : BitVec 64) (q : Cq) (s : State),
      s.cq? f k = some q →
      (q.lastWord ≠ some w ∨ q.ignored = true) →
      (w.toNat / 65536 = SMap.getD s.rings.cqEpoch 0 (ringKey f k) ∧ w.toNat % 65536 < q.size) →
      (w.toNat % 65536 + q.size - q.head) % q.size ≤ (s.fld (CQ_STAT f k) CQ_STAT_TAIL + q.size - q.head) % q.size →
      let hd := w.toNat % 65536
      let v := s.putCq f k { q with head := hd, lastWord := some w, ignored := false }
      let v := if q.lastWord = some w then v else v.setFunc f (fun g => { g with idle := false })
      let ids := (s.work.cmds.filter (fun c => c.fn == f.val && c.xrdyPosted && !c.xrdyTaken &&
        (match s.sq? c.fn c.sq with | some sq => sq.cq == k.val | none => false) &&
        decide ((c.xrdySlot + q.size - q.head) % q.size < (hd + q.size - q.head) % q.size))).map (·.id)
      exec (.doorbellObserved f true k w) s = .next (s.close (((v.xrdyPassed ids).setFull f k).pollAnswered f)))
  -- HEAD_SHADOW_WRITE
  ∧ (∀ (f : Fn) (k : RingNo) (q : Sq) (s : State),
      s.sq? f k = some q →
      q.shadowDue = true →
      (s.mayPost f = true ∧ s.bit (QS_FLT f) QS_FLT_SH_FAULT = false ∧ s.holds f (s.qsPasid f) (s.shPage f k) = true) →
      let w := SMap.getD s.rings.sqEpoch 0 (ringKey f k) * 65536 + s.fld (SQ_STAT f k) SQ_STAT_HEAD
      exec (.headShadowWrite f k true) s = .next (s.close
        (((s.putSq f k { q with shadowDue := false }).emit (.hostWrite f (s.qsPasid f) (s.shBase f + 8 * k) (leBytes 8 w))).shadowsDone f)))
  -- HEAD_SHADOW_WRITE of a function that makes no DMA waits (R257), and while SH_FAULT stands (R296)
  ∧ (∀ (f : Fn) (k : RingNo) (s : State),
      (s.mayPost f = false ∨ s.bit (QS_FLT f) QS_FLT_SH_FAULT = true) →
      exec (.headShadowWrite f k true) s = .next (s.close s))
  -- FUNCTION_IDLE
  ∧ (∀ (f : Fn) (s : State),
      (∀ e ∈ s.rings.cqs, e.1 / 256 = f.val → s.bit (CQ_STAT f (e.1 % 256)) CQ_STAT_FULL = false) →
      exec (.functionIdle f) s = .next (s.close (s.setFunc f (fun g => { g with idle := true }))))

/-- The oldest entry waiting on a CQ with room, its pages translated where the function uses ATS, is written at its tail after a due head shadow
of its SQ, in the 32-byte layout of Table 10.3; the tail advances and the phase toggles when it wraps; the message leaves as coalescing
allows; the command is done, and what waited on it goes on. Without room the entry waits and FULL shows it. A failed write of an entry sets
FAULT and raises the ring fault. CTIME passing sends the message of entries not yet signalled. An entry whose SQ's head shadow is due waits
while SH_FAULT stands. -/
def Obligations.CompletionEntries : Prop :=
  -- a final entry is posted
  (∀ (f : Fn) (k : RingNo) (q : Cq) (e : Entry) (rest : List Entry) (s : State),
      s.cq? f k = some q →
      (q.waiting = e :: rest ∧ e.kind = 0 ∧ e.log = none) →
      (s.isOn domHOST = true ∧ s.isOn domCORE = true ∧ s.mayPost f = true ∧ s.cqRoom f k q = true) →
      (s.bit (QS_FLT f) QS_FLT_SH_FAULT = false ∨ (∀ x, s.sq? f e.sq = some x → x.shadowDue = false)) →
      (s.shadowWaits f e.sq = false ∧ s.holds f q.pasid (s.cqPage f k q) = true) →
      let v := s.writeShadow f e.sq
      let tl := v.fld (CQ_STAT f k) CQ_STAT_TAIL
      let ph := v.fld (CQ_STAT f k) CQ_STAT_PHASE
      let v := v.emit (.hostWrite f q.pasid (q.base + 32 * tl) (entryBytes e (v.fld (SQ_STAT f e.sq) SQ_STAT_HEAD) ph))
      let v := v.setFld (CQ_STAT f k) CQ_STAT_TAIL ((tl + 1) % q.size)
      let v := if (tl + 1) % q.size = 0 then v.setFld (CQ_STAT f k) CQ_STAT_PHASE (1 - ph) else v
      let v := ((v.putCq f k { q with waiting := rest }).signal f k 0).setFull f k
      let v := v.countFlush e (match v.cmd? e.cmd with | some c => capOPC c.caps | none => 0)
      let v := match v.cmd? e.cmd with | some c => v.told c | none => v
      let v : State := { v with work.cmds := v.work.cmds.filter (fun c => c.id != e.cmd) }
      exec (.completionPost f k true) s = .next (s.close (v.releaseWaits.freeDeleted)))
  -- without a translation the entry waits for one (R260)
  ∧ (∀ (f : Fn) (k : RingNo) (q : Cq) (e : Entry) (rest : List Entry) (s : State),
      s.cq? f k = some q →
      q.waiting = e :: rest →
      (s.isOn domHOST = true ∧ s.isOn domCORE = true ∧ s.mayPost f = true ∧ s.cqRoom f k q = true) →
      (s.bit (QS_FLT f) QS_FLT_SH_FAULT = false ∨ (∀ x, s.sq? f e.sq = some x → x.shadowDue = false)) →
      (s.shadowWaits f e.sq = false ∧ s.holds f q.pasid (s.cqPage f k q) = false) →
      exec (.completionPost f k true) s = .next (s.close (s.emit (.atsReq f q.pasid (s.cqPage f k q)))))
  -- without room the entry waits
  ∧ (∀ (f : Fn) (k : RingNo) (ok : Bool) (q : Cq) (s : State),
      s.cq? f k = some q →
      q.waiting ≠ [] →
      (s.isOn domHOST = true ∧ s.isOn domCORE = true) →
      s.cqRoom f k q = false →
      exec (.completionPost f k ok) s = .next (s.close (s.setFull f k)))
  -- an entry whose SQ's shadow is due waits while SH_FAULT stands, and FULL shows it (R296)
  ∧ (∀ (f : Fn) (k : RingNo) (ok : Bool) (q : Cq) (e : Entry) (rest : List Entry) (x : Sq) (s : State),
      s.cq? f k = some q →
      q.waiting = e :: rest →
      (s.isOn domHOST = true ∧ s.isOn domCORE = true) →
      (s.bit (QS_FLT f) QS_FLT_SH_FAULT = true ∧ (s.func f).shWait = true ∧ s.sq? f e.sq = some x ∧ x.shadowDue = true) →
      exec (.completionPost f k ok) s = .next (s.close (s.setFull f k)) ∧ (s.setFull f k).bit (CQ_STAT f k) CQ_STAT_FULL = true
          ∧ ((s.setFull f k).func f).idle = false)
  -- the write of the entry fails
  ∧ (∀ (f : Fn) (k : RingNo) (q : Cq) (e : Entry) (rest : List Entry) (s : State),
      s.cq? f k = some q →
      q.waiting = e :: rest →
      (s.isOn domHOST = true ∧ s.isOn domCORE = true ∧ s.mayPost f = true ∧ s.cqRoom f k q = true) →
      (s.bit (QS_FLT f) QS_FLT_SH_FAULT = false ∨ (∀ x, s.sq? f e.sq = some x → x.shadowDue = false)) →
      exec (.completionPost f k false) s = .next (s.close
          (((s.setBit (CQ_STAT f k) CQ_STAT_FAULT true).setFull f k).ringFault f [k.val])))
  -- CQ_COALESCE_TIMEOUT
  ∧ (∀ (f : Fn) (k : RingNo) (q : Cq) (s : State),
      s.cq? f k = some q →
      (q.ien = true ∧ 0 < q.unsignalled) →
      exec (.cqCoalesceTimeout f k) s = .next (s.close ((s.putCq f k { q with unsignalled := 0 }).ringMsg f q.vec)))

/-- An idle gaffer of a station that is ON is handed the first task of its station in class order; a station not ON is woken; a busy one is
asked for pre-emption; during a microcode activation's hold a station with a pending bank is left alone, until the hold ends. A STANDARD or
BULK command not started 500 ms after admission is aged. A waiting command whose buffers are free reserves them. A parison whose oldest
block has waited GATHER_AGE begins writing. -/
def Obligations.TheDispatcher : Prop :=
  -- a task is handed to an idle gaffer
  (∀ (n : Stn) (t : Task) (turn : Option Bool) (s : State),
      (s.work.tasks.any (fun t => t.stn == n.val) = true ∧ s.isOn (domSTN n) = true) →
      (s.work.hold && s.bit (SEQ_BANK n) SEQ_BANK_PEND) = false →
      (s.bit (TASK_STATUS n) TASK_STATUS_BUSY = false ∧ s.bit (TASK_STATUS n) TASK_STATUS_SUSP = false) →
      s.nextTask n = some (t, turn) →
      let run := SMap.getD s.work.stdRun 0 n
      let v : State := { s with work.stdRun := SMap.put s.work.stdRun 0 n (match turn with | some true => run + 1 | some false => 0 | none => run) }
      exec (.dispatch n) s = .next (s.close (v.giveTask n t)))
  -- a station not ON is woken
  ∧ (∀ (n : Stn) (s : State),
      (s.work.tasks.any (fun t => t.stn == n.val) = true) →
      s.isOn (domSTN n) = false →
      exec (.dispatch n) s = .next (s.close (s.wake (domSTN n))))
  -- a station held by an activation
  ∧ (∀ (n : Stn) (s : State),
      (s.work.tasks.any (fun t => t.stn == n.val) = true ∧ s.isOn (domSTN n) = true) →
      (s.work.hold = true ∧ s.bit (SEQ_BANK n) SEQ_BANK_PEND = true) →
      exec (.dispatch n) s = .next (s.close s))
  -- a busy station
  ∧ (∀ (n : Stn) (s : State),
      (s.work.tasks.any (fun t => t.stn == n.val) = true ∧ s.isOn (domSTN n) = true) →
      (s.work.hold && s.bit (SEQ_BANK n) SEQ_BANK_PEND) = false →
      s.bit (TASK_STATUS n) TASK_STATUS_BUSY = true →
      exec (.dispatch n) s = .next (s.close (s.askPreempt n)))
  -- ACTIVATION_DISPATCH_TIMEOUT
  ∧ (∀ (s : State),
      exec .activationDispatchTimeout s = .next (s.close { s with work.hold := false }))
  -- COMMAND_AGED
  ∧ (∀ (id : Nat) (c : Cmd) (s : State),
      s.cmd? id = some c →
      (c.started = false ∧ c.ended = false ∧ s.cmdCls c ≠ 1 ∧ c.admitted + 500000 ≤ s.now) →
      exec (.commandAged id) s = .next (s.close (s.setCmd id (fun c => { c with aged := true }))))
  -- BUFFER_RESERVED
  ∧ (∀ (id : Nat) (c : Cmd) (hs : List Nat) (v : State) (s : State),
      s.cmd? id = some c →
      (c.phase = 7 ∧ c.ended = false ∧ c.held = false ∧ c.reserved = false) →
      (bufNeed c.caps ≠ [] ∧ s.work.cmds.any (fun x => decide (x.id < id) && !x.ended && !x.held && x.phase == 7 && !x.reserved && s.cmdCls x == s.cmdCls c) = false) →
      s.allocAll (bufNeed c.caps) (s.cmdCls c == 1) = (some hs, v) →
      exec (.bufferReserved id) s = .next (s.close ((v.setCmd id (fun c => { c with reserved := true, bufs := hs })).reserved' id)))
  -- GATHER_AGE_EXPIRY
  ∧ (∀ (id : Nat) (p : Parison) (s : State),
      (s.ledger.parisons.find? (fun p => p.id == id) = some p) →
      (p.due = false ∧ p.blocks ≠ []) →
      exec (.gatherAgeExpiry id) s = .next (s.close (s.placeParison p)))

/-- A write of LC_CMD with GO that goes through at once stores OP and LEN, reads the tokens at LC_TOK, and runs the command. In a state that
does not allow it RESULT is 1, a mounted vault gives 3 to ENTER_RETURN and ENTER_SCRAP, a token that is not valid gives 2, and each refusal
raises E038. Otherwise ENTER_MAKER burns the two digests and a fresh seed, ENTER_FIELD, ENTER_RETURN and ENTER_SCRAP change the state, the
last two after zeroising, the last also losing the seed, DEBUG_UNLOCK and TELEMETRY grant access, DEBUG_LOCK ends it, CERT_STORE stores the
chain and OWNER_ENROL burns the owner digest. That a bad LEN or OP gives RESULT 1 is the model's choice (log entry 94). -/
def Obligations.LifeCycleCommands : Prop :=
  -- a write of LC_CMD with GO
  (∀ (len : BitVec 13) (token : Bytes) (s : State),
      Reaches s 0 LC_CMD.key →
      let v (op n : Nat) := s.setReg LC_CMD (fldSet LC_CMD_GO (fldSet LC_CMD_LEN (fldSet LC_CMD_OP (s.reg LC_CMD) op) n) 1 &&& 0x1FFF00FF#32)
      let n := len.toNat
      let run (op n : Nat) (tok : Bytes) := ((v op n).readTokens op n).lcRun op n tok
      exec (.enterMaker len token) s = .next (s.close (run 1 n token))
        ∧ exec (.enterField len token) s = .next (s.close (run 2 n token))
        ∧ exec (.enterReturn len token) s = .next (s.close (run 3 n token))
        ∧ exec (.enterScrap len token) s = .next (s.close (run 4 n token))
        ∧ exec (.debugUnlock len token) s = .next (s.close (run 5 n token))
        ∧ exec (.telemetry len token) s = .next (s.close (run 6 n token))
        ∧ exec .debugLock s = .next (s.close (run 7 0 []))
        ∧ exec (.certStore len token) s = .next (s.close (run 8 n token))
        ∧ exec (.ownerEnrol len token) s = .next (s.close (run 9 n token)))
  -- the tokens are read from LC_TOK and 128 bytes above it, by the PF and without PASID
  ∧ (∀ (len : Nat) (s : State),
      ((s.reg LC_TOK_LO).toNat + 2 ^ 32 * (s.reg LC_TOK_HI).toNat) % 4096 + 256 ≤ 4096 →
      (s.holds 0 none (((s.reg LC_TOK_LO).toNat + 2 ^ 32 * (s.reg LC_TOK_HI).toNat) / 4096) = true ∧ s.holds 0 none (((s.reg LC_TOK_LO).toNat + 2 ^ 32 * (s.reg LC_TOK_HI).toNat + 128) / 4096) = true) →
      s.readTokens 3 len = (s.emit (.hostRead 0 none ((s.reg LC_TOK_LO).toNat + 2 ^ 32 * (s.reg LC_TOK_HI).toNat) 128)).emit (.hostRead 0 none ((s.reg LC_TOK_LO).toNat + 2 ^ 32 * (s.reg LC_TOK_HI).toNat + 128) 128)
          ∧ s.readTokens 2 len = s.emit (.hostRead 0 none ((s.reg LC_TOK_LO).toNat + 2 ^ 32 * (s.reg LC_TOK_HI).toNat) 128) ∧ s.readTokens 9 len = s.emit (.hostRead 0 none ((s.reg LC_TOK_LO).toNat + 2 ^ 32 * (s.reg LC_TOK_HI).toNat) 32))
  -- a state that does not allow the command
  ∧ (∀ (op len : Nat) (tok : Bytes) (s : State),
      ((op = 1 ∧ s.sec.lc ≠ 0) ∨ (op = 2 ∧ (s.sec.lc ≠ 1 ∨ s.bit LC_STAT LC_STAT_CERT = false)) ∨ (op = 3 ∧ s.sec.lc ≠ 2) ∨ (op = 4 ∧ s.sec.lc = 4)
        ∨ (op = 5 ∧ s.sec.lc ≠ 1 ∧ s.sec.lc ≠ 3) ∨ (op = 6 ∧ s.sec.lc ≠ 2) ∨ (op = 8 ∧ (s.sec.lc ≠ 1 ∨ len = 0 ∨ 4096 < len))
        ∨ (op = 9 ∧ (s.sec.lc ≠ 2 ∨ s.sec.ownerDig ≠ none)) ∨ op = 0 ∨ 9 < op) →
      s.lcRun op len tok = (s.lcDone 1).raise 38 [op, 1])
  -- ENTER_RETURN and ENTER_SCRAP with a vault mounted
  ∧ (∀ (op len : Nat) (tok : Bytes) (s : State),
      ((op = 3 ∧ s.sec.lc = 2 ∧ s.sec.ownerDig ≠ none) ∨ (op = 4 ∧ s.sec.lc ≠ 4)) →
      s.anyVault = true →
      s.lcRun op len tok = (s.lcDone 3).raise 38 [op, 3])
  -- ENTER_MAKER
  ∧ (∀ (len : Nat) (tok : Bytes) (s : State),
      (s.sec.lc = 0 ∧ s.sec.entropyOk = true) →
      let v := { (s.entropy 32).2 with
          sec.seed := some (s.entropy 32).1, sec.kekGen := 0, sec.makerDig := some (sha512 (tok.take 32)), sec.fwDig := some (sha512 (slice tok 32 32)) }
      let v : State := { v with sec.serial := serialOf (match v.idSeed with | some x => edPub x | none => zeros 32) }
      s.lcRun 1 len tok = ((v.toLc 1).showIdentity).lcDone 0)
  -- ENTER_FIELD
  ∧ (∀ (len : Nat) (tok : Bytes) (s : State),
      (s.sec.lc = 1 ∧ s.bit LC_STAT LC_STAT_CERT = true) →
      s.lcRun 2 len tok = if s.tokenOk 6 (tok.take 128) then (s.toLc 2).lcDone 0 else (s.lcDone 2).raise 38 [2, 2])
  -- ENTER_RETURN
  ∧ (∀ (len : Nat) (tok : Bytes) (s : State),
      (s.sec.lc = 2 ∧ s.sec.ownerDig ≠ none ∧ s.anyVault = false) →
      s.lcRun 3 len tok = if s.tokenOk 3 (tok.take 128) && s.tokenOk 4 (slice tok 128 128) then (s.zeroise.toLc 3).lcDone 0
          else (s.lcDone 2).raise 38 [3, 2])
  -- DEBUG_UNLOCK
  ∧ (∀ (len : Nat) (tok : Bytes) (s : State),
      (s.sec.lc = 1 ∨ s.sec.lc = 3) →
      s.lcRun 5 len tok = if s.tokenOk 1 (tok.take 128) then (s.setBit LC_STAT LC_STAT_DBG true).lcDone 0 else (s.lcDone 2).raise 38 [5, 2])
  -- TELEMETRY
  ∧ (∀ (len : Nat) (tok : Bytes) (s : State),
      s.sec.lc = 2 →
      s.lcRun 6 len tok = if s.tokenOk 2 (tok.take 128) then (s.setBit LC_STAT LC_STAT_TELEM true).lcDone 0 else (s.lcDone 2).raise 38 [6, 2])
  -- DEBUG_LOCK
  ∧ (∀ (len : Nat) (tok : Bytes) (s : State),
      s.lcRun 7 len tok = ((s.setBit LC_STAT LC_STAT_DBG false).setBit LC_STAT LC_STAT_TELEM false).lcDone 0)
  -- ENTER_SCRAP where no owner token is asked for
  ∧ (∀ (len : Nat) (tok : Bytes) (s : State),
      (s.sec.lc ≠ 4 ∧ (s.sec.lc = 2 → s.sec.ownerDig = none) ∧ s.anyVault = false) →
      s.lcRun 4 len tok =
          (((({ s.zeroise with sec.seed := none } : State).toLc 4).showIdentity).setBit LC_STAT LC_STAT_CERT false).lcDone 0)
  -- ENTER_SCRAP with the owner's token asked for
  ∧ (∀ (len : Nat) (tok : Bytes) (s : State),
      (s.sec.lc = 2 ∧ s.sec.ownerDig ≠ none ∧ s.anyVault = false) →
      s.lcRun 4 len tok = if s.tokenOk 5 (tok.take 128) then
            (((({ s.zeroise with sec.seed := none } : State).toLc 4).showIdentity).setBit LC_STAT LC_STAT_CERT false).lcDone 0
          else (s.lcDone 2).raise 38 [4, 2])
  -- CERT_STORE
  ∧ (∀ (len : Nat) (tok : Bytes) (s : State),
      (s.sec.lc = 1 ∧ 1 ≤ len ∧ len ≤ 4096) →
      s.lcRun 8 len tok = ({ s with sec.cert := tok.take len } : State).lcDone 0)
  -- OWNER_ENROL
  ∧ (∀ (len : Nat) (tok : Bytes) (s : State),
      (s.sec.lc = 2 ∧ s.sec.ownerDig = none) →
      s.lcRun 9 len tok = (({ s with sec.ownerDig := some (sha512 (tok.take 32)) } : State).setBit LC_STAT LC_STAT_OWNER true).lcDone 0)

/-- With the bench core running, a sensor read shows the eight readings, begins the thermal warning with event E007 at the first reading at or
above the level, and refreshes calibration; without it nothing is read. The warning ends once the ten reads of a second have found every
sensor 5 °C below the level. A sensor at 125 °C drops PWR_GOOD, turns every domain but AON off, records itself in TSD and TSENS, and locks
the controller out. With the bench core running, a wear sample stores each value with its hour, keeping at most 720 (the means of the hour's
raw errors and of the spindle's current, the RMS of the wobble phase error, the eye margin, the lines corrected, and the rails' values that
it brings; a source that did not run gives none), shows it, refits the forecast and judges the warning, and the day's write copies the
samples to flash. A failing entropy test raises E009 and refuses random values until the source passes. A restarted bench core runs the
firmware that passes, or stays in the boot ROM, and ends the FW_ACTIVATEs that waited. -/
def Obligations.SensorsHeatWearAndEntropy : Prop :=
  -- SENSOR_READ
  (∀ (t : Vector Int 8) (s : State),
      s.benchRuns = true →
      let v := (List.range 8).foldl (fun (s : State) i => s.setFldInt (CAL_TEMP i) CAL_TEMP_TEMP (t.toList.getD i 0)) s
      let v : State := { v with evt.cool := if (List.range 8).all (fun i => decide (v.tempOf i + 500 ≤ v.warnLevel)) then min 10 (v.evt.cool + 1) else 0 }
      exec (.sensorRead t) s = .next (s.close
        ((if (List.range 8).any (fun i => decide (s.warnLevel ≤ t.toList.getD i 0)) && !s.evt.thermal then
          ({ v with evt.thermal := true } : State).raise 7 [] else v).refresh)))
  -- SENSOR_READ while the bench core is not running
  ∧ (∀ (t : Vector Int 8) (s : State),
      s.benchRuns = false →
      exec (.sensorRead t) s = .next (s.close s))
  -- THERMAL_WARNING_END
  ∧ (∀ (s : State),
      (∀ i ∈ List.range 8, s.tempOf i + 500 ≤ s.warnLevel) →
      s.evt.cool = 10 →
      exec .thermalWarningEnd s = .next (s.close { s with evt.thermal := false }))
  -- THERMAL_WARNING_END before every read for 1 s has found every sensor cool
  ∧ (∀ (s : State),
      (s.evt.cool < 10 ∨ ∃ i ∈ List.range 8, s.warnLevel < s.tempOf i + 500) →
      exec .thermalWarningEnd s = .next (s.close s))
  -- THERMAL_SHUTDOWN
  ∧ (∀ (k : Fin 8) (s : State),
      s.aon.powered = true →
      let v := (((s.setPwrGood false).resetBlock).setBit HLTH_STAT HLTH_STAT_TSD true).setFld HLTH_STAT HLTH_STAT_TSENS k
      exec (.thermalShutdown k) s = .next (s.close { v with aon.lockout := true, aon.tsdDue := true }))
  -- WEAR_SAMPLE
  ∧ (∀ (l : List (Nat × Nat)) (s : State),
      s.benchRuns = true →
      let v := (s.wearHour l).foldl (fun (v : State) e =>
          let old := SMap.getD v.evt.wear [] e.1
          let w : State := { v with evt.wear := SMap.ins e.1 (old.drop (old.length + 1 - 720) ++ [(s.evt.hour, e.2 % 2 ^ 32)]) v.evt.wear }
          ((w.setReg (WEAR_VAL e.1) (BitVec.ofNat 32 e.2)).forecast e.1).wearWarn e.1) s
      exec (.wearSample l) s = .next (s.close { v with evt.hour := s.evt.hour + 1, evt.wearSum := [] }))
  -- WEAR_SAMPLE: the mean of the hour's raw errors, the effort, the vibration, and an hour without a source (R463)
  ∧ (∀ (n : Stn) (sum k : Nat) (s : State),
      0 < k →
      (SMap.getD s.evt.wearSum (0, 0) n = (sum, k) ∧ SMap.getD s.evt.wearSum (0, 0) (16 + n) = (sum, k) ∧ SMap.getD s.evt.wearSum (0, 0) (32 + n) = (0, 0)) →
      s.wearValue n = some (rnd sum k).toNat ∧ s.wearValue (16 + n) = some (rnd sum (k * 2 ^ 23)).toNat ∧ s.wearValue (32 + n) = none)
  -- WEAR_FLASH_WRITE
  ∧ (∀ (s : State),
      s.benchRuns = true →
      exec .wearFlashWrite s = .next (s.close { s with evt.wearFlash := s.evt.wear }))
  -- ENTROPY_FAILURE and ENTROPY_SOURCE_PASS
  ∧ (∀ (s : State),
      exec .entropyFailure s = .next (s.close (({ s with sec.entropyOk := false } : State).raise 9 []))
          ∧ exec .entropySourcePass s = .next (s.close { s with sec.entropyOk := true }))
  -- BENCH_CORE_RESTART_DONE
  ∧ (∀ (s : State),
      s.sec.benchUp = false →
      let v : State := { s with sec.benchUp := true }
      let v := match v.bootSlot 0 with
        | some (_, b) => { (v.setBit FW_STAT FW_STAT_ROM false).setReg (FW_VER 0) (BitVec.ofNat 32 (imgVer b)) with sec.running := b }
        | none => { v.setBit FW_STAT FW_STAT_ROM true with sec.running := [] }
      let ids := (s.work.cmds.filter (fun c => !c.ended && c.started && capOPC c.caps == 0x39 && cap c.caps 24 1 == 0)).map (·.id)
      exec .benchCoreRestartDone s = .next (s.close (ids.foldl (fun (s : State) i => s.finish i .ok) v)))

/-- A word that passes its parity changes nothing; one that fails is held and a replay asked for; words that arrive during a replay join the
buffer, up to eight. A replay that passes empties the buffer. The first three failures of the oldest word ask for another replay; the fourth
raises a machine check on the word's context, discards its words and replays the others, or, where no copy of the tag passes, ends every
command with a word in the buffer with INTERNAL. -/
def Obligations.HandshakeChannels : Prop :=
  -- a word that passes, and one that does not
  (∀ (ch : Nat) (w : ChWord) (good bad : ChRx) (s : State),
      ((s.chan ch).replay = false ∧ (s.chan ch).buf.length < 8) →
      (good.ok = true ∧ bad.ok = false) →
      exec (.channelWord ch w good) s = .next (s.close s)
          ∧ exec (.channelWord ch w bad) s = .next (s.close
            (s.setChan ch { s.chan ch with buf := [w], fails := 1, replay := true, replays := (s.chan ch).replays + 1 })))
  -- what passes: every byte odd with its bit, and the two wires
  ∧ (∀ (w : ChWord) (x : ChRx),
      (x.ok = true ↔ (∀ p ∈ x.tagA :: x.tagB :: x.data, ((List.range 8).filter (fun i => p.1.getLsbD i)).length % 2 = (if p.2 then 0 else 1))
            ∧ x.req.t ≠ x.req.f ∧ x.ack.t ≠ x.ack.f)
          ∧ w.sent.ok = true ∧ w.sent.tag? = some (w.ctx % 32))
  -- a word during a replay
  ∧ (∀ (ch : Nat) (w : ChWord) (x : ChRx) (s : State),
      ((s.chan ch).replay = true ∧ (s.chan ch).buf.length < 8) →
      exec (.channelWord ch w x) s = .next (s.close (s.setChan ch { s.chan ch with buf := (s.chan ch).buf ++ [w] })))
  -- a replay that passes
  ∧ (∀ (ch : Nat) (rx : List ChRx) (s : State),
      ((s.chan ch).replay = true ∧ rx.length ≤ (s.chan ch).buf.length ∧ rx.all ChRx.ok = true) →
      exec (.channelReplay ch rx) s = .next (s.close (s.setChan ch { s.chan ch with buf := [], fails := 0, replay := false })))
  -- a replay that fails again before the fourth time
  ∧ (∀ (ch : Nat) (pass : List ChWord) (w : ChWord) (rest : List ChWord) (ok later : List ChRx) (x : ChRx) (s : State),
      ((s.chan ch).replay = true ∧ (s.chan ch).buf = pass ++ w :: rest) →
      (ok.length = pass.length ∧ ok.all ChRx.ok = true ∧ x.ok = false) →
      (pass ≠ [] ∨ (s.chan ch).fails < 3) →
      let fails := if pass.isEmpty then (s.chan ch).fails + 1 else 1
      let v := s.setChan ch { s.chan ch with buf := w :: rest, fails := fails }
      exec (.channelReplay ch (ok ++ x :: later)) s = .next (s.close
        (v.setChan ch { s.chan ch with buf := w :: rest, fails := fails, replays := (s.chan ch).replays + 1 })))
  -- the fourth failure
  ∧ (∀ (ch ctx : Nat) (w : ChWord) (rest : List ChWord) (x : ChRx) (s : State),
      ((s.chan ch).replay = true ∧ (s.chan ch).buf = w :: rest ∧ (s.chan ch).fails = 3) →
      x.ok = false →
      let v := s.setChan ch { s.chan ch with fails := 4 }
      let keep := rest.filter (fun y => y.ctx != ctx)
      let a := v.setChan ch { v.chan ch with buf := keep, fails := 0, replay := !keep.isEmpty, checks := (v.chan ch).checks + 1 }
      let b := v.setChan ch { v.chan ch with buf := [], fails := 0, replay := false }
      (x.tag? = some ctx → exec (.channelReplay ch [x]) s = .next (s.close ((a.raiseIn 1 ctx 0xFF [ch]).machineCheck ctx w.cmd)))
        ∧ (x.tag? = none → exec (.channelReplay ch [x]) s = .next (s.close
          ((((w :: rest).filterMap (fun w => w.cmd)).eraseDups).foldl (fun (s : State) i => s.fail i .internal) (b.raise 2 [ch])))))

/-- Boundary scan is open in every state. Halting and stepping the bench core, reading and writing memory and writing registers are open only
where debug is: in BLANK, or in MAKER or RETURN with DBG; health registers and the event log also in FIELD with TELEM. A scan shows zeros
for what is secret. What is not open changes nothing. -/
def Obligations.JtagAccess : Prop :=
  -- boundary scan
  (∀ (s : State),
      exec (.jtagAccess .boundary) s = .next (s.close (s.emit (.jtag []))))
  -- debug open: the core, the scan, the event log
  ∧ (∀ (b : Bool) (s : State),
      s.jtagOpen = true →
      exec (.jtagAccess (.halt b)) s = .next (s.close { s with sec.benchHalt := b })
          ∧ exec (.jtagAccess .step) s = .next (s.close (if s.sec.benchHalt then s.emit (.jtag []) else s))
          ∧ exec (.jtagAccess .scan) s = .next (s.close (s.emit (.jtag (zeros 32))))
          ∧ exec (.jtagAccess .eventLog) s = .next (s.close (s.emit (.jtag (s.evt.log.flatMap evtBytes)))))
  -- debug open: memory
  ∧ (∀ (a n : Nat) (bs : Bytes) (s : State),
      (s.jtagOpen = true ∧ s.isOn domMEM = true) →
      (a + n ≤ memEnd ∧ a + bs.length ≤ memEnd) →
      exec (.jtagAccess (.memRead a n)) s = .next (s.close (s.emit (.jtag (s.mem.data.read a n))))
          ∧ exec (.jtagAccess (.memWrite a bs)) s = .next (s.close (s.memWrite a bs)))
  -- debug open: registers
  ∧ (∀ (off : Nat) (w : Word) (s : State),
      (s.jtagOpen = true ∧ s.isOn (regDom 0 off) = true) →
      exec (.jtagAccess (.regRead off)) s = .next (s.close (s.emit (.jtag (s.regBytes off))))
          ∧ exec (.jtagAccess (.regWrite off w)) s = .next (s.close (s.applyWrite 0 off w [])))
  -- debug closed, telemetry open: the event log
  ∧ (∀ (s : State),
      (s.jtagOpen = false ∧ s.jtagTelem = true) →
      exec (.jtagAccess .eventLog) s = .next (s.close (s.emit (.jtag (s.evt.log.flatMap evtBytes)))))
  -- debug closed, telemetry open: the health registers
  ∧ (∀ (off : Nat) (s : State),
      (s.jtagOpen = false ∧ s.jtagTelem = true) →
      (0x70000 ≤ off ∧ off < 0x80000 ∧ s.isOn (regDom 0 off) = true) →
      exec (.jtagAccess (.regRead off)) s = .next (s.close (s.emit (.jtag (s.regBytes off)))))
  -- debug closed
  ∧ (∀ (j : Jtag) (s : State),
      s.jtagOpen = false →
      ((match j with | .boundary => false | .regRead off => !(s.jtagTelem && decide (0x70000 ≤ off ∧ off < 0x80000)) | .eventLog => !s.jtagTelem | _ => true) = true) →
      exec (.jtagAccess j) s = .next (s.close s))

/-- A port's request waits for its lines' channels, and wakes MEM where that is not ON. Each channel takes PANIC requests of the real-time ports
first, then urgent ones, row hits, the others and reads of the lehr, the oldest of a level first (line by line: log entry 214). A read
inside the address space delivers the bytes with the poison of its lines; one failed bit of a line is corrected and counted; two, or one of
the address tag, make it uncorrectable: delivered as read, marked, counted, raised and handed to whoever takes it (log entry 210). A read
beyond 15 GiB raises E016 and delivers free bytes marked poisoned. A write inside stores its bytes, their lines' check words, and the mark
where the data carries it; one beyond raises E016 and stores nothing. The check word holds code, poison bit and tag, its code an opaque
function. A remapped line lies in its spare. The lines of an access open their rows: the write-out, the capture ring and the carve clusters
leave them open, the ledger engine and the lehr close them, every other port leaves them open until they are idle or a waiting request
misses them; that a microsecond without a hit is idle enough is the model's reading (log entry 209). -/
def Obligations.MemoryPorts : Prop :=
  -- a request comes
  (∀ (port : Fin 10) (a len fill free : Nat) (wrong : List (Nat × List LineBit)) (bytes : Bytes) (mark : Bool) (go : List (Fin 4)) (s : State),
      s.isOn domMEM = true →
      let v := s.fifos fill free
      let rd : MemReq := ⟨port.val, a, len, none, wrong, false, false, reqLines a len⟩
      let wr : MemReq := ⟨port.val, a, bytes.length, some bytes, wrong, false, mark, reqLines a bytes.length⟩
      let on (r : MemReq) := ((({ v with mem.waiting := v.mem.waiting ++ [r] } : State).missCloses r).serveNone).serveMem (go.map (·.val))
      exec (.memoryRead port a len wrong fill free go) s = .next (s.close ((on rd).tablesJudged s))
        ∧ exec (.memoryWrite port a bytes mark wrong fill free go) s = .next (s.close ((on wr).tablesJudged s)))
  -- MEM not ON
  ∧ (∀ (port : Fin 10) (a len fill free : Nat) (wrong : List (Nat × List LineBit)) (bytes : Bytes) (mark : Bool) (go : List (Fin 4)) (s : State),
      s.isOn domMEM = false →
      let v := s.fifos fill free
      let rd : MemReq := ⟨port.val, a, len, none, wrong, false, false, reqLines a len⟩
      let wr : MemReq := ⟨port.val, a, bytes.length, some bytes, wrong, false, mark, reqLines a bytes.length⟩
      exec (.memoryRead port a len wrong fill free go) s = .next (s.close
          ((({ v with mem.waiting := v.mem.waiting ++ [rd] } : State).wake domMEM).tablesJudged s))
        ∧ exec (.memoryWrite port a bytes mark wrong fill free go) s = .next (s.close
          ((({ v with mem.waiting := v.mem.waiting ++ [wr] } : State).wake domMEM).tablesJudged s)))
  -- a channel's next access, of the requests that wait
  ∧ (∀ (before after' : List MemReq) (r : MemReq) (c x : Nat) (s : State),
      s.firstLine c r = some x →
      (∀ q ∈ before, ∀ y, s.firstLine c q = some y → s.memLevel r x < s.memLevel q y) →
      (∀ q ∈ after', ∀ y, s.firstLine c q = some y → s.memLevel r x ≤ s.memLevel q y) →
      let q := { r with left := r.left.filter (fun y => y != x) }
      s.memPick c (before ++ r :: after') = some (x, q, before ++ if q.left.isEmpty then after' else q :: after'))
  -- the line a request takes first in a channel
  ∧ (∀ (c : Nat) (r : MemReq) (s : State),
      (∀ x, s.firstLine c r = some x → x ∈ r.left ∧ s.channelOf x = c ∧ (s.rowHit x = true ∨ ∀ y ∈ r.left, s.channelOf y = c → s.rowHit y = false))
          ∧ (s.firstLine c r = none ↔ ∀ y ∈ r.left, s.channelOf y ≠ c))
  -- the levels of Table 14.3
  ∧ (∀ (r q : MemReq) (x y : Nat) (s : State),
      (s.inPanic 5 = true ∧ q.port = 4 ∧ q.urgent = false) →
      (r.port = 5 → s.memLevel r x < s.memLevel q y)
          ∧ (r.port = 5 → s.rowHit x = true → s.rowHit y = false → s.memLevel r x < s.memLevel r y)
          ∧ (r.port = 4 ∧ r.urgent = true → s.memLevel r x < s.memLevel q y)
          ∧ (r.port = 4 ∧ r.urgent = false ∧ s.rowHit x = true ∧ s.rowHit y = false → s.memLevel r x < s.memLevel q y)
          ∧ (r.port = 9 → s.memLevel q y < s.memLevel r x))
  -- MEMORY_READ of bytes of one line, with no error
  ∧ (∀ (port : Fin 10) (a len fill free : Nat) (c : Fin 4) (s : State),
      (s.isOn domMEM = true ∧ s.mem.waiting = []) →
      (a % 64 + len ≤ 64 ∧ 0 < len ∧ a + len ≤ memEnd ∧ s.channelOf (a / 64) = c) →
      s.rangePoisoned a len = false →
      let r : MemReq := ⟨port.val, a, len, none, [], false, false, [a / 64]⟩
      let u := ((s.fifos fill free).missCloses r).touchLine (portHint port) (a / 64)
      exec (.memoryRead port a len [] fill free [c]) s = .next (s.close
        (((u.emit (.memData port (s.mem.data.read a len) false)).fifoServed r).tablesJudged s)))
  -- MEMORY_READ of a line with one failed bit
  ∧ (∀ (port : Fin 10) (line fill free : Nat) (k : LineBit) (c : Fin 4) (s : State),
      (s.isOn domMEM = true ∧ 64 * line + 64 ≤ memEnd ∧ s.channelOf line = c) →
      s.mem.waiting = [] →
      (k.val < 524 ∧ s.rangePoisoned (64 * line) 64 = false) →
      let r : MemReq := ⟨port.val, 64 * line, 64, none, [(line, [k])], false, false, [line]⟩
      let u := ((s.fifos fill free).missCloses r).touchLine (portHint port) line
      let v := (((u.bump MEM_ECC MEM_ECC_CE 1).setReg MEM_EADDR (BitVec.ofNat 32 (line % 2 ^ 28))).addWear 64 1).sealLine line
      exec (.memoryRead port (64 * line) 64 [(line, [k])] fill free [c]) s = .next (s.close
        (((v.emit (.memData port (s.mem.data.read (64 * line) 64) false)).fifoServed r).tablesJudged s)))
  -- MEMORY_READ of a line with two failed bits, or one of its address tag
  ∧ (∀ (port : Fin 10) (line fill free : Nat) (j k : LineBit) (c : Fin 4) (s : State),
      (s.isOn domMEM = true ∧ 64 * line + 64 ≤ memEnd ∧ s.channelOf line = c) →
      s.mem.waiting = [] →
      s.mem.poison = [] →
      (j ≠ k ∧ (524 ≤ j.val ∨ j.val < 523 ∧ k.val < 523)) →
      let r : MemReq := ⟨port.val, 64 * line, 64, none, [(line, [j, k])], false, false, [line]⟩
      let bad := [j.val, k.val].filter (fun x => decide (x < 512))
      let u := ((s.fifos fill free).missCloses r).touchLine (portHint port) line
      let u : State := if bad.isEmpty then u else
        { u with mem.data := u.mem.data.write (64 * line) (flipBits bad (s.mem.data.read (64 * line) 64)) }
      let u := if k.val = 523 then u.setPoison line true else u
      let v := ((u.bump MEM_ECC MEM_ECC_UE 1).setReg MEM_EADDR (BitVec.ofNat 32 (2 ^ 31 + line % 2 ^ 28))).setPoison line true
      let v := (v.raise 15 [line]).sealLine line
      let v := (v.emit (.memData port (v.mem.data.read (64 * line) 64) true)).takePoison port line
      exec (.memoryRead port (64 * line) 64 [(line, [j, k])] fill free [c]) s = .next (s.close ((v.fifoServed r).tablesJudged s)))
  -- the check word of a line
  ∧ (∀ (data : Bytes) (p : Bool) (line : Nat),
      let w := checkWord data p line
      w % 2 ^ 11 = Config.secded (leNat data + (if p then 2 ^ 512 else 0)) % 2 ^ 11 ∧ w.testBit 11 = p ∧ w / 2 ^ 12 = line % 2 ^ 20)
  -- a write leaves the check word of the line it writes
  ∧ (∀ (a : Nat) (bs : Bytes) (s : State),
      (a % 64 + bs.length ≤ 64 ∧ bs ≠ []) →
      let v := s.memWrite a bs
      let l := a / 64
      SMap.get? v.mem.check (s.checkKey l) = some (checkWord (v.mem.data.read (64 * l) 64) (v.poisoned l) l))
  -- MEMORY_READ beyond the space
  ∧ (∀ (port : Fin 10) (a len fill free : Nat) (go : List (Fin 4)) (wrong : List (Nat × List LineBit)) (s : State),
      s.isOn domMEM = true →
      s.mem.waiting = [] →
      memEnd < a + len →
      let r : MemReq := ⟨port.val, a, len, none, wrong, false, false, []⟩
      let u := s.fifos fill free
      let v := (u.emit (.memData port ((List.range len).map (Config.freeByte s.fresh)) true)).raise 16 [port.val]
      exec (.memoryRead port a len wrong fill free go) s = .next (s.close
        (((({ v with fresh := s.fresh + 1 } : State).takePoison port (a / 64)).fifoServed r).tablesJudged s)))
  -- MEMORY_WRITE of bytes of one line
  ∧ (∀ (port : Fin 10) (a fill free : Nat) (bytes : Bytes) (mark : Bool) (c : Fin 4) (s : State),
      (s.isOn domMEM = true ∧ s.mem.waiting = []) →
      (a % 64 + bytes.length ≤ 64 ∧ bytes ≠ [] ∧ a + bytes.length ≤ memEnd ∧ s.channelOf (a / 64) = c) →
      let r : MemReq := ⟨port.val, a, bytes.length, some bytes, [], false, mark, [a / 64]⟩
      let u := (((s.fifos fill free).missCloses r).touchLine (portHint port) (a / 64)).memWrite a bytes
      exec (.memoryWrite port a bytes mark [] fill free [c]) s = .next (s.close
        (((if mark then u.setPoison (a / 64) true else u).fifoServed r).tablesJudged s)))
  -- MEMORY_WRITE beyond the space
  ∧ (∀ (port : Fin 10) (a fill free : Nat) (bytes : Bytes) (mark : Bool) (wrong : List (Nat × List LineBit)) (go : List (Fin 4)) (s : State),
      (s.isOn domMEM = true ∧ s.mem.waiting = [] ∧ memEnd < a + bytes.length) →
      let r : MemReq := ⟨port.val, a, bytes.length, some bytes, wrong, false, mark, []⟩
      exec (.memoryWrite port a bytes mark wrong fill free go) s = .next (s.close
        ((((s.fifos fill free).raise 16 [port.val]).fifoServed r).tablesJudged s)))
  -- where a line lies
  ∧ (∀ (i line : Nat) (s : State),
      (i < 32 ∧ s.bit (MEM_REMAP i) MEM_REMAP_VALID = true ∧ s.fld (MEM_REMAP i) MEM_REMAP_LINE = line) →
      (∀ j < i, s.bit (MEM_REMAP j) MEM_REMAP_VALID = false ∨ s.fld (MEM_REMAP j) MEM_REMAP_LINE ≠ line) →
      s.physLine line = 130560 * 2048 + Config.sparePlace i % (512 * 2048))
  -- the row that an access leaves behind
  ∧ (∀ (port : Fin 10) (line : Nat) (s : State),
      let v := s.touchLine (portHint port) line
      let b := s.bank line
      (port.val ∈ [3, 5, 6] → SMap.get? v.mem.rows b = some (s.rowAt line, false))
        ∧ (port.val ∈ [8, 9] → v.mem.rows = SMap.del b s.mem.rows)
        ∧ (port.val ∈ [0, 1, 2, 4, 7] → SMap.get? v.mem.rows b = some (s.rowAt line, true)))
  -- an idle clock closes the rows that AUTO left open
  ∧ (∀ (s : State),
      s.tick.mem.rows = s.mem.rows.filter (fun e => !e.2.2))

/-- While a PANIC request of a real-time port, one whose FIFO is past its watermark, waits for the channel, a due refresh is postponed, and the
eighth is forced; otherwise it is issued at once. The oldest request of a port that has waited URG_AGE becomes URGENT, but for the real-time
ports and the lehr. A training round that TRAIN, the period or the temperature calls for shows its temperature, takes each setting it finds
and counts; a channel without one keeps its setting, and the round fails with E018; so does a round abandoned after 1 s. The lehr reads line
by line while nothing waits for the line's channel, records each lap that ends with its minutes, and raises E021 once for a lap that passes
LAPMAX. -/
def Obligations.RefreshTrainingAndLehr : Prop :=
  -- REFRESH_DUE with no PANIC request for the channel
  (∀ (c : Fin 4) (fill free : Nat) (s : State),
      (s.isOn domMEM = true ∧ (s.fifos fill free).panicWaits c = false) →
      exec (.refreshDue c fill free) s = .next (s.close (s.fifos fill free)))
  -- REFRESH_DUE while one waits
  ∧ (∀ (c : Fin 4) (fill free : Nat) (s : State),
      (s.isOn domMEM = true ∧ (s.fifos fill free).panicWaits c = true) →
      let v := s.fifos fill free
      let k := v.fld MEM_REF (pendFld c) + 1
      exec (.refreshDue c fill free) s = .next (s.close
        (if k < 8 then v.setFld MEM_REF (pendFld c) k else (v.setFld MEM_REF (pendFld c) 7).bump MEM_REF MEM_REF_FORCED 1)))
  -- a PANIC request: a real-time port's, whose FIFO is past its watermark
  ∧ (∀ (port c : Nat) (s : State),
      (s.inPanic port = true ↔ port = 5 ∧ s.mem.rt0 < 256 * s.fld (MEM_RT 0) MEM_RT_LOW ∨ port = 6 ∧ s.mem.rt1 < 256 * s.fld (MEM_RT 1) MEM_RT_LOW)
          ∧ (s.panicWaits c = true ↔ ∃ r ∈ s.mem.waiting, s.inPanic r.port = true ∧ ∃ x ∈ r.left, s.channelOf x = c))
  -- an entry into PANIC is counted, an exit is not
  ∧ (∀ (fill free : Nat) (s : State),
      (s.inPanic 6 = false ∧ 256 * s.fld (MEM_RT 1) MEM_RT_LOW ≤ free) →
      let v : State := { s with mem.rt0 := fill, mem.rt1 := free }
      s.fifos fill free = if fill < 256 * s.fld (MEM_RT 0) MEM_RT_LOW ∧ s.inPanic 5 = false then v.bump (MEM_RT 0) MEM_RT_PANICS 1 else v)
  -- URGENT_AGE
  ∧ (∀ (port : Fin 10) (before after' : List MemReq) (r : MemReq) (s : State),
      (port.val ≠ 5 ∧ port.val ≠ 6 ∧ port.val ≠ 9) →
      (s.mem.waiting = before ++ r :: after' ∧ r.port = port.val ∧ r.urgent = false) →
      (∀ q ∈ before, q.port ≠ port.val ∨ q.urgent = true) →
      exec (.urgentAge port) s = .next (s.close { s with mem.waiting := before ++ { r with urgent := true } :: after' }))
  -- TRAINING_ROUND
  ∧ (∀ (temp : Int) (found : Vector (Option Nat) 4) (s : State),
      (s.isOn domMEM = true ∧ s.bit MEM_STAT MEM_STAT_READY = true) →
      (s.mem.round = true ∨ (s.fld MEM_CTL MEM_CTL_PERIOD ≠ 0 ∧ s.mem.trainedAt + s.fld MEM_CTL MEM_CTL_PERIOD * 60000000 ≤ s.now)
        ∨ (s.fld MEM_CTL MEM_CTL_DTEMP ≠ 0 ∧ s.fld MEM_CTL MEM_CTL_DTEMP ≤ (temp - s.fldInt MEM_STAT MEM_STAT_TEMP).natAbs)) →
      let v := s.setFldInt MEM_STAT MEM_STAT_TEMP temp
      let set (c : Nat) : Option Nat := match found.toList.getD c none with | some x => some x | none => s.mem.settings.getD c none
      let kept := (List.range 4).filter (fun c => (found.toList.getD c none).isNone)
      let v := (({ v with mem.settings := (List.range 4).map set } : State).bump MEM_TRAIN MEM_TRAIN_ROUNDS 1).setFld MEM_STAT MEM_STAT_KEEP (maskOf kept)
      let v := ({ v with mem.round := false, mem.trainedAt := s.now } : State).setBit MEM_CTL MEM_CTL_TRAIN false
      exec (.trainingRound temp found) s = .next (s.close
        (if kept = [] then v else (v.bump MEM_TRAIN MEM_TRAIN_FAILS 1).raise 18 [maskOf kept])))
  -- TRAINING_ROUND that nothing calls for
  ∧ (∀ (temp : Int) (found : Vector (Option Nat) 4) (s : State),
      (s.mem.round = false ∧ s.roundDue = false ∧ s.roundTemp temp = false) →
      exec (.trainingRound temp found) s = .next (s.close s))
  -- TRAINING_ROUND_TIMEOUT
  ∧ (∀ (left : List (Fin 4)) (s : State),
      (s.isOn domMEM = true ∧ s.bit MEM_STAT MEM_STAT_READY = true) →
      (left ≠ [] ∧ (s.mem.round = true ∨ s.roundDue = true)) →
      let kept := (left.map (·.val)).filter (fun c => decide (c < 4))
      let v := (s.bump MEM_TRAIN MEM_TRAIN_ROUNDS 1).setFld MEM_STAT MEM_STAT_KEEP (maskOf kept)
      let v := ({ v with mem.round := false, mem.trainedAt := s.now } : State).setBit MEM_CTL MEM_CTL_TRAIN false
      exec (.trainingRoundTimeout left) s = .next (s.close ((v.bump MEM_TRAIN MEM_TRAIN_FAILS 1).raise 18 [maskOf kept])))
  -- LEHR_READ
  ∧ (∀ (wrong : List LineBit) (s : State),
      (s.isOn domMEM = true ∧ s.bit MEM_STAT MEM_STAT_READY = true) →
      s.channelBusy s.mem.lehr = false →
      let v := ((s.touch 9 (64 * s.mem.lehr) 64).eccLine s.mem.lehr (wrong.map (·.val))).tablesJudged s
      exec (.lehrRead wrong) s = .next (s.close
        (if v.mem.lehr + 1 < memEnd / 64 then { v with mem.lehr := v.mem.lehr + 1 }
          else { ((v.setFld MEM_LAP MEM_LAP_LAST (min (v.mem.lapTime / 60000000) 65535)).setFld MEM_LAP MEM_LAP_NOW 0) with
            mem.lehr := 0, mem.lapRaised := false, mem.lapTime := 0 })))
  -- LEHR_READ while a request waits for its channel
  ∧ (∀ (wrong : List LineBit) (s : State),
      (∃ r ∈ s.mem.waiting, ∃ x ∈ r.left, s.channelOf x = s.channelOf s.mem.lehr) →
      exec (.lehrRead wrong) s = .next (s.close s))
  -- a microsecond of a lap
  ∧ (∀ (s : State),
      s.isOn domMEM = true →
      s.lapTick.mem.lapTime = s.mem.lapTime + 1
          ∧ (60000000 ∣ s.mem.lapTime + 1 → s.lapTick.fld MEM_LAP MEM_LAP_NOW = min ((s.mem.lapTime + 1) / 60000000) 65535))
  -- LEHR_LAP_OVERRUN
  ∧ (∀ (s : State),
      (s.isOn domMEM = true ∧ s.fld MEM_SCRUB MEM_SCRUB_LAPMAX ≠ 0 ∧ s.fld MEM_SCRUB MEM_SCRUB_LAPMAX < s.mem.lapTime / 60000000 ∧ s.mem.lapRaised = false) →
      exec .lehrLapOverrun s = .next (s.close (({ s with mem.lapRaised := true } : State).raise 21 [s.mem.lapTime / 60000000])))
  -- LEHR_LAP_OVERRUN of a lap that has not passed LAPMAX, or has raised its event
  ∧ (∀ (s : State),
      (s.fld MEM_SCRUB MEM_SCRUB_LAPMAX = 0 ∨ s.mem.lapTime / 60000000 ≤ s.fld MEM_SCRUB MEM_SCRUB_LAPMAX ∨ s.mem.lapRaised = true) →
      exec .lehrLapOverrun s = .next (s.close s))

/-- ALLOC takes the head of the cullet list of the smallest pool that fits, with its requester as holder and final owner, or answers EMPTY; pool
3 keeps 64 buffers for schuss commands; a size that no pool holds is refused with WHY 6. SHARE by a holder adds a holder and names the final
owner, RELEASE removes a holder that is not the final owner, FREE by the final owner and last holder raises the generation and returns the
buffer. A handle that fails its checks, and a requester without the right, are refused: POOL_ERR records who, what and why, and E023 is
raised. -/
def Obligations.PoolOperations : Prop :=
  -- ALLOC of the requests of one cycle: those not contended for, then those contended for in rotating order (R403)
  (∀ (l : List (Fin 32 × Nat)) (schuss : Bool) (s : State),
      let m := l.map (fun x => (x.1.val, x.2))
      let calm := (m.filter (fun x => !s.contended m schuss x)).foldl (fun (s : State) x => s.serveAlloc schuss false x) s
      exec (.alloc l schuss) s = .next (s.close (if s.isOn domMEM then
        (rotate s.mem.grant (m.filter (s.contended m schuss))).foldl (fun (s : State) x => s.serveAlloc schuss true x) calm
      else s.wake domMEM)))
  -- ALLOC of one request that finds a buffer never taken before
  ∧ (∀ (who : Fin 32) (size p : Nat) (schuss : Bool) (s : State),
      (s.isOn domMEM = true ∧ poolFor size = some p) →
      ((if p = 3 ∧ schuss = false then 64 else 0) < s.poolFree p) →
      (s.mem.pools.getD p {}).next < s.mem.layout.getD (3 + p) 0 →
      let q := s.mem.pools.getD p {}
      let v := s.setPool p { q with next := q.next + 1, holders := SMap.ins q.next ([who.val % 32], who.val % 32) q.holders }
      exec (.alloc [(who, size)] schuss) s = .next (s.close ((v.poolStat p).emit (.pool (who.val % 32) (some (mkHandle p q.next (SMap.getD q.gens 0 q.next)))))))
  -- ALLOC finds none
  ∧ (∀ (who : Fin 32) (size p : Nat) (schuss : Bool) (s : State),
      (s.isOn domMEM = true ∧ poolFor size = some p) →
      (s.poolFree p ≤ (if p = 3 ∧ schuss = false then 64 else 0)) →
      exec (.alloc [(who, size)] schuss) s = .next (s.close (s.emit (.pool (who.val % 32) none))))
  -- ALLOC of a size that no pool holds
  ∧ (∀ (who : Fin 32) (size : Nat) (schuss : Bool) (s : State),
      (s.isOn domMEM = true ∧ 2097152 < size) →
      exec (.alloc [(who, size)] schuss) s = .next (s.close ((s.poolRefuse (who.val % 32) 0 6).emit (.pool (who.val % 32) none))))
  -- SHARE
  ∧ (∀ (h : Nat) (who new owner : Fin 32) (off len : Nat) (s : State),
      s.checkHandle h off len = none →
      ((s.holdersOf h).1.contains who.val = true ∧ (owner = who ∨ owner = new)) →
      let hs := (s.holdersOf h).1
      exec (.share h who new owner off len) s = .next (s.close
        (s.setHolders h (if hs.contains new.val then hs else hs ++ [new.val], owner.val))))
  -- RELEASE
  ∧ (∀ (h : Nat) (who : Fin 32) (off len : Nat) (s : State),
      s.checkHandle h off len = none →
      ((s.holdersOf h).1.contains who.val = true ∧ (s.holdersOf h).2 ≠ who) →
      exec (.release h who off len) s = .next (s.close
          (s.setHolders h ((s.holdersOf h).1.filter (fun x => x != who.val), (s.holdersOf h).2))))
  -- FREE
  ∧ (∀ (h : Nat) (who : Fin 32) (off len : Nat) (s : State),
      s.checkHandle h off len = none →
      s.holdersOf h = ([who.val], who.val) →
      let p := hPool h
      let q := s.mem.pools.getD p {}
      let q := { q with
        freed := q.freed ++ [hIndex h], holders := SMap.del (hIndex h) q.holders, gens := SMap.put q.gens 0 (hIndex h) ((hGen h + 1) % 256) }
      exec (.free h who off len) s = .next (s.close ((s.setPool p q).poolStat p)))
  -- a handle that fails its checks
  ∧ (∀ (h why : Nat) (who new owner : Fin 32) (off len : Nat) (s : State),
      s.checkHandle h off len = some why →
      exec (.share h who new owner off len) s = .next (s.close (s.poolRefuse who 1 why))
          ∧ exec (.release h who off len) s = .next (s.close (s.poolRefuse who 2 why))
          ∧ exec (.free h who off len) s = .next (s.close (s.poolRefuse who 3 why)))
  -- SHARE and RELEASE by one that holds nothing
  ∧ (∀ (h : Nat) (who new owner : Fin 32) (off len : Nat) (s : State),
      s.checkHandle h off len = none →
      (s.holdersOf h).1.contains who.val = false →
      exec (.share h who new owner off len) s = .next (s.close (s.poolRefuse who 1 3))
          ∧ exec (.release h who off len) s = .next (s.close (s.poolRefuse who 2 3)))
  -- SHARE to a final owner that is neither
  ∧ (∀ (h : Nat) (who new owner : Fin 32) (off len : Nat) (s : State),
      s.checkHandle h off len = none →
      ((s.holdersOf h).1.contains who.val = true ∧ owner ≠ who ∧ owner ≠ new) →
      exec (.share h who new owner off len) s = .next (s.close (s.poolRefuse who 1 4)))
  -- RELEASE by the final owner
  ∧ (∀ (h : Nat) (who : Fin 32) (off len : Nat) (s : State),
      s.checkHandle h off len = none →
      ((s.holdersOf h).1.contains who.val = true ∧ (s.holdersOf h).2 = who) →
      exec (.release h who off len) s = .next (s.close (s.poolRefuse who 2 4)))
  -- FREE by another than the final owner
  ∧ (∀ (h : Nat) (who : Fin 32) (off len : Nat) (s : State),
      s.checkHandle h off len = none →
      (s.holdersOf h).2 ≠ who →
      exec (.free h who off len) s = .next (s.close (s.poolRefuse who 3 4)))
  -- FREE while others hold the buffer
  ∧ (∀ (h : Nat) (who : Fin 32) (off len : Nat) (s : State),
      s.checkHandle h off len = none →
      ((s.holdersOf h).2 = who ∧ (s.holdersOf h).1 ≠ [who.val] ∧ (s.holdersOf h).1.contains who.val = true) →
      exec (.free h who off len) s = .next (s.close (s.poolRefuse who 3 5)))

/-- A cached read finds its line or installs it in the way that the LFSR names and delivers its bytes; a write marks the line dirty, owned by
the bench core where that writes. A read of poisoned data stops its context. An access beyond the space raises E016; one that is not cached
or crosses a line does nothing; with CACHE not ON it wakes it. An odd number of failed bits in 8 bytes is a parity error; in a clean line it
counts and refetches it; in a dirty one it counts, poisons the line, drops it and meets its owner with a machine check, and the access
stops. A maintenance operation's end clears BUSY and locks the way it filled. That the access stops is the model's reading (log entry 124). -/
def Obligations.TheControlCache : Prop :=
  -- a read
  (∀ (a len : Nat) (ctx : Fin 32) (s : State),
      (s.isOn domCACHE = true ∧ a < memEnd ∧ s.cacheable a = true ∧ a % 64 + len ≤ 64) →
      let g := s.cacheGet (a / 64) ctx
      let c := g.2.lineAt (a / 64) g.1
      let v := g.2.emit (.memData 7 (slice c.data (a % 64) len) c.poison)
      exec (.cacheAccess a len ctx none []) s = .next (s.close (if c.poison then v.consumed ctx a else v)))
  -- whom poisoned data stops (R395)
  ∧ (∀ (ctx : Fin 32) (a : Nat) (s : State),
      (ctx.val < 16 → s.bit (TASK_STATUS ctx) TASK_STATUS_BUSY = true → s.consumed ctx a = s.trapCause ctx 4 (a % 2 ^ 32))
          ∧ (ctx.val = ctxBENCH ∨ ctx.val = ctxLEDGER → s.consumed ctx a = s.machineCheck ctx none))
  -- a write
  ∧ (∀ (a len : Nat) (ctx : Fin 32) (d : Bytes) (s : State),
      (s.isOn domCACHE = true ∧ a < memEnd ∧ s.cacheable a = true ∧ a % 64 + d.length ≤ 64) →
      let g := s.cacheGet (a / 64) ctx
      let c := g.2.lineAt (a / 64) g.1
      exec (.cacheAccess a len ctx (some d) []) s = .next (s.close ((g.2.setLine g.1 { c with
        data := patch c.data (a % 64) d, dirty := true, owner := if ctx.val = ctxBENCH then ctxBENCH else c.owner,
        poison := c.poison && decide (d.length < 64) }).tablesJudged s)))
  -- CACHE not ON
  ∧ (∀ (a len : Nat) (ctx : Fin 32) (data : Option Bytes) (wrong : List CacheBit) (s : State),
      s.isOn domCACHE = false →
      exec (.cacheAccess a len ctx data wrong) s = .next (s.close (s.wake domCACHE)))
  -- not cached, or across a line
  ∧ (∀ (a len : Nat) (ctx : Fin 32) (data : Option Bytes) (wrong : List CacheBit) (s : State),
      (s.isOn domCACHE = true ∧ a < memEnd) →
      (s.cacheable a = false ∨ 64 < a % 64 + (match data with | some d => d.length | none => len)) →
      exec (.cacheAccess a len ctx data wrong) s = .next (s.close s))
  -- beyond the space (R380)
  ∧ (∀ (a len : Nat) (ctx : Fin 32) (d : Bytes) (wrong : List CacheBit) (s : State),
      (s.isOn domCACHE = true ∧ memEnd ≤ a) →
      let v := (s.raise 16 [7]).emit (.memData 7 ((List.range len).map (Config.freeByte s.fresh)) true)
      exec (.cacheAccess a len ctx none wrong) s = .next (s.close (({ v with fresh := s.fresh + 1 } : State).consumed ctx a))
        ∧ exec (.cacheAccess a len ctx (some d) wrong) s = .next (s.close (s.raise 16 [7])))
  -- a parity error in a clean line that is not locked
  ∧ (∀ (a len : Nat) (ctx : Fin 32) (wrong : List CacheBit) (w : Nat) (s : State),
      parityFails wrong = true →
      (s.isOn domCACHE = true ∧ a < memEnd ∧ s.cacheable a = true ∧ a % 64 + len ≤ 64) →
      (s.cacheWay (a / 64) = some w ∧ (s.lineAt (a / 64) w).dirty = false) →
      s.wayLocked w = false →
      let v := (s.bump CC_STAT CC_STAT_PCLEAN 1).dropLine (a / 64) w
      let g := v.cacheGet (a / 64) ctx
      let c := g.2.lineAt (a / 64) g.1
      let v := g.2.emit (.memData 7 (slice c.data (a % 64) len) c.poison)
      exec (.cacheAccess a len ctx none wrong) s = .next (s.close (if c.poison then v.consumed ctx a else v)))
  -- a parity error in a dirty line
  ∧ (∀ (a len : Nat) (ctx : Fin 32) (data : Option Bytes) (wrong : List CacheBit) (w : Nat) (s : State),
      parityFails wrong = true →
      (s.isOn domCACHE = true ∧ a < memEnd ∧ s.cacheable a = true ∧ a % 64 + (match data with | some d => d.length | none => len) ≤ 64) →
      (s.cacheWay (a / 64) = some w ∧ (s.lineAt (a / 64) w).dirty = true) →
      let c := s.lineAt (a / 64) w
      let v := (s.bump CC_STAT CC_STAT_PDIRTY 1).setFld CC_STAT CC_STAT_CTX c.owner
      let v := ((v.writeBack c).setPoison (a / 64) true).dropLine (a / 64) w
      exec (.cacheAccess a len ctx data wrong) s = .next (s.close
        ((if c.owner < 16 then v.gafferCheck c.owner 2 0 (v.fld (SEQ_BANK c.owner) SEQ_BANK_CUR) (64 * (a / 64)) else v.machineCheck c.owner none).tablesJudged s)))
  -- CC_MAINT_DONE
  ∧ (∀ (s : State),
      s.bit CC_MAINT CC_MAINT_BUSY = true →
      let v := s.setBit CC_MAINT CC_MAINT_BUSY false
      exec .ccMaintDone s = .next (s.close { (v.setFld CC_CTL CC_CTL_LOCK (v.fld CC_CTL CC_CTL_LOCK ||| v.mem.lockDue)) with mem.lockDue := 0 }))

/-- VIN found below VWARN sets WARN, counts a dip, raises E010, ends a VIN step and judges every write's preconditions; while WARN stands a
further fall only clears RECOV. VIN found above VWARN shows RECOV while it is more than 0.5 V above and WARN stands; after 2 ms so WARN and
RECOV clear, E011 is raised and the preconditions are judged again. A fall through 5.5 V and a rail fault drop PWR_GOOD and reset the block;
a fall below 4.0 V leaves nothing powered. The operand is VIN as the monitor sees it (log entry 28). -/
def Obligations.SupplyMonitor : Prop :=
  -- SUPPLY_WARNING: a first fall
  (∀ (mv : Nat) (s : State),
      (mv < max 6500 (min 38000 (s.fld PM_VWARN PM_VWARN_VWARN)) ∧ s.bit PM_SUPPLY PM_SUPPLY_WARN = false) →
      let v : State := { s with aon.vin := mv }
      exec (.supplyWarning mv) s = .next (s.close
        ((((((v.setBit PM_SUPPLY PM_SUPPLY_WARN true).bump PM_SUPPLY PM_SUPPLY_DIPS 1).raise 10 []).vinStepFails).checkWrites))))
  -- SUPPLY_WARNING: a further fall
  ∧ (∀ (mv : Nat) (s : State),
      (mv < max 6500 (min 38000 (s.fld PM_VWARN PM_VWARN_VWARN)) ∧ s.bit PM_SUPPLY PM_SUPPLY_WARN = true) →
      exec (.supplyWarning mv) s = .next (s.close (({ s with aon.vin := mv } : State).setBit PM_SUPPLY PM_SUPPLY_RECOV false)))
  -- SUPPLY_WARNING: VIN stands above VWARN
  ∧ (∀ (mv : Nat) (s : State),
      max 6500 (min 38000 (s.fld PM_VWARN PM_VWARN_VWARN)) ≤ mv →
      exec (.supplyWarning mv) s = .next (s.close (({ s with aon.vin := mv } : State).setBit PM_SUPPLY PM_SUPPLY_RECOV
          (s.bit PM_SUPPLY PM_SUPPLY_WARN && decide (max 6500 (min 38000 (s.fld PM_VWARN PM_VWARN_VWARN)) + 500 < mv)))))
  -- SUPPLY_RECOVERY
  ∧ (∀ (mv : Nat) (s : State),
      (s.bit PM_SUPPLY PM_SUPPLY_WARN = true ∧ max 6500 (min 38000 (s.fld PM_VWARN PM_VWARN_VWARN)) + 500 < mv) →
      let v : State := { s with aon.vin := mv }
      exec (.supplyRecovery mv) s = .next (s.close
        ((((v.setBit PM_SUPPLY PM_SUPPLY_WARN false).setBit PM_SUPPLY PM_SUPPLY_RECOV false).raise 11 []).checkWrites)))
  -- VRST_FALL
  ∧ (∀ (mv : Nat) (s : State),
      mv < 5500 →
      exec (.vrstFall mv) s = .next (s.close ((((({ s with aon.vin := mv } : State).compareVin).setPwrGood false).resetBlock))))
  -- VRST_RISE
  ∧ (∀ (mv : Nat) (s : State),
      (5800 ≤ mv ∧ s.pins.pwrGood = false) →
      exec (.vrstRise mv) s = .next (s.close (({ s with aon.vin := mv } : State).beginStart)))
  -- RAIL_FAULT
  ∧ (∀ (s : State),
      exec .railFault s = .next (s.close ((s.setPwrGood false).resetBlock)))
  -- AON_POWER_LOSS
  ∧ (∀ (mv : Nat) (s : State),
      mv < 4000 →
      let v := s.resetBlock.resetRegs (fun _ => true)
      let v := (({ v with aon := { powered := false, vin := mv } } : State).setPwrGood false).allDomains 3
      exec (.aonPowerLoss mv) s = .next (s.close { v with pins.wakeLow := false }))
  -- AON_POWER_UP
  ∧ (∀ (straps : Fin 8) (s : State),
      s.aon.powered = false →
      let v := s.resetRegs (fun _ => true)
      let v : State := { v with aon := { vin := max 4000 s.aon.vin }, pins.straps := straps.val % 8 }
      exec (.aonPowerUp straps) s = .next (s.close (((v.setFld PM_LIFT PM_LIFT_ADDR (straps.val % 8)).setPwrGood false).allDomains 3)))

/-- Once every immediate domain of an entry has stopped, the entry commits and its command ends, or, where a deferred domain is named, its
completion is posted first with PEND set; once that has been sent the deferred domains stop, dirty lines go back to memory and every named
domain commits. A named domain that has not stopped in time aborts the entry with that domain as refuser. An access that needs a domain not
ON wakes it with all it needs and stalls; one that R9 does not accept reads as ones at once (the model's choice, log entry 229). A waking
domain that is ready is ON and the stalled accesses replay. -/
def Obligations.PowerDomains : Prop :=
  -- DOMAIN_STOP_DONE: no deferred domain
  (∀ (e : PmEntry) (s : State),
      s.power.entry = some e →
      (e.stage = .stopping ∧ e.named.any isDeferred = false) →
      exec .domainStopDone s = .next (s.close ((s.commitEntry e).finish e.cmd .ok)))
  -- DOMAIN_STOP_DONE: a deferred domain is named
  ∧ (∀ (e : PmEntry) (s : State),
      s.power.entry = some e →
      (e.stage = .stopping ∧ e.named.any isDeferred = true) →
      let v : State := { s with power.entry := some { e with stage := .deferred }, power.stopped := (e.named.filter (fun x => !isDeferred x)).map (·.1) }
      exec .domainStopDone s = .next (s.close ((v.setBit PM_LAST PM_LAST_PEND true).finish e.cmd .ok)))
  -- DEFERRED_STOP
  ∧ (∀ (e : PmEntry) (s : State),
      s.power.entry = some e →
      (e.stage = .deferred ∧ s.cmd? e.cmd = none) →
      exec .deferredStop s = .next (s.close (s.cleanAll.commitEntry e)))
  -- DOMAIN_STOP_TIMEOUT
  ∧ (∀ (d : Fin 27) (e : PmEntry) (s : State),
      s.power.entry = some e →
      (e.stage ≠ .waking ∧ e.named.any (fun x => x.1 == d.val) = true) →
      let v := s.account e 3 d
      exec (.domainStopTimeout d) s = .next (s.close (({ v with power.entry := none, power.stopped := [] } : State).finish e.cmd .invalidField)))
  -- DOMAIN_WAKE: the access stalls
  ∧ (∀ (f : Fn) (off : Nat) (s : State),
      (s.linkReaches f .bar0 = true ∧ fusedDom s.part (regDom f off) = false ∧ nudgePage .bar0 f off = false ∧ off % 4 = 0) →
      ((s.wake domHOST).wake (regDom f off)).isOn (regDom f off) = false →
      let v := (s.wake domHOST).wake (regDom f off)
      exec (.domainWake f .bar0 off 4) s = .next (s.close { v with power.stalled := v.power.stalled ++ [.read f .bar0 off] }))
  -- DOMAIN_WAKE: the access goes through
  ∧ (∀ (f : Fn) (off : Nat) (s : State),
      Reaches s f off →
      (nudgePage .bar0 f off = false ∧ off % 4 = 0) →
      exec (.domainWake f .bar0 off 4) s = .next (s.close (s.applyRead f .bar0 off)))
  -- DOMAIN_WAKE: an access of 8 bytes is two of 4, the lower first
  ∧ (∀ (f : Fn) (sp : Space) (off : Nat) (s : State),
      (nudgePage sp f off = false ∧ off % 8 = 0) →
      exec (.domainWake f sp off 8) s = .next (s.close ((s.readAt f sp off).readAt f sp (off + 4)))
          ∧ exec (.domainWake f sp off 4) s = .next (s.close (s.readAt f sp off)))
  -- DOMAIN_WAKE: an access of another size or alignment (R9), and one of the nudge page (R281)
  ∧ (∀ (f : Fn) (sp : Space) (off size : Nat) (s : State),
      s.linkReaches f sp = true →
      (nudgePage sp f off = false ∧ ¬ (size = 4 ∧ off % 4 = 0) ∧ ¬ (size = 8 ∧ off % 8 = 0) →
            exec (.domainWake f sp off size) s = .next (s.close (s.emit (.ones size))))
          ∧ (nudgePage sp f off = true → exec (.domainWake f sp off size) s = .next (s.close (s.emit (.readData 0#32)))))
  -- DOMAIN_READY
  ∧ (∀ (d : Fin 27) (off : Bool) (s : State),
      (s.power.waking.find? (fun x => x.1 == d.val) = some (d.val, off)) →
      let v : State := { s with power.waking := s.power.waking.filter (fun x => x.1 != d.val) }
      let v := v.setDom d 1
      let v := if d.val = domMEM ∧ off = false then v.restoreTraining else v
      let v := if 11 ≤ d.val then v.stationReady (d.val - 11) else v
      exec (.domainReady d) s = .next (s.close (v.replay.release')))

/-- From T0 the start sets PWR_GOOD, applies the BIST record, the OTP and a fresh nonce, boots both targets, trains memory, locks the frames,
reports a thermal shutdown, judges VIN and becomes ready for link training; it waits while the controller may not start or sensor 7 keeps it
locked out. The data link then comes up with its width, rate and FLIT mode. With memory ready and the CORE SRAMs usable READY becomes 1, and
late matches and held messages leave. A lift-bus frame with a bad check counts as bad, one for another address is ignored, and a match is
acknowledged, counted, and raises E012, or is kept until READY, and wakes the PM_LWAKE domains, or asserts WAKE# with HOST OFF under PERST. -/
def Obligations.StartAndLift : Prop :=
  -- START
  (∀ (t7 : Int) (found : Vector (Option Nat) 4) (savedOk : Vector Bool 4) (s : State),
      (s.aon.lockout = false ∧ s.aon.powered = true ∧ 5500 ≤ s.aon.vin ∧ s.pins.perst = false ∧ s.pins.rst = false) →
      s.pcie.trainReady = false →
      let v := ((if s.dom domHOST = 3 then s.beginStart else s).setPwrGood true).applyBist.showOtp.renewNonce
      let v := v.setBit LC_STAT LC_STAT_CERT v.certOk
      let v := ((v.boot).trainAtStart found.toList savedOk.toList).loadFrames
      let v := if v.aon.tsdDue then ({ v with aon.tsdDue := false } : State).raise 8 [v.fld HLTH_STAT HLTH_STAT_TSENS] else v
      let v := v.compareVin
      exec (.start t7 found savedOk) s = .next (s.close { v with pcie.trainReady := true }))
  -- START locked out by heat
  ∧ (∀ (t7 : Int) (found : Vector (Option Nat) 4) (savedOk : Vector Bool 4) (s : State),
      (s.aon.lockout = true ∧ 100 < t7) →
      exec (.start t7 found savedOk) s = .next (s.close s))
  -- DATA_LINK_UP
  ∧ (∀ (width speed : Nat) (flit : Bool) (s : State),
      (s.pcie.trainReady = true ∧ [1, 2, 4, 8].contains width = true ∧ 1 ≤ speed ∧ speed ≤ 6) →
      let v := (s.setFld LNK_STAT LNK_STAT_WIDTH width).setFld LNK_STAT LNK_STAT_SPEED speed
      exec (.dataLinkUp width speed flit) s = .next (s.close { (v.setBit LNK_STAT LNK_STAT_FLIT flit) with pcie.linkUp := true }))
  -- DEVICE_READY
  ∧ (∀ (s : State),
      (s.pcie.trainReady = true ∧ s.bit ID_DEV ID_DEV_READY = false ∧ s.bit MEM_STAT MEM_STAT_READY = true ∧ s.evt.coreSramBad = false) →
      exec .deviceReady s = .next (s.close ((s.setBit ID_DEV ID_DEV_READY true).lateMatches.releaseMsgs)))
  -- a bad lift-bus frame
  ∧ (∀ (a check : BitVec 8) (stop : Bool) (s : State),
      s.aon.powered = true →
      (a.toNat + check.toNat ≠ 255 ∨ (stop = false ∧ a.toNat ≠ 0xB0 + s.fld PM_LIFT PM_LIFT_ADDR ∧ a.toNat ≠ 0xBF)) →
      exec (.liftFrame a check stop) s = .next (s.close (s.bump PM_LIFT PM_LIFT_BAD 1)))
  -- a match that no stop condition ends
  ∧ (∀ (a check : BitVec 8) (s : State),
      (s.aon.powered = true ∧ a.toNat + check.toNat = 255) →
      (a.toNat = 0xB0 + s.fld PM_LIFT PM_LIFT_ADDR ∨ a.toNat = 0xBF) →
      exec (.liftFrame a check false) s = .next (s.close ((s.emit .liftAck).bump PM_LIFT PM_LIFT_BAD 1)))
  -- a frame for another address
  ∧ (∀ (a check : BitVec 8) (s : State),
      (s.aon.powered = true ∧ a.toNat + check.toNat = 255) →
      (a.toNat ≠ 0xB0 + s.fld PM_LIFT PM_LIFT_ADDR ∧ a.toNat ≠ 0xBF) →
      exec (.liftFrame a check true) s = .next (s.close s))
  -- a match once READY, with HOST not OFF
  ∧ (∀ (a check : BitVec 8) (s : State),
      (s.aon.powered = true ∧ a.toNat + check.toNat = 255) →
      (a.toNat = 0xB0 + s.fld PM_LIFT PM_LIFT_ADDR ∨ a.toNat = 0xBF) →
      (s.bit ID_DEV ID_DEV_READY = true ∧ (((s.emit .liftAck).bump PM_LIFT PM_LIFT_MATCHES 1).raise 12 []).dom domHOST ≠ 3) →
      let v := ((s.emit .liftAck).bump PM_LIFT PM_LIFT_MATCHES 1).raise 12 []
      exec (.liftFrame a check true) s = .next (s.close
        (((domains.drop 1).filter (fun d => (v.reg PM_LWAKE).getLsbD d)).foldl (fun (s : State) d => s.wake d) v)))
  -- a match before READY, under PERST
  ∧ (∀ (a check : BitVec 8) (s : State),
      (s.aon.powered = true ∧ a.toNat + check.toNat = 255) →
      (a.toNat = 0xB0 + s.fld PM_LIFT PM_LIFT_ADDR ∨ a.toNat = 0xBF) →
      (s.bit ID_DEV ID_DEV_READY = false ∧ s.dom domHOST = 3 ∧ s.pins.perst = true) →
      let v := (s.emit .liftAck).bump PM_LIFT PM_LIFT_MATCHES 1
      let v : State := { (v.setPending 12) with aon.e012Due := v.aon.e012Due + 1, aon.e012Msg := v.aon.e012Msg || !(v.pending? 12) }
      exec (.liftFrame a check true) s = .next (s.close { v with pins.wakeLow := true }))

/-- PERST# asserted, a hot reset and RESET# low for at least 10 µs take every domain but AON to OFF with what they hold; RESET# leaves the link
as it is, and a pulse of at most 1 µs does nothing, one between 1 µs and 10 µs either nothing or the reset. PERST# deasserted, RESET#
deasserted and a hot reset begin the start where it may begin: every domain of the part is ON. -/
def Obligations.ResetsOfTheBlock : Prop :=
  -- PERST_ASSERT and HOT_RESET
  (∀ (s : State),
      exec .perstAssert s = .next (s.close { s.resetBlock with pins.perst := true })
          ∧ exec .hotReset s = .next (s.close s.resetBlock.beginStart))
  -- PERST_DEASSERT
  ∧ (∀ (s : State),
      s.pins.perst = true →
      exec .perstDeassert s = .next (s.close (({ s with pins.perst := false, pins.wakeLow := false } : State).resetPower.beginStart)))
  -- RESET_ASSERT, long enough
  ∧ (∀ (ns : Nat) (s : State),
      10000 ≤ ns →
      let v := s.resetBlock.setReg LNK_STAT (s.reg LNK_STAT &&& 0x1FF#32)
      exec (.resetAssert ns) s = .next (s.close { v with
        pins.rst := true, pcie.linkUp := s.pcie.linkUp, pcie.recov := s.pcie.recov, pcie.recovRaised := s.pcie.recovRaised }))
  -- RESET_ASSERT, too short
  ∧ (∀ (ns : Nat) (s : State),
      ns ≤ 1000 →
      exec (.resetAssert ns) s = .next (s.close s))
  -- RESET_ASSERT, between
  ∧ (∀ (ns : Nat) (s : State),
      (1000 < ns ∧ ns < 10000) →
      let d := s.drawBool
      let v := d.2.resetBlock.setReg LNK_STAT (d.2.reg LNK_STAT &&& 0x1FF#32)
      exec (.resetAssert ns) s = .next (s.close (if d.1 then { v with
        pins.rst := true, pcie.linkUp := d.2.pcie.linkUp, pcie.recov := d.2.pcie.recov, pcie.recovRaised := d.2.pcie.recovRaised } else d.2)))
  -- RESET_DEASSERT
  ∧ (∀ (s : State),
      s.pins.rst = true →
      exec .resetDeassert s = .next (s.close (({ s with pins.rst := false } : State).resetPower.beginStart)))
  -- the start begins
  ∧ (∀ (s : State),
      (s.aon.powered = true ∧ 5500 ≤ s.aon.vin ∧ s.pins.perst = false ∧ s.pins.rst = false ∧ s.aon.lockout = false) →
      s.beginStart = s.allDomains 1)

/-- An FLR of an existing VF silences or drops its commands, stops its captures, begins its parisons, frees its rings, resets its registers and
state and is reported; one of the PF also disables the VFs, PASID and the DOE mailbox and ends the sessions. D3hot holds a function's
traffic; its return to D0 posts what was held, in order, and resumes its transfers. VF Enable sets or ends the VFs; PRI Enable set again
clears PRI_STOP. Entries to Recovery count, and the 16th in one second raises E013 once; the link takes the rate that software has asked for
as it retrains (log entry 207). The placement of the controls in configuration space is the model's presumption (log entry 148). -/
def Obligations.FunctionEvents : Prop :=
  -- VF_FLR
  (∀ (v : Fn) (s : State),
      (v.val ≠ 0 ∧ s.fnExists v = true) →
      let u := ((((s.flrCommands v).flrCaptures).flrParisons v).flrRings v).untold
      exec (.vfFlr v) s = .next (s.close (((u.flrRegs v).setFunc v (fun g => { cfg := flrCfg v g.cfg })).emit (.flrDone v))))
  -- VF_FLR of a VF that does not exist
  ∧ (∀ (v : Fn) (s : State),
      (v.val = 0 ∨ s.fnExists v = false) →
      exec (.vfFlr v) s = .next (s.close s))
  -- PF_FLR
  ∧ (∀ (s : State),
      let v := (s.flrFn 0).vfDisable
      let v : State := { v with pcie.numVfs := 0, pcie.pasidEn := false, pcie.doe := .idle, pcie.ideSecure := false, pcie.ideKeys := [], pcie.sessions := [] }
      exec .pfFlr s = .next (s.close (v.emit (.flrDone 0))))
  -- D3HOT_ENTRY
  ∧ (∀ (f : Fn) (s : State),
      s.fnExists f = true →
      exec (.d3hotEntry f) s = .next (s.close (s.setFunc f (fun g => { g with d3hot := true }))))
  -- D0_ENTRY
  ∧ (∀ (f : Fn) (s : State),
      ((s.func f).d3hot = true) →
      exec (.d0Entry f) s = .next (s.close
          (((s.setFunc f (fun g => { g with d3hot := false })).postAll f).pumpAll (fun c => c.fn == f.val))))
  -- VF_ENABLE set
  ∧ (∀ (num : BitVec 16) (s : State),
      (s.pcie.vfEnable = false ∧ num.toNat ≤ 63 ∧ s.pcie.linkUp = true ∧ s.power.entry = none) →
      (∀ d ∈ domClosure domHOST, s.dom d = 1) →
      fusedDom s.part domHOST = false →
      exec (.vfEnable true num) s = .next (s.close { s with pcie.vfEnable := true, pcie.numVfs := num.toNat }))
  -- VF_ENABLE cleared
  ∧ (∀ (num : BitVec 16) (s : State),
      (s.pcie.vfEnable = true ∧ s.pcie.linkUp = true ∧ s.power.entry = none) →
      (∀ d ∈ domClosure domHOST, s.dom d = 1) →
      fusedDom s.part domHOST = false →
      exec (.vfEnable false num) s = .next (s.close s.vfDisable))
  -- PRI_ENABLE_WRITE
  ∧ (∀ (f : Fn) (on : Bool) (s : State),
      (s.fnExists f = true ∧ s.pcie.linkUp = true ∧ s.power.entry = none) →
      (∀ d ∈ domClosure domHOST, s.dom d = 1) →
      fusedDom s.part domHOST = false →
      let v := s.setFunc f (fun g => { g with pri := on })
      exec (.priEnableWrite f on) s = .next (s.close (if on && !(s.func f).pri then (v.setBit (QS_FLT f) QS_FLT_PRI_STOP false).servePr else v)))
  -- LINK_RECOVERY
  ∧ (∀ (s : State),
      let l := s.pcie.recov.filter (fun t => decide (s.now < t + 1000000)) ++ [s.now]
      let v : State := { (s.retrained.bump LNK_STAT LNK_STAT_RECOV 1) with
        pcie.recov := l, pcie.recovRaised := decide (16 ≤ l.length) }
      exec .linkRecovery s = .next (s.close (if 16 ≤ l.length ∧ s.pcie.recovRaised = false then v.raise 13 [l.length] else v)))
  -- the rate that software has asked for is taken
  ∧ (∀ (s : State),
      s.pcie.rateSet = true →
      (1 ≤ (s.cfgKept 0 0x80).toNat % 16 ∧ (s.cfgKept 0 0x80).toNat % 16 ≤ 6) →
      s.retrained = s.setFld LNK_STAT LNK_STAT_SPEED ((s.cfgKept 0 0x80).toNat % 16))
  -- where software has asked for none the link keeps its rate
  ∧ (∀ (s : State),
      s.pcie.rateSet = false →
      s.retrained = s)

/-- The data of a due read of a command goes to the command; a poisoned completion ends it with DATA_POISONED, any other failure, and a time-
out, with DMA_FAULT at the failing address. A failed read of a capsule faults its SQ, a failed read of a doorbell faults the function's
polling, each once, with its ring fault. A poisoned write, and a time-out, are logged by AER. A translation that succeeds is held and
resumes the transfers that waited, one that fails parks them with a page request or ends them; the rings' own polls, shadows and entries
wait for translations too, and fail as ring faults (log entry 208). A page response resumes its transfer or ends it with DMA_FAULT. An
invalidation ends the translation at once and is completed once the reads in flight into its page, of commands, capsules and doorbell words,
have been answered. -/
def Obligations.ReadsOfHostMemory : Prop :=
  -- the data of a due read
  (∀ (id : Nat) (bs : Bytes) (c : Cmd) (s : State),
      s.cmd? id = some c →
      s.reading c = true →
      exec (.dmaReadCompletion (.command id) (.data bs)) s = .next (s.close ((s.takeIn id bs).arrived id)))
  -- a due read fails
  ∧ (∀ (id : Nat) (c : Cmd) (a l : Nat) (s : State),
      s.cmd? id = some c →
      (s.reading c = true ∧ nextChunk c.segsIn = some (a, l)) →
      let at' (v : State) : State := v.setCmd id (fun c => { c with errAddr := a })
      let timed := (s.aerLog (toFn c.fn) 14 false).emit (.aer 1)
      exec (.dmaReadCompletion (.command id) .poisoned) s = .next (s.close ((at' s).fail id .dataPoisoned))
        ∧ exec (.dmaReadCompletion (.command id) .unsupported) s = .next (s.close ((at' s).fail id .dmaFault))
        ∧ exec (.dmaReadCompletion (.command id) .abort) s = .next (s.close ((at' s).fail id .dmaFault))
        ∧ exec (.completionTimeout (.command id)) s = .next (s.close ((at' timed).fail id .dmaFault)))
  -- the read of a capsule fails
  ∧ (∀ (f : Fn) (k : RingNo) (q : Sq) (r : ReadBack) (s : State),
      s.sq? f k = some q →
      ((match r with | .data _ => false | _ => true) = true) →
      let v := (s.putSq f k { q with fetch := 0 }).freeDeleted
      exec (.dmaReadCompletion (.capsule f k) r) s = .next (s.close
        (if (v.sq? f k).isNone || v.bit (SQ_STAT f k) SQ_STAT_FAULT then v else (v.setBit (SQ_STAT f k) SQ_STAT_FAULT true).ringFault f [k.val])))
  -- the data of a capsule or a doorbell word is taken where its own command brings it
  ∧ (∀ (f : Fn) (k : RingNo) (bs : Bytes) (s : State),
      exec (.dmaReadCompletion (.capsule f k) (.data bs)) s = .next (s.close s)
          ∧ exec (.dmaReadCompletion (.doorbell f) (.data bs)) s = .next (s.close s))
  -- the read of a doorbell fails
  ∧ (∀ (f : Fn) (r : ReadBack) (s : State),
      (s.fnExists f = true ∧ (s.setFunc f (fun g => { g with pollLeft := 0, pollOwed := false })).bit (QS_FLT f) QS_FLT_POLL_FAULT = false) →
      ((match r with | .data _ => false | _ => true) = true) →
      let v := s.setFunc f (fun g => { g with pollLeft := 0, pollOwed := false })
      exec (.dmaReadCompletion (.doorbell f) r) s = .next (s.close ((v.setBit (QS_FLT f) QS_FLT_POLL_FAULT true).ringFault f [])))
  -- the read of a capsule or a doorbell times out
  ∧ (∀ (f : Fn) (k : RingNo) (s : State),
      let v := (s.aerLog f 14 false).emit (.aer 1)
      exec (.completionTimeout (.capsule f k)) s = .next (s.close (v.sqReadFault f k))
        ∧ exec (.completionTimeout (.doorbell f)) s = .next (s.close (v.pollFault f)))
  -- POISONED_TLP_WRITE
  ∧ (∀ (f : Fn) (s : State),
      s.fnExists f = true →
      exec (.poisonedTlpWrite f) s = .next (s.close ((s.aerLog f 12 true).emit (.aer 0))))
  -- a translation arrives
  ∧ (∀ (f : Fn) (pasid : Option Nat) (page : Nat) (s : State),
      let ids := s.inTurn (s.work.cmds.filter (fun c => c.fn == f.val && !c.ended && !c.mute && !c.parked && c.phase ≤ 2 &&
        s.cmdPasid c == pasid && (nextChunk c.segs).isSome && c.page == page))
      let l := s.pcie.atc.filter (fun t => t != (f.val, pasid, page)) ++ [(f.val, pasid, page)]
      let v : State := { s with pcie.atc := l.drop (l.length - 4096) }
      let good := ids.foldl (fun s i => (s.setCmd i (fun c => { c with fails := 0 })).pump i) v
      let bad := ids.foldl (fun s i => (s.setCmd i (fun c => { c with fails := if c.fails = 0 then 0 else c.fails + 1 })).xlateFailed i) (s.askCapture f pasid page)
      exec (.translationCompletion f pasid page true) s = .next (s.close (good.ringsTranslated f pasid page true))
        ∧ exec (.translationCompletion f pasid page false) s = .next (s.close (bad.ringsTranslated f pasid page false)))
  -- the order of those that go on: SCHUSS, then aged, then the others
  ∧ (∀ (l : List Cmd) (s : State),
      s.inTurn l = (l.filter (fun c => s.cmdCls c == 1) ++ l.filter (fun c => s.cmdCls c != 1 && c.aged)
          ++ l.filter (fun c => s.cmdCls c != 1 && !c.aged)).map (·.id))
  -- what of the rings a translation lets go on
  ∧ (∀ (f : Fn) (pasid : Option Nat) (page : Nat) (s : State),
      (s.qsPasid f = pasid ∧ s.dbBase f / 4096 = page ∧ (s.func f).pollOwed = true ∧ (s.func f).pollLeft = 0) →
      let due (v : State) := (v.rings.sqs.filter (fun e => e.1 / 256 == f.val && e.2.shadowDue && v.shPage f (e.1 % 256) == page)).map (fun e => e.1 % 256)
      let posts (v : State) := (v.rings.cqs.filter (fun e => e.1 / 256 == f.val && !e.2.waiting.isEmpty && e.2.pasid == pasid && v.cqPage f (e.1 % 256) e.2 == page)).map (fun e => e.1 % 256)
      let a := s.poll f
      let b := (due a).foldl (fun (v : State) k => v.writeShadow f k) a
      s.ringsTranslated f pasid page true = (posts b).foldl (fun (v : State) k => v.postEntry f k true) b)
  -- a translation that no ring waits for
  ∧ (∀ (f : Fn) (pasid : Option Nat) (page : Nat) (ok : Bool) (s : State),
      ((∀ e ∈ s.rings.sqs, e.1 / 256 ≠ f.val) ∧ (∀ e ∈ s.rings.cqs, e.1 / 256 ≠ f.val) ∧ (s.func f).pollOwed = false) →
      s.ringsTranslated f pasid page ok = s)
  -- PAGE_RESPONSE Success
  ∧ (∀ (id : Nat) (c : Cmd) (s : State),
      s.cmd? id = some c →
      c.pr = .outstanding →
      let v : State := { s with pcie.prLost := s.pcie.prLost.filter (fun x => x.1 != id) }
      let v := v.setCmd id (fun c => { c with pr := .none, parked := false })
      exec (.pageResponse id 0) s = .next (s.close (((v.setCmd id (fun c => { c with fails := max 1 c.fails })).pump id).servePr)))
  -- PAGE_RESPONSE of a failure
  ∧ (∀ (id : Nat) (code : Fin 16) (c : Cmd) (a l : Nat) (s : State),
      s.cmd? id = some c →
      (c.pr = .outstanding ∧ code.val ≠ 0 ∧ nextChunk c.segs = some (a, l)) →
      let v : State := { s with pcie.prLost := s.pcie.prLost.filter (fun x => x.1 != id) }
      let v := v.setCmd id (fun c => { c with pr := .none, parked := false })
      let v := if code = 1 then v else v.setBit (QS_FLT c.fn) QS_FLT_PRI_STOP true
      exec (.pageResponse id code) s = .next (s.close (((v.setCmd id (fun c => { c with errAddr := a })).fail id .dmaFault).servePr)))
  -- ATS_INVALIDATION
  ∧ (∀ (f : Fn) (pasid : Option Nat) (page : Nat) (s : State),
      let v : State := { s with
        pcie.atc := s.pcie.atc.filter (fun t => t != (f.val, pasid, page)),
        pcie.invals := s.pcie.invals ++ [((f.val, pasid, page), s.readsInto f pasid page)] }
      exec (.atsInvalidation f pasid page) s = .next (s.close v.settleInvals))
  -- the reads that it waits for
  ∧ (∀ (f : Fn) (pasid : Option Nat) (page : Nat) (s : State),
      ((s.func f).ats = true) →
      (∀ i, HostRead.command i ∈ s.readsInto f pasid page ↔
            ∃ c ∈ s.work.cmds, c.id = i ∧ c.fn = f.val ∧ s.cmdPasid c = pasid ∧ c.page = page ∧ s.reading c = true)
          ∧ (∀ g k, HostRead.capsule g k ∈ s.readsInto f pasid page ↔
            g = f ∧ ∃ e ∈ s.rings.sqs, e.1 / 256 = f.val ∧ e.1 % 256 = k.val ∧ e.2.fetch ≠ 0 ∧ e.2.pasid = pasid ∧ s.capPage f (e.1 % 256) e.2 = page)
          ∧ (∀ g, HostRead.doorbell g ∈ s.readsInto f pasid page ↔
            g = f ∧ 0 < (s.func f).pollLeft ∧ s.qsPasid f = pasid ∧ s.dbBase f / 4096 = page))
  -- an invalidation with no read in flight is completed at once
  ∧ (∀ (f page : Nat) (pasid : Option Nat) (s : State),
      s.pcie.invals = [((f, pasid, page), [])] →
      s.settleInvals = ({ s with pcie.invals := [] } : State).emit (.atsDone f page))

/-- A data object for SPDM makes the mailbox busy, DOE Discovery is answered at once, one too long or of an unknown protocol is dropped, and
abort empties the mailbox. While the responder is down every request is answered with an error; otherwise by Table 9.5. Key updates, session
ends and time-outs act on their session. KEK_INSTALL installs the owner KEK, wrapped, if every condition of R366 holds and answers with an
error else. IDE_KM programs the keys of a set in an open session, a set in use not. IDE leaving Secure raises E014 where rings exist under
F_IDE and holds traffic; its return, with a complete key set and the stream enabled, releases it; a key refresh switches to the other set
once that is complete (log entry 232). -/
def Obligations.DoeSpdmAndIde : Prop :=
  -- a data object for SPDM
  (∀ (type index len : Nat) (s : State),
      (s.dom domHOST ≠ 3 ∧ s.pcie.doe ≠ .busy ∧ s.spdmDown = false) →
      (len ≤ 16384 ∧ 1 ≤ type ∧ type ≤ 2) →
      exec (.doeRequest type index len) s = .next (s.close { s with pcie.doe := .busy }))
  -- DOE Discovery
  ∧ (∀ (index len : Nat) (s : State),
      (s.dom domHOST ≠ 3 ∧ s.pcie.doe ≠ .busy ∧ s.spdmDown = false) →
      (len ≤ 16384 ∧ index ≤ 2) →
      exec (.doeRequest 0 index len) s = .next (s.close
          (({ s with pcie.doe := .ready (.discovery index ((index + 1) % 3)) } : State).emit (.spdm (.discovery index ((index + 1) % 3))))))
  -- a data object that is dropped
  ∧ (∀ (type index len : Nat) (s : State),
      (s.dom domHOST = 3 ∨ s.pcie.doe = .busy ∨ 16384 < len ∨ 2 < type) →
      exec (.doeRequest type index len) s = .next (s.close s))
  -- DOE_ABORT, SESSION_TIMEOUT
  ∧ (∀ (x : Nat) (s : State),
      exec .doeAbort s = .next (s.close { s with pcie.doe := .idle })
          ∧ exec (.sessionTimeout x) s = .next (s.close { s with pcie.sessions := s.pcie.sessions.filter (fun e => e.1 != x) }))
  -- an SPDM request while the responder is down
  ∧ (∀ (q : SpdmReq) (s : State),
      (s.pcie.doe = .busy ∧ s.spdmDown = true) →
      exec (.spdmRequest q) s = .next (s.close (({ s with pcie.doe := .ready .error } : State).emit (.spdm .error))))
  -- an SPDM request is answered
  ∧ (∀ (q : SpdmReq) (s : State),
      (s.pcie.doe = .busy ∧ s.spdmDown = false ∧ s.sec.benchUp = true ∧ s.sec.benchHalt = false) →
      let r := s.spdmAnswer q
      exec (.spdmRequest q) s = .next (s.close (({ r.2 with pcie.doe := .ready r.1 } : State).emit (.spdm r.1))))
  -- KEY_UPDATE and END_SESSION of an open session
  ∧ (∀ (x : Nat) (s : State),
      (s.pcie.doe = .busy ∧ s.spdmDown = false ∧ s.sec.benchUp = true ∧ s.sec.benchHalt = false) →
      s.session x = true →
      exec (.keyUpdate x) s = .next (s.close (({ s with
            pcie.sessions := s.pcie.sessions.map (fun e => if e.1 = x then (x, e.2 + 1) else e), pcie.doe := .ready .done } : State).emit (.spdm .done)))
          ∧ exec (.endSession x) s = .next (s.close (({ s with
            pcie.sessions := s.pcie.sessions.filter (fun e => e.1 != x), pcie.doe := .ready .done } : State).emit (.spdm .done))))
  -- KEY_UPDATE and END_SESSION of a session that is not open
  ∧ (∀ (x : Nat) (s : State),
      (s.pcie.doe = .busy ∧ s.spdmDown = false ∧ s.sec.benchUp = true ∧ s.sec.benchHalt = false) →
      s.session x = false →
      exec (.keyUpdate x) s = .next (s.close (({ s with pcie.doe := .ready .error } : State).emit (.spdm .error)))
          ∧ exec (.endSession x) s = .next (s.close (({ s with pcie.doe := .ready .error } : State).emit (.spdm .error))))
  -- KEK_INSTALL
  ∧ (∀ (x : Nat) (payload signer seed : Bytes) (s : State),
      (s.pcie.doe = .busy ∧ s.spdmDown = false ∧ s.sec.benchUp = true ∧ s.sec.benchHalt = false) →
      s.sec.seed = some seed →
      let k := hkdf32 seed (ascii "VK1640 kek" ++ [BitVec.ofNat 8 s.sec.kekGen])
      let v := (({ s with sec.okek := some (keyWrap k (slice payload 8 32)) } : State).setBit LC_STAT LC_STAT_OKEK true).renewNonce
      exec (.kekInstall x payload signer) s = .next (s.close (if s.kekOk x payload signer
        then ({ v with pcie.doe := .ready .done } : State).emit (.spdm .done)
        else ({ s with pcie.doe := .ready .error } : State).emit (.spdm .error))))
  -- IDE_LEAVE_SECURE
  ∧ (∀ (s : State),
      s.pcie.ideSecure = true →
      let v : State := { s with pcie.ideSecure := false }
      exec .ideLeaveSecure s = .next (s.close (if v.accepted 0 featIde && (!s.rings.sqs.isEmpty || !s.rings.cqs.isEmpty) then v.raise 14 [] else v)))
  -- a key of the IDE stream, programmed in an open session
  ∧ (∀ (x set sub dir : Nat) (key : Bytes) (s : State),
      s.session x = true →
      s.spdmAnswer (.ideKey x set sub dir key) =
          if (set < 2 ∧ sub < 3 ∧ dir < 2 ∧ key.length = 32) ∧ ¬ (s.pcie.ideSecure = true ∧ (set == 1) = s.pcie.ideKeySet)
          then (.done, { s with pcie.ideKeys := SMap.ins (6 * set + 2 * sub + dir) key s.pcie.ideKeys }) else (.error, s))
  -- IDE_SECURE with the set in use complete, or else the other
  ∧ (∀ (s : State),
      ((s.reg (FEAT_DRV 0 0)).getLsbD 8 = true ∧ s.pcie.ideSecure = false ∧ (s.cfgKept 0 0x30C).getLsbD 0 = true) →
      let k := if s.pcie.ideKeySet then 1 else 0
      exec .ideSecure s = .next (s.close
        (if s.ideKeyed k then ({ s with pcie.ideSecure := true } : State).release'
         else if s.ideKeyed (1 - k) then ({ s with pcie.ideSecure := true, pcie.ideKeySet := !s.pcie.ideKeySet } : State).release'
         else s)))
  -- IDE_SECURE without F_IDE or the enable, or in Secure
  ∧ (∀ (s : State),
      ((s.reg (FEAT_DRV 0 0)).getLsbD 8 = false ∨ s.pcie.ideSecure = true ∨ (s.cfgKept 0 0x30C).getLsbD 0 = false) →
      exec .ideSecure s = .next (s.close s))
  -- IDE_KEY_REFRESH
  ∧ (∀ (s : State),
      s.pcie.ideSecure = true →
      exec .ideKeyRefresh s = .next (s.close
          (if s.ideKeyed (if s.pcie.ideKeySet then 0 else 1) then { s with pcie.ideKeySet := !s.pcie.ideKeySet } else s)))

/-- A 32-bit aligned write whose function exists, whose domains are ON and that no entry to a low-power state holds has the effect that its
space gives it and none other: in BAR0 that of R11 on its register. The 64-bit write does so for the lower register and then the upper. One
whose domain is not ON wakes it with all it needs and waits. One of any other size or alignment has no effect, at once (the model's choice
where its domain is not ON, log entry 229), one of a nudge page nudges its function. A plain register takes its RW bits, and its RWL bits
while they are open, clears the W1C bits written 1, and keeps the rest; where no register lies a write does nothing. -/
def Obligations.RegisterAccess : Prop :=
  -- a write of 4 bytes, of 8, of another size or alignment, and one of a nudge page
  (∀ (f : Fn) (sp : Space) (off size v : Nat) (data : Bytes) (s : State),
      (nudgePage sp f off = false → off % 4 = 0 →
            exec (.registerWrite f sp off 4 v data) s = .next (s.close (s.accessAt f sp off (BitVec.ofNat 32 v) data)))
          ∧ (nudgePage sp f off = false → off % 8 = 0 → exec (.registerWrite f sp off 8 v data) s = .next (s.close
            ((s.accessAt f sp off (BitVec.ofNat 32 v) data).accessAt f sp (off + 4) (BitVec.ofNat 32 (v / 2 ^ 32)) data)))
          ∧ (nudgePage sp f off = false → ¬ (size = 4 ∧ off % 4 = 0) → ¬ (size = 8 ∧ off % 8 = 0) →
            exec (.registerWrite f sp off size v data) s = .next (s.close s))
          ∧ (nudgePage sp f off = true → exec (.registerWrite f sp off size v data) s = .next (s.close (if s.linkReaches f sp then s.nudge f else s))))
  -- a write of the MSI-X table or of configuration space goes through
  ∧ (∀ (f : Fn) (sp : Space) (off : Nat) (w : Word) (data : Bytes) (s : State),
      (s.linkReaches f sp = true ∧ sp ≠ .bar0 ∧ s.power.entry = none ∧ fusedDom s.part domHOST = false) →
      (∀ d ∈ domClosure domHOST, s.dom d = 1) →
      s.accessAt f sp off w data = s.applyAt f sp off w data)
  -- a 32-bit write goes through
  ∧ (∀ (f : Fn) (off v : Nat) (data : Bytes) (s : State),
      Reaches s f off →
      (nudgePage .bar0 f off = false ∧ off % 4 = 0) →
      exec (.registerWrite f .bar0 off 4 v data) s = .next (s.close (s.applyWrite f off (BitVec.ofNat 32 v) data)))
  -- a 32-bit write stalls
  ∧ (∀ (f : Fn) (off v : Nat) (data : Bytes) (s : State),
      (s.linkReaches f .bar0 = true ∧ fusedDom s.part (regDom f off) = false ∧ nudgePage .bar0 f off = false ∧ off % 4 = 0) →
      ((s.wake domHOST).wake (regDom f off)).isOn (regDom f off) = false →
      let u := (s.wake domHOST).wake (regDom f off)
      exec (.registerWrite f .bar0 off 4 v data) s = .next (s.close
        { u with power.stalled := u.power.stalled ++ [.write f .bar0 off (BitVec.ofNat 32 v) data] }))
  -- where no register lies
  ∧ (∀ (f : Fn) (off : Nat) (w : Word) (data : Bytes) (s : State),
      (regRow f off).isNone = true →
      s.applyWrite f off w data = s)
  -- what a plain write leaves
  ∧ (∀ (r : RegRow) (x : Reg) (w : Word) (s : State),
      (s.plainWrite r x w).reg x =
            ((((s.reg x &&& ~~~(r.rw ||| (if s.rwlOpen then r.rwl else 0#32))) ||| (w &&& (r.rw ||| (if s.rwlOpen then r.rwl else 0#32)))) &&& ~~~(w &&& r.w1c)))
          ∧ (∀ q : Reg, q.key ≠ x.key → (s.plainWrite r x w).reg q = s.reg q)
          ∧ s.plainWrite r x w = { s with regs := (s.plainWrite r x w).regs })

/-- Where the write goes through: a layout value takes effect while unlocked if the total stays within 15 GiB and pool 3 keeps 65 buffers, else
E017 is raised; so does a selector mask that breaks its rule. MEM_WDATA reads or writes the table area at the window address, which then
advances by 4. MEM_REMAP takes a line unless another entry holds it, which raises E020. TRAIN starts a round. The line that MEM_REMAP takes
or gives back moves with its mark and check word. CC_MAINT runs its operation and is BUSY; a PRELOAD fills nothing outside the cached
regions (log entry 118); a write of it while BUSY is discarded. SEED reloads the LFSR, and LOCK locks ways unless it names them all, which
raises E028. That a LOCK write reloads the LFSR too is the model's choice (log entry 126). -/
def Obligations.MemoryRegisters : Prop :=
  -- MEM_LAYOUT_WRITE
  (∀ (idx : Fin 7) (w : Word) (s : State),
      (Reaches s 0 (if idx.val < 3 then MEM_LAY idx.val else POOL_CNT (idx.val - 3)).key) →
      exec (.memLayoutWrite idx w) s = .next (s.close (s.writeLayout idx.val w)))
  -- a layout value that is refused, and one that is not
  ∧ (∀ (i : Fin 7) (w : Word) (s : State),
      let v := if i.val < 3 then fldGet MEM_LAY_SIZE w else fldGet POOL_CNT_COUNT w
      s.writeLayout i.val w =
        if s.bit MEM_CTL MEM_CTL_LOCK = true ∨ layoutBytes (s.layoutRegs.set i.val v) > memEnd ∨ (i = 6 ∧ v < 65) ∨ (3 ≤ i.val ∧ v > 4194304) then s.raise 17 []
        else if i.val < 3 then s.setFld (MEM_LAY i.val) MEM_LAY_SIZE v
        else (s.setFld (POOL_CNT (i.val - 3)) POOL_CNT_COUNT v).setFld (POOL_STAT (i.val - 3)) POOL_STAT_FREE v)
  -- MEM_XOR_WRITE
  ∧ (∀ (k : Fin 6) (hi : Bool) (w : Word) (s : State),
      (Reaches s 0 (if hi then MEM_XOR_HI k.val else MEM_XOR_LO k.val).key) →
      let ok := if hi then decide (w.toNat < 4) else decide (w.toNat % 4096 = 2 ^ (6 + k.val))
      exec (.memXorWrite k hi w) s = .next (s.close (if s.bit MEM_CTL MEM_CTL_LOCK = true ∨ ok = false then s.raise 17 []
        else if hi then s.setReg (MEM_XOR_HI k.val) w else s.setReg (MEM_XOR_LO k.val) w)))
  -- MEM_WDATA_WRITE inside the table area
  ∧ (∀ (w : Word) (s : State),
      Reaches s 0 MEM_WDATA.key →
      (s.inRegion 1 s.waddr 4 = true ∧ s.cacheWay (s.waddr / 64) = none) →
      let v := ((s.touch 7 s.waddr 4).memWrite s.waddr (leBytes 4 w.toNat)).setReg MEM_WDATA w
      exec (.memWdataWrite w) s = .next (s.close (v.setWaddr (s.waddr + 4))))
  -- MEM_WDATA_READ inside the table area
  ∧ (∀ (s : State),
      Reaches s 0 MEM_WDATA.key →
      s.inRegion 1 s.waddr 4 = true →
      let w := BitVec.ofNat 32 (leNat (s.tableRead s.waddr 4))
      let v := if s.tablePoisoned s.waddr 4 then s.setBit MEM_WSTAT MEM_WSTAT_POISON true else s
      let v := if s.cacheWay (s.waddr / 64) = none then v.touch 7 s.waddr 4 else v
      exec .memWdataRead s = .next (s.close (((v.setReg MEM_WDATA w).setWaddr (s.waddr + 4)).emit (.readData w))))
  -- MEM_WDATA outside the table area
  ∧ (∀ (w : Word) (s : State),
      Reaches s 0 MEM_WDATA.key →
      s.inRegion 1 s.waddr 4 = false →
      let v := (s.setBit MEM_WSTAT MEM_WSTAT_ERR true).setWaddr (s.waddr + 4)
      exec (.memWdataWrite w) s = .next (s.close v)
        ∧ exec .memWdataRead s = .next (s.close (v.emit (.readData 0xFFFFFFFF#32))))
  -- MEM_REMAP_WRITE
  ∧ (∀ (idx : Fin 32) (w : Word) (s : State),
      Reaches s 0 (MEM_REMAP idx.val).key →
      let v := fldGet MEM_REMAP_VALID w
      let l := fldGet MEM_REMAP_LINE w
      exec (.memRemapWrite idx w) s = .next (s.close
        (if s.bit (MEM_REMAP idx.val) MEM_REMAP_VALID then
          (if v = 0 then s.moveLine (s.fld (MEM_REMAP idx.val) MEM_REMAP_LINE) (fun u => u.setFld (MEM_REMAP idx.val) MEM_REMAP_VALID 0) else s)
        else if v = 0 then s.setFld (MEM_REMAP idx.val) MEM_REMAP_LINE l
        else if (List.range 32).any (fun j => j != idx.val && s.bit (MEM_REMAP j) MEM_REMAP_VALID && s.fld (MEM_REMAP j) MEM_REMAP_LINE == l) = true then
          s.raise 20 [idx.val]
        else (s.setFld (MEM_REMAP idx.val) MEM_REMAP_LINE l).moveLine l (fun u => u.setFld (MEM_REMAP idx.val) MEM_REMAP_VALID 1))))
  -- a line that moves takes its bytes, its mark and its check word along
  ∧ (∀ (l : Nat) (i : Fin 32) (b : Nat) (s : State),
      let v := s.moveLine l (fun u => u.setFld (MEM_REMAP i.val) MEM_REMAP_VALID b)
      v.mem.data = s.mem.data ∧ v.mem.poison = s.mem.poison
        ∧ SMap.get? v.mem.check (v.checkKey l) = some (checkWord (s.mem.data.read (64 * l) 64) (s.poisoned l) l))
  -- MEM_CTL_TRAIN
  ∧ (∀ (s : State),
      Reaches s 0 MEM_CTL.key →
      ∃ v, OnlyRegs s v [MEM_CTL.key] ∧ v.bit MEM_CTL MEM_CTL_TRAIN = true
          ∧ exec .memCtlTrain s = .next (s.close { v with mem.round := true }))
  -- CC_CLEAN, CC_INVALIDATE, CC_CLEAN_INVALIDATE
  ∧ (∀ (len : BitVec 12) (s : State) (c : Instr) (op : Nat),
      (c, op) ∈ [(Instr.ccClean len, 1), (.ccInvalidate len, 2), (.ccCleanInvalidate len, 3)] →
      Reaches s 0 CC_MAINT.key →
      s.bit CC_MAINT CC_MAINT_BUSY = false →
      ∃ v, OnlyRegs s v [CC_MAINT.key] ∧ v.fld CC_MAINT CC_MAINT_OP = op ∧ v.fld CC_MAINT CC_MAINT_LEN = len.toNat
          ∧ v.bit CC_MAINT CC_MAINT_BUSY = true ∧ exec c s = .next (s.close ((v.maintLines.foldl (fun s l => s.maintLine op l) v).tablesJudged s)))
  -- CC_PRELOAD
  ∧ (∀ (len : BitVec 12) (way : Fin 16) (ctx : Fin 32) (s : State),
      Reaches s 0 CC_MAINT.key →
      (s.bit CC_MAINT CC_MAINT_BUSY = false ∧ way.val ≠ 15) →
      ∃ v, OnlyRegs s v [CC_MAINT.key] ∧ v.fld CC_MAINT CC_MAINT_LEN = len.toNat ∧ v.bit CC_MAINT CC_MAINT_BUSY = true
          ∧ exec (.ccPreload len way ctx) s = .next (s.close ((v.maintLines.foldl (fun s l =>
              if memEnd ≤ 64 * l then s.raise 16 [7]
              else if s.cacheable (64 * l) = false ∨ (s.cacheWay l).any (fun w => w != way.val && s.wayLocked w) = true then s
              else (match s.cacheWay l with | some w => (s.writeBack (s.lineAt l w)).dropLine l w | none => s).fillLine l way ctx) v).tablesJudged s)))
  -- a maintenance operation while BUSY
  ∧ (∀ (len : BitVec 12) (way : Fin 16) (ctx : Fin 32) (s : State),
      Reaches s 0 CC_MAINT.key →
      s.bit CC_MAINT CC_MAINT_BUSY = true →
      exec (.ccClean len) s = .next (s.close s) ∧ exec (.ccInvalidate len) s = .next (s.close s)
          ∧ exec (.ccCleanInvalidate len) s = .next (s.close s) ∧ exec (.ccPreload len way ctx) s = .next (s.close s))
  -- CC_SEED_WRITE, with no PRELOAD in progress
  ∧ (∀ (seed : BitVec 16) (s : State),
      Reaches s 0 CC_CTL.key →
      (s.bit CC_MAINT CC_MAINT_BUSY = false ∧ s.fld CC_CTL CC_CTL_LOCK ≠ 0x7FFF) →
      ∃ v, Wrote s v CC_CTL CC_CTL_SEED seed.toNat
          ∧ exec (.ccSeedWrite seed) s = .next (s.close { v with mem.lfsr := if seed.toNat = 0 then 0xACE1 else seed.toNat, mem.lockDue := 0 }))
  -- CC_LOCK_WRITE of every way
  ∧ (∀ (s : State),
      Reaches s 0 CC_CTL.key →
      exec (.ccLockWrite 0x7FFF#15) s = .next (s.close (s.raise 28 [])))
  -- CC_LOCK_WRITE of some ways, with no PRELOAD in progress
  ∧ (∀ (ways : BitVec 15) (s : State),
      Reaches s 0 CC_CTL.key →
      (ways ≠ 0x7FFF#15 ∧ s.bit CC_MAINT CC_MAINT_BUSY = false) →
      ∃ v, Wrote s v CC_CTL CC_CTL_LOCK ways.toNat ∧ exec (.ccLockWrite ways) s = .next (s.close { v with
          mem.lfsr := if s.fld CC_CTL CC_CTL_SEED = 0 then 0xACE1 else s.fld CC_CTL CC_CTL_SEED, mem.lockDue := 0 }))
  -- CC_LOCK_WRITE while a PRELOAD fills a way: that way waits
  ∧ (∀ (ways : BitVec 15) (s : State),
      Reaches s 0 CC_CTL.key →
      (ways ≠ 0x7FFF#15 ∧ s.bit CC_MAINT CC_MAINT_BUSY = true ∧ s.fld CC_MAINT CC_MAINT_OP = 4) →
      let due := ways.toNat &&& 2 ^ s.fld CC_MAINT CC_MAINT_WAY &&& (0x7FFF - s.fld CC_CTL CC_CTL_LOCK)
      ∃ v, Wrote s v CC_CTL CC_CTL_LOCK (ways.toNat - due) ∧ exec (.ccLockWrite ways) s = .next (s.close { v with
        mem.lfsr := if s.fld CC_CTL CC_CTL_SEED = 0 then 0xACE1 else s.fld CC_CTL CC_CTL_SEED, mem.lockDue := due }))

/-- Where the access goes through: FEAT_DRV stores what is offered unless the set is locked, which shows REFUSED; VF_VEC takes a count of 1 to
64 within 1,792 in all while VF Enable is 0, and every BASE follows. A nudge makes its function ACTIVE and polls at once, or after the poll
in flight. CLK_SET_HI loads the clock, clears UNSET, and flags a backward setting with E031; a read of CLK_NOW_LO latches the high half for
the next read of CLK_NOW_HI, which else shows the clock's now. PM_VWARN sets the threshold and compares VIN with it. MC_RECOVER resets a
FATAL context that may be, and shows REFUSED else. EVT_PEND bits written 1 clear. An unmasked vector sends the message that the PBA holds. -/
def Obligations.DeviceRegisters : Prop :=
  -- FEAT_DRV_WRITE
  (∀ (f : Fn) (idx : Fin 4) (w : Word) (s : State),
      Reaches s f (FEAT_DRV f idx).place.2 →
      exec (.featDrvWrite f idx w) s = .next (s.close
          (if s.bit (FEAT_STAT f) FEAT_STAT_LOCK then s.setBit (FEAT_STAT f) FEAT_STAT_REFUSED true else s.setReg (FEAT_DRV f idx) (w &&& s.reg (FEAT_DEV f idx)))))
  -- VF_VEC_WRITE
  ∧ (∀ (v : Fin 63) (count : BitVec 7) (s : State),
      Reaches s 0 (VF_VEC (v.val + 1)).key →
      let k := max 1 count.toNat
      exec (.vfVecWrite v count) s = .next (s.close
        (if s.pcie.vfEnable = true ∨ 64 < k ∨ 1792 < s.fld VFV_STAT VFV_STAT_SUM - s.fld (VF_VEC (v.val + 1)) VF_VEC_COUNT + k
          then s.setBit VFV_STAT VFV_STAT_REFUSED true else (s.setFld (VF_VEC (v.val + 1)) VF_VEC_COUNT k).showVectors)))
  -- NUDGE
  ∧ (∀ (f : Fn) (s : State),
      (s.linkReaches f (if f.val = 0 then .bar4 else .bar0) = true) →
      exec (.nudge f) s = .next (s.close (s.nudge f)))
  -- a nudge of a function with no poll in flight
  ∧ (∀ (f : Fn) (s : State),
      (s.power.entry = none ∧ (s.func f).pollLeft = 0 ∧ s.ideHeld = false) →
      (∀ d ∈ domClosure domHOST ++ domClosure domCORE, s.dom d = 1) →
      s.nudge f = (s.setFunc f (fun g => { g with idle := false })).poll f)
  -- a nudge during a poll, or while the IDE stream holds polls, owes one
  ∧ (∀ (f : Fn) (s : State),
      (s.power.entry = none ∧ (0 < (s.func f).pollLeft ∨ s.ideHeld = true)) →
      (∀ d ∈ domClosure domHOST ++ domClosure domCORE, s.dom d = 1) →
      s.nudge f = s.setFunc f (fun g => { g with idle := false, pollOwed := true }))
  -- CLOCK_SET
  ∧ (∀ (hi : Word) (s : State),
      Reaches s 0 CLK_SET_HI.key →
      let t := ((s.reg CLK_SET_LO).toNat + 2 ^ 32 * hi.toNat)
      let v : State := { (s.setReg CLK_SET_HI hi) with aon.clock := t % 2 ^ 63 }
      let v := v.setBit CLK_STAT CLK_STAT_UNSET false
      exec (.clockSet hi) s = .next (s.close (if t % 2 ^ 63 < s.aon.clock then (v.setBit CLK_STAT CLK_STAT_BACK true).raise 31 [] else v)))
  -- CLK_NOW_LO_READ
  ∧ (∀ (s : State),
      Reaches s 0 CLK_NOW_LO.key →
      let v : State := { s with sec.clkHi := some (s.stamp / 2 ^ 32) }
      exec .clkNowLoRead s = .next (s.close (v.emit (.readData (BitVec.ofNat 32 s.stamp))))
        ∧ exec (.domainWake 0 .bar0 CLK_NOW_LO.key 4) s = .next (s.close (v.emit (.readData (BitVec.ofNat 32 s.stamp)))))
  -- a read of CLK_NOW_HI
  ∧ (∀ (s : State),
      Reaches s 0 CLK_NOW_HI.key →
      let hi := match s.sec.clkHi with | some h => h | none => s.stamp / 2 ^ 32
      let v : State := { s with sec.clkHi := none }
      exec (.domainWake 0 .bar0 CLK_NOW_HI.key 4) s = .next (s.close (v.emit (.readData (BitVec.ofNat 32 hi)))))
  -- PM_VWARN_WRITE
  ∧ (∀ (x : BitVec 16) (s : State),
      Reaches s 0 PM_VWARN.key →
      exec (.pmVwarnWrite x) s = .next (s.close ((s.setFld PM_VWARN PM_VWARN_VWARN x.toNat).compareVin)))
  -- MC_RECOVER
  ∧ (∀ (n : Stn) (s : State),
      Reaches s 0 MC_RECOVER.key →
      exec (.mcRecoverStation n) s = .next (s.close
            (if s.fatal n = true ∧ s.spinState n = 0 then s.resetStation n else s.setBit MC_LAST MC_LAST_REFUSED true))
          ∧ exec .mcRecoverLedger s = .next (s.close (if s.fatal ctxLEDGER then { (s.clearFatal ctxLEDGER) with
              ledger.vaults := [], ledger.parisons := [], ledger.mounting := [],
              ledger.released := s.ledger.released ++ s.ledger.vaults.filter (fun v => s.vaultWriting v.id) }
            else s.setBit MC_LAST MC_LAST_REFUSED true))
          ∧ exec .mcRecoverBench s = .next (s.close (if s.fatal ctxBENCH then { (s.clearFatal ctxBENCH) with sec.benchUp := false, pcie.sessions := [] }
            else s.setBit MC_LAST MC_LAST_REFUSED true)))
  -- EVT_PEND_CLEAR
  ∧ (∀ (idx : Fin 16) (w : Word) (s : State),
      Reaches s 0 (EVT_PEND idx.val).key →
      exec (.evtPendClear idx w) s = .next (s.close (s.setReg (EVT_PEND idx.val) (s.reg (EVT_PEND idx.val) &&& ~~~w))))
  -- MSIX_UNMASK of a vector
  ∧ (∀ (f : Fn) (v : Fin 256) (s : State),
      (s.linkReaches f .bar2 = true ∧ s.power.entry = none ∧ 16 * v.val + 12 < 16 * s.vecCount f) →
      (∀ d ∈ domClosure domHOST, s.dom d = 1) →
      fusedDom s.part domHOST = false →
      let e : MsixEnt := { s.msixEnt f v with masked := false }
      exec (.msixUnmask f (some v)) s = .next (s.close
        ((s.setFunc f (fun g => { g with msix := SMap.put g.msix ⟨0, 0, true⟩ v e })).msixRelease f)))
  -- MSIX_UNMASK of the function
  ∧ (∀ (f : Fn) (s : State),
      (s.linkReaches f .config = true ∧ s.power.entry = none) →
      (∀ d ∈ domClosure domHOST, s.dom d = 1) →
      fusedDom s.part domHOST = false →
      exec (.msixUnmask f none) s = .next (s.close
          ((s.setFunc f (fun g => { g with funcMask := false })).msixRelease f)))

/-- A write of any bytes at any address of the buffer memory leaves them there in order, leaves every other byte as it was, and keeps the
memory's one canonical form (addresses rising, no byte listed that reads as an unlisted one does). That an unlisted byte reads 0 is the
model's choice (log entry 7). For every state in which the window address lies in the table area and cached lines hold 64 bytes: after a
write of w through the window, moving the window back to that address and reading MEM_WDATA returns w, whether or not the control cache
holds the line; the window stands 4 bytes further on after each. -/
def Obligations.BufferMemoryReadsBack : Prop :=
  -- inside the bytes written
  (∀ (a : Nat) (bs : Bytes) (k : Nat) (b : Byte) (s : State),
      bs[k]? = some b →
      (s.memWrite a bs).mem.data.byte (a + k) = b)
  -- outside them
  ∧ (∀ (a c : Nat) (bs : Bytes) (s : State),
      (c < a ∨ a + bs.length ≤ c) →
      (s.memWrite a bs).mem.data.byte c = s.mem.data.byte c)
  -- the canonical form
  ∧ (∀ (a : Nat) (bs : Bytes) (s : State),
      Memory.wf s.mem.data = true →
      Memory.wf (s.memWrite a bs).mem.data = true)
  -- through the window
  ∧ (∀ (w : Word) (s : State),
      s.inRegion 1 s.waddr 4 = true →
      (s.waddr + 4 ≤ memEnd ∧ (s.cacheWay (s.waddr / 64)).all (fun k => (s.lineAt (s.waddr / 64) k).data.length == 64) = true) →
      (((s.windowWrite w).setWaddr s.waddr).windowRead).1 = w ∧ (s.windowWrite w).waddr = s.waddr + 4
          ∧ (s.windowRead).2.waddr = s.waddr + 4)

/-- R299, R300, R320: the capsules of the opcode table, each named with its row by Instr.capsule (READ, WRITE, READ_VERSION, FLUSH, FENCE, the
vault commands, SEAL_EXPORT, CRYPT, HASH, FORENSIC_CAPTURE, PLAN_LOAD, STATION_CTL, CAL_RUN, BIST_REPORT, DOMAIN_SET, QUEUE_RESET, LOG_READ,
FW_STAGE, FW_ACTIVATE, NOP), are read, checked and rejected or admitted, and wait for what they need. -/
def Obligations.CapsulesAreCheckedAndAdmitted : Prop :=
  -- bytes of another command of the table
  (∀ (i : Instr) (r : CapRow) (fn : Fn) (sq : RingNo) (caps : Capsule) (x : CapIn) (s : State),
      i.capsule = some (r, fn, sq, caps, x) →
      rowFits r caps = false →
      exec i s = .refused .illFormed)
  -- no such SQ
  ∧ (∀ (i : Instr) (r : CapRow) (fn : Fn) (sq : RingNo) (caps : Capsule) (x : CapIn) (s : State),
      i.capsule = some (r, fn, sq, caps, x) →
      (rowFits r caps = true ∧ s.sq? fn sq = none) →
      exec i s = .next (s.close s))
  -- HOST or CORE is not ON
  ∧ (∀ (i : Instr) (r : CapRow) (fn : Fn) (sq : RingNo) (caps : Capsule) (x : CapIn) (q : Sq) (s : State),
      i.capsule = some (r, fn, sq, caps, x) →
      (rowFits r caps = true ∧ s.sq? fn sq = some q) →
      (q.fetch < 2 ∧ ¬ (s.isOn domHOST = true ∧ s.isOn domCORE = true)) →
      exec i s = .next (s.close ((s.wake domHOST).wake domCORE)))
  -- the SQ may not be read
  ∧ (∀ (i : Instr) (r : CapRow) (fn : Fn) (sq : RingNo) (caps : Capsule) (x : CapIn) (q : Sq) (s : State),
      i.capsule = some (r, fn, sq, caps, x) →
      (rowFits r caps = true ∧ s.sq? fn sq = some q) →
      ((s.isOn domHOST = true ∧ s.isOn domCORE = true) ∧ q.fetch < 2 ∧ s.mayFetch fn sq q = false) →
      exec i s = .next (s.close (if q.fetch = 0 then s else s.putSq fn sq { q with fetch := 0 })))
  -- no translation of the capsule's page is held
  ∧ (∀ (i : Instr) (r : CapRow) (fn : Fn) (sq : RingNo) (caps : Capsule) (x : CapIn) (q : Sq) (s : State),
      i.capsule = some (r, fn, sq, caps, x) →
      (rowFits r caps = true ∧ s.sq? fn sq = some q) →
      ((s.isOn domHOST = true ∧ s.isOn domCORE = true) ∧ s.mayFetch fn sq q = true) →
      (q.fetch = 0 ∧ s.holds fn q.pasid (s.capPage fn sq q) = false) →
      exec i s = .next (s.close (s.emit (.atsReq fn q.pasid (s.capPage fn sq q)))))
  -- a read that a DELETE_SQ has cut off (R297)
  ∧ (∀ (i : Instr) (r : CapRow) (fn : Fn) (sq : RingNo) (caps : Capsule) (x : CapIn) (q : Sq) (s : State),
      i.capsule = some (r, fn, sq, caps, x) →
      (rowFits r caps = true ∧ s.sq? fn sq = some q) →
      q.fetch = 2 →
      exec i s = .next (s.close ((s.takeHead fn sq q).reject fn sq caps .abortedByHost)))
  -- a read that a QUEUE_RESET with DISCARD has cut off (R297): the QUEUE_RESET waits for its entry
  ∧ (∀ (i : Instr) (r : CapRow) (fn : Fn) (sq : RingNo) (caps : Capsule) (x : CapIn) (q : Sq) (s : State),
      i.capsule = some (r, fn, sq, caps, x) →
      (rowFits r caps = true ∧ s.sq? fn sq = some q) →
      q.fetch = 3 →
      let v := s.putSq fn sq { q with fetch := 0 }
      let mine (y : Cmd) : Bool := capOPC y.caps == 0x30 && y.fn == fn.val && cap y.caps 24 2 == sq.val && !y.ended
      exec i s = .next (s.close (({ v with
        work.cmds := v.work.cmds.map (fun y => if mine y then { y with waits := y.waits ++ [v.work.nextId] } else y) } : State).reject fn sq caps .abortedByReset)))
  -- a check fails
  ∧ (∀ (i : Instr) (r : CapRow) (fn : Fn) (sq : RingNo) (caps : Capsule) (x : CapIn) (q : Sq) (s : State),
      i.capsule = some (r, fn, sq, caps, x) →
      (rowFits r caps = true ∧ s.sq? fn sq = some q) →
      ((s.isOn domHOST = true ∧ s.isOn domCORE = true) ∧ s.mayFetch fn sq q = true) →
      (q.fetch < 2 ∧ (q.fetch = 0 → s.holds fn q.pasid (s.capPage fn sq q) = true)) →
      (s.takeHead fn sq q).checks fn sq (q.cls == 1) caps ≠ .ok →
      exec i s = .next (s.close ((s.takeHead fn sq q).reject fn sq caps ((s.takeHead fn sq q).checks fn sq (q.cls == 1) caps))))
  -- check 1: the opcode
  ∧ (∀ (fn k : Nat) (schuss : Bool) (caps : Capsule) (s : State),
      ((rowOf caps).isNone = true ∨ (pfOnly.contains (capOPC caps) = true ∧ fn ≠ 0)) →
      s.checks fn k schuss caps = .invalidOpcode)
  -- check 2: the fields
  ∧ (∀ (fn k : Nat) (schuss : Bool) (caps : Capsule) (s : State),
      ((rowOf caps).isSome = true ∧ (pfOnly.contains (capOPC caps) && fn != 0) = false) →
      s.check2 fn k caps = false →
      s.checks fn k schuss caps = .invalidField)
  -- check 3: the vault
  ∧ (∀ (fn k : Nat) (schuss : Bool) (caps : Capsule) (s : State),
      ((rowOf caps).isSome = true ∧ (pfOnly.contains (capOPC caps) && fn != 0) = false) →
      s.check2 fn k caps = true →
      s.check3 fn caps ≠ .ok →
      s.checks fn k schuss caps = s.check3 fn caps)
  -- the ledger engine in FATAL, before check 4
  ∧ (∀ (fn k : Nat) (schuss : Bool) (caps : Capsule) (s : State),
      ((rowOf caps).isSome = true ∧ (pfOnly.contains (capOPC caps) && fn != 0) = false) →
      (s.check2 fn k caps = true ∧ s.check3 fn caps = .ok) →
      (s.fatal ctxLEDGER = true ∧ needsMap caps = true) →
      s.checks fn k schuss caps = .internal)
  -- check 4: the blocks, and check 5: buffers
  ∧ (∀ (fn k : Nat) (schuss : Bool) (caps : Capsule) (s : State),
      ((rowOf caps).isSome = true ∧ (pfOnly.contains (capOPC caps) && fn != 0) = false) →
      (s.check2 fn k caps = true ∧ s.check3 fn caps = .ok) →
      (s.fatal ctxLEDGER && needsMap caps) = false →
      s.checks fn k schuss caps =
          if s.check4 caps ≠ .ok then s.check4 caps else if s.check5 schuss caps then .ok else .bufferExhausted)
  -- an admitted command waits for its buffers
  ∧ (∀ (i : Instr) (r : CapRow) (fn : Fn) (sq : RingNo) (caps : Capsule) (x : CapIn) (q : Sq) (s : State),
      i.capsule = some (r, fn, sq, caps, x) →
      Passes s r fn sq caps q →
      bufNeed caps ≠ [] →
      (queuesBehind ((s.takeHead fn sq q).enrol fn sq caps x) s.freshId q.cls = true ∨ (((s.takeHead fn sq q).enrol fn sq caps x).allocAll (bufNeed caps) (q.cls == 1)).1 = none) →
      exec i s = .next (s.close (((s.takeHead fn sq q).enrol fn sq caps x).setCmd s.freshId (fun c => { c with phase := 7 }))))
  -- an admitted command that cannot be served ends
  ∧ (∀ (i : Instr) (r : CapRow) (fn : Fn) (sq : RingNo) (caps : Capsule) (x : CapIn) (q : Sq) (hs : List Nat) (u : State) (s : State),
      i.capsule = some (r, fn, sq, caps, x) →
      Admitted s r fn sq caps x q hs u →
      capXRDY caps = false →
      ((u.benchFails caps || (u.fatal ctxLEDGER && needsMap caps) || u.engineGone caps || u.stageShut caps) = true ∨ (capOPC caps = 0x11 ∧ cap caps 25 1 ≠ 0 ∧ u.kek.isNone = true)) →
      let v := reservedFor u s.freshId hs
      exec i s = .next (s.close (
          if u.benchFails caps then v.finishWith s.freshId .internal
          else if u.fatal ctxLEDGER && needsMap caps then v.fail s.freshId .internal
          else if u.engineGone caps then v.fail s.freshId .internal
          else if u.stageShut caps then v.finishWith s.freshId .invalidField
          else v.finishWith s.freshId .internal)))
  -- an admitted command waits for a domain, or for the bench core
  ∧ (∀ (i : Instr) (r : CapRow) (fn : Fn) (sq : RingNo) (caps : Capsule) (x : CapIn) (q : Sq) (hs : List Nat) (u : State) (s : State),
      i.capsule = some (r, fn, sq, caps, x) →
      Admitted s r fn sq caps x q hs u →
      capXRDY caps = false →
      ((u.benchFails caps || (u.fatal ctxLEDGER && needsMap caps) || u.engineGone caps || u.stageShut caps) = false ∧ ¬ (capOPC caps = 0x11 ∧ cap caps 25 1 ≠ 0 ∧ u.kek.isNone = true)) →
      ((cmdDomains caps).all (fun d => u.isOn d) = false ∨ u.benchWaits caps = true) →
      let v := reservedFor u s.freshId hs
      exec i s = .next (s.close ((((cmdDomains caps).filter (fun d => !u.isOn d)).foldl (fun (w : State) d => w.wake d) v).setCmd s.freshId (fun c => { c with phase := 5 }))))

/-- WRITE, VAULT_MOUNT, the five CRYPT modes, HASH, both PLAN_LOADs and both FW_STAGEs begin by reading their data, a CRYPT its key first; with
LIST a command of any row reads its segment list first; a WRITE with XRDY posts XFER_READY and reads nothing. Once all bytes have arrived: a
WRITE's complete blocks are gathered, a VAULT_MOUNT's record is checked, a CRYPT whose key unwraps writes its output, or ends with AUTH_FAIL
and its held output zeroed, a HASH writes the SHA-512 digest, a PLAN_LOAD takes its slots or ends with INVALID_FIELD, a FW_STAGE stages the
image. -/
def Obligations.DataFromTheHost : Prop :=
  -- the data is read
  (∀ (i : Instr) (r : CapRow) (fn : Fn) (sq : RingNo) (caps : Capsule) (x : CapIn) (q : Sq) (hs : List Nat) (u : State) (s : State),
      i.capsule = some (r, fn, sq, caps, x) →
      r ∈ [CapRow.write, .vaultMount, .cryptGcmEnc, .cryptGcmDec, .cryptCtr, .cryptWrap, .cryptUnwrap, .hash, .planReplace, .planAppend, .stageFirmware, .stageMicrocode] →
      Begins s r fn sq caps x q hs u →
      (capXRDY caps = false ∧ capLIST caps = false) →
      exec i s = .next (s.close ((u.setCmd s.freshId (fun c => { c with
            reserved := true, bufs := hs, phase := 1, segsIn := keySeg caps ++ plainSegs caps, lead := segBytes (keySeg caps), inBytes := [] })).pump s.freshId)))
  -- the segment list is read first, by a command of any row
  ∧ (∀ (i : Instr) (r : CapRow) (fn : Fn) (sq : RingNo) (caps : Capsule) (x : CapIn) (q : Sq) (hs : List Nat) (u : State) (s : State),
      i.capsule = some (r, fn, sq, caps, x) →
      Begins s r fn sq caps x q hs u →
      (capXRDY caps = false ∧ capLIST caps = true) →
      exec i s = .next (s.close ((u.setCmd s.freshId (fun c => { c with
            reserved := true, bufs := hs, phase := 0, inBytes := [], segsIn := [(capDPTR caps, 16 * capLCOUNT caps)] })).pump s.freshId)))
  -- a WRITE with XRDY
  ∧ (∀ (fn : Fn) (sq : RingNo) (caps : Capsule) (q : Sq) (hs : List Nat) (u : State) (s : State),
      Admitted s .write fn sq caps {} q hs u →
      capXRDY caps = true →
      exec (.write fn sq caps) s = .next (s.close ((u.setCmd s.freshId (fun c => { c with reserved := true, bufs := hs, phase := 6 })).pushEntry fn q.cq
            ⟨s.freshId, fn, sq, capCID caps, .ok, 1, 0, capDLEN caps, 0, 0, none⟩)))
  -- a HASH has its data
  ∧ (∀ (id : Nat) (c : Cmd) (s : State),
      s.cmd? id = some c →
      (c.phase = 1 ∧ nextChunk c.segsIn = none ∧ capOPC c.caps = 0x12) →
      let v := s.setCmd id (fun c => { c with phase := 3 })
      s.arrived id = ((if s.dataPoisoned c 0 c.dataIn.length || c.status == .dataPoisoned then v.poisonAll id else v).setCmd id
          (fun c => { c with segsOut := [(cap c.caps 32 8, 64)] })).result id (sha512 c.dataIn))
  -- a CRYPT has its data
  ∧ (∀ (id : Nat) (c : Cmd) (s : State),
      s.cmd? id = some c →
      (c.phase = 1 ∧ nextChunk c.segsIn = none ∧ capOPC c.caps = 0x11) →
      let v := s.setCmd id (fun c => { c with phase := 3 })
      let w := if s.dataPoisoned c 0 c.dataIn.length || c.status == .dataPoisoned then v.poisonAll id else v
      s.arrived id = (match s.cryptKey c with
          | none => v.finishWith id (if cap c.caps 25 1 ≠ 0 ∧ s.kek.isNone = true then .internal else .invalidField)
          | some k => match cryptRun c k with
            | none => (w.wipeHeld c c.dataIn.length).finishWith id .authFail
            | some out => if cap c.caps 40 4 < out.length then w.finishWith id .invalidField
                else (w.setCmd id (fun c => { c with res1 := out.length, segsOut := [(cap c.caps 32 8, out.length)] })).result id out))
  -- a PLAN_LOAD has its slots
  ∧ (∀ (id : Nat) (c : Cmd) (s : State),
      s.cmd? id = some c →
      (c.phase = 1 ∧ nextChunk c.segsIn = none ∧ capOPC c.caps = 0x19) →
      let v := s.setCmd id (fun c => { c with phase := 3 })
      let slots := (chunks 64 c.dataIn).map readSlot
      let p := v.takePlan (cap c.caps 24 1) (slots.filterMap (fun x => x)) ((cap c.caps 25 1).testBit 0)
      s.arrived id = (if slots.any (·.isNone) then v.finishWith id .invalidField
          else (p.1.setCmd id (fun c => { c with station := cap c.caps 24 1 })).finishWith id (if p.2 then .ok else .invalidField)))
  -- a FW_STAGE has its image
  ∧ (∀ (id : Nat) (c : Cmd) (s : State),
      s.cmd? id = some c →
      (c.phase = 1 ∧ nextChunk c.segsIn = none ∧ capOPC c.caps = 0x38) →
      let v := s.setCmd id (fun c => { c with phase := 3 })
      s.arrived id = (v.fwStage (cap c.caps 24 1) c.dataIn).1.finishWith id (v.fwStage (cap c.caps 24 1) c.dataIn).2)
  -- a VAULT_MOUNT has its record
  ∧ (∀ (id : Nat) (c : Cmd) (s : State),
      s.cmd? id = some c →
      (c.phase = 1 ∧ nextChunk c.segsIn = none ∧ capOPC c.caps = 9) →
      s.arrived id = (s.setCmd id (fun c => { c with phase := 3 })).mountRecord id)
  -- bytes of a WRITE arrive
  ∧ (∀ (id : Nat) (c : Cmd) (s : State),
      s.cmd? id = some c →
      (c.phase ≠ 0 ∧ capOPC c.caps = 2) →
      s.arrived id = (if (nextChunk c.segsIn).isSome then (s.gatherArrived id).pump id
            else (s.gatherArrived id).setCmd id (fun c => if c.phase = 1 then { c with phase := 3 } else c)))

/-- READ and READ_VERSION find the sources of their blocks and begin their reads. Each VAULT_QUERY writes the records that its QSEL names,
SEAL_EXPORT takes the frozen seal records of its range and reads the others, BIST_REPORT writes the report cut to DLEN. LOG_READ returns the
oldest records of the asked SQ (or of all), which leave the log, with the count of lost records in RES0; of the event log likewise. -/
def Obligations.DataToTheHost : Prop :=
  -- READ and READ_VERSION
  (∀ (i : Instr) (r : CapRow) (fn : Fn) (sq : RingNo) (caps : Capsule) (q : Sq) (hs : List Nat) (u : State) (s : State),
      ((i, r) = (.read fn sq caps, .read) ∨ (i, r) = (.readVersion fn sq caps, .readVersion)) →
      Begins s r fn sq caps {} q hs u →
      capLIST caps = false →
      exec i s = .next (s.close ((atWork u s.freshId hs caps false).beginRead s.freshId)))
  -- VAULT_QUERY
  ∧ (∀ (i : Instr) (r : CapRow) (fn : Fn) (sq : RingNo) (caps : Capsule) (q : Sq) (hs : List Nat) (u : State) (s : State),
      ((i, r) = (.vaultQuerySummary fn sq caps, .querySummary) ∨ (i, r) = (.vaultQuerySealedSince fn sq caps, .querySealed) ∨ (i, r) = (.vaultQueryVersions fn sq caps, .queryVersions) ∨ (i, r) = (.vaultQueryDiscs fn sq caps, .queryDiscs)) →
      Begins s r fn sq caps {} q hs u →
      capLIST caps = false →
      exec i s = .next (s.close ((atWork u s.freshId hs caps false).vaultQuery s.freshId)))
  -- what a query writes
  ∧ (∀ (id : Nat) (c : Cmd) (v : Vault) (s : State),
      s.cmd? id = some c →
      (s.vault? (capVAULT c.caps) = some v ∧ s.fatal ctxLEDGER = false) →
      s.vaultQuery id = (match cap c.caps 24 4 with
            | 0 => s.records id 64 [s.summary v]
            | 1 => s.records id 32 (v.sealed.map sinceBytes)
            | 2 => s.records id 32 (v.versions (cap c.caps 32 8))
            | _ => s.records id 32 ((v.discs.foldl (fun l d => insDisc d l) []).map discBytes)))
  -- SEAL_EXPORT
  ∧ (∀ (fn : Fn) (sq : RingNo) (caps : Capsule) (q : Sq) (hs : List Nat) (u : State) (s : State),
      Begins s .sealExport fn sq caps {} q hs u →
      capLIST caps = false →
      exec (.sealExport fn sq caps) s = .next (s.close ((atWork u s.freshId hs caps false).sealExport s.freshId)))
  -- BIST_REPORT
  ∧ (∀ (fn : Fn) (sq : RingNo) (caps : Capsule) (q : Sq) (hs : List Nat) (u : State) (s : State),
      Begins s .bistReport fn sq caps {} q hs u →
      capLIST caps = false →
      let v := atWork u s.freshId hs caps false
      let bs := cutRecord (capDLEN caps) 64 16 v.bistRecord
      exec (.bistReport fn sq caps) s = .next (s.close ((v.setCmd s.freshId (fun c => { c with res1 := bs.length })).result s.freshId bs)))
  -- LOG_READ
  ∧ (∀ (fn : Fn) (sq : RingNo) (caps : Capsule) (q : Sq) (hs : List Nat) (u : State) (s : State),
      Begins s .logRead fn sq caps {} q hs u →
      capLIST caps = false →
      let v := atWork u s.freshId hs caps false
      let log := List.zip (List.range (v.func (toFn fn)).errLog.length) (v.func (toFn fn)).errLog
      let mine := (log.filter (fun e => cap caps 24 2 == 0xFFFF || e.2.sqid == cap caps 24 2)).take (min (cap caps 28 4) (capDLEN caps / 64))
      exec (.logRead fn sq caps) s = .next (s.close (((v.setFunc (toFn fn) (fun g => { g with
            errLog := (log.filter (fun e => !(mine.any (fun m => m.1 == e.1)))).map (·.2), errLost := 0 })).setCmd s.freshId (fun c => { c with
            res0 := (v.func (toFn fn)).errLost, res1 := mine.length })).result s.freshId (mine.flatMap (fun e => errBytes e.2)))))
  -- LOG_READ of the event log
  ∧ (∀ (fn : Fn) (sq : RingNo) (caps : Capsule) (q : Sq) (hs : List Nat) (u : State) (s : State),
      Begins s .eventLogRead fn sq caps {} q hs u →
      capLIST caps = false →
      let v := atWork u s.freshId hs caps false
      let n := min (cap caps 28 4) (capDLEN caps / 32)
      exec (.eventLogRead fn sq caps) s = .next (s.close ((({ v with evt.log := v.evt.log.drop n, evt.lost := 0 } : State).setCmd s.freshId (fun c => { c with
            res0 := v.evt.lost, res1 := (v.evt.log.take n).length })).result s.freshId ((v.evt.log.take n).flatMap evtBytes))))

/-- LOAD, SPIN, PARK, STOW and RETIRE join the tasks of their station; so do ADAPTIVE and PLANNED, which select its mode and end once handed
over (log entry 165); FORCE stops what the station does first. A capture joins the tasks; its STOP ends the capture it names, or
INVALID_FIELD. REFIN, TEMP and VIN measure (with no measurement the step runs on until its budget is used up); the nine station steps join
the tasks, unless the station is unusable or its disc retired; BIST_CLEAR clears marks; SHUTDOWN stops with a vault mounted or a station
busy, and else runs the self-tests, saves the wear samples and shuts the controller to all but three commands. -/
def Obligations.StationAndCalibrationCommands : Prop :=
  -- STATION_CTL without FORCE: LOAD, SPIN, PARK, STOW, RETIRE
  (∀ (i : Instr) (r : CapRow) (k : TaskKind) (fn : Fn) (sq : RingNo) (caps : Capsule) (q : Sq) (hs : List Nat) (u : State) (s : State),
      ((i, r, k) = (.stationCtlLoad fn sq caps, .ctlLoad, .load) ∨ (i, r, k) = (.stationCtlSpin fn sq caps, .ctlSpin, .spin) ∨ (i, r, k) = (.stationCtlPark fn sq caps, .ctlPark, .park) ∨ (i, r, k) = (.stationCtlStow fn sq caps, .ctlStow, .stow) ∨ (i, r, k) = (.stationCtlRetire fn sq caps, .ctlRetire, .retire)) →
      Begins s r fn sq caps {} q hs u →
      capLIST caps = false →
      let v := (atWork u s.freshId hs caps false).setCmd s.freshId (fun c => { c with station := cap caps 24 1 })
      exec i s = .next (s.close (v.addTask (cap caps 24 1) k [s.freshId] q.cls s.freshId
          (if k = .spin then [cap caps 28 4] else if k = .load then [0x2000000 + 64 * cap caps 24 1] else []) false)))
  -- STATION_CTL without FORCE: ADAPTIVE, PLANNED
  ∧ (∀ (i : Instr) (r : CapRow) (planned : Bool) (fn : Fn) (sq : RingNo) (caps : Capsule) (q : Sq) (hs : List Nat) (u : State) (s : State),
      ((i, r, planned) = (.stationCtlAdaptive fn sq caps, .ctlAdaptive, false) ∨ (i, r, planned) = (.stationCtlPlanned fn sq caps, .ctlPlanned, true)) →
      Begins s r fn sq caps {} q hs u →
      capLIST caps = false →
      let v := (atWork u s.freshId hs caps false).setCmd s.freshId (fun c => { c with station := cap caps 24 1 })
      exec i s = .next (s.close (v.addTask (cap caps 24 1) .mode [s.freshId] q.cls s.freshId [if planned then 1 else 0] false)))
  -- STATION_CTL with FORCE
  ∧ (∀ (fn : Fn) (sq : RingNo) (caps : Capsule) (q : Sq) (hs : List Nat) (u : State) (s : State),
      Begins s .ctlForce fn sq caps {} q hs u →
      capLIST caps = false →
      let v := ((atWork u s.freshId hs caps false).setCmd s.freshId (fun c => { c with station := cap caps 24 1 })).forceStop (cap caps 24 1)
      exec (.stationCtlForce fn sq caps) s = .next (s.close (v.addTask (cap caps 24 1) (actionTask (cap caps 25 1)) [s.freshId] (v.cmdCls (newCmd s.freshId fn sq s.now caps {})) s.freshId
          (actionArgs (cap caps 25 1) (cap caps 24 1) (cap caps 28 4)) true)))
  -- what FORCE stops: the task in hand, and the suspended one, which the gaffer takes up first
  ∧ (∀ (n : Stn) (s : State),
      s.forceStop n = (let v := s.stopHand n
        (if v.bit (TASK_STATUS n) TASK_STATUS_SUSP = true ∧ v.bit (TASK_STATUS n) TASK_STATUS_BUSY = false then v.resumeSuspended n else v).stopHand n))
  -- a mode task that is handed over selects the mode, and its command ends
  ∧ (∀ (n : Stn) (t : Task) (s : State),
      t.kind = .mode →
      let v : State := { s with work.tasks := s.work.tasks.filter (fun x => x.id != t.id) }
      s.giveTask n t = ((v.selectMode n (t.args.headD 0 == 1)).taskResult t .ok))
  -- FORENSIC_CAPTURE
  ∧ (∀ (fn : Fn) (sq : RingNo) (caps : Capsule) (q : Sq) (hs : List Nat) (u : State) (s : State),
      Begins s .capture fn sq caps {} q hs u →
      capLIST caps = false →
      let v := (atWork u s.freshId hs caps false).setCmd s.freshId (fun c => { c with segsIn := plainSegs caps })
      exec (.forensicCapture fn sq caps) s = .next (s.close (v.addTask (cap caps 24 1) .capture [s.freshId] q.cls s.freshId
          [cap caps 32 4, cap caps 28 4, cap caps 25 1 % 2, 0, 0, 0] false)))
  -- FORENSIC_CAPTURE with STOP
  ∧ (∀ (fn : Fn) (sq : RingNo) (caps : Capsule) (q : Sq) (hs : List Nat) (u : State) (s : State),
      Begins s .captureStop fn sq caps {} q hs u →
      capLIST caps = false →
      let v := atWork u s.freshId hs caps false
      exec (.forensicCaptureStop fn sq caps) s = .next (s.close (match v.captureFor fn sq (cap caps 26 2) with
          | none => v.finishWith s.freshId .invalidField
          | some e => (v.stopCapture e.1 e.2).finishWith s.freshId .ok)))
  -- CAL_RUN: REFIN, TEMP, VIN
  ∧ (∀ (i : Instr) (r : CapRow) (fn : Fn) (sq : RingNo) (caps : Capsule) (m : Option CalMeas) (q : Sq) (hs : List Nat) (u : State) (s : State),
      ((i, r) = (.refin fn sq caps m, .calRefin) ∨ (i, r) = (.temp fn sq caps m, .calTemp) ∨ (i, r) = (.vin fn sq caps m, .calVin)) →
      Begins s r fn sq caps { meas := m } q hs u →
      capLIST caps = false →
      let v := atWork u s.freshId hs caps false
      exec i s = .next (s.close (match m with
          | some m => v.devStep s.freshId (cap caps 26 2) (paramInt caps) m
          | none => ({ v with cal.running := some (s.freshId, cap caps 26 2) } : State).setBit CAL_STAT CAL_STAT_BUSY true)))
  -- CAL_RUN: the steps of one station
  ∧ (∀ (i : Instr) (r : CapRow) (fn : Fn) (sq : RingNo) (caps : Capsule) (q : Sq) (hs : List Nat) (u : State) (s : State),
      ((i, r) = (.pdSense fn sq caps, .calPd) ∨ (i, r) = (.hfOffset fn sq caps, .calOffset) ∨ (i, r) = (.hfGain fn sq caps, .calGain) ∨ (i, r) = (.zoneLearn fn sq caps, .calZone) ∨ (i, r) = (.testWrite fn sq caps, .calTest) ∨ (i, r) = (.liveOn fn sq caps, .calLiveOn) ∨ (i, r) = (.liveOff fn sq caps, .calLiveOff)) →
      Begins s r fn sq caps {} q hs u →
      capLIST caps = false →
      let v := atWork u s.freshId hs caps false
      exec i s = .next (s.close (
          if v.unusableStn (cap caps 24 1) || (v.station (toStn (cap caps 24 1))).retired
          then (v.setCmd s.freshId (fun c => { c with station := cap caps 24 1 })).finishWith s.freshId .stationUnavailable
          else v.addTask (cap caps 24 1) .calStep [s.freshId] q.cls s.freshId [cap caps 26 2, 0, cap caps 28 4, 0, 0, 0] false)))
  -- CAL_RUN: BIST_CLEAR
  ∧ (∀ (fn : Fn) (sq : RingNo) (caps : Capsule) (q : Sq) (hs : List Nat) (u : State) (s : State),
      Begins s .calBistClear fn sq caps {} q hs u →
      capLIST caps = false →
      let v := (atWork u s.freshId hs caps false).bistClear (cap caps 24 1)
      exec (.bistClear fn sq caps) s = .next (s.close (v.calEnd s.freshId 0x30 (cap caps 24 1) 0 (v.tempOf 1) 0xFF [])))
  -- CAL_RUN: SHUTDOWN
  ∧ (∀ (fn : Fn) (sq : RingNo) (caps : Capsule) (bist : List BistFind) (q : Sq) (hs : List Nat) (u : State) (s : State),
      Begins s .calShutdown fn sq caps { bist := bist } q hs u →
      capLIST caps = false →
      let v := atWork u s.freshId hs caps false
      let tested := ((List.range v.stations).filter (fun n => v.bit (STN_CTL n) STN_CTL_ENABLE)).foldl (fun (w : State) n => w.stationBist n bist) v
      let shut := (({ tested with evt.wearFlash := tested.evt.wear } : State).deviceBist bist).setBit BIST_STAT BIST_STAT_SHUT true
      exec (.shutdown fn sq caps bist) s = .next (s.close (
          if !v.ledger.vaults.isEmpty || (List.range v.stations).any (fun n => v.holdsTask n || v.spinState n != 0)
          then v.calEnd s.freshId 0x31 0xFF 2 (v.tempOf 1) 0xFF []
          else shut.calEnd s.freshId 0x31 0xFF 0 (shut.tempOf 1) 0xFF [])))

/-- Each begins at once: VAULT_CREATE makes the keys and the record, REBIND changes the binding, VAULT_UNMOUNT closes the vault behind the
commands that use it. FLUSH and FENCE let every earlier block be placed and end once every earlier command they wait for has ended.
DOMAIN_SET begins its entry, or waits behind another. QUEUE_RESET of another SQ that is active or frozen ends the commands not started,
skips the unread capsules if asked to, one whose read is in flight ending by itself, makes the SQ active and ends once those commands'
entries have been posted. FW_ACTIVATE takes the staged image. NOP ends with OK. -/
def Obligations.VaultOrderAndDeviceCommands : Prop :=
  -- VAULT_CREATE, and with REBIND; VAULT_UNMOUNT
  (∀ (i : Instr) (r : CapRow) (fn : Fn) (sq : RingNo) (caps : Capsule) (q : Sq) (hs : List Nat) (u : State) (s : State),
      (i.capsule = some (r, fn, sq, caps, {}) ∧ r ∈ [CapRow.vaultCreate, .vaultRebind, .vaultUnmount]) →
      Begins s r fn sq caps {} q hs u →
      capLIST caps = false →
      let v := atWork u s.freshId hs caps (r != .vaultUnmount)
      exec i s = .next (s.close (match r with
          | .vaultCreate => v.vaultCreate s.freshId
          | .vaultRebind => v.vaultRebind s.freshId
          | _ => v.vaultUnmount s.freshId)))
  -- the binding of REBIND
  ∧ (∀ (id : Nat) (c : Cmd) (s : State),
      s.cmd? id = some c →
      ((s.boundTo (capVAULT c.caps)).isSome = true ∧ (s.vault? (capVAULT c.caps)).isNone = true ∧ s.ledger.mounting.contains (capVAULT c.caps) = false ∧ s.kek.isSome = true) →
      let dir := if cap c.caps 24 2 = 0xFFFF then s.sec.dir.filter (fun e => e.1 != capVAULT c.caps)
        else s.sec.dir.map (fun e => if e.1 = capVAULT c.caps then (capVAULT c.caps, cap c.caps 24 2) else e)
      s.vaultRebind id = ({ s with sec.dir := dir } : State).finishWith id .ok)
  -- FLUSH and FENCE
  ∧ (∀ (i : Instr) (r : CapRow) (fn : Fn) (sq : RingNo) (caps : Capsule) (q : Sq) (hs : List Nat) (u : State) (s : State),
      ((i, r) = (.flush fn sq caps, .flush) ∨ (i, r) = (.fence fn sq caps, .fence)) →
      Begins s r fn sq caps {} q hs u →
      capLIST caps = false →
      exec i s = .next (s.close (((atWork u s.freshId hs caps true).flushBefore s.freshId none).releaseWaits)))
  -- DOMAIN_SET
  ∧ (∀ (fn : Fn) (sq : RingNo) (caps : Capsule) (q : Sq) (hs : List Nat) (u : State) (s : State),
      Begins s .domainSet fn sq caps {} q hs u →
      capLIST caps = false →
      let v := atWork u s.freshId hs caps false
      exec (.domainSet fn sq caps) s = .next (s.close (if v.power.entry.isSome || !v.power.queue.isEmpty
          then { v with power.queue := v.power.queue ++ [s.freshId] } else v.domainStep1 s.freshId)))
  -- QUEUE_RESET of the SQ itself, or of none that is active or frozen
  ∧ (∀ (i : Instr) (r : CapRow) (fn : Fn) (sq : RingNo) (caps : Capsule) (q : Sq) (hs : List Nat) (u : State) (s : State),
      ((i, r) = (.queueResetResumeAfter fn sq caps, .resetResume) ∨ (i, r) = (.queueResetDiscard fn sq caps, .resetDiscard)) →
      Begins s r fn sq caps {} q hs u →
      capLIST caps = false →
      (cap caps 24 2 = sq ∨ u.sq? fn (cap caps 24 2) = none ∨ u.fld (SQ_STAT fn (cap caps 24 2)) SQ_STAT_STATE = 2) →
      exec i s = .next (s.close ((atWork u s.freshId hs caps true).finishWith s.freshId .invalidField)))
  -- QUEUE_RESET of another SQ that is active or frozen
  ∧ (∀ (i : Instr) (r : CapRow) (discard : Bool) (fn : Fn) (sq : RingNo) (caps : Capsule) (q t : Sq) (hs : List Nat) (u : State) (s : State),
      ((i, r, discard) = (.queueResetResumeAfter fn sq caps, .resetResume, false) ∨ (i, r, discard) = (.queueResetDiscard fn sq caps, .resetDiscard, true)) →
      Begins s r fn sq caps {} q hs u →
      capLIST caps = false →
      (cap caps 24 2 ≠ sq ∧ u.sq? fn (cap caps 24 2) = some t ∧ u.fld (SQ_STAT fn (cap caps 24 2)) SQ_STAT_STATE ≠ 2) →
      let k := cap caps 24 2
      let v := atWork u s.freshId hs caps true
      let ids := ((v.ofSq fn k).filter (fun y => !y.started && !y.ended)).map (·.id)
      let ended := ids.foldl (fun (w : State) j => w.finish j (if u.fld (SQ_STAT fn k) SQ_STAT_STATE = 3 then .queueFrozen else .abortedByReset)) v
      let skipped := if discard then (t.tail + t.size - ended.fld (SQ_STAT fn k) SQ_STAT_HEAD) % t.size else 0
      let moved := if discard && skipped != 0 then (ended.setFld (SQ_STAT fn k) SQ_STAT_HEAD t.tail).putSq fn k { t with
          shadowDue := true, found := [], fetch := if t.fetch = 0 then 0 else 3 } else ended
      let cut := if discard && skipped != 0 && t.fetch != 0 then 1 else 0
      exec i s = .next (s.close ((((moved.setFld (SQ_STAT fn k) SQ_STAT_STATE 1).setCmd s.freshId (fun c => { c with
          waits := ids, res0 := ids.length + cut, res1 := skipped - cut })).releaseWaits))))
  -- FW_ACTIVATE of firmware
  ∧ (∀ (fn : Fn) (sq : RingNo) (caps : Capsule) (q : Sq) (hs : List Nat) (u : State) (s : State),
      Begins s .activateFirmware fn sq caps {} q hs u →
      capLIST caps = false →
      let v := atWork u s.freshId hs caps true
      exec (.fwActivateFirmware fn sq caps) s = .next (s.close (if v.sec.staged.getD 0 false
          then { v.takeSlot 0 with sec.benchUp := false } else v.finishWith s.freshId .invalidField)))
  -- FW_ACTIVATE of microcode
  ∧ (∀ (fn : Fn) (sq : RingNo) (caps : Capsule) (q : Sq) (hs : List Nat) (u : State) (s : State),
      Begins s .activateMicrocode fn sq caps {} q hs u →
      capLIST caps = false →
      let v := atWork u s.freshId hs caps true
      exec (.fwActivateMicrocode fn sq caps) s = .next (s.close (if v.sec.staged.getD 1 false
          then (v.takeSlot 1).activateMicro s.freshId else v.finishWith s.freshId .invalidField)))
  -- NOP
  ∧ (∀ (fn : Fn) (sq : RingNo) (caps : Capsule) (q : Sq) (hs : List Nat) (u : State) (s : State),
      Begins s .nop fn sq caps {} q hs u →
      capLIST caps = false →
      exec (.nop fn sq caps) s = .next (s.close ((atWork u s.freshId hs caps false).finishWith s.freshId .ok)))

/-- Reading a checkpoint's stream gives the header, the descriptors and the dropped list that were written into it, whatever they hold. At a
mount a band is replayed when its position lies between the latest complete checkpoint's frontiers, or the layer's first position, and the
first unwritten position, or when that checkpoint names it uncovered; it counts if its seal record carries a valid signature of this vault
and disc and it is no band of a checkpoint (one that is replayed belongs to no complete checkpoint), and is void if not. A disc without a
complete checkpoint has no covered band. Described bands count unless they are marked void or uncovered, and so do the latest complete
checkpoint's own; the versions of dropped lists and of void bands' frames are consumed. -/
def Obligations.CheckpointsAndMounts : Prop :=
  -- a checkpoint stream reads back
  (∀ (idx count no vault prevLoc prevBands : Nat) (frontier : List Nat) (bands : List CkBand) (dropped : List (Nat × Nat)),
      (idx < 2 ^ 8 ∧ count < 2 ^ 8 ∧ no < 2 ^ 32 ∧ vault < 2 ^ 32 ∧ prevLoc < 2 ^ 32 ∧ prevBands < 2 ^ 32) →
      (frontier.length = 16 ∧ (∀ l ∈ frontier, l < 2 ^ 32)) →
      (bands.length < 2 ^ 32 ∧ dropped.length < 2 ^ 32) →
      (∀ b ∈ bands, b.seq < 2 ^ 64 ∧ b.loc < 2 ^ 32 ∧ b.n < 2 ^ 16 ∧ b.flags < 2 ^ 16 ∧ b.relocs.length < 2 ^ 16 ∧ b.entries.length < 2 ^ 16) →
      (∀ b ∈ bands, (∀ r ∈ b.relocs, r.length = 8) ∧ (∀ e ∈ b.entries, e.1 < 2 ^ 64 ∧ 0 < e.2.1 ∧ e.2.1 < 2 ^ 32 ∧ e.2.2 < 2 ^ 16)) →
      (∀ e ∈ dropped, e.1 < 2 ^ 64 ∧ e.2 < 2 ^ 32) →
      128 + (bands.flatMap ckDescriptor).length + 16 * dropped.length < 2 ^ 64 →
      readCheckpoint (ckStream idx count no vault prevLoc prevBands frontier bands dropped) =
          (⟨idx, count, no, vault, 128 + (bands.flatMap ckDescriptor).length + 16 * dropped.length, bands.length, dropped.length, prevLoc,
            prevBands, frontier⟩, bands, dropped))
  -- what counts and what is void among the replayed bands (R340)
  ∧ (∀ (pub : Bytes) (vault : Nat) (f : DiscFound) (r : BandRead),
      let d := readDisc pub vault f
      (r ∈ d.counted → r ∈ f.bands ∧ replayCounts pub vault f.discId r = true ∧ (replayBand 0 r).isCkpt = false)
        ∧ (r ∈ d.void → r ∈ f.bands ∧ (replayCounts pub vault f.discId r = false ∨ (replayBand 0 r).isCkpt = true)))
  -- a disc without a complete checkpoint: nothing is covered, and every layer is replayed from its first band (R340)
  ∧ (∀ (pub : Bytes) (vault : Nat) (f : DiscFound) (y : Nat),
      ((readDisc pub vault f).head = none ∧ y < 16) →
      let d := readDisc pub vault f
      d.covered = [] ∧ (∀ r ∈ f.bands, r.loc = firstLoc y → r ∈ d.counted ++ d.void))
  -- a disc on which nothing is written: every frontier is the first position of its layer (R336)
  ∧ (∀ (pub : Bytes) (vault : Nat) (f : DiscFound) (y : Nat),
      (y < 16 ∧ f.bands.map (·.loc) = []) →
      (readDisc pub vault f).frontier.getD y 0 = firstLoc y)
  -- bands that a checkpoint describes count unless marked void or uncovered (R340)
  ∧ (∀ (d : DiscRead) (b : CkBand),
      b ∈ d.covered →
      (b.flags.testBit 2 = false ∧ b.flags.testBit 3 = false) ↔
          (⟨b.seq, d.idx, b.loc, b.n, b.flags, b.relocs, b.entries.map (fun e => ⟨e.2.2, e.1, e.2.1⟩), 0⟩ : Band) ∈ d.bands.1)
  -- the bands of the latest complete checkpoint count (R337, R340)
  ∧ (∀ (d : DiscRead) (c : CkRead) (r : BandRead),
      (d.head = some c ∧ r ∈ c.own) →
      replayBand d.idx r ∈ d.bands.1)
  -- versions that reached a disc without being recorded are consumed (R332)
  ∧ (∀ (d : DiscRead) (c : CkRead) (e : Nat × Nat),
      (d.head = some c ∧ e ∈ c.drops ∧ e.1 < 2 ^ 63) →
      e ∈ d.versions)
end

