-- ==== Sys2Proof/Laws/Fields.lean ====
section
/-!
SUPPORT. Laws of register fields (R7): what a field reads as after it, or another, is written.
-/

namespace Sys2Proof.Machine

/-- The bits of a field. -/
theorem fldGet_testBit (f : Fld) (w : Word) (i : Nat) :
    (fldGet f w).testBit i = (decide (i < f.hi + 1 - f.lo) && w.getLsbD (f.lo + i)) := by
  simp [fldGet, Nat.testBit_mod_two_pow, Nat.testBit_shiftRight, BitVec.getLsbD]

/-- The bits of a word after a field is written. -/
theorem fldSet_getLsbD (f : Fld) (w : Word) (v i : Nat) (hi : i < 32) :
    (fldSet f w v).getLsbD i =
      if f.lo ≤ i ∧ i ≤ f.hi then v.testBit (i - f.lo) else w.getLsbD i := by
  simp only [fldSet, fldMask, BitVec.getLsbD_or, BitVec.getLsbD_and, BitVec.getLsbD_not, BitVec.getLsbD_ofNat,
    Nat.testBit_shiftLeft, Nat.testBit_mod_two_pow, Nat.testBit_two_pow_sub_one, hi, decide_true, Bool.true_and]
  by_cases h : f.lo ≤ i ∧ i ≤ f.hi
  · rw [if_pos h]
    have h1 : f.lo ≤ i := h.1
    have h2 : i - f.lo < f.hi + 1 - f.lo := by omega
    simp [h1, h2]
  · rw [if_neg h]
    by_cases h1 : f.lo ≤ i
    · have h2 : ¬ i - f.lo < f.hi + 1 - f.lo := by omega
      simp [h2]
    · simp [h1]

/-- A field reads as what was written to it, modulo its width. -/
theorem fldGet_fldSet_same (f : Fld) (w : Word) (v : Nat) (h : f.hi < 32) :
    fldGet f (fldSet f w v) = v % 2 ^ (f.hi + 1 - f.lo) := by
  apply Nat.eq_of_testBit_eq
  intro i
  rw [fldGet_testBit, Nat.testBit_mod_two_pow]
  by_cases hi : i < f.hi + 1 - f.lo
  · rw [fldSet_getLsbD f w v (f.lo + i) (by omega)]
    have h1 : f.lo ≤ f.lo + i ∧ f.lo + i ≤ f.hi := by omega
    simp [hi, h1]
  · simp [hi]

/-- A field keeps its value when one above it or below it is written. -/
theorem fldGet_fldSet_other (f g : Fld) (w : Word) (v : Nat) (hf : f.hi < 32) (h : f.hi < g.lo ∨ g.hi < f.lo) :
    fldGet f (fldSet g w v) = fldGet f w := by
  apply Nat.eq_of_testBit_eq
  intro i
  rw [fldGet_testBit, fldGet_testBit]
  by_cases hi : i < f.hi + 1 - f.lo
  · rw [fldSet_getLsbD g w v (f.lo + i) (by omega), if_neg (by omega)]
  · simp [hi]

/-- Writing a field with what it holds changes nothing. -/
@[simp] theorem fldSet_fldGet (f : Fld) (w : Word) : fldSet f w (fldGet f w) = w := by
  apply BitVec.eq_of_getLsbD_eq
  intro i hi
  rw [fldSet_getLsbD f w _ i hi, fldGet_testBit]
  by_cases h : f.lo ≤ i ∧ i ≤ f.hi
  · rw [if_pos h]
    have h1 : i - f.lo < f.hi + 1 - f.lo := by omega
    have h2 : f.lo + (i - f.lo) = i := by omega
    simp [h1, h2]
  · rw [if_neg h]

/-- Only the bits that fit the field count. -/
theorem fldSet_mod (f : Fld) (w : Word) (v : Nat) : fldSet f w (v % 2 ^ (f.hi + 1 - f.lo)) = fldSet f w v := by
  apply BitVec.eq_of_getLsbD_eq
  intro i hi
  rw [fldSet_getLsbD f w _ i hi, fldSet_getLsbD f w _ i hi, Nat.testBit_mod_two_pow]
  by_cases h : f.lo ≤ i ∧ i ≤ f.hi
  · have h1 : i - f.lo < f.hi + 1 - f.lo := by omega
    simp [h, h1]
  · rw [if_neg h, if_neg h]

/-- Writing a field with what it reads as after that very write. -/
theorem fldSet_fldGet_same (f : Fld) (w : Word) (v : Nat) (h : f.hi < 32) : fldSet f w (fldGet f (fldSet f w v)) = fldSet f w v := by
  rw [fldGet_fldSet_same f w v h, fldSet_mod]

/-- Writing a field with what it reads as after another field is written. -/
theorem fldSet_fldGet_other (f g : Fld) (w : Word) (v : Nat) (hf : f.hi < 32) (h : f.hi < g.lo ∨ g.hi < f.lo) :
    fldSet f w (fldGet f (fldSet g w v)) = w := by
  rw [fldGet_fldSet_other f g w v hf h, fldSet_fldGet]

end Sys2Proof.Machine
end

