-- ==== Sys2Proof/Laws/Maps.lean ====
section
/-!
SUPPORT. Laws of the sparse maps: a read after a write, and the canonical form under every operation.
-/

namespace Sys2Proof

variable {α : Type}

@[simp] theorem SMap.get?_nil (k : Nat) : SMap.get? ([] : SMap α) k = none := rfl

/-- Every key of `m` is above `j`. -/
def SMap.above (j : Nat) (m : SMap α) : Prop := ∀ e ∈ m, j < e.1

theorem SMap.sorted_cons {j : Nat} {b : α} {m : SMap α} :
    SMap.sorted ((j, b) :: m) = true ↔ SMap.above j m ∧ SMap.sorted m = true := by
  induction m generalizing j b with
  | nil => simp [SMap.sorted, SMap.above]
  | cons e m ih =>
    obtain ⟨i, c⟩ := e
    simp only [SMap.sorted, Bool.and_eq_true, decide_eq_true_eq]
    constructor
    · rintro ⟨h, hs⟩
      refine ⟨?_, hs⟩
      intro x hx
      rcases List.mem_cons.mp hx with rfl | hx
      · exact h
      · exact lt_trans h ((ih.mp hs).1 x hx)
    · rintro ⟨ha, hs⟩
      exact ⟨ha (i, c) (List.mem_cons_self), hs⟩

theorem SMap.get?_of_above {j k : Nat} {m : SMap α} (h : SMap.above j m) (hk : k ≤ j) : SMap.get? m k = none := by
  induction m with
  | nil => rfl
  | cons e m ih =>
    obtain ⟨i, c⟩ := e
    have hi : j < i := h (i, c) (List.mem_cons_self)
    have hm : SMap.above j m := fun x hx => h x (List.mem_cons_of_mem _ hx)
    simp only [SMap.get?]
    rw [if_neg (by omega)]
    exact ih hm

theorem SMap.ins_mem {k : Nat} {a : α} {m : SMap α} {e : Nat × α} (h : e ∈ SMap.ins k a m) : e = (k, a) ∨ e ∈ m := by
  induction m with
  | nil => simpa [SMap.ins] using h
  | cons f m ih =>
    obtain ⟨i, c⟩ := f
    simp only [SMap.ins] at h
    split at h
    · exact (List.mem_cons.mp h).imp_right id
    · split at h
      · rcases List.mem_cons.mp h with rfl | h
        · exact .inl rfl
        · exact .inr (List.mem_cons_of_mem _ h)
      · rcases List.mem_cons.mp h with rfl | h
        · exact .inr (List.mem_cons_self)
        · exact (ih h).imp_right (List.mem_cons_of_mem _)

theorem SMap.del_mem {k : Nat} {m : SMap α} {e : Nat × α} (h : e ∈ SMap.del k m) : e ∈ m := List.mem_of_mem_filter h

theorem SMap.above_ins {j k : Nat} {a : α} {m : SMap α} (h : SMap.above j m) (hk : j < k) : SMap.above j (SMap.ins k a m) :=
  fun e he => (SMap.ins_mem he).elim (fun x => x ▸ hk) (h e)

theorem SMap.above_del {j k : Nat} {m : SMap α} (h : SMap.above j m) : SMap.above j (SMap.del k m) :=
  fun e he => h e (SMap.del_mem he)

/-- Inserting keeps the keys strictly rising. -/
theorem SMap.sorted_ins {k : Nat} {a : α} {m : SMap α} (h : SMap.sorted m = true) : SMap.sorted (SMap.ins k a m) = true := by
  induction m with
  | nil => rfl
  | cons e m ih =>
    obtain ⟨j, b⟩ := e
    have h' := SMap.sorted_cons.mp h
    simp only [SMap.ins]
    split
    · rename_i hk
      refine SMap.sorted_cons.mpr ⟨?_, h⟩
      intro e he
      rcases List.mem_cons.mp he with rfl | he
      · exact hk
      · exact lt_trans hk (h'.1 e he)
    · split
      · rename_i _ hk
        subst hk
        exact SMap.sorted_cons.mpr h'
      · exact SMap.sorted_cons.mpr ⟨SMap.above_ins h'.1 (by omega), ih h'.2⟩

/-- Leaving entries out keeps the keys strictly rising. -/
theorem SMap.sorted_filter {m : SMap α} (p : Nat × α → Bool) (h : SMap.sorted m = true) : SMap.sorted (m.filter p) = true := by
  induction m with
  | nil => rfl
  | cons e m ih =>
    obtain ⟨j, b⟩ := e
    have h' := SMap.sorted_cons.mp h
    rw [List.filter_cons]
    split
    · exact SMap.sorted_cons.mpr ⟨fun e he => h'.1 e (List.mem_of_mem_filter he), ih h'.2⟩
    · exact ih h'.2

/-- Deleting keeps the keys strictly rising. -/
theorem SMap.sorted_del {k : Nat} {m : SMap α} (h : SMap.sorted m = true) : SMap.sorted (SMap.del k m) = true :=
  SMap.sorted_filter _ h

/-- A write in canonical form keeps the keys strictly rising. -/
theorem SMap.sorted_put [DecidableEq α] {d a : α} {k : Nat} {m : SMap α} (h : SMap.sorted m = true) :
    SMap.sorted (SMap.put m d k a) = true := by
  unfold SMap.put
  split
  · exact SMap.sorted_del h
  · exact SMap.sorted_ins h

/-- Inserting, then reading the same key. -/
theorem SMap.get?_ins_same (m : SMap α) (k : Nat) (a : α) : SMap.get? (SMap.ins k a m) k = some a := by
  induction m with
  | nil => simp [SMap.ins, SMap.get?]
  | cons e m ih =>
    obtain ⟨j, b⟩ := e
    simp only [SMap.ins]
    split
    · simp [SMap.get?]
    · split
      · simp [SMap.get?]
      · simp only [SMap.get?]
        rw [if_neg (by omega)]
        exact ih

/-- Inserting, then reading another key. -/
theorem SMap.get?_ins_other (m : SMap α) {k j : Nat} (a : α) (h : k ≠ j) : SMap.get? (SMap.ins k a m) j = SMap.get? m j := by
  induction m with
  | nil => simp [SMap.ins, SMap.get?, h]
  | cons e m ih =>
    obtain ⟨i, b⟩ := e
    simp only [SMap.ins]
    split
    · simp [SMap.get?, h]
    · split
      · rename_i _ hk
        subst hk
        simp [SMap.get?, h]
      · simp only [SMap.get?]
        split
        · rfl
        · exact ih

/-- Deleting, then reading the same key. -/
theorem SMap.get?_del_same (m : SMap α) (k : Nat) : SMap.get? (SMap.del k m) k = none := by
  induction m with
  | nil => rfl
  | cons e m ih =>
    obtain ⟨j, b⟩ := e
    by_cases hj : j = k
    · simpa [SMap.del, hj] using ih
    · simpa [SMap.del, SMap.get?, hj] using ih

/-- Deleting, then reading another key. -/
theorem SMap.get?_del_other (m : SMap α) {k j : Nat} (h : k ≠ j) : SMap.get? (SMap.del k m) j = SMap.get? m j := by
  induction m with
  | nil => rfl
  | cons e m ih =>
    obtain ⟨i, b⟩ := e
    by_cases hi : i = k
    · subst hi
      simpa [SMap.del, SMap.get?, h] using ih
    · by_cases hj : i = j
      · have hk : ¬ j = k := fun e => h e.symm
        simp [SMap.del, SMap.get?, hj, hk]
      · simpa [SMap.del, SMap.get?, hi, hj] using ih

/-- A write, then a read of the same key. -/
theorem SMap.getD_put_same [DecidableEq α] (m : SMap α) (d a : α) (k : Nat) :
    SMap.getD (SMap.put m d k a) d k = a := by
  unfold SMap.getD SMap.put
  split
  · rename_i ha
    rw [SMap.get?_del_same, ha]
    rfl
  · rw [SMap.get?_ins_same]
    rfl

/-- A write, then a read of another key. -/
theorem SMap.getD_put_other [DecidableEq α] (m : SMap α) (d d' a : α) {k j : Nat} (h : k ≠ j) :
    SMap.getD (SMap.put m d k a) d' j = SMap.getD m d' j := by
  unfold SMap.getD SMap.put
  split
  · rw [SMap.get?_del_other m h]
  · rw [SMap.get?_ins_other m a h]

end Sys2Proof
end

