-- ==== Sys2Proof/Laws/State.lean ====
section
/-!
SUPPORT. Laws of the state: what each small update leaves, field by field, and reads of registers after writes.
-/

namespace Sys2Proof.Machine

/-! ## A register is written -/

@[simp] theorem State.setReg_part (s : State) (r : Reg) (w : Word) : (s.setReg r w).part = s.part := rfl
@[simp] theorem State.setReg_now (s : State) (r : Reg) (w : Word) : (s.setReg r w).now = s.now := rfl
@[simp] theorem State.setReg_fresh (s : State) (r : Reg) (w : Word) : (s.setReg r w).fresh = s.fresh := rfl
@[simp] theorem State.setReg_pins (s : State) (r : Reg) (w : Word) : (s.setReg r w).pins = s.pins := rfl
@[simp] theorem State.setReg_aon (s : State) (r : Reg) (w : Word) : (s.setReg r w).aon = s.aon := rfl
@[simp] theorem State.setReg_power (s : State) (r : Reg) (w : Word) : (s.setReg r w).power = s.power := rfl
@[simp] theorem State.setReg_pcie (s : State) (r : Reg) (w : Word) : (s.setReg r w).pcie = s.pcie := rfl
@[simp] theorem State.setReg_fns (s : State) (r : Reg) (w : Word) : (s.setReg r w).fns = s.fns := rfl
@[simp] theorem State.setReg_rings (s : State) (r : Reg) (w : Word) : (s.setReg r w).rings = s.rings := rfl
@[simp] theorem State.setReg_work (s : State) (r : Reg) (w : Word) : (s.setReg r w).work = s.work := rfl
@[simp] theorem State.setReg_sec (s : State) (r : Reg) (w : Word) : (s.setReg r w).sec = s.sec := rfl
@[simp] theorem State.setReg_stores (s : State) (r : Reg) (w : Word) : (s.setReg r w).stores = s.stores := rfl
@[simp] theorem State.setReg_ledger (s : State) (r : Reg) (w : Word) : (s.setReg r w).ledger = s.ledger := rfl
@[simp] theorem State.setReg_evt (s : State) (r : Reg) (w : Word) : (s.setReg r w).evt = s.evt := rfl
@[simp] theorem State.setReg_cal (s : State) (r : Reg) (w : Word) : (s.setReg r w).cal = s.cal := rfl
@[simp] theorem State.setReg_mem (s : State) (r : Reg) (w : Word) : (s.setReg r w).mem = s.mem := rfl
@[simp] theorem State.setReg_chans (s : State) (r : Reg) (w : Word) : (s.setReg r w).chans = s.chans := rfl
@[simp] theorem State.setReg_stn (s : State) (r : Reg) (w : Word) : (s.setReg r w).stn = s.stn := rfl
@[simp] theorem State.setReg_out (s : State) (r : Reg) (w : Word) : (s.setReg r w).out = s.out := rfl
@[simp] theorem State.setReg_pending (s : State) (r : Reg) (w : Word) : (s.setReg r w).pending = s.pending := rfl

/-! ## A field of a register is written -/

@[simp] theorem State.setFld_part (s : State) (r : Reg) (g : Fld) (v : Nat) : (s.setFld r g v).part = s.part := rfl
@[simp] theorem State.setFld_now (s : State) (r : Reg) (g : Fld) (v : Nat) : (s.setFld r g v).now = s.now := rfl
@[simp] theorem State.setFld_fresh (s : State) (r : Reg) (g : Fld) (v : Nat) : (s.setFld r g v).fresh = s.fresh := rfl
@[simp] theorem State.setFld_pins (s : State) (r : Reg) (g : Fld) (v : Nat) : (s.setFld r g v).pins = s.pins := rfl
@[simp] theorem State.setFld_aon (s : State) (r : Reg) (g : Fld) (v : Nat) : (s.setFld r g v).aon = s.aon := rfl
@[simp] theorem State.setFld_power (s : State) (r : Reg) (g : Fld) (v : Nat) : (s.setFld r g v).power = s.power := rfl
@[simp] theorem State.setFld_pcie (s : State) (r : Reg) (g : Fld) (v : Nat) : (s.setFld r g v).pcie = s.pcie := rfl
@[simp] theorem State.setFld_fns (s : State) (r : Reg) (g : Fld) (v : Nat) : (s.setFld r g v).fns = s.fns := rfl
@[simp] theorem State.setFld_rings (s : State) (r : Reg) (g : Fld) (v : Nat) : (s.setFld r g v).rings = s.rings := rfl
@[simp] theorem State.setFld_work (s : State) (r : Reg) (g : Fld) (v : Nat) : (s.setFld r g v).work = s.work := rfl
@[simp] theorem State.setFld_sec (s : State) (r : Reg) (g : Fld) (v : Nat) : (s.setFld r g v).sec = s.sec := rfl
@[simp] theorem State.setFld_stores (s : State) (r : Reg) (g : Fld) (v : Nat) : (s.setFld r g v).stores = s.stores := rfl
@[simp] theorem State.setFld_ledger (s : State) (r : Reg) (g : Fld) (v : Nat) : (s.setFld r g v).ledger = s.ledger := rfl
@[simp] theorem State.setFld_evt (s : State) (r : Reg) (g : Fld) (v : Nat) : (s.setFld r g v).evt = s.evt := rfl
@[simp] theorem State.setFld_cal (s : State) (r : Reg) (g : Fld) (v : Nat) : (s.setFld r g v).cal = s.cal := rfl
@[simp] theorem State.setFld_mem (s : State) (r : Reg) (g : Fld) (v : Nat) : (s.setFld r g v).mem = s.mem := rfl
@[simp] theorem State.setFld_chans (s : State) (r : Reg) (g : Fld) (v : Nat) : (s.setFld r g v).chans = s.chans := rfl
@[simp] theorem State.setFld_stn (s : State) (r : Reg) (g : Fld) (v : Nat) : (s.setFld r g v).stn = s.stn := rfl
@[simp] theorem State.setFld_out (s : State) (r : Reg) (g : Fld) (v : Nat) : (s.setFld r g v).out = s.out := rfl
@[simp] theorem State.setFld_pending (s : State) (r : Reg) (g : Fld) (v : Nat) : (s.setFld r g v).pending = s.pending := rfl

/-! ## A station's own state changes -/

@[simp] theorem State.setStn_part (s : State) (n : Stn) (g : Station → Station) : (s.setStn n g).part = s.part := rfl
@[simp] theorem State.setStn_now (s : State) (n : Stn) (g : Station → Station) : (s.setStn n g).now = s.now := rfl
@[simp] theorem State.setStn_fresh (s : State) (n : Stn) (g : Station → Station) : (s.setStn n g).fresh = s.fresh := rfl
@[simp] theorem State.setStn_regs (s : State) (n : Stn) (g : Station → Station) : (s.setStn n g).regs = s.regs := rfl
@[simp] theorem State.setStn_pins (s : State) (n : Stn) (g : Station → Station) : (s.setStn n g).pins = s.pins := rfl
@[simp] theorem State.setStn_aon (s : State) (n : Stn) (g : Station → Station) : (s.setStn n g).aon = s.aon := rfl
@[simp] theorem State.setStn_power (s : State) (n : Stn) (g : Station → Station) : (s.setStn n g).power = s.power := rfl
@[simp] theorem State.setStn_pcie (s : State) (n : Stn) (g : Station → Station) : (s.setStn n g).pcie = s.pcie := rfl
@[simp] theorem State.setStn_fns (s : State) (n : Stn) (g : Station → Station) : (s.setStn n g).fns = s.fns := rfl
@[simp] theorem State.setStn_rings (s : State) (n : Stn) (g : Station → Station) : (s.setStn n g).rings = s.rings := rfl
@[simp] theorem State.setStn_work (s : State) (n : Stn) (g : Station → Station) : (s.setStn n g).work = s.work := rfl
@[simp] theorem State.setStn_sec (s : State) (n : Stn) (g : Station → Station) : (s.setStn n g).sec = s.sec := rfl
@[simp] theorem State.setStn_stores (s : State) (n : Stn) (g : Station → Station) : (s.setStn n g).stores = s.stores := rfl
@[simp] theorem State.setStn_ledger (s : State) (n : Stn) (g : Station → Station) : (s.setStn n g).ledger = s.ledger := rfl
@[simp] theorem State.setStn_evt (s : State) (n : Stn) (g : Station → Station) : (s.setStn n g).evt = s.evt := rfl
@[simp] theorem State.setStn_cal (s : State) (n : Stn) (g : Station → Station) : (s.setStn n g).cal = s.cal := rfl
@[simp] theorem State.setStn_mem (s : State) (n : Stn) (g : Station → Station) : (s.setStn n g).mem = s.mem := rfl
@[simp] theorem State.setStn_chans (s : State) (n : Stn) (g : Station → Station) : (s.setStn n g).chans = s.chans := rfl
@[simp] theorem State.setStn_out (s : State) (n : Stn) (g : Station → Station) : (s.setStn n g).out = s.out := rfl
@[simp] theorem State.setStn_pending (s : State) (n : Stn) (g : Station → Station) : (s.setStn n g).pending = s.pending := rfl

/-! ## A function's own state changes -/

@[simp] theorem State.setFunc_part (s : State) (f : Fn) (g : Func → Func) : (s.setFunc f g).part = s.part := rfl
@[simp] theorem State.setFunc_now (s : State) (f : Fn) (g : Func → Func) : (s.setFunc f g).now = s.now := rfl
@[simp] theorem State.setFunc_fresh (s : State) (f : Fn) (g : Func → Func) : (s.setFunc f g).fresh = s.fresh := rfl
@[simp] theorem State.setFunc_regs (s : State) (f : Fn) (g : Func → Func) : (s.setFunc f g).regs = s.regs := rfl
@[simp] theorem State.setFunc_pins (s : State) (f : Fn) (g : Func → Func) : (s.setFunc f g).pins = s.pins := rfl
@[simp] theorem State.setFunc_aon (s : State) (f : Fn) (g : Func → Func) : (s.setFunc f g).aon = s.aon := rfl
@[simp] theorem State.setFunc_power (s : State) (f : Fn) (g : Func → Func) : (s.setFunc f g).power = s.power := rfl
@[simp] theorem State.setFunc_pcie (s : State) (f : Fn) (g : Func → Func) : (s.setFunc f g).pcie = s.pcie := rfl
@[simp] theorem State.setFunc_rings (s : State) (f : Fn) (g : Func → Func) : (s.setFunc f g).rings = s.rings := rfl
@[simp] theorem State.setFunc_work (s : State) (f : Fn) (g : Func → Func) : (s.setFunc f g).work = s.work := rfl
@[simp] theorem State.setFunc_sec (s : State) (f : Fn) (g : Func → Func) : (s.setFunc f g).sec = s.sec := rfl
@[simp] theorem State.setFunc_stores (s : State) (f : Fn) (g : Func → Func) : (s.setFunc f g).stores = s.stores := rfl
@[simp] theorem State.setFunc_ledger (s : State) (f : Fn) (g : Func → Func) : (s.setFunc f g).ledger = s.ledger := rfl
@[simp] theorem State.setFunc_evt (s : State) (f : Fn) (g : Func → Func) : (s.setFunc f g).evt = s.evt := rfl
@[simp] theorem State.setFunc_cal (s : State) (f : Fn) (g : Func → Func) : (s.setFunc f g).cal = s.cal := rfl
@[simp] theorem State.setFunc_mem (s : State) (f : Fn) (g : Func → Func) : (s.setFunc f g).mem = s.mem := rfl
@[simp] theorem State.setFunc_chans (s : State) (f : Fn) (g : Func → Func) : (s.setFunc f g).chans = s.chans := rfl
@[simp] theorem State.setFunc_stn (s : State) (f : Fn) (g : Func → Func) : (s.setFunc f g).stn = s.stn := rfl
@[simp] theorem State.setFunc_out (s : State) (f : Fn) (g : Func → Func) : (s.setFunc f g).out = s.out := rfl
@[simp] theorem State.setFunc_pending (s : State) (f : Fn) (g : Func → Func) : (s.setFunc f g).pending = s.pending := rfl

/-! ## Something leaves the block -/

@[simp] theorem State.emit_part (s : State) (o : Out) : (s.emit o).part = s.part := rfl
@[simp] theorem State.emit_now (s : State) (o : Out) : (s.emit o).now = s.now := rfl
@[simp] theorem State.emit_fresh (s : State) (o : Out) : (s.emit o).fresh = s.fresh := rfl
@[simp] theorem State.emit_regs (s : State) (o : Out) : (s.emit o).regs = s.regs := rfl
@[simp] theorem State.emit_pins (s : State) (o : Out) : (s.emit o).pins = s.pins := rfl
@[simp] theorem State.emit_aon (s : State) (o : Out) : (s.emit o).aon = s.aon := rfl
@[simp] theorem State.emit_power (s : State) (o : Out) : (s.emit o).power = s.power := rfl
@[simp] theorem State.emit_pcie (s : State) (o : Out) : (s.emit o).pcie = s.pcie := rfl
@[simp] theorem State.emit_fns (s : State) (o : Out) : (s.emit o).fns = s.fns := rfl
@[simp] theorem State.emit_rings (s : State) (o : Out) : (s.emit o).rings = s.rings := rfl
@[simp] theorem State.emit_work (s : State) (o : Out) : (s.emit o).work = s.work := rfl
@[simp] theorem State.emit_sec (s : State) (o : Out) : (s.emit o).sec = s.sec := rfl
@[simp] theorem State.emit_stores (s : State) (o : Out) : (s.emit o).stores = s.stores := rfl
@[simp] theorem State.emit_ledger (s : State) (o : Out) : (s.emit o).ledger = s.ledger := rfl
@[simp] theorem State.emit_evt (s : State) (o : Out) : (s.emit o).evt = s.evt := rfl
@[simp] theorem State.emit_cal (s : State) (o : Out) : (s.emit o).cal = s.cal := rfl
@[simp] theorem State.emit_mem (s : State) (o : Out) : (s.emit o).mem = s.mem := rfl
@[simp] theorem State.emit_chans (s : State) (o : Out) : (s.emit o).chans = s.chans := rfl
@[simp] theorem State.emit_stn (s : State) (o : Out) : (s.emit o).stn = s.stn := rfl
@[simp] theorem State.emit_out (s : State) (o : Out) : (s.emit o).out = s.out ++ [o] := rfl
@[simp] theorem State.emit_pending (s : State) (o : Out) : (s.emit o).pending = s.pending := rfl

/-! ## Reading registers after writes -/

/-- The register just written. -/
@[simp] theorem State.reg_setReg_same (s : State) (r : Reg) (w : Word) : (s.setReg r w).reg r = w := SMap.getD_put_same s.regs r.rst w r.key

/-- Every other register. -/
theorem State.reg_setReg_other (s : State) {r q : Reg} (w : Word) (h : r.key ≠ q.key) : (s.setReg r w).reg q = s.reg q :=
  SMap.getD_put_other s.regs r.rst q.rst w h

theorem State.reg_setFld_other (s : State) {r q : Reg} (g : Fld) (v : Nat) (h : r.key ≠ q.key) : (s.setFld r g v).reg q = s.reg q :=
  s.reg_setReg_other _ h

theorem State.fld_setReg_other (s : State) {r q : Reg} (w : Word) (g : Fld) (h : r.key ≠ q.key) : (s.setReg r w).fld q g = s.fld q g := by
  unfold State.fld
  rw [s.reg_setReg_other w h]

theorem State.fld_setFld_other (s : State) {r q : Reg} (g g' : Fld) (v : Nat) (h : r.key ≠ q.key) :
    (s.setFld r g v).fld q g' = s.fld q g' := s.fld_setReg_other _ g' h

/-- A field just written. -/
theorem State.fld_setFld_same (s : State) (r : Reg) (g : Fld) (v : Nat) (h : g.hi < 32) :
    (s.setFld r g v).fld r g = v % 2 ^ (g.hi + 1 - g.lo) := by
  unfold State.setFld State.fld
  rw [s.reg_setReg_same, fldGet_fldSet_same g _ v h]

/-- Another field of the register just written. -/
theorem State.fld_setFld_field (s : State) (r : Reg) (f g : Fld) (v : Nat) (hf : f.hi < 32) (h : f.hi < g.lo ∨ g.hi < f.lo) :
    (s.setFld r g v).fld r f = s.fld r f := by
  unfold State.setFld State.fld
  rw [s.reg_setReg_same, fldGet_fldSet_other f g _ v hf h]

@[simp] theorem State.reg_setStn (s : State) (n : Stn) (g : Station → Station) (r : Reg) : (s.setStn n g).reg r = s.reg r := rfl
@[simp] theorem State.reg_setFunc (s : State) (f : Fn) (g : Func → Func) (r : Reg) : (s.setFunc f g).reg r = s.reg r := rfl
@[simp] theorem State.reg_emit (s : State) (o : Out) (r : Reg) : (s.emit o).reg r = s.reg r := rfl
@[simp] theorem State.fld_setStn (s : State) (n : Stn) (g : Station → Station) (r : Reg) (f : Fld) : (s.setStn n g).fld r f = s.fld r f := rfl
@[simp] theorem State.fld_setFunc (s : State) (i : Fn) (g : Func → Func) (r : Reg) (f : Fld) : (s.setFunc i g).fld r f = s.fld r f := rfl
@[simp] theorem State.fld_emit (s : State) (o : Out) (r : Reg) (f : Fld) : (s.emit o).fld r f = s.fld r f := rfl

/-- Every register write keeps the register map in canonical form. -/
theorem State.setReg_sorted {s : State} (h : SMap.sorted s.regs = true) (r : Reg) (w : Word) : SMap.sorted (s.setReg r w).regs = true :=
  SMap.sorted_put h

/-- The station just changed, and another. -/
theorem State.station_setStn_same (s : State) (n : Stn) (g : Station → Station) : (s.setStn n g).station n = g (s.station n) := by
  simp [State.setStn, State.station]

theorem State.station_setStn_other (s : State) {n m : Stn} (g : Station → Station) (h : n ≠ m) :
    (s.setStn n g).station m = s.station m := by
  have h' : (n : Nat) ≠ m := fun e => h (Fin.ext e)
  simp [State.setStn, State.station, h']

/-- The function just changed, and another. -/
theorem State.func_setFunc_same (s : State) (f : Fn) (g : Func → Func) : (s.setFunc f g).func f = g (s.func f) := by
  simp [State.setFunc, State.func]

theorem State.func_setFunc_other (s : State) {f k : Fn} (g : Func → Func) (h : f ≠ k) : (s.setFunc f g).func k = s.func k := by
  have h' : (f : Nat) ≠ k := fun e => h (Fin.ext e)
  simp [State.setFunc, State.func, h']

end Sys2Proof.Machine
end

