-- ==== Sys2Proof/Laws/Finish.lean ====
section
/-!
SUPPORT. Laws of the end of every meaning: what it always leaves, and that it only settles FAULT# where nothing waits.
-/

namespace Sys2Proof

open Machine

/-- Where nothing waits, a step brings about nothing beside the command's own effect. -/
theorem tidy_of_quiet {s : State} (h : Quiet s) : s.tidy = s := by
  obtain ⟨h1, h2, h3, h4, h5, h6, h7, h8, h9, h13⟩ := h
  have e1 : s.reap = s := by
    have : ({ s with work.toFree := [] } : State) = s := by rw [← h2]
    simp only [State.reap, h2, List.foldl_nil, this]
  have e2 : s.forwards = s := by simp [State.forwards, h1]
  have e3 : s.resumeWaiting = s := by simp [State.resumeWaiting, State.inTurn, h1]
  have e4 : s.liveMounts = s := by
    have : ({ s with ledger.mounting := [] } : State) = s := by rw [← h5]
    simp only [State.liveMounts, h5, List.filter_nil, this]
  have e5 : s.checkVaults = s := by simp [State.checkVaults, h1]
  have e6 : s.sweepMuted = s := by simp [State.sweepMuted, h1]
  have e7 : s.powerPass = s := by
    simp only [State.powerPass]
    have : s.onlyOnDone = s := by simp [State.onlyOnDone, h1]
    rw [this]
    simp [h3, h4]
  have e8 : s.releaseWaits = s := by simp [State.releaseWaits, h1]
  have e9 : s.pruneReleased = s := by
    have : ({ s with ledger.released := [] } : State) = s := by rw [← h6]
    simp only [State.pruneReleased, h6, List.filter_nil, this]
  have e11 : s.settleInvals = s := by
    have : ({ s with pcie.invals := [] } : State) = s := by rw [← h8]
    simp only [State.settleInvals, h8, List.map_nil, List.filter_nil, List.foldl_nil, this]
  have e12 : s.placeDue = s := by simp only [State.placeDue, h9, List.foldl_nil]
  have e13 : s.startFetches = s := by simp only [State.startFetches, h13, List.foldl_nil]
  have e10 : s.layoutLock = s := by
    simp only [State.layoutLock, State.capturing, h1]
    rw [h7]
    cases s.rings.sqs.isEmpty <;> cases s.rings.cqs.isEmpty <;> cases s.ledger.vaults.isEmpty <;> simp
  unfold State.tidy
  rw [e1, e12, e2, e3, e4, e5, e6, e7, e8, e9, e1, e13, e11, e10]

/-- Where nothing waits, the end of a meaning only lets FAULT# follow its causes. -/
theorem close_of_quiet {s u : State} (h : Quiet u) (hp : u.part = s.part) (hq : u.pending = s.pending) : s.close u = u.settle := by
  have : ({ u with part := s.part, pending := s.pending } : State) = u := by rw [← hp, ← hq]
  rw [State.close, tidy_of_quiet h, this]

@[simp] theorem close_part (s u : State) : (s.close u).part = s.part := by simp only [State.close, State.settle]
@[simp] theorem close_pending (s u : State) : (s.close u).pending = s.pending := by simp only [State.close, State.settle]

/-- FAULT# is no cause of itself. -/
@[simp] theorem faultCause_settle (s : State) : s.settle.faultCause = s.faultCause := by
  simp only [State.settle, State.faultCause, State.reg, State.bit, State.fld]

theorem faultPin_settle (s : State) : FaultPinAgrees s.settle := by
  unfold FaultPinAgrees
  rw [faultCause_settle]
  simp only [State.settle]

/-- After every meaning FAULT# agrees with its causes (R459). -/
theorem close_fault (s u : State) : FaultPinAgrees (s.close u) := by
  unfold FaultPinAgrees State.close
  generalize ({ u.tidy with part := s.part, pending := s.pending } : State) = v
  exact faultPin_settle v

end Sys2Proof
end

