-- ==== Sys2Proof/Laws/Access.lean ====
section
/-!
SUPPORT. Laws of accesses: where an access of software goes through at once it has the register's own effect and no other.
-/

namespace Sys2Proof

open Machine

/-- A demand for a domain that is ON with all it needs changes nothing. -/
theorem wake_of_on {s : State} {d : Nat} (he : s.power.entry = none) (h : ∀ x ∈ domClosure d, s.dom x = 1) : s.wake d = s := by
  have hd : s.demand d = s := by simp [State.demand, he]
  unfold State.wake
  rw [hd]
  generalize domClosure d = l at h
  induction l with
  | nil => rfl
  | cons x l ih =>
    have hx : s.wakeOne x = s := by
      have := h x (List.mem_cons_self)
      simp [State.wakeOne, this]
    rw [List.foldl_cons, hx]
    exact ih (fun y hy => h y (List.mem_cons_of_mem _ hy))

theorem self_mem_domClosure (d : Nat) : d ∈ domClosure d := by
  simp only [domClosure]
  exact List.mem_eraseDups.mpr (by simp)

/-- An access that goes through at once reaches its domain with the state unchanged. -/
theorem reach_of_reaches {s : State} {fn off : Nat} (h : Reaches s fn off) : s.reach (regDom fn off) = (s, true) := by
  have h1 : s.wake domHOST = s := wake_of_on h.entry (fun x hx => h.on x (List.mem_append_left _ hx))
  have h2 : s.wake (regDom fn off) = s := wake_of_on h.entry (fun x hx => h.on x (List.mem_append_right _ hx))
  have h3 : s.isOn domHOST = true := by
    simpa [State.isOn] using h.on _ (List.mem_append_left _ (self_mem_domClosure _))
  have h4 : s.isOn (regDom fn off) = true := by
    simpa [State.isOn] using h.on _ (List.mem_append_right _ (self_mem_domClosure _))
  simp [State.reach, h1, h2, h3, h4]

theorem linkReaches_of_reaches {s : State} {fn off : Nat} (h : Reaches s fn off) : s.linkReaches fn .bar0 = true := by
  have := h.on _ (List.mem_append_left _ (self_mem_domClosure _))
  simp [State.linkReaches, this, h.there]

/-- A write that goes through at once has the register's own effect (R11). -/
theorem access_of_reaches {s : State} {fn off : Nat} (h : Reaches s fn off) (w : Word) (data : Bytes) :
    s.access fn off w data = s.applyWrite fn off w data := by
  simp only [State.access, State.accessAt, linkReaches_of_reaches h, spaceDom, h.whole, reach_of_reaches h, State.applyAt]
  simp

/-- A read that goes through at once has the register's own effect (R379, R383). -/
theorem accessRead_of_reaches {s : State} {fn off : Nat} (h : Reaches s fn off) :
    s.accessRead fn off = s.applyRead fn .bar0 off := by
  simp only [State.accessRead, State.readAt, linkReaches_of_reaches h, spaceDom, h.whole, reach_of_reaches h]
  simp

/-- A write to a register of station n's window goes to the station (Table 3.13). -/
theorem applyWrite_station {s : State} {n off : Nat} (hn : n < 16) (ho : off < 0x10000) {r : RegRow} (hr : stnRow n off = some r) (w : Word)
    (data : Bytes) : s.applyWrite 0 (stnKey n off) w data = (s.stnWrite n off w false).1 := by
  have h1 : (stnKey n off - 0x100000) / 0x10000 = n := by unfold stnKey; omega
  have h2 : stnKey n off % 0x10000 = off := by unfold stnKey; omega
  have h3 : 0x100000 ≤ stnKey n off := by unfold stnKey; omega
  have h4 : stnKey n off < 0x200000 := by unfold stnKey; omega
  generalize stnKey n off = k at *
  have far (c : Nat) (hc : c ≤ 0x100000) : ¬ k < c := by omega
  have other (c : Nat) (hc : c < 0x100000) : ¬ k = c := by omega
  have hp : pfRow k = some r := by
    simp (disch := decide) only [pfRow, far, h1, h2, h4, hr, ↓reduceIte]
  have hq : regRow 0 k = some (r, r.reg ((off - r.lo) / r.stride), (off - r.lo) / r.stride) := by
    unfold regRow
    rw [if_pos rfl, if_neg (by omega), if_neg (by omega), if_pos (by omega), if_pos rfl, hp, h2]
  simp (disch := decide) only [State.applyWrite, hq, far, other, h1, h2, h3, ne_eq, not_true_eq_false, ↓reduceIte]

/-- A software write of fields of a station's register goes to the station with the register's other fields as they stand. -/
theorem writeField_station {s : State} {n off : Nat} (hn : n < 16) (ho : off < 0x10000) {r : Reg} (hk : r.key = stnKey n off) {row : RegRow}
    (hrow : stnRow n off = some row) (h : Reaches s 0 r.key) (fs : List (Fld × Nat)) (data : Bytes) :
    s.writeField r fs data = (s.stnWrite n off (fs.foldl (fun w e => fldSet e.1 w e.2) (s.reg r)) false).1 := by
  have hp : r.place = (0, r.key) := by
    simp only [Reg.place, hk, stnKey, Prod.mk.injEq]; omega
  unfold State.writeField
  rw [hp, access_of_reaches h, hk, applyWrite_station hn ho hrow]

/-- A software write of a whole register of a station goes to the station. -/
theorem writeWord_station {s : State} {n off : Nat} (hn : n < 16) (ho : off < 0x10000) {r : Reg} (hk : r.key = stnKey n off) {row : RegRow}
    (hrow : stnRow n off = some row) (h : Reaches s 0 r.key) (w : Word) : s.writeWord r w = (s.stnWrite n off w false).1 := by
  have hp : r.place = (0, r.key) := by
    simp only [Reg.place, hk, stnKey, Prod.mk.injEq]; omega
  unfold State.writeWord
  rw [hp, access_of_reaches h, hk, applyWrite_station hn ho hrow]

end Sys2Proof
end

