-- ==== Sys2Proof/Laws/Memory.lean ====
section
/-!
SUPPORT. Laws of the buffer memory: a byte read after a write (R383, R392), and the canonical form that every write keeps.
-/

namespace Sys2Proof.Machine

theorem Memory.wf_iff {m : Memory} : Memory.wf m = true ↔ SMap.sorted m = true ∧ ∀ e ∈ m, e.2 ≠ 0#8 := by
  simp [Memory.wf]

/-- A byte write keeps the canonical form. -/
theorem Memory.wf_put {m : Memory} (h : Memory.wf m = true) (a : Nat) (b : Byte) : Memory.wf (m.put a b) = true := by
  obtain ⟨hs, hz⟩ := Memory.wf_iff.mp h
  refine Memory.wf_iff.mpr ⟨SMap.sorted_put hs, ?_⟩
  unfold Memory.put SMap.put
  split
  · exact fun e he => hz e (SMap.del_mem he)
  · rename_i hb
    exact fun e he => (SMap.ins_mem he).elim (fun x => x ▸ hb) (hz e)

/-- A write of any number of bytes keeps the canonical form. -/
theorem Memory.wf_write {m : Memory} (h : Memory.wf m = true) (a : Nat) (bs : Bytes) : Memory.wf (m.write a bs) = true := by
  induction bs generalizing m a with
  | nil => exact h
  | cons b bs ih => exact ih (Memory.wf_put h a b) (a + 1)

/-- The byte just written. -/
theorem Memory.byte_put_same (m : Memory) (a : Nat) (b : Byte) : (m.put a b).byte a = b :=
  SMap.getD_put_same m 0#8 b a

/-- Every other byte. -/
theorem Memory.byte_put_other (m : Memory) {a c : Nat} (b : Byte) (h : a ≠ c) : (m.put a b).byte c = m.byte c :=
  SMap.getD_put_other m 0#8 0#8 b h

/-- A write leaves every byte below and above its range as it was. -/
theorem Memory.byte_write_outside (m : Memory) (a : Nat) (bs : Bytes) {c : Nat} (h : c < a ∨ a + bs.length ≤ c) :
    (m.write a bs).byte c = m.byte c := by
  induction bs generalizing m a with
  | nil => rfl
  | cons b bs ih =>
    simp only [List.length_cons] at h
    rw [Memory.write, ih (m.put a b) (a + 1) (by omega)]
    exact Memory.byte_put_other m b (by omega)

/-- A write puts its bytes where it says. -/
theorem Memory.byte_write_inside (m : Memory) (a : Nat) (bs : Bytes) {i : Nat} (hi : i < bs.length) :
    (m.write a bs).byte (a + i) = bs[i] := by
  induction bs generalizing m a i with
  | nil => simp at hi
  | cons b bs ih =>
    rw [Memory.write]
    cases i with
    | zero =>
      rw [Memory.byte_write_outside _ _ _ (by omega)]
      exact Memory.byte_put_same m a b
    | succ i =>
      have := ih (m.put a b) (a + 1) (i := i) (by simpa using hi)
      rw [show a + (i + 1) = a + 1 + i by omega]
      simpa using this

/-- Check words stand beside the data. -/
@[simp] theorem State.sealLine_data (s : State) (l : Nat) : (s.sealLine l).mem.data = s.mem.data := rfl
@[simp] theorem State.setPoison_data (s : State) (l : Nat) (b : Bool) : (s.setPoison l b).mem.data = s.mem.data := rfl

theorem State.sealLines_data (ls : List Nat) (s : State) : (ls.foldl (fun (s : State) l => s.sealLine l) s).mem.data = s.mem.data := by
  induction ls generalizing s with
  | nil => rfl
  | cons l ls ih => exact (ih (s.sealLine l)).trans (State.sealLine_data s l)

/-- What a write of buffer memory leaves in it (R392). -/
@[simp] theorem State.memWrite_data (s : State) (a : Nat) (bs : Bytes) : (s.memWrite a bs).mem.data = s.mem.data.write a bs :=
  State.sealLines_data _ _

/-- A write of buffer memory keeps the canonical form (R392). -/
theorem State.memWrite_wf {s : State} (h : Memory.wf s.mem.data = true) (a : Nat) (bs : Bytes) :
    Memory.wf (s.memWrite a bs).mem.data = true := by
  rw [State.memWrite_data]
  exact Memory.wf_write h a bs

theorem SMap.sorted_filter {α : Type} {m : SMap α} (h : SMap.sorted m = true) (p : Nat × α → Bool) : SMap.sorted (m.filter p) = true := by
  induction m with
  | nil => rfl
  | cons e m ih =>
    obtain ⟨ha, hs⟩ := SMap.sorted_cons.mp h
    rw [List.filter_cons]
    split
    · exact SMap.sorted_cons.mpr ⟨fun x hx => ha x (List.mem_of_mem_filter hx), ih hs⟩
    · exact ih hs

/-- Wiping keeps the canonical form (R360). -/
theorem State.wipe_wf {s : State} (h : Memory.wf s.mem.data = true) (a n : Nat) : Memory.wf (s.wipe a n).mem.data = true := by
  obtain ⟨hs, hz⟩ := Memory.wf_iff.mp h
  exact Memory.wf_iff.mpr ⟨SMap.sorted_filter hs _, fun e he => hz e (List.mem_of_mem_filter he)⟩

/-- The memory right after reset has the canonical form. -/
theorem State.reset_wf : Memory.wf State.reset.mem.data = true := by rfl

end Sys2Proof.Machine
end

