-- ==== Sys2Proof/Tests/Slice0.lean ====
section
/-!
SUPPORT. Tests: the specification's worked examples and tables as values, single steps on small states, and for each statement
concrete states and operands that meet the hypotheses of each of its clauses.
-/

namespace Sys2Proof.Machine

set_option Elab.async false
set_option linter.unusedVariables false

/-! ## Small states -/

/-- Every domain is ON and microcode bank A is valid, as the start leaves them. -/
def ready : State := { (List.range 27).foldl (fun (s : State) d => s.setDom d 1) State.reset with stores.okA := true }

/-- A task of kind `k` serving `cmds`, in the hand of station `n`'s gaffer. -/
def State.withTask (s : State) (n : Nat) (k : TaskKind) (cmds : List Nat) : State :=
  let t : Task := ⟨7, n, k, cmds, 0, 0, [], false, [], true⟩
  (({ s with work.inHand := SMap.ins n t s.work.inHand } : State).setBit (TASK_STATUS n) TASK_STATUS_BUSY true).setFld (TASK_OP n) TASK_OP_OP
    (taskOp k)

/-- Station `n` is busy with a PARK task. -/
def busy (n : Nat) : State := ready.withTask n .park []

/-- `w` with the odd-parity bits of its groups of `width` bits above its `bits`. -/
def withParity (width bits w : Nat) : Nat :=
  w + ((List.range (bits / width)).map (fun i =>
    if (List.range width).foldl (fun b j => b != w.testBit (width * i + j)) false then 0 else 2 ^ (bits + i))).sum

/-- Station `n` is about to run the microword of class `cls` with immediate `imm` and nanoword `nano`. -/
def microState (n cls imm nano : Nat) : State :=
  ({ busy n with stores.microA := [(0, withParity 8 24 (2 ^ 20 * cls + imm))], stores.nanoA := [(0, withParity 16 128 nano)] } : State).setFld
    (SEQ_STAT n) SEQ_STAT_STATE 1

/-- A nanoword (Table 8.3) of SUBOP, DST, SRCA, SRCB, OFFSET, CONST, MASK, TMO and TARGET. -/
def nanoWord (subop dst a b off const mask tmo target : Nat) : Nat :=
  subop * 2 ^ 120 + dst * 2 ^ 116 + a * 2 ^ 112 + b * 2 ^ 108 + off * 2 ^ 96 + const * 2 ^ 64 + mask * 2 ^ 48 + tmo * 2 ^ 32 + target * 2 ^ 16

/-- A parison of one block, and a band that writes it: not begun (`seq` none) or begun, with `slot` next. -/
def oneParison : Parison := ⟨3, 9, [⟨1, 5, 1, zeros 16, zeros 16, 0, 0, false, (0, 0)⟩], true, some 0, none⟩

def oneBand (seq : Option Nat) (slot : Nat) : BandWrite :=
  { par := oneParison, loc := 2048, disc := 0, seed := zeros 32, discId := 77, seq := seq, n := 1, slot := slot, waitSince := none, hold := none,
    holds := 0, cause1 := [], skipped := [], early := true, spares := [], verified := [], lost := [], awaited := [], wrote := [], sealOk := [],
    rebuilding := [], noParity := [], frozen := none, signed := none, offSum := 0, offCnt := 0, holes := [] }

/-- Station `n` writes that band. -/
def writingState (n : Nat) (seq : Option Nat) (slot : Nat) : State :=
  (ready.withTask n .bandWrite []).setStn (toStn n) (fun t => { t with write := some (oneBand seq slot) })

/-- A hold of a band. -/
def oneHold (cut : Option Nat) : Hold := ⟨[1], 0, cut, false, false, false, 0⟩

/-- A band pass over one frame whose result is still to come, in `phase`. -/
def onePass (phase : Nat) : Pass :=
  ⟨2048, 1, [], [], 4, 9, [0], 0, 0, 2, if phase = 0 then [(0, 0), (0, 1)] else [], phase, [], none, [], 0, false⟩

def readingState (n phase : Nat) : State :=
  (ready.withTask n .bandRead []).setRd n (fun r => { r with pass := some (onePass phase) })

/-- A capture by software in progress. -/
def capturingState (n : Nat) : State :=
  (ready.withTask n .capture []).setRd n (fun r => { r with cap := some ⟨2 ^ 64, 0, 5, false, 2048, none, 0, 0, none⟩ })

/-- An admitted command of operation code `opc` on SQ 1 of function 0. -/
def oneCmd (id opc : Nat) : Cmd := newCmd id 0 1 0 (BitVec.ofNat 512 (opc + 7 * 2 ^ 16)) {}

/-- A disc of vault 77 in station `n`, and the vault, mounted. -/
def oneDisc (n : Nat) : Disc := ⟨0, some n, 5, List.replicate 16 2048, 0, 0, 0, 0, 0, 0, [], 0, false, false, zeros 64, none, [], [], false⟩

def oneVault (n : Nat) : Vault := ⟨77, 0, 4096, 3, zeros 32, zeros 32, zeros 32, 0, [oneDisc n], [], [], 1, [], [], false⟩

/-- Station `n` runs the plan `p` on that disc. -/
def plannedState (n : Nat) (p : List PlanSlot) : State :=
  ({ ready with ledger.vaults := [oneVault n] } : State).setStn (toStn n) (fun t => { t with planned := true, loaded := true, plan := p })

/-- Every write precondition of station `n` holds at layer 0, zone 0. -/
def goodPlace (n : Nat) (s : State) : State :=
  let s := (((s.setBit (MOT_SPST n) MOT_SPST_SPD_VALID true).setBit (LP_STAT n 0) LP_STAT_LOCKED true).setBit (LP_STAT n 1) LP_STAT_LOCKED true).setFld
    (SV_JUMP n) SV_JUMP_CUR 0
  let s := (([0, 1, 2].foldl (fun (s : State) k => s.setLane n k 2) s).setFld (WR_STAB_LO n) WR_STAB_LO_ADDR 24576).setBit (WR_STAB_LO n) WR_STAB_LO_VALID true
  let s := (((s.setBit (STN_STAT n) STN_STAT_UNAVAIL false).setBit (STN_STAT n) STN_STAT_DEGRADED false).setBit (STN_STAT n) STN_STAT_IL false).setBit PM_SUPPLY
    PM_SUPPLY_WARN false
  s.setStn (toStn n) (fun t => { t with setSent := some (0, 0, 0), read := { t.read with wobble := some (2 ^ 27) } })

/-- Submission ring 1 and completion ring 2 of function 0, empty. -/
def oneSq : Sq := ⟨0x200000, 64, 2, 0, false, none, 0, none, false, false, 0, []⟩

def oneCq : Cq := ⟨0x100000, 64, true, 1, 3, 0, none, 0, none, [], 0, false⟩

/-- The IDE stream is enabled under F_IDE, and every key of set 0 is there. -/
def ideState : State :=
  (({ ready with pcie.ideKeys := (List.range 6).map (fun i => (i, zeros 32)) } : State).setReg (FEAT_DRV 0 0) 0x100#32).setFunc 0 (fun g =>
    { g with cfg := [(0x30C, 1#32)] })

/-- Function 0 has completion ring 2 and submission ring 1, of 64 entries, with their doorbell pages and shadows. -/
def ringState : State :=
  let s := ready.setBit ID_DEV ID_DEV_READY true
  let s := (s.putCq 0 2 oneCq).putSq 0 1 oneSq
  let s : State := { s with rings.sqEpoch := SMap.put s.rings.sqEpoch 0 (ringKey 0 1) 1, rings.cqEpoch := SMap.put s.rings.cqEpoch 0 (ringKey 0 2) 1 }
  let s := ((s.setReg (CQ_STAT 0 2) 0x5#32).setReg (SQ_STAT 0 1) 0x1#32).lockFeatures 0
  (s.setBit (QS_DB_LO 0) QS_DB_LO_VALID true).setBit (QS_SH_LO 0) QS_SH_LO_VALID true

/-- The arguments of a create stand in function 0's set-up block. -/
def createState : State :=
  let s := (ringState.setReg (QS_ARG 0 0) 0x300000#32).setReg (QS_ARG 0 2) 128#32
  (s.setReg (QS_ARG 0 3) 3#32).setFld (QS_LIM 0) QS_LIM_CQ_MAX 16

/-- An entry that waits on completion ring 2. -/
def oneEntry : Entry := ⟨9, 0, 1, 7, .ok, 0, 11, 12, 0, 0, none⟩

def postState : State := ringState.putCq 0 2 { oneCq with waiting := [oneEntry] }

/-- A command that waits for one buffer of 256 bytes or more, and the pools it waits on. -/
def waitCmd : Cmd := { newCmd 9 0 1 0 (BitVec.ofNat 512 (0x12 + 7 * 2 ^ 16 + 300 * 2 ^ (8 * 16))) {} with phase := 7 }

def waitState : State := { ringState with mem.layout := [0, 0, 0, 4, 4, 4, 4], work.cmds := [waitCmd] }

/-- A command that reads host memory, with its translation held. -/
def dmaCmd : Cmd := { oneCmd 9 0x12 with phase := 1, segsIn := [(0x5000, 64)] }

def dmaState : State := { ringState with work.cmds := [dmaCmd], pcie.atc := [(0, none, 5)] }

/-- The owner KEK can be installed: the device KEK can be derived, and a request is in progress. -/
def kekState : State :=
  ({ ready with pcie.doe := .busy, pcie.sessions := [(4, 0)], sec.seed := some (zeros 32) } : State).setBit FW_STAT FW_STAT_ROM false

/-- A capsule whose fields (offset, value) are these, with CID 7. -/
def capBytes (l : List (Nat × Nat)) : Capsule := BitVec.ofNat 512 (7 * 2 ^ 16 + (l.map (fun f => f.2 * 2 ^ (8 * f.1))).sum)

/-- An SQ with two capsules to read. -/
def capSq : Sq := ⟨0x200000, 64, 2, 0, false, none, 2, none, false, false, 0, []⟩

/-- SQ 1 of function 0 holds unread capsules, every feature but F_IDE is accepted, and vault 77 is mounted with its disc at station 1. -/
def capState : State :=
  ({ (ringState.putSq 0 1 capSq) with mem.layout := [96, 384, 2048, 4, 4, 4, 70], ledger.vaults := [oneVault 1], sec.dir := [(77, 0)] } : State).setReg (FEAT_DRV 0 0) 0xFF#32

/-- The buffers of the capsule read from it, and the state that holds the command and its buffers. -/
def capTaken (s : State) (q : Sq) (caps : Capsule) (x : CapIn) : Option (List Nat) × State :=
  ((s.takeHead 0 1 q).enrol 0 1 caps x).allocAll (bufNeed caps) (q.cls == 1)

def capBufs (s : State) (q : Sq) (caps : Capsule) (x : CapIn) : List Nat := (capTaken s q caps x).1.getD []

/-- `Passes`, `Admitted` and `Begins`, as tests. -/
def passesB (s : State) (r : CapRow) (fn : Fn) (sq : RingNo) (caps : Capsule) (q : Sq) : Bool :=
  decide (rowOf caps = some r ∧ s.sq? fn.val sq.val = some q ∧ (s.isOn domHOST = true ∧ s.isOn domCORE = true)
    ∧ s.mayFetch fn sq.val q = true ∧ (q.fetch < 2 ∧ (q.fetch = 0 → s.holds fn q.pasid (s.capPage fn sq q) = true))
    ∧ (s.takeHead fn sq q).checks fn sq (q.cls == 1) caps = .ok)

def admittedB (s : State) (r : CapRow) (fn : Fn) (sq : RingNo) (caps : Capsule) (x : CapIn) (q : Sq) (hs : List Nat) (u : State) : Bool :=
  passesB s r fn sq caps q
  && decide ((bufNeed caps = [] ∨ queuesBehind ((s.takeHead fn sq q).enrol fn sq caps x) s.freshId q.cls = false)
    ∧ ((s.takeHead fn sq q).enrol fn sq caps x).allocAll (bufNeed caps) (q.cls == 1) = (some hs, u))

def beginsB (s : State) (r : CapRow) (fn : Fn) (sq : RingNo) (caps : Capsule) (x : CapIn) (q : Sq) (hs : List Nat) (u : State) : Bool :=
  admittedB s r fn sq caps x q hs u
  && decide ((u.benchFails caps || u.benchWaits caps || u.engineGone caps || u.stageShut caps || (u.fatal ctxLEDGER && needsMap caps)) = false
    ∧ ¬ (capOPC caps = 0x11 ∧ cap caps 25 1 ≠ 0 ∧ u.kek.isNone = true) ∧ (cmdDomains caps).all (fun d => u.isOn d) = true)

/-- Function 0 has a second SQ, number 2, with five capsules to read. -/
def twoSqs : State := (capState.putSq 0 2 { capSq with tail := 5 }).setReg (SQ_STAT 0 2) 0x1#32

/-- A control block of payload `x` behind 58 zeros. -/
def controlBlock (x : Nat) : Block66 := ⟨2, 0, BitVec.ofNat 64 (scramble 0 x).1⟩

/-- The HEADER of epoch `e` with its CL errors and status, behind no data blocks. -/
def headerBlock (e clErr status : Nat) : Block66 := controlBlock (clBlock 0xA1 [(e, 16), (clErr, 8), (status, 8), (0xFFFF, 16)])

/-- SERVO_B of instant `j`. -/
def servoHigh (j : Nat) (l : List Nat) : Block66 := controlBlock (clBlock 0xA3 ([(j, 8)] ++ l.map (fun x => (x, 12))))

/-- The characters of an MI frame of these 26 bytes and their CRC-16. -/
def miChars (b : Bytes) : Vector (BitVec 10) 29 :=
  Vector.ofFn (fun i => BitVec.ofNat 10 ((frameChars false (b ++ leBytes 2 (crc16 208 (beNat b) 0xFFFF#16).toNat)).1.getD i.val 0))

/-- Station 1 runs a BAND_TEST_WRITE of a TEST_WRITE step, and every precondition holds on layer 0's calibration positions. -/
def testState : State :=
  (goodPlace 1 (((microState 1 10 5 (nanoWord 3 0 0 0 0 0 0 0 0)).withTask 1 .calStep []).setReg (TASK_ARG 1 0) 0x14#32)).setRd 1 (fun r => { r with
    wobble := some (63 * 2 ^ 38) })

/-- Station 1's task of kind `k` has had the reply `st` of the loader to its step `c`. -/
def loaderState (k : TaskKind) (c st : Nat) : State :=
  ((ready.withTask 1 k []).setFld (STN_AXSTAT 1) STN_AXSTAT_STATUS st).setStn 1 (fun t => { t with loader := some (c, 0), port.axNew := true })

/-- Both sample lanes of station 1 are up, and epoch 7 of its lead row has been received. -/
def State.withEpoch (s : State) : State :=
  (s.setReg (STN_STAT 1) 0xA00#32).setRd 1 (fun r => { r with past := [⟨0, 7, false, []⟩] })

/-- A capture by software in progress, with an epoch to capture. -/
def softCapture : State := State.withEpoch { capturingState 1 with mem.layout := [96, 384, 2048, 4, 4, 4, 70] }

/-- Station 1 captures for command 9, with an epoch to capture. -/
def epochState : State :=
  let s := (ready.withTask 1 .capture [9]).setRd 1 (fun r => { r with cap := some ⟨9, 0, 5, false, 2048, none, 0, 0, none⟩ })
  State.withEpoch { s with work.cmds := [oneCmd 9 0x18], mem.layout := [96, 384, 2048, 4, 4, 4, 70] }

/-- Station 1 has taken up the slot `p` for a task of kind `k`, and its head is at the place. -/
def takenSlot (k : TaskKind) (p : PlanSlot) : State :=
  ({ ready with ledger.vaults := [oneVault 1] } : State).withTask 1 k [] |>.setStn 1 (fun t => { t with
    planned := true, loaded := true, slotRun := some p, way := some ⟨0, false, .there, 0, 0, false, 0⟩ })

/-- Station 1 has taken up the slot `p`, whose place has come by under its head. -/
def startSlot (p : PlanSlot) : State := (takenSlot .bandRead p).setRd 1 (fun r => { r with wobble := some (2 ^ 27) })

/-- A slot taken up whose way is lost. -/
def lostSlot : State :=
  (takenSlot .bandRead ⟨true, 24000, 2048, 77, 0, 0, 50, 0⟩).setStn 1 (fun t => { t with way := some ⟨0, false, .lost, 0, 0, false, 0⟩ })

/-- A write slot taken up, and every precondition met at its place. -/
def writeSlotState : State :=
  { goodPlace 1 (takenSlot .bandWrite ⟨false, 24000, 2048, 77, 0, 0, 50, 0⟩) with ledger.parisons := [{ oneParison with id := 0 }] }

def writeTask : Task := ⟨7, 1, .bandWrite, [], 0, 0, [], false, [], true⟩

/-- The arguments of a CREATE_SQ that posts to ring 2 stand in function 0's set-up block. -/
def createSqState : State := ((createState.setReg (QS_ARG 0 3) 2#32).setReg (QS_ARG 0 4) 0#32).setFld (QS_LIM 0) QS_LIM_SQ_MAX 16

/-! ## Values from the specification's worked examples and tables -/

/-- R54, the worked example of ch. 2: data index 300 lies in slot 37 of spiral 3, and back. -/
theorem test_homeSlot : homeSlot 300 = (37, 3) ∧ homeIndex 37 3 = 300 := by decide +kernel

/-- R42, R43, the same example: zone 30 begins at octo-turn 16,606 (16,906 from the start of the lead-in) and has 5,157,094 channel bits a revolution. -/
theorem test_zone30 : zoneS 30 = 300 + 16606 ∧ zoneC 30 = 5157094 := by decide +kernel

/-- R129: points 11, 12 and 29 of the reset curve. -/
theorem test_motCurve : (MOT_CURVE 0 11).rst = 17825#32 ∧ (MOT_CURVE 0 12).rst = 17408#32 ∧ (MOT_CURVE 0 29).rst = 7376#32 := by decide +kernel

/-- Ch. 8, waiting for lock: the microword 0x72_A500 with all three parity bits 1 and the nanoword with parity byte 0xFD. -/
theorem test_waitWords : readMicro 0x72A500 = ⟨7, 0x2A5, 0⟩ ∧ oddParity 8 24 (0x72A500 + 7 * 2 ^ 24) = true
    ∧ readNano 0x00000000000000600060001440000000 = ⟨0, 0, 0, 0, 0, 0x60, 0x60, 20, 1, 0⟩
    ∧ oddParity 16 128 (0x00000000000000600060001440000000 + 0xFD * 2 ^ 128) = true := by decide +kernel

/-- Ch. 14, where one line lives: channel 0, bank group 2, bank 2, and the place of its check word. -/
theorem test_linePlace : memPlace ((List.range 6).map (fun k => (MEM_XOR_LO k).rst.toNat + 2 ^ 32 * (MEM_XOR_HI k).rst.toNat)) 0x123456780 = (0, 2, 2)
    ∧ checkPlace 0x123456780 = (125210, 5, 6) := by decide +kernel

/-- Ch. 15, stations 12 to 15 to rest: the target 0x003F_C000_0030_0000 names CC3 and STN12 to STN15 with 3, and nothing else. -/
theorem test_targets : domains.map (targetOf 0x003FC00000300000)
    = [0, 0, 0, 0, 0, 0, 0, 0, 0, 0, 3, 0, 0, 0, 0, 0, 0, 0, 0, 0, 0, 0, 0, 3, 3, 3, 3] := by decide +kernel

/-- Ch. 4, tuning FOC of station 5: H = 2,048, T_u = 20 samples and a = 0.25 give SV_TUNE_TU 320, A 0x0020_0000 and KU 0x0000_517D. -/
def tunedState : State := (ready.setFld (SV_TUNE 5) SV_TUNE_H 2048).setServo 5 (fun v => { v with
    tune := some ⟨0, 2, 0, false, true, 11, 200, 160, 0, 0, 16 * 0x200000⟩ })

theorem test_tuneDone : (tunedState.tuneDone 5).reg (SV_TUNE_TU 5) = 320#32 ∧ (tunedState.tuneDone 5).fld (SV_TUNE_A 5) SV_TUNE_A_A = 0x200000
    ∧ (tunedState.tuneDone 5).reg (SV_TUNE_KU 5) = 0x517D#32 ∧ (tunedState.tuneDone 5).fld (SV_TUNE_CTL 5) SV_TUNE_CTL_STATUS = 2 := by decide +kernel

/-- Ch. 17, station 11's spindle is lost: bit 14 of EVT_PEND(12). -/
theorem test_stationEvent : (ready.raiseStn 11 6 []).reg (EVT_PEND 12) = 0x4000#32 := by decide +kernel

/-- Ch. 9, sixty-four vectors: from the reset counts COUNT = 64 of VF 1 would make the sum 1,800, so it is refused; 1,764 is the sum. -/
theorem test_vfVec : ((ready.writeVfVec 1 64#32).bit VFV_STAT VFV_STAT_REFUSED, (ready.writeVfVec 1 64#32).fld (VF_VEC 1) VF_VEC_COUNT,
    ready.fld VFV_STAT VFV_STAT_SUM, (ready.writeVfVec 1 1#32).fld (VF_VEC 8) VF_VEC_BASE) = (true, 28, 1764, 256 + 1 + 6 * 28) := by decide +kernel

/-- R273: an epoch passes from 0xFFFF to 0x0001. -/
theorem test_nextEpoch : nextEpoch 0xFFFF = 1 ∧ nextEpoch 0 = 1 := by decide +kernel

/-- R226, Table 8.4: ADD of 0xFFFF_FFFF and 1 in the microword's registers: Z and C, not N and V. -/
def addState : State := (((microState 1 0 0 (nanoWord 1 2 0 1 0 0 0 0 0)).setMreg 1 0 0xFFFFFFFF#32).setMreg 1 1 1#32)

theorem test_aluAdd : (addState.alu 1).mreg 1 2 = some 0#32 ∧ ((addState.alu 1).flag 1 0, (addState.alu 1).flag 1 1, (addState.alu 1).flag 1 2,
    (addState.alu 1).flag 1 3) = (true, false, true, false) := by decide +kernel

/-- R81: IL high for 50 ns sets STN_STAT.IL; for 10 ns it does nothing. -/
theorem test_interlock : (((ready.interlockRelease 3).interlock 3 50).bit (STN_STAT 3) STN_STAT_IL, ((ready.interlockRelease 3).interlock 3 10).bit (STN_STAT 3) STN_STAT_IL) = (true, false) := by
  decide +kernel

/-- R104, R106: MANUAL is stored at once and in force only from the loop's next sample. -/
def manualState : State := ready.writeField (LP_CTL 2 0) [(LP_CTL_MODE, 1)] []

theorem test_loopMode : manualState.fld (LP_CTL 2 0) LP_CTL_MODE = 1 ∧ manualState.mode 2 0 = 0 := by decide +kernel

/-- R2: a VK1608 has no window of station 8; the write is discarded and no domain is woken. -/
theorem test_fusedWrite : ({ ready with part := .vk1608 } : State).busWrite 0 .bar0 0x180040 4 5 [] = { ready with part := .vk1608 } := by decide +kernel

/-- SHA-512 of nothing begins 0xCF83_E135 (FIPS 180-4's own test value). -/
theorem test_sha512 : (sha512 []).take 4 = [0xCF#8, 0x83#8, 0xE1#8, 0x35#8] := by decide +kernel

/-! ## One step -/

/-- The command in front runs, and the queue keeps its rest. -/
theorem test_step : (match Machine.step { State.reset with pending := [.clockSet 5#32, .nudge 1] } with
    | .next t => decide (t.pending = [.nudge 1]) | _ => false) = true := by decide +kernel

def nopCap : Capsule := capBytes [(0, 0x3F)]
def readCap : Capsule := capBytes [(0, 1)]

/-- NOP ends with OK (R303): its one entry, of KIND 0 with the capsule's CID, waits to be written to the CQ of its SQ. -/
theorem test_nop : (capState.readCapsule 0 1 nopCap {}).cq? 0 2 = some ⟨0x100000, 64, true, 1, 3, 0, none, 0, none, [⟨0, 0, 1, 7, .ok, 0, 0, 0, 0, 0, none⟩], 0, false⟩ := by
  decide +kernel

/-- Every capsule command refuses bytes that spell another command of the table. -/
theorem test_illFormed : (
    ([.read 0 1 nopCap, .write 0 1 nopCap, .readVersion 0 1 nopCap, .flush 0 1 nopCap, .fence 0 1 nopCap, .vaultCreate 0 1 nopCap,
    .vaultCreateRebind 0 1 nopCap, .vaultMount 0 1 nopCap [], .vaultUnmount 0 1 nopCap, .vaultQuerySummary 0 1 nopCap,
    .vaultQuerySealedSince 0 1 nopCap, .vaultQueryVersions 0 1 nopCap, .vaultQueryDiscs 0 1 nopCap, .sealExport 0 1 nopCap,
    .cryptGcmEncrypt 0 1 nopCap, .cryptGcmDecrypt 0 1 nopCap, .cryptCtr 0 1 nopCap, .cryptKeyWrap 0 1 nopCap,
    .cryptKeyUnwrap 0 1 nopCap, .hash 0 1 nopCap, .forensicCapture 0 1 nopCap, .forensicCaptureStop 0 1 nopCap,
    .planLoadReplace 0 1 nopCap, .planLoadAppend 0 1 nopCap, .stationCtlLoad 0 1 nopCap, .stationCtlSpin 0 1 nopCap,
    .stationCtlPark 0 1 nopCap, .stationCtlStow 0 1 nopCap, .stationCtlRetire 0 1 nopCap, .stationCtlAdaptive 0 1 nopCap,
    .stationCtlPlanned 0 1 nopCap, .stationCtlForce 0 1 nopCap, .refin 0 1 nopCap none, .temp 0 1 nopCap none,
    .vin 0 1 nopCap none, .pdSense 0 1 nopCap, .hfOffset 0 1 nopCap, .hfGain 0 1 nopCap, .zoneLearn 0 1 nopCap,
    .testWrite 0 1 nopCap, .liveOn 0 1 nopCap, .liveOff 0 1 nopCap, .bistClear 0 1 nopCap, .shutdown 0 1 nopCap [],
    .bistReport 0 1 nopCap, .domainSet 0 1 nopCap, .queueResetResumeAfter 0 1 nopCap, .queueResetDiscard 0 1 nopCap,
    .logRead 0 1 nopCap, .eventLogRead 0 1 nopCap, .fwStageFirmware 0 1 nopCap, .fwStageMicrocode 0 1 nopCap,
    .fwActivateFirmware 0 1 nopCap, .fwActivateMicrocode 0 1 nopCap, .nop 0 1 readCap] : List Instr).all (fun i => !i.wf)) = true := by decide +kernel

/-! ## Hypotheses as tests -/

def reachesB (s : State) (fn off : Nat) : Bool :=
  s.fnExists fn && !fusedDom s.part (regDom fn off) && s.power.entry.isNone
  && (domClosure domHOST ++ domClosure (regDom fn off)).all (fun d => s.dom d == 1)

theorem reaches_of {s : State} {fn off : Nat} (h : reachesB s fn off = true) : Reaches s fn off := by
  simp only [reachesB, Bool.and_eq_true, Bool.not_eq_true', List.all_eq_true, beq_iff_eq, Option.isNone_iff_eq_none] at h
  exact ⟨h.1.1.1, h.1.1.2, h.1.2, h.2⟩

theorem fetches_of {s : State} {n : Nat} {m : Micro} {o : Nano} (h : s.canRun n = true ∧ s.fetch n = .word m o) : Fetches s n m o := ⟨h.1, h.2⟩

theorem quiet_of {s : State} (h : s.work.cmds = [] ∧ s.work.toFree = [] ∧ s.power.entry = none ∧ s.power.queue = [] ∧ s.ledger.mounting = []
    ∧ s.ledger.released = [] ∧ s.bit MEM_CTL MEM_CTL_LOCK = (!s.rings.sqs.isEmpty || !s.rings.cqs.isEmpty || !s.ledger.vaults.isEmpty)
    ∧ s.pcie.invals = [] ∧ s.ledger.parisons.filter (fun p => p.due && p.disc.isNone && p.ckpt.isNone) = []
    ∧ s.rings.sqs.filter (fun e => e.2.fetch == 0 && e.2.tail != s.fld (SQ_STAT (e.1 / 256) (e.1 % 256)) SQ_STAT_HEAD) = []) : Quiet s :=
  ⟨h.1, h.2.1, h.2.2.1, h.2.2.2.1, h.2.2.2.2.1, h.2.2.2.2.2.1, h.2.2.2.2.2.2.1, h.2.2.2.2.2.2.2.1, h.2.2.2.2.2.2.2.2.1, h.2.2.2.2.2.2.2.2.2⟩

theorem passes_of {s : State} {r : CapRow} {fn : Fn} {sq : RingNo} {caps : Capsule} {q : Sq} (h : passesB s r fn sq caps q = true) :
    Passes s r fn sq caps q := by
  have h := of_decide_eq_true h
  exact ⟨h.1, h.2.1, h.2.2.1, h.2.2.2.1, h.2.2.2.2.1, h.2.2.2.2.2⟩

theorem admitted_of {s : State} {r : CapRow} {fn : Fn} {sq : RingNo} {caps : Capsule} {x : CapIn} {q : Sq} {hs : List Nat} {u : State}
    (h : admittedB s r fn sq caps x q hs u = true) : Admitted s r fn sq caps x q hs u := by
  have h := Bool.and_eq_true_iff.mp h
  have g := of_decide_eq_true h.2
  exact ⟨passes_of h.1, g.1, g.2⟩

theorem begins_of {s : State} {r : CapRow} {fn : Fn} {sq : RingNo} {caps : Capsule} {x : CapIn} {q : Sq} {hs : List Nat} {u : State}
    (h : beginsB s r fn sq caps x q hs u = true) : Begins s r fn sq caps x q hs u := by
  have h := Bool.and_eq_true_iff.mp h
  have g := of_decide_eq_true h.2
  exact ⟨admitted_of h.1, g.1, g.2.1, g.2.2⟩

/-- A lead-in frame passes its own check (R178). -/
theorem test_leadOk : leadOk 0 (leadFrame 2 0 [0x42#8]) = true := by decide +kernel

theorem leadRecord_of {f : Bytes} (h : leadOk 0 f = true) : leadRecord [f] = some (f.take 4096) := by
  simp [leadRecord, List.range, List.range.loop, h]
/-! ## The hypotheses of each statement can be met -/

/-- States and operands that meet the hypotheses of each clause of AStepRunsTheCommandInFront. -/
theorem test_aStepRunsTheCommandInFront :
    (∃ (s : State),
    s.pending = []) :=
  ⟨ready, by decide +kernel⟩

/-- States and operands that meet the hypotheses of each clause of EveryCommandEndsInItsClose. -/
theorem test_everyCommandEndsInItsClose :
    (∃ (c : Instr) (s : State),
    c.wf = true) ∧
    (∃ (c : Instr) (s : State),
    c.wf = false) ∧
    (∃ (s u : State),
    Quiet u ∧
    (u.part = s.part ∧ u.pending = s.pending)) :=
  ⟨⟨.nop 0 1 (capBytes [(0, 0x3F)]), capState, by decide +kernel⟩,
  ⟨.nop 0 1 (capBytes [(0, 1)]), capState, by decide +kernel⟩,
  ⟨ready, ready, quiet_of (by decide +kernel), by decide +kernel⟩⟩

/-- States and operands that meet the hypotheses of each clause of AnUnoccupiedOffsetReadsZero. -/
theorem test_anUnoccupiedOffsetReadsZero :
    (∃ (f : Fn) (off v : Nat) (data : Bytes) (s : State),
    Reaches s f off ∧
    (regRow f off = none ∧ nudgePage .bar0 f off = false ∧ off % 4 = 0)) ∧
    (∃ (f : Fn) (off : Nat) (w : Word) (data : Bytes) (s : State),
    regRow f off = none) ∧
    (∃ (f : Fn) (off : Nat) (w : Word) (data : Bytes) (s : State),
    16 * s.vecCount f ≤ off ∧
    (¬ ((if f.val = 0 then 0x8000 else 0x2000) ≤ off ∧ off < (if f.val = 0 then 0x8000 else 0x2000) + (if f.val = 0 then 32 else 8)))) :=
  ⟨⟨0, 0x90000, 7, [], ready, reaches_of (by decide +kernel), by decide +kernel⟩,
  ⟨0, 0x90000, 7#32, [], ready, by decide +kernel⟩,
  ⟨0, 0x9000, 7#32, [], ready, by decide +kernel, by decide +kernel⟩⟩

/-- States and operands that meet the hypotheses of each clause of StationsThatAVk1608DoesNotHave. -/
theorem test_stationsThatAVk1608DoesNotHave :
    (∃ (n : Stn) (off size v : Nat) (data : Bytes) (s : State),
    (s.part = .vk1608 ∧ 8 ≤ n.val ∧ off < 0x10000 ∧ (size = 4 ∧ off % 4 = 0 ∨ size = 8 ∧ off % 8 = 0))) ∧
    (∃ (n : Stn) (off : Nat) (s : State),
    (s.part = .vk1608 ∧ 8 ≤ n.val ∧ off < 0x10000 ∧ off % 4 = 0) ∧
    s.linkReaches 0 .bar0 = true) ∧
    (∃ (n : Stn) (off : Nat) (s : State),
    (s.part = .vk1608 ∧ 8 ≤ n.val ∧ off < 0x10000 ∧ off % 8 = 0) ∧
    s.linkReaches 0 .bar0 = true) ∧
    (∃ (n : Stn) (s : State),
    (s.part = .vk1608 ∧ 8 ≤ n.val)) :=
  ⟨⟨8, 0x40, 4, 5, [], { ready with part := .vk1608 }, by decide +kernel⟩,
  ⟨15, 0x40, { ready with part := .vk1608 }, by decide +kernel, by decide +kernel⟩,
  ⟨8, 0xFFF8, { ready with part := .vk1608 }, by decide +kernel, by decide +kernel⟩,
  ⟨8, { ready with part := .vk1608 }, by decide +kernel⟩⟩

/-- States and operands that meet the hypotheses of each clause of LoopControlWrites. -/
theorem test_loopControlWrites :
    (∃ (n : Stn) (L : Fin 8) (s : State) (c : Instr) (k : Nat),
    (c, k) ∈ [(Instr.lpModeOff n L, 0), (.lpModeManual n L, 1), (.lpModeAuto n L, 2), (.lpModeHold n L, 4)] ∧
    Reaches s 0 (LP_CTL n L).key ∧
    s.holdsTask n = false ∧
    (4 ≤ L.val ∧ L.val ≤ 6 → s.spinState n = 0)) ∧
    (∃ (n : Stn) (L : Fin 8) (s : State) (c : Instr) (k : Nat),
    (c, k) ∈ [(Instr.lpModeOff n L, 0), (.lpModeManual n L, 1), (.lpModeAuto n L, 2), (.lpModeHold n L, 4)] ∧
    Reaches s 0 (LP_CTL n L).key ∧
    (s.holdsTask n = true ∨ (4 ≤ L.val ∧ L.val ≤ 6 ∧ s.spinState n ≠ 0))) ∧
    (∃ (n : Stn) (L : Fin 8) (bank : Fin 2) (s : State),
    Reaches s 0 (LP_CTL n L).key) ∧
    (∃ (n : Stn) (L : Fin 8) (order : Fin 2) (s : State),
    Reaches s 0 (LP_CTL n L).key ∧
    (s.mode n L ≤ 1 ∨ s.fld (LP_CTL n L) LP_CTL_ORDER = order)) ∧
    (∃ (n : Stn) (L : Fin 8) (order : Fin 2) (s : State),
    Reaches s 0 (LP_CTL n L).key ∧
    2 ≤ s.mode n L ∧
    s.fld (LP_CTL n L) LP_CTL_ORDER ≠ order) :=
  ⟨⟨3, 4, ready, .lpModeAuto 3 4, 2, by decide +kernel, reaches_of (by decide +kernel), by decide +kernel, by decide +kernel⟩,
  ⟨3, 6, ready.setFld (MOT_SPST 3) MOT_SPST_STATE 4, .lpModeManual 3 6, 1, by decide +kernel, reaches_of (by decide +kernel), by decide +kernel⟩,
  ⟨15, 7, 1, ready, reaches_of (by decide +kernel)⟩,
  ⟨0, 3, 1, ready, reaches_of (by decide +kernel), by decide +kernel⟩,
  ⟨0, 3, 1, ready.setFld (LP_STAT 0 3) LP_STAT_MODE_NOW 2, reaches_of (by decide +kernel), by decide +kernel, by decide +kernel⟩⟩

/-- States and operands that meet the hypotheses of each clause of MeasurementStarts. -/
theorem test_measurementStarts :
    (∃ (n : Stn) (L : Fin 8) (s : State),
    Reaches s 0 (SV_TUNE_CTL n).key ∧
    (s.mode n L = 1 ∨ s.mode n L = 2) ∧
    (s.servo n).tune = none ∧
    (s.servo n).inj = none) ∧
    (∃ (n : Stn) (L : Fin 8) (s : State),
    Reaches s 0 (SV_TUNE_CTL n).key ∧
    ((s.mode n L ≠ 1 ∧ s.mode n L ≠ 2) ∨ (s.servo n).tune.isSome ∨ (s.servo n).inj.isSome)) ∧
    (∃ (n : Stn) (L : Fin 8) (s : State),
    Reaches s 0 (SV_INJ_CTL n).key ∧
    s.mode n L = 2 ∧
    (s.servo n).tune = none ∧
    (s.servo n).inj = none) ∧
    (∃ (n : Stn) (L : Fin 8) (s : State),
    Reaches s 0 (SV_INJ_CTL n).key ∧
    (s.mode n L ≠ 2 ∨ (s.servo n).tune.isSome ∨ (s.servo n).inj.isSome)) :=
  ⟨⟨2, 5, ready.setFld (LP_STAT 2 5) LP_STAT_MODE_NOW 2, reaches_of (by decide +kernel), by decide +kernel, by decide +kernel, by decide +kernel⟩,
  ⟨2, 5, ready, reaches_of (by decide +kernel), by decide +kernel⟩,
  ⟨2, 0, ready.setFld (LP_STAT 2 0) LP_STAT_MODE_NOW 2, reaches_of (by decide +kernel), by decide +kernel, by decide +kernel, by decide +kernel⟩,
  ⟨2, 0, ready, reaches_of (by decide +kernel), by decide +kernel⟩⟩

/-- States and operands that meet the hypotheses of each clause of MotionAndSledWrites. -/
theorem test_motionAndSledWrites :
    (∃ (n : Stn) (d : BitVec 16) (s : State),
    Reaches s 0 (MOT_DEMAND n).key ∧
    s.holdsTask n = false) ∧
    (∃ (n : Stn) (d : BitVec 16) (s : State),
    Reaches s 0 (MOT_DEMAND n).key ∧
    s.holdsTask n = true) ∧
    (∃ (n : Stn) (src : Fin 2) (s : State),
    Reaches s 0 (MOT_CTL n).key ∧
    s.holdsTask n = false) ∧
    (∃ (n : Stn) (src : Fin 2) (s : State),
    Reaches s 0 (MOT_CTL n).key ∧
    s.holdsTask n = true) ∧
    (∃ (n : Stn) (x : BitVec 16) (s : State),
    Reaches s 0 (WR_CTL n).key) ∧
    (∃ (n : Stn) (s : State),
    Reaches s 0 (SLD_CTL n).key ∧
    (s.sled n).target = none ∧
    s.fldInt (SLD_PMIN n) SLD_PMIN_PMIN ≤ s.fldInt (SLD_TARGET n) SLD_TARGET_TARGET ∧
    s.fldInt (SLD_TARGET n) SLD_TARGET_TARGET ≤ s.fldInt (SLD_PMAX n) SLD_PMAX_PMAX) ∧
    (∃ (n : Stn) (s : State),
    Reaches s 0 (SLD_CTL n).key ∧
    ((s.sled n).target.isSome ∨ s.fldInt (SLD_TARGET n) SLD_TARGET_TARGET < s.fldInt (SLD_PMIN n) SLD_PMIN_PMIN ∨ s.fldInt (SLD_PMAX n) SLD_PMAX_PMAX < s.fldInt (SLD_TARGET n) SLD_TARGET_TARGET)) ∧
    (∃ (n : Stn) (s : State),
    Reaches s 0 (SLD_CTL n).key ∧
    s.fld (SLD_CTL n) SLD_CTL_MODE = 1) ∧
    (∃ (n : Stn) (s : State),
    Reaches s 0 (SLD_CTL n).key ∧
    s.fld (SLD_CTL n) SLD_CTL_MODE ≠ 1) ∧
    (∃ (n : Stn) (s : State),
    Reaches s 0 (SLD_CTL n).key) ∧
    (∃ (n : Stn) (s : State),
    Reaches s 0 (SLD_CTL n).key) ∧
    (∃ (n : Stn) (s : State),
    Reaches s 0 (SLD_CTL n).key) ∧
    (∃ (n : Stn) (w : Word) (s : State),
    Reaches s 0 (SLD_TARGET n).key) ∧
    (∃ (n : Stn) (w : Word) (s : State),
    Reaches s 0 (SLD_POS n).key) :=
  ⟨⟨1, 0xFFFF#16, ready, reaches_of (by decide +kernel), by decide +kernel⟩,
  ⟨1, 7#16, busy 1, reaches_of (by decide +kernel), by decide +kernel⟩,
  ⟨1, 1, ready, reaches_of (by decide +kernel), by decide +kernel⟩,
  ⟨1, 1, busy 1, reaches_of (by decide +kernel), by decide +kernel⟩,
  ⟨1, 0#16, ready, reaches_of (by decide +kernel)⟩,
  ⟨4, ready.setFld (SLD_TARGET 4) SLD_TARGET_TARGET 300000, reaches_of (by decide +kernel), by decide +kernel, by decide +kernel, by decide +kernel⟩,
  ⟨4, (ready.setFld (SLD_TARGET 4) SLD_TARGET_TARGET 0x7FFFFFFF).setFld (SLD_PMAX 4) SLD_PMAX_PMAX 1000, reaches_of (by decide +kernel), by decide +kernel⟩,
  ⟨4, ready.setFld (SLD_CTL 4) SLD_CTL_MODE 1, reaches_of (by decide +kernel), by decide +kernel⟩,
  ⟨4, ready, reaches_of (by decide +kernel), by decide +kernel⟩,
  ⟨4, ready.setBit (SLD_STAT 4) SLD_STAT_MOVING true, reaches_of (by decide +kernel)⟩,
  ⟨4, ready, reaches_of (by decide +kernel)⟩,
  ⟨4, ready, reaches_of (by decide +kernel)⟩,
  ⟨4, 5#32, ready, reaches_of (by decide +kernel)⟩,
  ⟨4, 5#32, ready, reaches_of (by decide +kernel)⟩⟩

/-- States and operands that meet the hypotheses of each clause of StationControlWrites. -/
theorem test_stationControlWrites :
    (∃ (n : Stn) (s : State),
    Reaches s 0 (STN_CTL n).key ∧
    s.bit (STN_CTL n) STN_CTL_ENABLE = false) ∧
    (∃ (n : Stn) (s : State),
    Reaches s 0 (STN_CTL n).key ∧
    s.bit (STN_CTL n) STN_CTL_ENABLE = true) ∧
    (∃ (n : Stn) (s : State),
    Reaches s 0 (STN_CTL n).key ∧
    s.bit (STN_CTL n) STN_CTL_ENABLE = true ∧
    s.parked n = true) ∧
    (∃ (n : Stn) (s : State),
    Reaches s 0 (STN_CTL n).key ∧
    s.bit (STN_CTL n) STN_CTL_ENABLE = true ∧
    s.parked n = false) ∧
    (∃ (n : Stn) (s : State),
    Reaches s 0 (STN_CTL n).key ∧
    s.bit (STN_CTL n) STN_CTL_ENABLE = false) ∧
    (∃ (n : Stn) (s : State),
    Reaches s 0 (STN_CTL n).key) ∧
    (∃ (n : Stn) (s : State),
    Reaches s 0 (STN_CTL n).key) :=
  ⟨⟨7, ready, reaches_of (by decide +kernel), by decide +kernel⟩,
  ⟨7, ready.setBit (STN_CTL 7) STN_CTL_ENABLE true, reaches_of (by decide +kernel), by decide +kernel⟩,
  ⟨7, ready.setBit (STN_CTL 7) STN_CTL_ENABLE true, reaches_of (by decide +kernel), by decide +kernel, by decide +kernel⟩,
  ⟨7, (ready.setBit (STN_CTL 7) STN_CTL_ENABLE true).setFld (MOT_SPST 7) MOT_SPST_STATE 4, reaches_of (by decide +kernel), by decide +kernel, by decide +kernel⟩,
  ⟨7, ready, reaches_of (by decide +kernel), by decide +kernel⟩,
  ⟨7, ready, reaches_of (by decide +kernel)⟩,
  ⟨7, ready.setBit (STN_CTL 7) STN_CTL_ENABLE true, reaches_of (by decide +kernel)⟩⟩

/-- States and operands that meet the hypotheses of each clause of LoopSampleInEachMode. -/
theorem test_loopSampleInEachMode :
    (∃ (n : Stn) (L : Fin 8) (half : Bool) (s : State),
    (L = 2 ∨ L = 5 ∨ L = 6) ∧
    s.mode n L = 1 ∧
    ((s.servo n).taking = false ∧ (s.loop n L).newMode = none ∧ (s.loop n L).sel = s.fld (LP_CTL n L) LP_CTL_CSEL)) ∧
    (∃ (n : Stn) (L : Fin 8) (half : Bool) (s : State),
    (L = 2 ∨ L = 5 ∨ L = 6) ∧
    (s.mode n L = 0 ∨ s.mode n L = 4) ∧
    ((s.servo n).taking = false ∧ (s.loop n L).newMode = none ∧ (s.loop n L).sel = s.fld (LP_CTL n L) LP_CTL_CSEL)) ∧
    (∃ (n : Stn) (L : Fin 8) (half : Bool) (s : State),
    (L = 2 ∨ L = 5 ∨ L = 6) ∧
    s.mode n L = 2 ∧
    ((s.servo n).taking = false ∧ (s.loop n L).newMode = none ∧ (s.loop n L).sel = s.fld (LP_CTL n L) LP_CTL_CSEL)) ∧
    (∃ (n : Stn) (L : Fin 8) (half : Bool) (k : Nat) (s : State),
    (L = 2 ∨ L = 5 ∨ L = 6) ∧
    ((s.servo n).taking = false ∧ (s.loop n L).newMode = some k ∧ (s.loop n L).sel = s.fld (LP_CTL n L) LP_CTL_CSEL) ∧
    (s.servo n).tune = none ∧
    (s.servo n).inj = none) ∧
    (∃ (n : Stn) (L : Fin 8) (half : Bool) (s : State),
    (2 ≤ L.val ∧ (L.val = 4 → (s.station n).spin.newSrc = none)) ∧
    ((s.servo n).taking = false ∧ (s.loop n L).newMode = none ∧ (s.loop n L).sel = s.fld (LP_CTL n L) LP_CTL_CSEL)) ∧
    (∃ (n : Stn) (half : Bool) (sm : Int) (s : State),
    ((s.servo n).taking = false ∧ (s.loop n 0).newMode = none ∧ (s.loop n 0).sel = s.fld (LP_CTL n 0) LP_CTL_CSEL) ∧
    ((s.servo n).defect = false ∧ (s.servo n).jump = none ∧ (s.servo n).seek = none ∧ (s.loop n 0).held = false) ∧
    (sm = sumS (sumChannels (((s.station n).port.instants.drop (if half then 8 else 0)).take 8))) ∧
    (s.fld (SV_SENSE n) SV_SENSE_DEF_FRAC : Int) * (s.servo n).sAvg ≤ sm * 2 ^ 37) ∧
    (∃ (n : Stn) (half : Bool) (s : State),
    ((s.servo n).taking = false ∧ (s.loop n 1).newMode = none ∧ (s.loop n 1).sel = s.fld (LP_CTL n 1) LP_CTL_CSEL) ∧
    ((s.servo n).defect = false ∧ (s.servo n).jump = none ∧ (s.servo n).seek = none ∧ (s.loop n 1).held = false)) :=
  ⟨⟨0, 5, false, ready.setFld (LP_STAT 0 5) LP_STAT_MODE_NOW 1, by decide +kernel, by decide +kernel, by decide +kernel⟩,
  ⟨0, 5, false, ready, by decide +kernel, by decide +kernel, by decide +kernel⟩,
  ⟨0, 6, false, ready.setFld (LP_STAT 0 6) LP_STAT_MODE_NOW 2, by decide +kernel, by decide +kernel, by decide +kernel⟩,
  ⟨0, 6, false, 2, ready.setLoop 0 6 (fun l => { l with newMode := some 2 }), by decide +kernel, by decide +kernel, by decide +kernel, by decide +kernel⟩,
  ⟨0, 4, false, ready.setFld (LP_STAT 0 4) LP_STAT_MODE_NOW 2, by decide +kernel, by decide +kernel⟩,
  ⟨0, false, 0, ready, by decide +kernel, by decide +kernel, by decide +kernel, by decide +kernel⟩,
  ⟨0, false, ready.setFld (LP_STAT 0 1) LP_STAT_MODE_NOW 1, by decide +kernel, by decide +kernel⟩⟩

/-- States and operands that meet the hypotheses of each clause of TheControlLaw. -/
theorem test_theControlLaw :
    (∃ (n : Stn) (L : Fin 8) (m T : Int) (cond : Bool) (s : State),
    (L.val < 4 ∨ L.val = 7 ∨ s.fld (LP_CTL n L) LP_CTL_FF_MODE = 0) ∧
    (s.loop n L).enter = false ∧
    (s.servo n).inj = none) :=
  ⟨0, 2, 700, -1000, true, ready, by decide +kernel, by decide +kernel, by decide +kernel⟩

/-- States and operands that meet the hypotheses of each clause of LockAndDefects. -/
theorem test_lockAndDefects :
    (∃ (n : Stn) (L : Fin 8) (s : State),
    s.mode n L = 2 ∧
    s.bit (LP_STAT n L) LP_STAT_LOCKED = false ∧
    8 * max 1 (s.fld (LP_LOCK n L) LP_LOCK_LOCK_N) ≤ (s.loop n L).good) ∧
    (∃ (n : Stn) (L : Fin 8) (s : State),
    (s.mode n L ≠ 2 ∨ (s.loop n L).good < 8 * max 1 (s.fld (LP_LOCK n L) LP_LOCK_LOCK_N))) ∧
    (∃ (n : Stn) (L : Fin 8) (s : State),
    s.bit (LP_STAT n L) LP_STAT_LOCKED = true ∧
    max 1 (s.fld (LP_LOCK n L) LP_LOCK_LOST_N) ≤ (s.loop n L).bad) ∧
    (∃ (n : Stn) (s : State),
    (s.servo n).defect = true ∧
    (s.servo n).defStuck = false ∧
    s.fld (SV_SENSE n) SV_SENSE_DEF_MAX < (s.servo n).defLen) :=
  ⟨⟨9, 0, (ready.setFld (LP_STAT 9 0) LP_STAT_MODE_NOW 2).setLoop 9 0 (fun l => { l with good := 5000 }), by decide +kernel, by decide +kernel, by decide +kernel⟩,
  ⟨9, 0, ready, by decide +kernel⟩,
  ⟨9, 0, (ready.setBit (LP_STAT 9 0) LP_STAT_LOCKED true).setLoop 9 0 (fun l => { l with bad := 5000 }), by decide +kernel, by decide +kernel⟩,
  ⟨9, ready.setServo 9 (fun v => { v with defect := true, defLen := 70000 }), by decide +kernel, by decide +kernel, by decide +kernel⟩⟩

/-- States and operands that meet the hypotheses of each clause of TuneInjectionAndJump. -/
theorem test_tuneInjectionAndJump :
    (∃ (n : Stn) (t : Tune) (s : State),
    (s.servo n).tune = some t ∧
    11 ≤ t.switches ∧
    0 < satS 24 (rnd t.span 16)) ∧
    (∃ (n : Stn) (t : Tune) (s : State),
    (s.servo n).tune = some t ∧
    t.switches < 11 ∧
    64 * s.fld (SV_TUNE_CTL n) SV_TUNE_CTL_TMO ≤ t.total ∧
    s.mode n t.loop = 3 ∧
    t.back = 2) ∧
    (∃ (n : Stn) (i : Inj) (s : State),
    (s.servo n).inj = some i ∧
    max 1 (s.fld (SV_INJ_CTL n) SV_INJ_CTL_NCYC) ≤ i.wraps ∧
    i.yc * i.yc + i.ys * i.ys ≠ 0) ∧
    (∃ (n : Stn) (m : Fin 16) (s : State),
    m.val ≠ s.fld (SV_JUMP n) SV_JUMP_CUR ∧
    (s.servo n).jump = none ∧
    s.bit (LP_STAT n 0) LP_STAT_LOCKED = true ∧
    s.bit (LP_STAT n 1) LP_STAT_LOCKED = true) ∧
    (∃ (n : Stn) (m : Fin 16) (s : State),
    m.val ≠ s.fld (SV_JUMP n) SV_JUMP_CUR ∧
    (s.servo n).jump = none ∧
    (s.bit (LP_STAT n 0) LP_STAT_LOCKED = false ∨ s.bit (LP_STAT n 1) LP_STAT_LOCKED = false)) ∧
    (∃ (n : Stn) (j : Jump) (c : Instr) (st : Nat) (s : State),
    (s.servo n).jump = some j ∧
    ((c = .jumpTimeout n ∧ st = 4) ∨ (c = .crossingTimeout n ∧ st = 3 ∧ (j.step = 3 ∨ j.step = 4)))) :=
  ⟨⟨0, ⟨0, 2, 0, false, true, 11, 900, 800, 0, 0, 16000⟩, ready.setServo 0 (fun v => { v with tune := some ⟨0, 2, 0, false, true, 11, 900, 800, 0, 0, 16000⟩ }), by decide +kernel, by decide +kernel, by decide +kernel⟩,
  ⟨0, ⟨0, 2, 0, false, true, 3, 9000000, 800, 0, 0, 16000⟩, (ready.setServo 0 (fun v => { v with tune := some ⟨0, 2, 0, false, true, 3, 9000000, 800, 0, 0, 16000⟩ })).setFld (LP_STAT 0 0) LP_STAT_MODE_NOW 3, by decide +kernel, by decide +kernel, by decide +kernel, by decide +kernel, by decide +kernel⟩,
  ⟨0, ⟨0, 0, 300, 5, 6, 7, 8⟩, ready.setServo 0 (fun v => { v with inj := some ⟨0, 0, 300, 5, 6, 7, 8⟩ }), by decide +kernel, by decide +kernel, by decide +kernel⟩,
  ⟨2, 3, (ready.setBit (LP_STAT 2 0) LP_STAT_LOCKED true).setBit (LP_STAT 2 1) LP_STAT_LOCKED true, by decide +kernel, by decide +kernel, by decide +kernel, by decide +kernel⟩,
  ⟨2, 3, ready, by decide +kernel, by decide +kernel, by decide +kernel⟩,
  ⟨2, ⟨0, 1, 3, 5, 1, 0⟩, .crossingTimeout 2, 3, ready.setServo 2 (fun v => { v with jump := some ⟨0, 1, 3, 5, 1, 0⟩ }), by decide +kernel, by decide +kernel⟩⟩

/-- States and operands that meet the hypotheses of each clause of LaneBlocksAndFrames. -/
theorem test_laneBlocksAndFrames :
    (∃ (n : Stn) (k : Fin 2) (b : Block66) (s : State),
    (s.lane n k = 1 ∨ s.lane n k = 2) ∧
    b.isControl = true ∧
    b.field 0 8 = 0xA1) ∧
    (∃ (n : Stn) (k : Fin 2) (b : Block66) (s : State),
    (s.lane n k = 1 ∨ s.lane n k = 2) ∧
    (b.isControl = false ∨ b.field 0 8 ≠ 0xA1)) ∧
    (∃ (n : Stn) (k : Fin 2) (b : Block66) (l : List Nat) (i : Nat) (s : State),
    (s.port n).syncs.getD k (0, []) = (i, l) ∧
    l.length = 15 ∧
    (∀ j ∈ l, i < j + 1023)) ∧
    (∃ (n : Stn) (e errs : Nat) (lock : Bool) (s : State),
    (s.port n).clSeen = some e) ∧
    (∃ (n : Stn) (e errs : Nat) (lock : Bool) (s : State),
    (s.port n).clSeen ≠ some e) ∧
    (∃ (n : Stn) (k : Fin 2) (b : Block66) (s : State),
    k.val = s.servoLane n ∧
    s.lane n k = 2 ∧
    b.isControl = true ∧
    (b.field 0 8 = 0xA2 ∨ b.field 0 8 = 0xA3)) ∧
    (∃ (n : Stn) (k : Fin 2) (b : Block66) (s : State),
    k.val = s.servoLane n ∧
    s.lane n k = 2 ∧
    b.valid = false) ∧
    (∃ (n : Stn) (k : Fin 2) (g : Fin 525) (b : Vector Block66 3) (s : State),
    s.lane n k = 2) ∧
    (∃ (n : Stn) (s : State),
    s.bit (STN_STAT n) STN_STAT_SY_RUN = true ∧
    ((s.missHeaders n).lane n 2 = 1 ∨ (s.missHeaders n).lane n 2 = 2)) ∧
    (∃ (n : Stn) (s : State),
    s.bit (STN_STAT n) STN_STAT_SY_RUN = true ∧
    ((s.missHeaders n).lane n 2 = 0 ∨ (s.missHeaders n).lane n 2 = 3)) ∧
    (∃ (n : Stn) (s : State),
    s.lane n 0 = 2 ∧
    s.lane n 1 = 2 ∧
    (s.port n).hdrNone = [0, 0]) ∧
    (∃ (n : Stn) (cs : Vector (BitVec 10) 29) (s : State),
    frameBytes 28 (cs.toList.map (·.toNat)) = none) ∧
    (∃ (n : Stn) (cs : Vector (BitVec 10) 29) (b : Bytes) (s : State),
    frameBytes 28 (cs.toList.map (·.toNat)) = some b ∧
    b.getD 1 0 = 0#8 ∧
    b.getD 24 0 = 0#8 ∧
    (s.port n).tripFail = false ∧
    (s.spin n).chopDue = false ∧
    s.spinState n ≠ 1) ∧
    (∃ (n : Stn) (cs : Vector (BitVec 10) 29) (b : Bytes) (s : State),
    frameBytes 28 (cs.toList.map (·.toNat)) = some b ∧
    b.getD 1 0 = 0#8 ∧
    b.getD 24 0 = 0#8 ∧
    (s.port n).tripFail = false ∧
    (s.spin n).chopDue = false ∧
    s.spinState n = 1) ∧
    (∃ (n : Stn) (s : State),
    (s.lane n 4 ≠ 2 ∨ (s.port n).miSeen = true ∨ (s.port n).miNone < 3)) ∧
    (∃ (n : Stn) (s : State),
    s.lane n 4 = 2 ∧
    (s.port n).miSeen = false ∧
    3 ≤ (s.port n).miNone) ∧
    (∃ (n : Stn) (s : State),
    s.spinState n ≠ 3 ∧
    s.spinState n ≠ 4) ∧
    (∃ (n : Stn) (s : State),
    s.spinState n = 4 ∧
    vecLen (backEmf (s.spin n).cur (s.spin n).curLast (s.spin n).dutiesLast (s.vMeas n) (s.fld (MOT_PARAM n) MOT_PARAM_RS : Nat) (s.fld (MOT_PARAM n) MOT_PARAM_LS : Nat)) < s.fld (MOT_CATCH n) MOT_CATCH_VTH * 2 ^ 20) :=
  ⟨⟨3, 0, headerBlock 7 4 1, (ready.setLane 3 0 2), by decide +kernel, by decide +kernel, by decide +kernel⟩,
  ⟨3, 0, ⟨3, 0, 0⟩, (ready.setLane 3 0 2), by decide +kernel, by decide +kernel⟩,
  ⟨3, 0, ⟨3, 0, 0⟩, List.range 15, 15, ((ready.setLane 3 0 2).setPort 3 (fun p => { p with syncs := [(15, List.range 15), (0, [])] })), by decide +kernel, by decide +kernel, by decide +kernel⟩,
  ⟨3, 9, 2, true, (ready.setPort 3 (fun p => { p with clSeen := some 9 })), by decide +kernel⟩,
  ⟨3, 9, 2, false, (ready.setLane 3 2 2), by decide +kernel⟩,
  ⟨3, 0, servoHigh 15 [1, 2, 3, 4092], (ready.setLane 3 0 2), by decide +kernel, by decide +kernel, by decide +kernel, by decide +kernel⟩,
  ⟨3, 0, ⟨3, 0, 0⟩, (ready.setLane 3 0 2), by decide +kernel, by decide +kernel, by decide +kernel⟩,
  ⟨3, 1, 524, #v[⟨1, 0, 12345⟩, ⟨1, 0, 5⟩, ⟨1, 3, 9⟩], (ready.setLane 3 1 2), by decide +kernel⟩,
  ⟨3, (ready.setLane 3 2 2).setBit (STN_STAT 3) STN_STAT_SY_RUN true, by decide +kernel, by decide +kernel⟩,
  ⟨3, (ready.setLane 3 2 3).setBit (STN_STAT 3) STN_STAT_SY_RUN true, by decide +kernel, by decide +kernel⟩,
  ⟨3, (ready.setLane 3 0 2).setLane 3 1 2, by decide +kernel, by decide +kernel, by decide +kernel⟩,
  ⟨3, Vector.replicate 29 0#10, ready, by decide +kernel⟩,
  ⟨3, miChars (zeros 26), zeros 26 ++ leBytes 2 (crc16 208 0 0xFFFF#16).toNat, ready, by decide +kernel, by decide +kernel, by decide +kernel, by decide +kernel, by decide +kernel, by decide +kernel⟩,
  ⟨3, miChars (zeros 26), zeros 26 ++ leBytes 2 (crc16 208 0 0xFFFF#16).toNat, ready.setFld (MOT_SPST 3) MOT_SPST_STATE 1, by decide +kernel, by decide +kernel, by decide +kernel, by decide +kernel, by decide +kernel, by decide +kernel⟩,
  ⟨3, ready, by decide +kernel⟩,
  ⟨3, (ready.setLane 3 4 2).setPort 3 (fun p => { p with miNone := 3 }), by decide +kernel, by decide +kernel, by decide +kernel⟩,
  ⟨3, ready, by decide +kernel, by decide +kernel⟩,
  ⟨3, (ready.setFld (MOT_SPST 3) MOT_SPST_STATE 4).setFld (MOT_CATCH 3) MOT_CATCH_VTH 100, by decide +kernel, by decide +kernel⟩⟩

/-- States and operands that meet the hypotheses of each clause of InterlockLoaderAndLanes. -/
theorem test_interlockLoaderAndLanes :
    (∃ (n : Stn) (ns : Nat) (s : State),
    50 ≤ ns ∧
    s.bit (STN_STAT n) STN_STAT_IL = false) ∧
    (∃ (n : Stn) (s : State),
    (s.checkWrite n).bw? n = none) ∧
    (∃ (n : Stn) (ns : Nat) (s : State),
    50 ≤ ns ∧
    s.bit (STN_STAT n) STN_STAT_IL = true) ∧
    (∃ (n : Stn) (ns : Nat) (s : State),
    ns ≤ 10) ∧
    (∃ (n : Stn) (ns : Nat) (s : State),
    10 < ns ∧
    ns < 50) ∧
    (∃ (n : Stn) (s : State),
    s.bit (STN_CTL n) STN_CTL_ENABLE = true ∧
    (s.port n).axHeld = false) ∧
    (∃ (n : Stn) (s : State),
    (s.port n).axHeld = true) ∧
    (∃ (n : Stn) (x : BitVec 12) (s : State),
    s.bit (STN_STAT n) STN_STAT_PRESENT = false) ∧
    (∃ (n : Stn) (w : BitVec 16) (s : State),
    w.toNat % 16 ≠ crc4 (w.toNat / 16)) ∧
    (∃ (n : Stn) (s : State),
    2 ≤ (s.port n).misses ∧
    s.bit (STN_STAT n) STN_STAT_PRESENT = true) ∧
    (∃ (n : Stn) (s : State),
    (s.port n).misses < 2) ∧
    (∃ (n : Stn) (s : State),
    s.bit (STN_CTL n) STN_CTL_ENABLE = true ∧
    (s.port n).axQueue = []) ∧
    (∃ (n : Stn) (k : Fin 5) (s : State),
    s.lane n k = 2) ∧
    (∃ (n : Stn) (k : Fin 5) (s : State),
    s.lane n k = 1) ∧
    (∃ (n : Stn) (k : Fin 5) (e v h : Nat) (s : State),
    s.lane n k = 1 ∧
    2 ≤ k.val ∧
    (8 ≤ (if k = 2 then (s.port n).clGood else if k = 3 then (s.port n).moGood else (s.port n).miGood))) ∧
    (∃ (n : Stn) (k : Fin 5) (v h : Nat) (s : State),
    s.lane n k = 1 ∧
    k.val ≤ 1 ∧
    25 ≤ v ∧
    32 ≤ h) ∧
    (∃ (n : Stn) (k : Fin 5) (e v h : Nat) (s : State),
    s.lane n k = 1 ∧
    s.checkPasses n k e v h = false ∧
    (s.port n).attempts.getD k 0 + 1 < s.retries n) ∧
    (∃ (n : Stn) (k : Fin 5) (e v h : Nat) (s : State),
    s.lane n k = 1 ∧
    s.checkPasses n k e v h = false ∧
    s.retries n ≤ (s.port n).attempts.getD k 0 + 1) :=
  ⟨⟨5, 50, ready.setBit (STN_STAT 5) STN_STAT_IL false, by decide +kernel, by decide +kernel⟩,
  ⟨5, ready, by decide +kernel⟩,
  ⟨5, 50, ready.setBit (STN_STAT 5) STN_STAT_IL true, by decide +kernel, by decide +kernel⟩,
  ⟨5, 10, ready, by decide +kernel⟩,
  ⟨5, 11, ready, by decide +kernel, by decide +kernel⟩,
  ⟨5, ready.setBit (STN_CTL 5) STN_CTL_ENABLE true, by decide +kernel, by decide +kernel⟩,
  ⟨5, ready.setPort 5 (fun p => { p with axHeld := true }), by decide +kernel⟩,
  ⟨5, 0x20#12, ready, by decide +kernel⟩,
  ⟨5, 1#16, ready, by decide +kernel⟩,
  ⟨5, (ready.setBit (STN_STAT 5) STN_STAT_PRESENT true).setPort 5 (fun p => { p with misses := 2 }), by decide +kernel, by decide +kernel⟩,
  ⟨5, ready, by decide +kernel⟩,
  ⟨5, ready.setBit (STN_CTL 5) STN_CTL_ENABLE true, by decide +kernel, by decide +kernel⟩,
  ⟨5, 4, (ready.setLane 5 4 2), by decide +kernel⟩,
  ⟨5, 4, (ready.setLane 5 4 1), by decide +kernel⟩,
  ⟨5, 2, 0, 0, 0, (ready.setLane 5 2 1).setPort 5 (fun p => { p with clGood := 8 }), by decide +kernel, by decide +kernel, by decide +kernel⟩,
  ⟨5, 1, 25, 32, (ready.setLane 5 1 1), by decide +kernel, by decide +kernel, by decide +kernel, by decide +kernel⟩,
  ⟨5, 1, 0, 24, 32, (ready.setLane 5 1 1), by decide +kernel, by decide +kernel, by decide +kernel⟩,
  ⟨5, 1, 1, 40, 33, (ready.setLane 5 1 1).setPort 5 (fun p => { p with attempts := [0, 300, 0, 0, 0] }), by decide +kernel, by decide +kernel, by decide +kernel⟩⟩

/-- States and operands that meet the hypotheses of each clause of SpindleStates. -/
theorem test_spindleStates :
    (∃ (n : Stn) (w : BitVec 48) (cw : BitVec 36) (s : State),
    wobbleOk w.toNat = true) ∧
    (∃ (n : Stn) (w : BitVec 48) (cw : BitVec 36) (s : State),
    wobbleOk w.toNat = false) ∧
    (∃ (n : Stn) (q : Fin 8) (w : BitVec 48) (cw : BitVec 36) (s : State),
    q ≠ 4) ∧
    (∃ (n : Stn) (s : State),
    (s.spin n).catchN < 80) ∧
    (∃ (n : Stn) (s : State),
    s.spinState n = 1 ∧
    80 ≤ (s.spin n).catchN ∧
    (rnd (s.spin n).catchMag (80 * 2 ^ 20)).toNat < s.fld (MOT_CATCH n) MOT_CATCH_VTH) ∧
    (∃ (n : Stn) (s : State),
    s.spinState n = 1 ∧
    80 ≤ (s.spin n).catchN ∧
    s.fld (MOT_CATCH n) MOT_CATCH_VTH ≤ (rnd (s.spin n).catchMag (80 * 2 ^ 20)).toNat ∧
    (s.spin n).catchTurn ≤ 0) ∧
    (∃ (n : Stn) (s : State),
    s.spinState n = 1 ∧
    80 ≤ (s.spin n).catchN ∧
    s.fld (MOT_CATCH n) MOT_CATCH_VTH ≤ (rnd (s.spin n).catchMag (80 * 2 ^ 20)).toNat ∧
    0 < (s.spin n).catchTurn ∧
    0 < s.vMeas n) ∧
    (∃ (n : Stn) (s : State),
    s.spinState n = 2) ∧
    (∃ (n : Stn) (s : State),
    s.spinState n = 5) ∧
    (∃ (n : Stn) (s : State),
    s.spinState n = 4 ∧
    16 ≤ (s.spin n).resBad ∧
    ((((((s.setSpindle n (fun p => { p with lossDecel := s.decelerating n })).setSpin n 6).setBit (MOT_SPST n) MOT_SPST_LOST true).raiseStn n 6 []).trapSpindle n).bit (TASK_STATUS n) TASK_STATUS_BUSY = false)) ∧
    (∃ (n : Stn) (t : Nat) (s : State),
    (s.spin n).lostAt = some t ∧
    s.bit (MOT_SPST n) MOT_SPST_SPD_VALID = false) :=
  ⟨⟨5, 0x103456780000#48 + BitVec.ofNat 48 (crc16 32 0x10345678 0xFFFF#16).toNat, 100, ready, by decide +kernel⟩,
  ⟨5, 1#48, 100, ready, by decide +kernel⟩,
  ⟨5, 1, 1#48, 100, ready, by decide +kernel⟩,
  ⟨5, ready.setFld (MOT_SPST 5) MOT_SPST_STATE 1, by decide +kernel⟩,
  ⟨5, ((ready.setFld (MOT_SPST 5) MOT_SPST_STATE 1).setFld (MOT_CATCH 5) MOT_CATCH_VTH 100).setSpindle 5 (fun p => { p with catchN := 80, catchMag := 99 * 80 * 2 ^ 20, catchTurn := -5 }), by decide +kernel, by decide +kernel, by decide +kernel⟩,
  ⟨5, ((ready.setFld (MOT_SPST 5) MOT_SPST_STATE 1).setFld (MOT_CATCH 5) MOT_CATCH_VTH 100).setSpindle 5 (fun p => { p with catchN := 80, catchMag := 100 * 80 * 2 ^ 20, catchTurn := -1 }), by decide +kernel, by decide +kernel, by decide +kernel, by decide +kernel⟩,
  ⟨5, ((ready.setFld (MOT_SPST 5) MOT_SPST_STATE 1).setFld (BUS_STAT 5) BUS_STAT_VLOC 24000).setSpindle 5 (fun p => { p with catchN := 80, catchMag := 1000 * 80 * 2 ^ 20, catchAngle := 300, catchTurn := 79 * 600 }), by decide +kernel, by decide +kernel, by decide +kernel, by decide +kernel, by decide +kernel⟩,
  ⟨5, ready.setFld (MOT_SPST 5) MOT_SPST_STATE 2, by decide +kernel⟩,
  ⟨5, ready.setFld (MOT_SPST 5) MOT_SPST_STATE 5, by decide +kernel⟩,
  ⟨5, (ready.setFld (MOT_SPST 5) MOT_SPST_STATE 4).setSpindle 5 (fun p => { p with resBad := 16 }), by decide +kernel, by decide +kernel, by decide +kernel⟩,
  ⟨5, 3, ready.setSpindle 5 (fun p => { p with lostAt := some 3 }), by decide +kernel, by decide +kernel⟩⟩

/-- States and operands that meet the hypotheses of each clause of SledAndBus. -/
theorem test_sledAndBus :
    (∃ (n : Stn) (t : Int) (s : State),
    s.bit (BUS_STAT n) BUS_STAT_PROTECT = false ∧
    (s.sled n).snow = false ∧
    (s.sled n).target = some t) ∧
    (∃ (n : Stn) (s : State),
    s.bit (BUS_STAT n) BUS_STAT_PROTECT = false ∧
    (s.sled n).snow = true) ∧
    (∃ (n : Stn) (s : State),
    s.bit (BUS_STAT n) BUS_STAT_PROTECT = false ∧
    (s.sled n).snow = false ∧
    (s.sled n).target = none) ∧
    (∃ (n : Stn) (s : State),
    s.bit (BUS_STAT n) BUS_STAT_PROTECT = true) ∧
    (∃ (s : State),
    s.busAt 44000 = true ∧
    s.power.protect = false) ∧
    (∃ (s : State),
    s.busAt 43000 = false ∧
    s.power.protect = true) ∧
    (∃ (n : Stn) (s : State),
    s.fld (BUS_STAT n) BUS_STAT_STATE = 2 ∧
    s.fld (BUS_STAT n) BUS_STAT_VLOC < s.chOff n ∧
    s.fld (BUS_VIN n) BUS_VIN_VIN < s.chOff n) :=
  ⟨⟨5, 1000, ready.setSled 5 (fun d => { d with target := some 1000 }), by decide +kernel, by decide +kernel, by decide +kernel⟩,
  ⟨5, ready.setSled 5 (fun d => { d with snow := true, v := 77 }), by decide +kernel, by decide +kernel⟩,
  ⟨5, ready, by decide +kernel, by decide +kernel, by decide +kernel⟩,
  ⟨5, ready.setBit (BUS_STAT 5) BUS_STAT_PROTECT true, by decide +kernel⟩,
  ⟨ready.setFld (BUS_STAT 2) BUS_STAT_VLOC 44000, by decide +kernel, by decide +kernel⟩,
  ⟨{ ready.setBit (BUS_STAT 0) BUS_STAT_PROTECT true with power.protect := true }, by decide +kernel, by decide +kernel⟩,
  ⟨5, ready.setFld (BUS_STAT 5) BUS_STAT_STATE 2, by decide +kernel, by decide +kernel, by decide +kernel⟩⟩

/-- States and operands that meet the hypotheses of each clause of AluMicrowords. -/
theorem test_aluMicrowords :
    (∃ (n : Stn) (m : Micro) (o : Nano) (a b : Word) (s : State),
    Fetches s n m o ∧
    m.cls = 0 ∧
    (o.subop % 16 ≤ 12 ∧ o.subop < 64 ∧ (o.subop % 16 = 10 ∨ o.dst < 12)) ∧
    (o.subop % 16 = 0 ∨ s.mreg n o.srca = some a) ∧
    ((if o.subop / 16 = 0 then s.mreg n o.srcb else if o.subop / 16 = 1 then some (BitVec.ofNat 32 o.const)
    else if o.subop / 16 = 2 then some (BitVec.ofNat 32 m.imm) else some (BitVec.ofInt 32 (signed8 m.imm))) = some b) ∧
    (6 ≤ o.subop % 16 ∧ o.subop % 16 ≤ 8 → b.toNat < 32)) ∧
    (∃ (n : Stn) (m : Micro) (o : Nano) (a b : Word) (s : State),
    Fetches s n m o ∧
    m.cls = 0 ∧
    (6 ≤ o.subop % 16 ∧ o.subop % 16 ≤ 8 ∧ o.subop < 64 ∧ o.dst < 12) ∧
    s.mreg n o.srca = some a ∧
    ((if o.subop / 16 = 0 then s.mreg n o.srcb else if o.subop / 16 = 1 then some (BitVec.ofNat 32 o.const)
    else if o.subop / 16 = 2 then some (BitVec.ofNat 32 m.imm) else some (BitVec.ofInt 32 (signed8 m.imm))) = some b) ∧
    32 ≤ b.toNat) ∧
    (∃ (n : Stn) (m : Micro) (o : Nano) (s : State),
    Fetches s n m o ∧
    m.cls = 0 ∧
    (13 ≤ o.subop % 16 ∨ 64 ≤ o.subop ∨ (o.subop % 16 ≠ 10 ∧ 12 ≤ o.dst) ∨ (o.subop % 16 ≠ 0 ∧ 12 ≤ o.srca) ∨ (o.subop < 16 ∧ 12 ≤ o.srcb))) :=
  ⟨⟨1, ⟨0, 0, 0⟩, ⟨1, 2, 0, 1, 0, 0, 0, 0, 0, 0⟩, 0, 0, microState 1 0 0 (nanoWord 1 2 0 1 0 0 0 0 0), fetches_of (by decide +kernel), by decide +kernel, by decide +kernel, by decide +kernel, by decide +kernel, by decide +kernel⟩,
  ⟨1, ⟨0, 0, 32⟩, ⟨0x26, 2, 0, 0, 0, 0, 0, 0, 0, 0⟩, 0, 32, microState 1 0 32 (nanoWord 0x26 2 0 0 0 0 0 0 0), fetches_of (by decide +kernel), by decide +kernel, by decide +kernel, by decide +kernel, by decide +kernel, by decide +kernel⟩,
  ⟨1, ⟨0, 0, 7⟩, ⟨13, 2, 0, 1, 0, 0, 0, 0, 0, 0⟩, microState 1 0 7 (nanoWord 13 2 0 1 0 0 0 0 0), fetches_of (by decide +kernel), by decide +kernel, by decide +kernel⟩⟩

/-- States and operands that meet the hypotheses of each clause of RegisterAndMemoryMicrowords. -/
theorem test_registerAndMemoryMicrowords :
    (∃ (n : Stn) (m : Micro) (o : Nano) (off : Nat) (s : State),
    Fetches s n m o ∧
    m.cls = 1 ∧
    o.subop < 2 ∧
    o.dst < 12 ∧
    s.mOff n o = some off ∧
    (stnRow n off).isSome = true) ∧
    (∃ (n : Stn) (m : Micro) (o : Nano) (off : Nat) (s : State),
    Fetches s n m o ∧
    m.cls = 1 ∧
    o.subop < 2 ∧
    o.dst < 12 ∧
    s.mOff n o = some off ∧
    (stnRow n off).isNone = true ∧
    (s.gaf n).inTrap = false) ∧
    (∃ (n : Stn) (m : Micro) (o : Nano) (x : Word) (off : Nat) (s : State),
    Fetches s n m o ∧
    m.cls = 2 ∧
    o.subop < 4 ∧
    ((if o.subop / 2 % 2 = 1 then some (BitVec.ofNat 32 o.const) else s.mreg n o.srca) = some x) ∧
    s.mOff n o = some off ∧
    (s.gaf n).inTrap = false ∧
    ((running s n).stnWrite n off x true).1.gaf n = (running s n).gaf n) ∧
    (∃ (n : Stn) (m : Micro) (o : Nano) (a : Word) (s : State),
    Fetches s n m o ∧
    m.cls = 8 ∧
    o.subop = 0 ∧
    o.dst < 12 ∧
    s.mreg n o.srca = some a ∧
    s.memFault n (a.toNat + o.const) = false) ∧
    (∃ (n : Stn) (m : Micro) (o : Nano) (a x : Word) (s : State),
    Fetches s n m o ∧
    m.cls = 8 ∧
    o.subop = 1 ∧
    s.mreg n o.srca = some a ∧
    s.mreg n o.srcb = some x ∧
    s.memFault n (a.toNat + o.const) = false) ∧
    (∃ (n : Stn) (m : Micro) (o : Nano) (a x : Word) (s : State),
    Fetches s n m o ∧
    m.cls = 8 ∧
    o.subop < 2 ∧
    o.dst < 12 ∧
    s.mreg n o.srca = some a ∧
    s.mreg n o.srcb = some x ∧
    s.memFault n (a.toNat + o.const) = true ∧
    (s.gaf n).inTrap = false) ∧
    (∃ (n : Stn) (m : Micro) (o : Nano) (a : Word) (x : BitVec 12) (s : State),
    Fetches s n m o ∧
    m.cls = 9 ∧
    o.dst < 12 ∧
    s.mreg n o.srca = some a ∧
    (s.port n).axHeld = false) ∧
    (∃ (n : Stn) (m : Micro) (o : Nano) (a : Word) (r : Option (BitVec 16)) (s : State),
    Fetches s n m o ∧
    m.cls = 9 ∧
    o.dst < 12 ∧
    s.mreg n o.srca = some a ∧
    (s.port n).axHeld = false ∧
    (r.all (fun w => w.toNat % 16 != crc4 (w.toNat / 16)) = true)) ∧
    (∃ (n : Stn) (m : Micro) (o : Nano) (r : Option (BitVec 16)) (s : State),
    Fetches s n m o ∧
    m.cls = 9 ∧
    (s.port n).axHeld = true) ∧
    (∃ (n : Stn) (store addr : Nat) (c : Instr) (s : State),
    c ∈ [Instr.alu n, .rd n, .wr n, .br n, .jmp n, .call n, .ret n, .rtt n, .loop n, .wait n, .memLoad n, .memStore n, .link n none, .evt n, .trap n] ∧
    s.canRun n = true ∧
    s.fetch n = .bad store addr) :=
  ⟨⟨1, ⟨1, 0, 0⟩, ⟨0, 2, 0, 0, 1, 0, 0, 0, 0, 0⟩, 4, microState 1 1 0 (nanoWord 0 2 0 0 1 0 0 0 0), fetches_of (by decide +kernel), by decide +kernel, by decide +kernel, by decide +kernel, by decide +kernel, by decide +kernel⟩,
  ⟨1, ⟨1, 0, 0⟩, ⟨0, 2, 0, 0, 60, 0, 0, 0, 0, 0⟩, 240, microState 1 1 0 (nanoWord 0 2 0 0 60 0 0 0 0), fetches_of (by decide +kernel), by decide +kernel, by decide +kernel, by decide +kernel, by decide +kernel, by decide +kernel, by decide +kernel⟩,
  ⟨1, ⟨2, 0, 0⟩, ⟨2, 2, 0, 0, 0x202, 77, 0, 0, 0, 0⟩, 77, 0x808, microState 1 2 0 (nanoWord 2 2 0 0 0x202 77 0 0 0), fetches_of (by decide +kernel), by decide +kernel, by decide +kernel, by decide +kernel, by decide +kernel, by decide +kernel, by decide +kernel⟩,
  ⟨1, ⟨8, 0, 0⟩, ⟨0, 2, 0, 0, 0, 0x10C0, 0, 0, 0, 0⟩, 0, (microState 1 8 0 (nanoWord 0 2 0 0 0 0x10C0 0 0 0)).writeFrame 1 0 (zeros 64), fetches_of (by decide +kernel), by decide +kernel, by decide +kernel, by decide +kernel, by decide +kernel, by decide +kernel⟩,
  ⟨1, ⟨8, 0, 0⟩, ⟨1, 2, 0, 0, 0, 0x10C0, 0, 0, 0, 0⟩, 0, 0, (microState 1 8 0 (nanoWord 1 2 0 0 0 0x10C0 0 0 0)).writeFrame 1 0 (zeros 64), fetches_of (by decide +kernel), by decide +kernel, by decide +kernel, by decide +kernel, by decide +kernel, by decide +kernel⟩,
  ⟨1, ⟨8, 0, 0⟩, ⟨1, 2, 0, 0, 0, 0x1180, 0, 0, 0, 0⟩, 0, 0, (microState 1 8 0 (nanoWord 1 2 0 0 0 0x1180 0 0 0)).writeFrame 2 0 (zeros 64), fetches_of (by decide +kernel), by decide +kernel, by decide +kernel, by decide +kernel, by decide +kernel, by decide +kernel, by decide +kernel, by decide +kernel⟩,
  ⟨1, ⟨9, 0, 3⟩, ⟨0, 2, 0, 0, 0, 0, 0, 0, 0, 0⟩, 0, 0x123, microState 1 9 3 (nanoWord 0 2 0 0 0 0 0 0 0), fetches_of (by decide +kernel), by decide +kernel, by decide +kernel, by decide +kernel, by decide +kernel⟩,
  ⟨1, ⟨9, 0, 3⟩, ⟨0, 2, 0, 0, 0, 0, 0, 0, 0, 0⟩, 0, some 1#16, microState 1 9 3 (nanoWord 0 2 0 0 0 0 0 0 0), fetches_of (by decide +kernel), by decide +kernel, by decide +kernel, by decide +kernel, by decide +kernel, by decide +kernel⟩,
  ⟨1, ⟨9, 0, 3⟩, ⟨0, 2, 0, 0, 0, 0, 0, 0, 0, 0⟩, none, (microState 1 9 3 (nanoWord 0 2 0 0 0 0 0 0 0)).setPort 1 (fun p => { p with axHeld := true }), fetches_of (by decide +kernel), by decide +kernel, by decide +kernel⟩,
  ⟨1, 0, 0, .br 1, (busy 1).setFld (SEQ_STAT 1) SEQ_STAT_STATE 1, by decide +kernel, by decide +kernel, by decide +kernel⟩⟩

/-- States and operands that meet the hypotheses of each clause of FlowMicrowords. -/
theorem test_flowMicrowords :
    (∃ (n : Stn) (m : Micro) (o : Nano) (s : State),
    Fetches s n m o ∧
    m.cls = 3) ∧
    (∃ (n : Stn) (m : Micro) (o : Nano) (s : State),
    Fetches s n m o ∧
    m.cls = 4 ∧
    o.subop = 0) ∧
    (∃ (n : Stn) (m : Micro) (o : Nano) (s : State),
    Fetches s n m o ∧
    m.cls = 4 ∧
    o.subop = 1 ∧
    s.fld (SEQ_STAT n) SEQ_STAT_SP < 8) ∧
    (∃ (n : Stn) (m : Micro) (o : Nano) (c : Instr) (k : Nat) (s : State),
    Fetches s n m o ∧
    ((k = 1 ∧ ((c = .call n ∧ m.cls = 4 ∧ o.subop = 1 ∧ 8 ≤ s.fld (SEQ_STAT n) SEQ_STAT_SP) ∨ (c = .ret n ∧ m.cls = 5 ∧ o.subop = 0 ∧ s.fld (SEQ_STAT n) SEQ_STAT_SP = 0)
      ∨ (c = .rtt n ∧ m.cls = 5 ∧ o.subop = 1 ∧ (s.gaf n).inTrap = false)))
    ∨ (k = 2 ∧ ((c = .jmp n ∧ m.cls = 4 ∧ 2 ≤ o.subop) ∨ (c = .ret n ∧ m.cls = 5 ∧ 2 ≤ o.subop) ∨ (c = .loop n ∧ m.cls = 6 ∧ (o.dst < 8 ∨ 12 ≤ o.dst)))))) ∧
    (∃ (n : Stn) (m : Micro) (o : Nano) (s : State),
    Fetches s n m o ∧
    m.cls = 5 ∧
    o.subop = 0 ∧
    0 < s.fld (SEQ_STAT n) SEQ_STAT_SP) ∧
    (∃ (n : Stn) (m : Micro) (o : Nano) (s : State),
    Fetches s n m o ∧
    m.cls = 5 ∧
    o.subop = 1 ∧
    (s.gaf n).inTrap = true) ∧
    (∃ (n : Stn) (m : Micro) (o : Nano) (s : State),
    Fetches s n m o ∧
    m.cls = 6 ∧
    (8 ≤ o.dst ∧ o.dst < 12)) :=
  ⟨⟨1, ⟨3, 0, 0xFE⟩, ⟨0, 0, 0, 0, 0, 0, 1, 0, 0, 0⟩, microState 1 3 0xFE (nanoWord 0 0 0 0 0 0 1 0 0), fetches_of (by decide +kernel), by decide +kernel⟩,
  ⟨1, ⟨4, 0, 0⟩, ⟨0, 0, 0, 0, 0, 0, 0, 0, 0, 0x3FFF⟩, microState 1 4 0 (nanoWord 0 0 0 0 0 0 0 0 0x3FFF), fetches_of (by decide +kernel), by decide +kernel, by decide +kernel⟩,
  ⟨1, ⟨4, 0, 0⟩, ⟨1, 0, 0, 0, 0, 0, 0, 0, 0, 0x3FFF⟩, microState 1 4 0 (nanoWord 1 0 0 0 0 0 0 0 0x3FFF), fetches_of (by decide +kernel), by decide +kernel, by decide +kernel, by decide +kernel⟩,
  ⟨1, ⟨5, 0, 0⟩, ⟨0, 0, 0, 0, 0, 0, 0, 0, 0, 0⟩, .ret 1, 1, microState 1 5 0 (nanoWord 0 0 0 0 0 0 0 0 0), fetches_of (by decide +kernel), by decide +kernel⟩,
  ⟨1, ⟨5, 0, 0⟩, ⟨0, 0, 0, 0, 0, 0, 0, 0, 0, 0⟩, (microState 1 5 0 (nanoWord 0 0 0 0 0 0 0 0 0)).setFld (SEQ_STAT 1) SEQ_STAT_SP 3, fetches_of (by decide +kernel), by decide +kernel, by decide +kernel, by decide +kernel⟩,
  ⟨1, ⟨5, 0, 0⟩, ⟨1, 0, 0, 0, 0, 0, 0, 0, 0, 0⟩, (microState 1 5 0 (nanoWord 1 0 0 0 0 0 0 0 0)).setGaf 1 (fun g => { g with inTrap := true }), fetches_of (by decide +kernel), by decide +kernel, by decide +kernel, by decide +kernel⟩,
  ⟨1, ⟨6, 0, 0xFF⟩, ⟨0, 8, 0, 0, 0, 0, 0, 0, 0, 0⟩, microState 1 6 0xFF (nanoWord 0 8 0 0 0 0 0 0 0), fetches_of (by decide +kernel), by decide +kernel, by decide +kernel⟩⟩

/-- States and operands that meet the hypotheses of each clause of WaitsTimersAndTraps. -/
theorem test_waitsTimersAndTraps :
    (∃ (n : Stn) (m : Micro) (o : Nano) (s : State),
    Fetches s n m o ∧
    m.cls = 7 ∧
    ((atWait s n).setFlag n 4 false).condHolds n o = true) ∧
    (∃ (n : Stn) (m : Micro) (o : Nano) (s : State),
    Fetches s n m o ∧
    m.cls = 7 ∧
    ((atWait s n).setFlag n 4 false).condHolds n o = false ∧
    (s.gaf n).waitLeft = none) ∧
    (∃ (n : Stn) (o : Nano) (s : State),
    s.waiting n = some o ∧
    s.condHolds n o = true) ∧
    (∃ (n : Stn) (o : Nano) (t : Nat) (s : State),
    s.waiting n = some o ∧
    (s.gaf n).wait = some (some t) ∧
    s.condHolds n o = false) ∧
    (∃ (n : Stn) (m : Micro) (o : Nano) (s : State),
    Fetches s n m o ∧
    m.cls = 13 ∧
    o.subop = 0) ∧
    (∃ (n : Stn) (m : Micro) (o : Nano) (s : State),
    Fetches s n m o ∧
    m.cls = 13 ∧
    o.subop = 1) ∧
    (∃ (n : Stn) (m : Micro) (o : Nano) (s : State),
    Fetches s n m o ∧
    m.cls = 13 ∧
    o.subop = 2) ∧
    (∃ (n : Stn) (m : Micro) (o : Nano) (s : State),
    Fetches s n m o ∧
    m.cls = 14 ∧
    (s.gaf n).inTrap = false) ∧
    (∃ (n : Stn) (t : Nat) (s : State),
    (s.gaf n).timer = some t) ∧
    (∃ (n : Stn) (c : Nat) (s : State),
    s.bit (TASK_STATUS n) TASK_STATUS_BUSY = true ∧
    s.fatal n = false ∧
    s.fld (SEQ_STAT n) SEQ_STAT_STATE = 1 ∧
    (s.gaf n).wait = none ∧
    ((List.range 16).find? (fun i => (s.takeable n).testBit i) = some c)) :=
  ⟨⟨1, ⟨7, 0, 0⟩, ⟨0, 0, 0, 0, 0, 0, 0, 0, 0, 0⟩, microState 1 7 0 (nanoWord 0 0 0 0 0 0 0 0 0), fetches_of (by decide +kernel), by decide +kernel, by decide +kernel⟩,
  ⟨1, ⟨7, 0, 0⟩, ⟨0, 0, 0, 0, 0, 1, 1, 9, 0, 0⟩, microState 1 7 0 (nanoWord 0 0 0 0 0 1 1 9 0), fetches_of (by decide +kernel), by decide +kernel, by decide +kernel, by decide +kernel⟩,
  ⟨1, ⟨0, 0, 0, 0, 0, 0, 0, 9, 0, 0⟩, ((microState 1 7 0 (nanoWord 0 0 0 0 0 0 0 9 0)).setFld (SEQ_STAT 1) SEQ_STAT_STATE 3).setGaf 1 (fun g => { g with wait := some none }), by decide +kernel, by decide +kernel⟩,
  ⟨1, ⟨0, 0, 0, 0, 0, 1, 1, 9, 0, 0⟩, 9, ((microState 1 7 0 (nanoWord 0 0 0 0 0 1 1 9 0)).setFld (SEQ_STAT 1) SEQ_STAT_STATE 3).setGaf 1 (fun g => { g with wait := some (some 9) }), by decide +kernel, by decide +kernel, by decide +kernel⟩,
  ⟨1, ⟨13, 0, 0⟩, ⟨0, 0, 0, 0, 0, 0, 0, 9, 0, 0⟩, microState 1 13 0 (nanoWord 0 0 0 0 0 0 0 9 0), fetches_of (by decide +kernel), by decide +kernel, by decide +kernel⟩,
  ⟨1, ⟨13, 0, 0⟩, ⟨1, 0, 0, 0, 0, 0, 0, 9, 0, 0⟩, microState 1 13 0 (nanoWord 1 0 0 0 0 0 0 9 0), fetches_of (by decide +kernel), by decide +kernel, by decide +kernel⟩,
  ⟨1, ⟨13, 0, 0⟩, ⟨2, 0, 0, 0, 0, 0, 0xFFFF, 9, 0, 0⟩, microState 1 13 0 (nanoWord 2 0 0 0 0 0 0xFFFF 9 0), fetches_of (by decide +kernel), by decide +kernel, by decide +kernel⟩,
  ⟨1, ⟨14, 0, 5⟩, ⟨0, 0, 0, 0, 0, 0, 0, 0, 0, 0⟩, microState 1 14 5 (nanoWord 0 0 0 0 0 0 0 0 0), fetches_of (by decide +kernel), by decide +kernel, by decide +kernel⟩,
  ⟨1, 9, ready.setGaf 1 (fun g => { g with timer := some 9 }), by decide +kernel⟩,
  ⟨1, 2, (microState 1 14 5 0).trapCause 1 2 9, by decide +kernel, by decide +kernel, by decide +kernel, by decide +kernel, by decide +kernel⟩⟩

/-- States and operands that meet the hypotheses of each clause of BandTaskAndEventMicrowords. -/
theorem test_bandTaskAndEventMicrowords :
    (∃ (n : Stn) (m : Micro) (o : Nano) (p : Parison) (s : State),
    Fetches s n m o ∧
    m.cls = 10 ∧
    o.subop = 0 ∧
    (s.ledger.parisons.find? (fun p => p.id == s.m n 1) = some p) ∧
    s.bw? n = none) ∧
    (∃ (n : Stn) (m : Micro) (o : Nano) (s : State),
    Fetches s n m o ∧
    m.cls = 10 ∧
    o.subop = 0 ∧
    (s.ledger.parisons.find? (fun p => p.id == s.m n 1) = none)) ∧
    (∃ (n : Stn) (m : Micro) (o : Nano) (s : State),
    Fetches s n m o ∧
    m.cls = 10 ∧
    o.subop = 1) ∧
    (∃ (n : Stn) (m : Micro) (o : Nano) (s : State),
    Fetches s n m o ∧
    m.cls = 10 ∧
    o.subop = 2) ∧
    (∃ (n : Stn) (m : Micro) (o : Nano) (v : State) (s : State),
    Fetches s n m o ∧
    m.cls = 10 ∧
    o.subop = 3 ∧
    (running s n).testRange n (s.m n 0) = false ∧
    s.inTask n .calStep = true ∧
    (s.reg (TASK_ARG n 0)).toNat = 0x14 ∧
    (running s n).testPlace n (s.m n 0) = some v) ∧
    (∃ (n : Stn) (m : Micro) (o : Nano) (s : State),
    Fetches s n m o ∧
    m.cls = 10 ∧
    o.subop = 3 ∧
    (s.inTask n .calStep = false ∨ (s.reg (TASK_ARG n 0)).toNat ≠ 0x14)) ∧
    (∃ (n : Stn) (m : Micro) (o : Nano) (s : State),
    Fetches s n m o ∧
    m.cls = 11 ∧
    o.subop = 0) ∧
    (∃ (n : Stn) (st : Status) (s : State),
    s.inTask n .bandWrite = false) ∧
    (∃ (n : Stn) (st : Status) (b : BandWrite) (s : State),
    s.inTask n .bandWrite = true ∧
    s.bw? n = some b) ∧
    (∃ (n : Stn) (m : Micro) (o : Nano) (s : State),
    Fetches s n m o ∧
    m.cls = 11 ∧
    o.subop = 1) ∧
    (∃ (n : Stn) (m : Micro) (o : Nano) (s : State),
    Fetches s n m o ∧
    m.cls = 11 ∧
    o.subop = 2 ∧
    s.bit (TASK_STATUS n) TASK_STATUS_SUSP = false ∧
    (s.rd n).pass = none) ∧
    (∃ (n : Stn) (m : Micro) (o : Nano) (s : State),
    Fetches s n m o ∧
    m.cls = 12 ∧
    m.imm < 24) :=
  ⟨⟨1, ⟨10, 0, 0⟩, ⟨0, 0, 0, 0, 0, 0, 0, 0, 0, 0⟩, oneParison, (let s := (microState 1 10 0 (nanoWord 0 0 0 0 0 0 0 0 0)).setGaf 1 (fun g => { g with m := g.m.set 1 3 }); { s with ledger.parisons := [oneParison] }), fetches_of (by decide +kernel), by decide +kernel, by decide +kernel, by decide +kernel, by decide +kernel⟩,
  ⟨1, ⟨10, 0, 5⟩, ⟨0, 0, 0, 0, 0, 0, 0, 0, 0, 0⟩, microState 1 10 5 (nanoWord 0 0 0 0 0 0 0 0 0), fetches_of (by decide +kernel), by decide +kernel, by decide +kernel, by decide +kernel⟩,
  ⟨1, ⟨10, 0, 5⟩, ⟨1, 0, 0, 0, 0, 0, 0, 0, 0, 0⟩, microState 1 10 5 (nanoWord 1 0 0 0 0 0 0 0 0), fetches_of (by decide +kernel), by decide +kernel, by decide +kernel⟩,
  ⟨1, ⟨10, 0, 5⟩, ⟨2, 0, 0, 0, 0, 0, 0, 0, 0, 0⟩, microState 1 10 5 (nanoWord 2 0 0 0 0 0 0 0 0), fetches_of (by decide +kernel), by decide +kernel, by decide +kernel⟩,
  ⟨1, ⟨10, 0, 5⟩, ⟨3, 0, 0, 0, 0, 0, 0, 0, 0, 0⟩, ((running testState 1).testPlace 1 0).getD ready, testState, fetches_of (by decide +kernel), by decide +kernel, by decide +kernel, by decide +kernel, by decide +kernel, by decide +kernel, by decide +kernel⟩,
  ⟨1, ⟨10, 0, 5⟩, ⟨3, 0, 0, 0, 0, 0, 0, 0, 0, 0⟩, microState 1 10 5 (nanoWord 3 0 0 0 0 0 0 0 0), fetches_of (by decide +kernel), by decide +kernel, by decide +kernel, by decide +kernel⟩,
  ⟨1, ⟨11, 0, 0x40⟩, ⟨0, 0, 0, 0, 0, 0, 0, 0, 0, 0⟩, microState 1 11 0x40 (nanoWord 0 0 0 0 0 0 0 0 0), fetches_of (by decide +kernel), by decide +kernel, by decide +kernel⟩,
  ⟨1, .ok, microState 1 11 0x40 (nanoWord 0 0 0 0 0 0 0 0 0), by decide +kernel⟩,
  ⟨3, .ok, oneBand (some 1) 4, writingState 3 (some 1) 4, by decide +kernel, by decide +kernel⟩,
  ⟨1, ⟨11, 0, 5⟩, ⟨1, 0, 0, 0, 0, 0, 0, 0, 0, 0⟩, microState 1 11 5 (nanoWord 1 0 0 0 0 0 0 0 0), fetches_of (by decide +kernel), by decide +kernel, by decide +kernel⟩,
  ⟨1, ⟨11, 0, 5⟩, ⟨2, 0, 0, 0, 0, 0, 0, 0, 0, 0⟩, microState 1 11 5 (nanoWord 2 0 0 0 0 0 0 0 0), fetches_of (by decide +kernel), by decide +kernel, by decide +kernel, by decide +kernel, by decide +kernel⟩,
  ⟨1, ⟨12, 0, 23⟩, ⟨0, 0, 0, 0, 0, 0, 0, 0, 0, 0⟩, microState 1 12 23 (nanoWord 0 0 0 0 0 0 0 0 0), fetches_of (by decide +kernel), by decide +kernel, by decide +kernel⟩⟩

/-- States and operands that meet the hypotheses of each clause of StationTasks. -/
theorem test_stationTasks :
    (∃ (n : Stn) (frames : List Bytes) (s : State),
    s.inTask n .load = true ∧
    s.way n = none ∧
    (s.station (toStn n)).loader = none) ∧
    (∃ (n : Stn) (frames : List Bytes) (since : Nat) (s : State),
    s.inTask n .load = true ∧
    s.way n = none ∧
    (s.station (toStn n)).loader = some (2, since) ∧
    s.loaderStands n 2 since = some true) ∧
    (∃ (n : Stn) (frames : List Bytes) (since : Nat) (s : State),
    s.inTask n .load = true ∧
    s.way n = none ∧
    (s.station (toStn n)).loader = some (4, since) ∧
    s.loaderStands n 4 since = some true) ∧
    (∃ (n : Stn) (frames : List Bytes) (c since : Nat) (s : State),
    s.inTask n .load = true ∧
    s.way n = none ∧
    (s.station (toStn n)).loader = some (c, since) ∧
    s.loaderStands n c since = some false) ∧
    (∃ (n : Stn) (frames : List Bytes) (w : Way) (r : Bytes) (s : State),
    s.inTask n .load = true ∧
    s.way n = some w ∧
    w.step = .there ∧
    w.first = false ∧
    leadRecord frames = some r) ∧
    (∃ (n : Stn) (frames : List Bytes) (w : Way) (s : State),
    s.inTask n .load = true ∧
    s.way n = some w ∧
    w.step = .there ∧
    w.first = false ∧
    leadRecord frames = none) ∧
    (∃ (n : Stn) (frames : List Bytes) (w : Way) (s : State) (c : Instr),
    ((c = .load n frames ∧ s.inTask n .load = true) ∨ (c = .seek n ∧ s.inTask n .seek = true ∧ w.loc = (s.reg (TASK_ARG n 0)).toNat ∧ w.first = false)) ∧
    s.way n = some w ∧
    w.step = .lost) ∧
    (∃ (n : Stn) (w : Way) (s : State),
    w.step = .jumping ∧
    (s.fld (SV_JUMP n) SV_JUMP_STATUS ≠ 1 ∧ s.fld (SV_JUMP n) SV_JUMP_STATUS ≠ 2)) ∧
    (∃ (n : Stn) (loc : Nat) (s : State),
    (s.station (toStn n)).slotRun = none ∧
    ((s.setStn (toStn n) (fun t => { t with slotSpeed := none })).atPlace n loc = false)) ∧
    (∃ (n : Stn) (s : State),
    s.inTask n .park = true) ∧
    (∃ (n : Stn) (w : Way) (s : State),
    s.way n = some w ∧
    s.sledRests n = true ∧
    s.fldInt (SLD_POS n) SLD_POS_POS = s.fldInt (SLD_PMIN n) SLD_PMIN_PMIN ∧
    s.spinState n = 0) ∧
    (∃ (n : Stn) (s : State),
    s.way n = none) ∧
    (∃ (n : Stn) (bist : List BistFind) (s : State) (c : Instr),
    ((c = .stow n bist ∧ s.inTask n .stow = true) ∨ (c = .retire n bist ∧ s.inTask n .retire = true)) ∧
    (s.station (toStn n)).loader = none) ∧
    (∃ (n : Stn) (bist : List BistFind) (since : Nat) (s : State) (c : Instr),
    ((c = .stow n bist ∧ s.inTask n .stow = true) ∨ (c = .retire n bist ∧ s.inTask n .retire = true)) ∧
    (s.station (toStn n)).loader = some (5, since) ∧
    s.loaderStands n 5 since = some true) ∧
    (∃ (n : Stn) (bist : List BistFind) (since : Nat) (s : State),
    s.inTask n .stow = true ∧
    (s.station (toStn n)).loader = some (3, since) ∧
    s.loaderStands n 3 since = some true) ∧
    (∃ (n : Stn) (bist : List BistFind) (since : Nat) (s : State),
    s.inTask n .retire = true ∧
    (s.station (toStn n)).loader = some (3, since) ∧
    s.loaderStands n 3 since = some true) ∧
    (∃ (n : Stn) (bist : List BistFind) (k since : Nat) (s : State) (c : Instr),
    ((c = .stow n bist ∧ s.inTask n .stow = true) ∨ (c = .retire n bist ∧ s.inTask n .retire = true)) ∧
    (s.station (toStn n)).loader = some (k, since) ∧
    s.loaderStands n k since = some false) ∧
    (∃ (n : Stn) (w : Way) (s : State),
    s.inTask n .seek = true ∧
    s.way n = some w ∧
    w.loc = (s.reg (TASK_ARG n 0)).toNat ∧
    w.first = false ∧
    w.step = .there) ∧
    (∃ (n : Stn) (s : State),
    s.inTask n .spin = true ∧
    s.way n = none) ∧
    (∃ (n : Stn) (w : Way) (s : State),
    s.inTask n .spin = true ∧
    s.way n = some w ∧
    (s.spinState n = (if (s.spin n).on then 4 else 0))) :=
  ⟨⟨1, [], ready.withTask 1 .load [], by decide +kernel, by decide +kernel, by decide +kernel⟩,
  ⟨1, [], 0, loaderState .load 2 3, by decide +kernel, by decide +kernel, by decide +kernel, by decide +kernel⟩,
  ⟨1, [], 0, loaderState .load 4 7, by decide +kernel, by decide +kernel, by decide +kernel, by decide +kernel⟩,
  ⟨1, [], 2, 0, loaderState .load 2 0x10, by decide +kernel, by decide +kernel, by decide +kernel, by decide +kernel⟩,
  (by exact ⟨1, [leadFrame 2 0 [0x42#8]], ⟨0, false, .there, 0, 0, false, 0⟩, (leadFrame 2 0 [0x42#8]).take 4096, (ready.withTask 1 .load []).setStn 1 (fun t => { t with way := some ⟨0, false, .there, 0, 0, false, 0⟩ }), by decide +kernel, by decide +kernel, by decide +kernel, by decide +kernel, leadRecord_of test_leadOk⟩),
  ⟨1, [], ⟨0, false, .there, 0, 0, false, 0⟩, (ready.withTask 1 .load []).setStn 1 (fun t => { t with way := some ⟨0, false, .there, 0, 0, false, 0⟩ }), by decide +kernel, by decide +kernel, by decide +kernel, by decide +kernel, by decide +kernel⟩,
  ⟨1, [], ⟨0, false, .lost, 0, 0, false, 0⟩, (ready.withTask 1 .load []).setStn 1 (fun t => { t with way := some ⟨0, false, .lost, 0, 0, false, 0⟩ }), .load 1 [], by decide +kernel, by decide +kernel, by decide +kernel⟩,
  ⟨1, ⟨0, false, .jumping, 0, 0, false, 2⟩, ready.setFld (SV_JUMP 1) SV_JUMP_STATUS 4, by decide +kernel, by decide +kernel⟩,
  ⟨1, 2048, ready, by decide +kernel, by decide +kernel⟩,
  ⟨1, ready.withTask 1 .park [], by decide +kernel⟩,
  ⟨1, ⟨0, false, .there, 0, 0, false, 0⟩, ((ready.withTask 1 .park []).setStn 1 (fun t => { t with way := some ⟨0, false, .there, 0, 0, false, 0⟩ })).setFldInt (SLD_POS 1) SLD_POS_POS (ready.fldInt (SLD_PMIN 1) SLD_PMIN_PMIN), by decide +kernel, by decide +kernel, by decide +kernel, by decide +kernel⟩,
  ⟨1, ready, by decide +kernel⟩,
  ⟨1, [], ready.withTask 1 .retire [], .retire 1 [], by decide +kernel, by decide +kernel⟩,
  ⟨1, [], 0, loaderState .retire 5 0, .retire 1 [], by decide +kernel, by decide +kernel, by decide +kernel⟩,
  ⟨1, [], 0, loaderState .stow 3 0, by decide +kernel, by decide +kernel, by decide +kernel⟩,
  ⟨1, [], 0, loaderState .retire 3 0, by decide +kernel, by decide +kernel, by decide +kernel⟩,
  ⟨1, [], 5, 0, loaderState .retire 5 0x10, .retire 1 [], by decide +kernel, by decide +kernel, by decide +kernel⟩,
  ⟨1, ⟨0, false, .there, 0, 0, false, 0⟩, (ready.withTask 1 .seek []).setStn 1 (fun t => { t with way := some ⟨0, false, .there, 0, 0, false, 0⟩ }), by decide +kernel, by decide +kernel, by decide +kernel, by decide +kernel, by decide +kernel⟩,
  ⟨1, ready.withTask 1 .spin [], by decide +kernel, by decide +kernel⟩,
  ⟨1, ⟨0, false, .spin, 0, 0, false, 0⟩, (ready.withTask 1 .spin []).setStn 1 (fun t => { t with way := some ⟨0, false, .spin, 0, 0, false, 0⟩ }), by decide +kernel, by decide +kernel, by decide +kernel⟩⟩

/-- States and operands that meet the hypotheses of each clause of BandAndCalibrationTasks. -/
theorem test_bandAndCalibrationTasks :
    (∃ (n : Stn) (p : Parison) (w : Way) (s : State),
    s.inTask n .bandWrite = true ∧
    s.bw? n = none ∧
    (s.ledger.parisons.find? (fun p => p.id == (s.reg (TASK_ARG n 1)).toNat) = some p) ∧
    s.way n = some w ∧
    w.loc = (s.reg (TASK_ARG n 0)).toNat ∧
    w.first = false ∧
    w.step = .there ∧
    s.startTime n 2 3 ≤ s.stamp ∧
    (s.station (toStn n)).slotRun = none) ∧
    (∃ (n : Stn) (p : Parison) (w : Way) (s : State),
    s.inTask n .bandWrite = true ∧
    s.bw? n = none ∧
    (s.ledger.parisons.find? (fun p => p.id == (s.reg (TASK_ARG n 1)).toNat) = some p) ∧
    s.way n = some w ∧
    w.loc = (s.reg (TASK_ARG n 0)).toNat ∧
    w.first = false ∧
    w.step = .lost) ∧
    (∃ (n : Stn) (s : State),
    s.inTask n .bandWrite = true ∧
    s.bw? n = none ∧
    (s.ledger.parisons.find? (fun p => p.id == (s.reg (TASK_ARG n 1)).toNat) = none)) ∧
    (∃ (n : Stn) (w : Way) (s : State),
    s.inTask n .bandRead = true ∧
    s.way n = some w ∧
    w.loc = (s.reg (TASK_ARG n 0)).toNat ∧
    w.first = false ∧
    (w.step = .there ∨ w.step = .lost) ∧
    (s.station (toStn n)).slotRun = none) ∧
    (∃ (n : Stn) (w : Way) (s : State),
    s.inTask n .capture = true ∧
    (s.rd n).cap = none ∧
    s.way n = some w ∧
    w.loc = (s.reg (TASK_ARG n 0)).toNat ∧
    w.first = false ∧
    (w.step = .there ∨ w.step = .lost)) ∧
    (∃ (n : Stn) (s : State),
    s.way n = none) ∧
    (∃ (n : Stn) (m : CalMeas) (s : State),
    s.inTask n .calStep = true ∧
    ((s.reg (TASK_ARG n 0)).toNat ≠ stepLiveOn ∧ (s.reg (TASK_ARG n 0)).toNat ≠ stepLiveOff)) ∧
    (∃ (n : Stn) (m : Option CalMeas) (s : State),
    s.inTask n .calStep = true ∧
    ((s.reg (TASK_ARG n 0)).toNat = stepLiveOn ∨ (s.reg (TASK_ARG n 0)).toNat = stepLiveOff)) :=
  ⟨⟨1, oneParison, ⟨0, false, .there, 0, 0, false, 0⟩, (let s := ((ready.withTask 1 .bandWrite []).setStn 1 (fun t => { t with way := some ⟨0, false, .there, 0, 0, false, 0⟩ })).setReg (TASK_ARG 1 1) 3#32; { s with ledger.parisons := [oneParison] }), by decide +kernel, by decide +kernel, by decide +kernel, by decide +kernel, by decide +kernel, by decide +kernel, by decide +kernel, by decide +kernel, by decide +kernel⟩,
  ⟨1, oneParison, ⟨0, false, .lost, 0, 0, false, 0⟩, (let s := ((ready.withTask 1 .bandWrite []).setStn 1 (fun t => { t with way := some ⟨0, false, .lost, 0, 0, false, 0⟩ })).setReg (TASK_ARG 1 1) 3#32; { s with ledger.parisons := [oneParison] }), by decide +kernel, by decide +kernel, by decide +kernel, by decide +kernel, by decide +kernel, by decide +kernel, by decide +kernel⟩,
  ⟨1, ready.withTask 1 .bandWrite [], by decide +kernel, by decide +kernel, by decide +kernel⟩,
  ⟨1, ⟨0, false, .there, 0, 0, false, 0⟩, (ready.withTask 1 .bandRead []).setStn 1 (fun t => { t with way := some ⟨0, false, .there, 0, 0, false, 0⟩ }), by decide +kernel, by decide +kernel, by decide +kernel, by decide +kernel, by decide +kernel, by decide +kernel⟩,
  ⟨1, ⟨0, false, .there, 0, 0, false, 0⟩, (ready.withTask 1 .capture []).setStn 1 (fun t => { t with way := some ⟨0, false, .there, 0, 0, false, 0⟩ }), by decide +kernel, by decide +kernel, by decide +kernel, by decide +kernel, by decide +kernel, by decide +kernel⟩,
  ⟨1, ready, by decide +kernel⟩,
  ⟨1, ⟨true, 0, [], false, [], [], (0, 0), (0, 0), [], [], false, 0⟩, ready.withTask 1 .calStep [], by decide +kernel, by decide +kernel⟩,
  ⟨1, none, (ready.withTask 1 .calStep []).setReg (TASK_ARG 1 0) (BitVec.ofNat 32 stepLiveOn), by decide +kernel, by decide +kernel⟩⟩

/-- States and operands that meet the hypotheses of each clause of FrameResults. -/
theorem test_frameResults :
    (∃ (n : Stn) (t : Fin 72) (k : Fin 8) (p : Pass) (s : State),
    (s.rd n).pass = some p ∧
    (p.phase = 0 ∧ p.left.contains (t.val, k.val) = true)) ∧
    (∃ (n : Stn) (p : Pass) (t : Nat) (s : State),
    (s.rd n).lookSlot = some t) ∧
    (∃ (n : Stn) (t : Fin 72) (k : Fin 8) (p : Pass) (s : State),
    ((s.look n k).pred = none ∨ ∀ x ∈ s.attempts n p t k, x.2.conv = false ∨ p.checks t k x.2.info = false)) ∧
    (∃ (n : Stn) (q : Fin 8) (t u : Nat) (r : Int) (s : State),
    (s.stream n q).ref = some (u, r)) ∧
    (∃ (n : Stn) (p : Pass) (s : State),
    (s.rd n).pass = some p ∧
    p.phase = 1 ∧
    ({ p with got := p.got ++ (p.recover).map (fun f => { f with single := s.singleLook n }), phase := 2 : Pass }.missing = [] ∨ p.steps ≤ p.step)) ∧
    (∃ (n : Stn) (p : Pass) (s : State),
    (s.rd n).pass = some p ∧
    p.phase = 1 ∧
    ({ p with got := p.got ++ (p.recover).map (fun f => { f with single := s.singleLook n }), phase := 2 : Pass }.missing ≠ []) ∧
    p.step < p.steps) ∧
    (∃ (n : Stn) (p : Pass) (s : State),
    (s.rd n).pass = some p ∧
    p.phase = 2) :=
  ⟨⟨1, 0, 0, onePass 0, readingState 1 0, by decide +kernel, by decide +kernel⟩,
  ⟨1, onePass 0, 7, (readingState 1 0).setRd 1 (fun r => { r with lookSlot := some 7 }), by decide +kernel⟩,
  ⟨1, 0, 0, onePass 0, readingState 1 0, by decide +kernel⟩,
  ⟨1, 0, 1, 0, 77, (readingState 1 0).setStream 1 0 (fun x => { x with ref := some (0, 77) }), by decide +kernel⟩,
  (by exact ⟨1, { onePass 1 with steps := 0 }, (readingState 1 1).setRd 1 (fun r => { r with pass := some { onePass 1 with steps := 0 } }), by decide +kernel, by decide +kernel, .inr (by decide +kernel)⟩),
  ⟨1, onePass 1, readingState 1 1, by decide +kernel, by decide +kernel, by decide +kernel, by decide +kernel⟩,
  ⟨1, onePass 2, readingState 1 2, by decide +kernel, by decide +kernel⟩⟩

/-- States and operands that meet the hypotheses of each clause of CaptureEpochs. -/
theorem test_captureEpochs :
    (∃ (n : Stn) (accept : Bool) (c : Capture) (s : State),
    (s.rd n).cap = some c ∧
    (c.stop.isSome = true ∨ (match s.cmd? c.cmd with | some x => x.ended | none => c.cmd != 2 ^ 64) = true)) ∧
    (∃ (n : Stn) (accept : Bool) (c : Capture) (why : Nat) (s : State),
    (s.rd n).cap = some c ∧
    (c.stop = none ∧ (match s.cmd? c.cmd with | some x => x.ended | none => c.cmd != 2 ^ 64) = false) ∧
    (let E := epochSize c.compand
  let lost := s.lane n (s.servoLane n) ≠ 2 ∨ (s.fld (STN_STAT n) STN_STAT_MAP = 0 ∧ s.lane n (1 - s.servoLane n) ≠ 2) ∨ s.capEpoch n = none
  let direct := accept = true ∧ s.work.ring = [] ∧ (match s.cmd? c.cmd with
    | some x => x.outBytes.isEmpty && (areaPieces x.segsIn (c.k * E) E).all (fun g => s.holds x.fn (s.cmdPasid x) (g.1 / 4096) && s.holds x.fn (s.cmdPasid x) ((g.1 + g.2 - 1) / 4096))
    | none => true) = true
  (lost ∧ why = 1) ∨ (¬ lost ∧ ¬ direct ∧ (s.region 2).2 < s.ringUsed + E ∧ why = 0))) ∧
    (∃ (n : Stn) (accept direct : Bool) (c : Capture) (x : Cmd) (a : PastEpoch) (s : State),
    (s.rd n).cap = some c ∧
    (s.cmd? c.cmd = some x ∧ x.ended = false ∧ c.stop = none) ∧
    (s.lane n (s.servoLane n) = 2 ∧ (s.fld (STN_STAT n) STN_STAT_MAP ≠ 0 ∨ s.lane n (1 - s.servoLane n) = 2)) ∧
    s.capEpoch n = some a ∧
    (direct = (accept && s.work.ring.isEmpty && x.outBytes.isEmpty && (areaPieces x.segsIn (c.k * epochSize c.compand) (epochSize c.compand)).all (fun g =>
    s.holds x.fn (s.cmdPasid x) (g.1 / 4096) && s.holds x.fn (s.cmdPasid x) ((g.1 + g.2 - 1) / 4096)))) ∧
    (direct = true ∨ s.ringUsed + epochSize c.compand ≤ (s.region 2).2)) ∧
    (∃ (c : Capture) (k m why : Nat) (x : Cmd) (s : State),
    c.gap = some (k, m, why) ∧
    s.cmd? c.cmd = some x) ∧
    (∃ (n : Stn) (accept : Bool) (c : Capture) (a : PastEpoch) (s : State),
    (s.rd n).cap = some c ∧
    (c.cmd = 2 ^ 64 ∧ s.cmd? (2 ^ 64) = none ∧ c.stop = none) ∧
    (s.lane n (s.servoLane n) = 2 ∧ (s.fld (STN_STAT n) STN_STAT_MAP ≠ 0 ∨ s.lane n (1 - s.servoLane n) = 2)) ∧
    s.capEpoch n = some a ∧
    ((accept = true ∧ s.work.ring = []) ∨ s.ringUsed + epochSize c.compand ≤ (s.region 2).2)) ∧
    (∃ (id : Nat) (c : Cmd) (e : RingEntry) (rest : List RingEntry) (s : State),
    s.cmd? id = some c ∧
    (capOPC c.caps = 0x18 ∧ c.phase = 2 ∧ c.ended = false ∧ c.outBytes = []) ∧
    s.work.ring = e :: rest ∧
    e.cmd = id) ∧
    (∃ (id : Nat) (c : Cmd) (s : State),
    s.cmd? id = some c ∧
    (capOPC c.caps = 0x18 ∧ c.phase = 2 ∧ c.ended = false ∧ c.outBytes ≠ [])) ∧
    (∃ (id : Nat) (s : State),
    ((match s.cmd? id with
    | none => true
    | some c => capOPC c.caps != 0x18 || c.phase != 2 || c.ended || (c.outBytes.isEmpty && (s.work.ring.head?.map (·.cmd)) != some id)) = true)) :=
  ⟨⟨1, true, { (⟨2 ^ 64, 0, 5, false, 2048, none, 0, 0, none⟩ : Capture) with stop := some 1 }, (capturingState 1).setRd 1 (fun r => { r with cap := some { (⟨2 ^ 64, 0, 5, false, 2048, none, 0, 0, none⟩ : Capture) with stop := some 1 } }), by decide +kernel, by decide +kernel⟩,
  ⟨1, true, ⟨2 ^ 64, 0, 5, false, 2048, none, 0, 0, none⟩, 1, capturingState 1, by decide +kernel, by decide +kernel, by decide +kernel⟩,
  ⟨1, true, true, ⟨9, 0, 5, false, 2048, none, 0, 0, none⟩, oneCmd 9 0x18, ⟨0, 7, false, []⟩, epochState, by decide +kernel, by decide +kernel, by decide +kernel, by decide +kernel, by decide +kernel, by decide +kernel⟩,
  ⟨{ (⟨9, 0, 5, false, 2048, none, 0, 0, none⟩ : Capture) with gap := some (3, 2, 1) }, 3, 2, 1, oneCmd 9 0x18, epochState, by decide +kernel, by decide +kernel⟩,
  ⟨1, false, ⟨2 ^ 64, 0, 5, false, 2048, none, 0, 0, none⟩, ⟨0, 7, false, []⟩, softCapture, by decide +kernel, by decide +kernel, by decide +kernel, by decide +kernel, by decide +kernel⟩,
  ⟨9, { oneCmd 9 0x18 with phase := 2 }, ⟨9, 0, 16, [(0x5000, 16)], 0x6000, zeros 16⟩, [], { ready with work.cmds := [{ oneCmd 9 0x18 with phase := 2 }], work.ring := [⟨9, 0, 16, [(0x5000, 16)], 0x6000, zeros 16⟩] }, by decide +kernel, by decide +kernel, by decide +kernel, by decide +kernel⟩,
  ⟨9, { oneCmd 9 0x18 with phase := 2, outBytes := zeros 4 }, { ready with work.cmds := [{ oneCmd 9 0x18 with phase := 2, outBytes := zeros 4 }] }, by decide +kernel, by decide +kernel⟩,
  ⟨9, ready, by decide +kernel⟩⟩

/-- States and operands that meet the hypotheses of each clause of BandAndPlanSlots. -/
theorem test_bandAndPlanSlots :
    (∃ (n : Stn) (first : Nat) (refused : List (Nat × Nat)) (b : BandWrite) (s : State),
    s.bw? n = some b ∧
    (b.seq = none ∧ b.waitSince = none ∧ s.freshLoc n = s) ∧
    (s.tooHot = false ∧ s.preOk n = true)) ∧
    (∃ (n : Stn) (first : Nat) (refused : List (Nat × Nat)) (b : BandWrite) (s : State),
    s.bw? n = some b ∧
    (b.seq = none ∧ b.waitSince = none ∧ s.freshLoc n = s) ∧
    (s.tooHot = false ∧ s.preOk n = false)) ∧
    (∃ (n : Stn) (first : Nat) (refused : List (Nat × Nat)) (b : BandWrite) (s : State),
    s.bw? n = some b ∧
    (b.seq = none ∧ b.waitSince.isSome = true ∧ s.freshLoc n = s) ∧
    (s.tooHot = false ∧ s.preOk n = true)) ∧
    (∃ (n : Stn) (first : Nat) (refused : List (Nat × Nat)) (b : BandWrite) (s : State),
    s.bw? n = some b ∧
    (b.seq.isSome = true ∧ b.hold = none) ∧
    b.slot < 71) ∧
    (∃ (n : Stn) (first : Nat) (refused : List (Nat × Nat)) (b : BandWrite) (h : Hold) (c : Nat) (s : State),
    s.bw? n = some b ∧
    (b.seq.isSome = true ∧ b.hold = some h ∧ h.cut = some c)) ∧
    (∃ (n : Stn) (bound : Nat) (refused : List (Nat × Nat)) (b : BandWrite) (s : State),
    s.bw? n = some b) ∧
    (∃ (n : Stn) (t : Nat) (ks : List Nat) (b : BandWrite) (s : State),
    s.bw? n = some b ∧
    (b.skipped.contains t = false ∧ t ≤ 63) ∧
    (ks.map (homeIndex t)).filter b.has ≠ []) ∧
    (∃ (n : Stn) (first : Nat) (refused : List (Nat × Nat)) (b : BandWrite) (s : State),
    s.bw? n = some b ∧
    (b.seq.isSome = true ∧ b.hold = none) ∧
    b.slot = 71) ∧
    (∃ (n : Stn) (b : BandWrite) (s : State),
    s.bw? n = some b ∧
    (b.frozen.isSome = true ∧ b.signed = none)) ∧
    (∃ (n : Stn) (j : Fin 32) (b : BandWrite) (s : State),
    s.bw? n = some b ∧
    b.rebuilding.contains j.val = true) ∧
    (∃ (n : Stn) (p : PlanSlot) (rest : List PlanSlot) (s : State),
    ((s.station (toStn n)).planned = true ∧ s.fatal n = false ∧ (s.station (toStn n)).slotRun = none) ∧
    (s.station (toStn n)).plan = p :: rest ∧
    (p.start ≠ 0 ∧ s.stamp < p.start ∧ s.bit CLK_STAT CLK_STAT_UNSET = false)) ∧
    (∃ (n : Stn) (p : PlanSlot) (v s : State),
    ((s.station (toStn n)).planned = true ∧ s.fatal n = false ∧ (s.station (toStn n)).slotRun = some p ∧ (s.station (toStn n)).slotOn = false) ∧
    (p.start = 0 ∨ (p.start ≤ s.stamp ∧ v.bit CLK_STAT CLK_STAT_UNSET = false ∧ v.stamp ≤ p.start + 120000000 / max 1 p.speed)) ∧
    s.approach n (s.reg (TASK_ARG n 0)).toNat = (v, some true) ∧
    p.read = true) ∧
    (∃ (n : Stn) (p : PlanSlot) (s : State),
    (s.station (toStn n)).slotDue = true ∧
    (p.start = 0 ∨ s.stamp ≤ p.start + 120000000 / max 1 p.speed)) ∧
    (∃ (n : Stn) (p : PlanSlot) (s : State),
    (s.station (toStn n)).slotDue = true ∧
    (p.start ≠ 0 ∧ p.start + 120000000 / max 1 p.speed < s.stamp)) ∧
    (∃ (n : Stn) (p : PlanSlot) (t : Task) (q : Parison) (v s : State),
    ((s.station (toStn n)).planned = true ∧ s.fatal n = false ∧ (s.station (toStn n)).slotRun = some p ∧ (s.station (toStn n)).slotOn = false) ∧
    (p.start = 0 ∨ (p.start ≤ s.stamp ∧ v.bit CLK_STAT CLK_STAT_UNSET = false ∧ v.stamp ≤ p.start + 120000000 / max 1 p.speed)) ∧
    s.approach n (s.reg (TASK_ARG n 0)).toNat = (v, some true) ∧
    p.read = false ∧
    ((v.slotSet n p).inHand? n = some t ∧ (v.slotSet n p).taskParison t = some q) ∧
    (((v.slotSet n p).preBitsAt n (p.loc / 2048 * 2048) (fun x => x.1 == p.stab)).all id = true ∧ (v.slotSet n p).tooHot = false)) ∧
    (∃ (n : Stn) (p : PlanSlot) (v s : State) (r : Option Bool),
    ((s.station (toStn n)).planned = true ∧ s.fatal n = false ∧ (s.station (toStn n)).slotRun = some p ∧ (s.station (toStn n)).slotOn = false) ∧
    (p.start = 0 ∨ p.start ≤ s.stamp ∨ s.bit CLK_STAT CLK_STAT_UNSET = true) ∧
    s.approach n (s.reg (TASK_ARG n 0)).toNat = (v, r) ∧
    (r ≠ some true ∨ (p.start ≠ 0 ∧ (v.bit CLK_STAT CLK_STAT_UNSET = true ∨ p.start + 120000000 / max 1 p.speed < v.stamp)))) ∧
    (∃ (n : Stn) (p : PlanSlot) (rest : List PlanSlot) (s : State),
    ((s.station (toStn n)).planned = true ∧ s.fatal n = false ∧ (s.station (toStn n)).slotRun = none) ∧
    (s.station (toStn n)).plan = p :: rest ∧
    (p.start = 0 ∨ p.start ≤ s.stamp ∨ s.bit CLK_STAT CLK_STAT_UNSET = true)) :=
  ⟨⟨1, 0, [], oneBand none 0, goodPlace 1 (writingState 1 none 0), by decide +kernel, by decide +kernel, by decide +kernel⟩,
  ⟨1, 0, [], oneBand none 0, writingState 1 none 0, by decide +kernel, by decide +kernel, by decide +kernel⟩,
  ⟨1, 0, [], { oneBand none 0 with waitSince := some 3 }, goodPlace 1 ((writingState 1 none 0).setBw 1 (fun b => { b with waitSince := some 3 })), by decide +kernel, by decide +kernel, by decide +kernel⟩,
  ⟨1, 0, [], oneBand (some 1) 4, writingState 1 (some 1) 4, by decide +kernel, by decide +kernel, by decide +kernel⟩,
  ⟨1, 0, [], { oneBand (some 1) 5 with hold := some (oneHold (some 5)), holds := 1 }, oneHold (some 5), 5, (writingState 1 (some 1) 5).setBw 1 (fun b => { b with hold := some (oneHold (some 5)), holds := 1 }), by decide +kernel, by decide +kernel⟩,
  ⟨1, 9, [(4, 0)], oneBand (some 1) 4, writingState 1 (some 1) 4, by decide +kernel⟩,
  ⟨1, 0, [0], oneBand (some 1) 0, writingState 1 (some 1) 0, by decide +kernel, by decide +kernel, by decide +kernel⟩,
  ⟨1, 0, [], oneBand (some 1) 71, writingState 1 (some 1) 71, by decide +kernel, by decide +kernel, by decide +kernel⟩,
  ⟨1, { oneBand (some 1) 61 with frozen := some (4, ready.sealNow (oneBand (some 1) 60)) }, (writingState 1 (some 1) 61).setBw 1 (fun b => { b with frozen := some (4, ready.sealNow (oneBand (some 1) 60)) }), by decide +kernel, by decide +kernel⟩,
  ⟨1, 5, { oneBand (some 1) 61 with rebuilding := [5] }, (writingState 1 (some 1) 61).setBw 1 (fun b => { b with rebuilding := [5] }), by decide +kernel, by decide +kernel⟩,
  ⟨1, ⟨true, 24000, 2048, 77, 0, 2 ^ 80, 50, 0⟩, [], (plannedState 1 [⟨true, 24000, 2048, 77, 0, 2 ^ 80, 50, 0⟩]).setBit CLK_STAT CLK_STAT_UNSET false, by decide +kernel, by decide +kernel, by decide +kernel⟩,
  ⟨1, ⟨true, 24000, 2048, 77, 0, 0, 50, 0⟩, takenSlot .bandRead ⟨true, 24000, 2048, 77, 0, 0, 50, 0⟩, takenSlot .bandRead ⟨true, 24000, 2048, 77, 0, 0, 50, 0⟩, by decide +kernel, by decide +kernel, by decide +kernel, by decide +kernel⟩,
  ⟨1, ⟨true, 24000, 2048, 77, 0, 0, 50, 0⟩, (startSlot ⟨true, 24000, 2048, 77, 0, 0, 50, 0⟩).setStn 1 (fun t => { t with slotDue := true }), by decide +kernel, by decide +kernel⟩,
  ⟨1, ⟨true, 24000, 2048, 77, 0, 1, 50, 0⟩, { (takenSlot .bandRead ⟨true, 24000, 2048, 77, 0, 1, 50, 0⟩).setStn 1 (fun t => { t with slotDue := true }) with aon.clock := 10 ^ 9 }, by decide +kernel, by decide +kernel⟩,
  ⟨1, ⟨false, 24000, 2048, 77, 0, 0, 50, 0⟩, writeTask, { oneParison with id := 0 }, writeSlotState, writeSlotState, by decide +kernel, by decide +kernel, by decide +kernel, by decide +kernel, by decide +kernel, by decide +kernel⟩,
  ⟨1, ⟨true, 24000, 2048, 77, 0, 0, 50, 0⟩, lostSlot, lostSlot, some false, by decide +kernel, by decide +kernel, by decide +kernel, by decide +kernel⟩,
  ⟨1, ⟨true, 24000, 2048, 77, 0, 0, 50, 0⟩, [], plannedState 1 [⟨true, 24000, 2048, 77, 0, 0, 50, 0⟩], by decide +kernel, by decide +kernel, by decide +kernel⟩⟩

/-- States and operands that meet the hypotheses of each clause of VerifiedFrames. -/
theorem test_verifiedFrames :
    (∃ (n : Stn) (t : Fin 72) (k : Fin 8) (b : BandWrite) (s : State),
    s.bw? n = some b) ∧
    (∃ (n : Stn) (t : Fin 72) (k : Fin 8) (b : BandWrite) (c : Nat) (s : State),
    (b.starts.find? (fun e => e.1 == t.val) = some (t.val, c))) ∧
    (∃ (n : Stn) (t : Fin 72) (k : Fin 8) (raw : Nat) (off : Int) (b : BandWrite) (s : State),
    s.bw? n = some b ∧
    b.awaited.contains (t.val, k.val) = true ∧
    (raw ≤ 900 ∧ t.val ≤ 63 ∧ b.has (homeIndex t k) = true)) ∧
    (∃ (n : Stn) (t : Fin 72) (k : Fin 8) (conv : Bool) (raw : Nat) (equal : Bool) (off : Int) (b : BandWrite) (z : Nat) (s : State),
    s.bw? n = some b ∧
    b.awaited.contains (t.val, k.val) = true ∧
    (conv = false ∨ 900 < raw ∨ equal = false) ∧
    (t.val ≤ 58 ∧ b.has (homeIndex t k) = true) ∧
    b.freeSpare k = some z) ∧
    (∃ (n : Stn) (t : Fin 72) (k : Fin 8) (conv : Bool) (raw : Nat) (equal : Bool) (off : Int) (b : BandWrite) (s : State),
    s.bw? n = some b ∧
    b.awaited.contains (t.val, k.val) = true ∧
    (conv = false ∨ 900 < raw ∨ equal = false) ∧
    (t.val ≤ 63 ∧ b.has (homeIndex t k) = true) ∧
    (t.val ≤ 58 → b.freeSpare k = none)) ∧
    (∃ (n : Stn) (t : Fin 72) (k : Fin 8) (pass : Bool) (b : BandWrite) (c : Spare) (s : State),
    s.bw? n = some b ∧
    b.awaited.contains (t.val, k.val) = true ∧
    (t.val = 68 ∨ t.val = 69) ∧
    (b.copies.find? (fun x => x.spare == t.val && x.spiral == k.val) = some c)) ∧
    (∃ (n : Stn) (t : Fin 72) (k : Fin 8) (raw : Nat) (off : Int) (b : BandWrite) (s : State),
    s.bw? n = some b ∧
    b.awaited.contains (t.val, k.val) = true ∧
    (raw ≤ 900 ∧ 70 ≤ t.val)) :=
  ⟨⟨1, 0, 0, oneBand (some 1) 4, writingState 1 (some 1) 4, by decide +kernel⟩,
  ⟨1, 0, 0, { oneBand (some 1) 4 with starts := [(0, 9)] }, 9, writingState 1 (some 1) 4, by decide +kernel⟩,
  ⟨1, 0, 0, 900, 5, { oneBand (some 1) 4 with awaited := [(0, 0)] }, (writingState 1 (some 1) 4).setBw 1 (fun b => { b with awaited := [(0, 0)] }), by decide +kernel, by decide +kernel, by decide +kernel⟩,
  ⟨1, 0, 0, true, 901, true, 5, { oneBand (some 1) 4 with awaited := [(0, 0)] }, 68, (writingState 1 (some 1) 4).setBw 1 (fun b => { b with awaited := [(0, 0)] }), by decide +kernel, by decide +kernel, by decide +kernel, by decide +kernel, by decide +kernel⟩,
  ⟨1, 0, 0, false, 0, true, 5, { oneBand (some 1) 70 with awaited := [(0, 0)] }, (writingState 1 (some 1) 70).setBw 1 (fun b => { b with awaited := [(0, 0)] }), by decide +kernel, by decide +kernel, by decide +kernel, by decide +kernel, by decide +kernel⟩,
  ⟨1, 69, 2, false, { oneBand (some 1) 70 with awaited := [(69, 2)], spares := [⟨2, 0, 2, 69, false⟩] }, ⟨2, 0, 2, 69, false⟩, (writingState 1 (some 1) 70).setBw 1 (fun b => { b with awaited := [(69, 2)], spares := [⟨2, 0, 2, 69, false⟩] }), by decide +kernel, by decide +kernel, by decide +kernel, by decide +kernel⟩,
  ⟨1, 70, 7, 3, 5, { oneBand (some 1) 71 with awaited := [(70, 7)] }, (writingState 1 (some 1) 71).setBw 1 (fun b => { b with awaited := [(70, 7)] }), by decide +kernel, by decide +kernel, by decide +kernel⟩⟩

/-- States and operands that meet the hypotheses of each clause of TheWriteHold. -/
theorem test_theWriteHold :
    (∃ (n : Stn) (b : BandWrite) (h : Hold) (s : State),
    s.bw? n = some b ∧
    (b.hold = some h ∧ h.cut = none) ∧
    (b.slot ≠ 71 ∧ b.holds = 1)) ∧
    (∃ (n : Stn) (b : BandWrite) (h : Hold) (s : State),
    s.bw? n = some b ∧
    (b.hold = some h ∧ h.cut = none) ∧
    (b.slot < 63 ∧ 2 ≤ b.holds)) ∧
    (∃ (n : Stn) (b : BandWrite) (h : Hold) (s : State),
    s.bw? n = some b ∧
    (b.hold = some h ∧ h.cut = none) ∧
    (63 ≤ b.slot ∧ b.slot ≠ 71 ∧ 2 ≤ b.holds)) ∧
    (∃ (n : Stn) (b : BandWrite) (h : Hold) (s : State),
    s.bw? n = some b ∧
    (b.hold = some h ∧ h.cut = none) ∧
    b.slot = 71) ∧
    (∃ (n : Stn) (b : BandWrite) (h : Hold) (s : State),
    s.bw? n = some b ∧
    (b.hold = some h ∧ h.cut = none) ∧
    b.slot ≠ 71) ∧
    (∃ (n : Stn) (b : BandWrite) (h : Hold) (s : State),
    s.bw? n = some b ∧
    (b.hold = some h ∧ h.cut.isSome = true ∧ h.adjusted = false)) ∧
    (∃ (n : Stn) (b : BandWrite) (h : Hold) (c : Nat) (s : State),
    s.bw? n = some b ∧
    (b.hold = some h ∧ h.cut = some c ∧ h.recovered = false ∧ h.long = false)) ∧
    (∃ (n : Stn) (first : Nat) (refused : List (Nat × Nat)) (b c : BandWrite) (h : Hold) (s : State),
    s.bw? n = some b ∧
    (b.seq.isSome = true ∧ b.hold = some h ∧ h.cut.isSome = true ∧ h.recovered = true ∧ h.adjusted = true) ∧
    (s.refuse n (readBound (h.resumeAt - 1)) refused).bw? n = some c ∧
    freezeOk (s.refuse n (readBound (h.resumeAt - 1)) refused).now h.resumeAt c.frozen = true) ∧
    (∃ (n : Stn) (first : Nat) (refused : List (Nat × Nat)) (b : BandWrite) (h : Hold) (s : State),
    s.bw? n = some b ∧
    (b.seq.isSome = true ∧ b.hold = some h ∧ h.cut.isSome = true ∧ h.recovered = false)) ∧
    (∃ (n : Stn) (b : BandWrite) (s : State),
    s.bw? n = some b ∧
    ((b.hold.isSome = true ∧ b.hold.all (fun h => !h.recovered) = true) ∨ (b.waitSince.isSome = true ∧ b.seq = none))) :=
  ⟨⟨1, { oneBand (some 1) 5 with hold := some (oneHold none), holds := 1 }, oneHold none, (writingState 1 (some 1) 5).setBw 1 (fun b => { b with hold := some (oneHold none), holds := 1 }), by decide +kernel, by decide +kernel, by decide +kernel⟩,
  ⟨1, { oneBand (some 1) 5 with hold := some (oneHold none), holds := 2 }, oneHold none, (writingState 1 (some 1) 5).setBw 1 (fun b => { b with hold := some (oneHold none), holds := 2 }), by decide +kernel, by decide +kernel, by decide +kernel⟩,
  ⟨1, { oneBand (some 1) 65 with hold := some (oneHold none), holds := 2 }, oneHold none, (writingState 1 (some 1) 65).setBw 1 (fun b => { b with hold := some (oneHold none), holds := 2 }), by decide +kernel, by decide +kernel, by decide +kernel⟩,
  ⟨1, { oneBand (some 1) 71 with hold := some (oneHold none), holds := 1 }, oneHold none, (writingState 1 (some 1) 71).setBw 1 (fun b => { b with hold := some (oneHold none), holds := 1 }), by decide +kernel, by decide +kernel, by decide +kernel⟩,
  ⟨1, { oneBand (some 1) 5 with hold := some (oneHold none), holds := 1 }, oneHold none, (writingState 1 (some 1) 5).setBw 1 (fun b => { b with hold := some (oneHold none), holds := 1 }), by decide +kernel, by decide +kernel, by decide +kernel⟩,
  ⟨1, { oneBand (some 1) 5 with hold := some (oneHold (some 5)), holds := 1 }, oneHold (some 5), (writingState 1 (some 1) 5).setBw 1 (fun b => { b with hold := some (oneHold (some 5)), holds := 1 }), by decide +kernel, by decide +kernel⟩,
  ⟨1, { oneBand (some 1) 62 with hold := some (oneHold (some 62)), holds := 1 }, oneHold (some 62), 62, (writingState 1 (some 1) 62).setBw 1 (fun b => { b with hold := some (oneHold (some 62)), holds := 1 }), by decide +kernel, by decide +kernel⟩,
  ⟨1, 0, [], { oneBand (some 1) 5 with hold := some ⟨[1], 0, some 5, true, true, false, 0⟩, holds := 1 }, { oneBand (some 1) 5 with hold := some ⟨[1], 0, some 5, true, true, false, 0⟩, holds := 1, readTo := 9 }, ⟨[1], 0, some 5, true, true, false, 0⟩, (writingState 1 (some 1) 5).setBw 1 (fun b => { b with hold := some ⟨[1], 0, some 5, true, true, false, 0⟩, holds := 1 }), by decide +kernel, by decide +kernel, by decide +kernel, by decide +kernel⟩,
  ⟨1, 0, [], { oneBand (some 1) 5 with hold := some (oneHold (some 5)), holds := 1 }, oneHold (some 5), (writingState 1 (some 1) 5).setBw 1 (fun b => { b with hold := some (oneHold (some 5)), holds := 1 }), by decide +kernel, by decide +kernel⟩,
  ⟨1, { oneBand (some 1) 5 with hold := some (oneHold (some 5)), holds := 1 }, (writingState 1 (some 1) 5).setBw 1 (fun b => { b with hold := some (oneHold (some 5)), holds := 1 }), by decide +kernel, by decide +kernel⟩⟩

/-- States and operands that meet the hypotheses of each clause of LiveCalibrationAndTimeouts. -/
theorem test_liveCalibrationAndTimeouts :
    (∃ (n : Stn) (ys : Vector (List Int) 16) (s : State),
    ((s.fld CAL_CTL CAL_CTL_LIVE).testBit n = true ∧ s.inTask n .calStep = false) ∧
    ((s.rd n).pass.isSome = true ∨ (s.bw? n).any (fun b => b.seq.isSome) = true)) ∧
    (∃ (n : Stn) (ys : Vector (List Int) 16) (s : State),
    ((s.fld CAL_CTL CAL_CTL_LIVE).testBit n = false ∨ s.inTask n .calStep = true ∨ ((s.rd n).pass = none ∧ s.bw? n = none))) ∧
    (∃ (n : Stn) (lead : BitVec 22) (new : SMap Int) (s : State),
    (s.scal n).shadow = some new ∧
    (((s.rd n).pass = none ∧ s.bw? n = none) ∨ 71 * 40144 ≤ lead.toNat ∨ (80 ≤ lead.toNat % 40144 ∧ lead.toNat % 40144 < 240))) ∧
    (∃ (n : Stn) (lead : BitVec 22) (s : State),
    (s.rd n).pass.isSome = true ∧
    (lead.toNat < 71 * 40144 ∧ (lead.toNat % 40144 < 80 ∨ 240 ≤ lead.toNat % 40144))) ∧
    (∃ (n : Stn) (s : State),
    (s.inTask n .calStep = true ∧ (s.scal n).measuring = true)) ∧
    (∃ (id step : Nat) (s : State),
    s.cal.running = some (id, step)) ∧
    (∃ (s : State),
    s.cal.running = none) :=
  ⟨⟨1, Vector.replicate 16 [-25165824, -20971520], (readingState 1 0).setFld CAL_CTL CAL_CTL_LIVE 2, by decide +kernel, by decide +kernel⟩,
  ⟨1, Vector.replicate 16 [], ready, by decide +kernel⟩,
  ⟨1, 0#22, [(3, 5)], ready.setCal 1 (fun c => { c with shadow := some [(3, 5)] }), by decide +kernel, by decide +kernel⟩,
  ⟨1, 40144#22, (readingState 1 0).setCal 1 (fun c => { c with shadow := some [(3, 5)] }), by decide +kernel, by decide +kernel⟩,
  ⟨1, (ready.withTask 1 .calStep []).setCal 1 (fun c => { c with measuring := true }), by decide +kernel⟩,
  ⟨9, 1, { ready with cal.running := some (9, 1), work.cmds := [oneCmd 9 0x19] }, by decide +kernel⟩,
  ⟨ready, by decide +kernel⟩⟩

/-- States and operands that meet the hypotheses of each clause of QueueSetUp. -/
theorem test_queueSetUp :
    (∃ (f : Fn) (k : RingNo) (word : Option (BitVec 64)) (s : State),
    Reaches s f (qsKey f 0x18 % 2 ^ 24) ∧
    s.bit (QS_STAT f) QS_STAT_BUSY = false) ∧
    (∃ (f : Fn) (k : RingNo) (word : Option (BitVec 64)) (s : State) (c : Instr),
    Reaches s f (qsKey f 0x18 % 2 ^ 24) ∧
    s.bit (QS_STAT f) QS_STAT_BUSY = true ∧
    c ∈ [Instr.createCq f k word, .createSq f k word, .deleteSq f k, .deleteCq f k]) ∧
    (∃ (f : Fn) (k : RingNo) (word : Option (BitVec 64)) (u s : State),
    Reaches s f (qsKey f 0x18 % 2 ^ 24) ∧
    s.bit (QS_STAT f) QS_STAT_BUSY = false ∧
    u = ((s.setReg (QS_CMD f) (qsWord 1 k &&& 0x00FF00FF#32)).setBit (QS_STAT f) QS_STAT_BUSY true).lockFeatures f ∧
    (u.createOk f = true ∧ u.cq? f k = none ∧ u.cqUsed f < u.fld (QS_LIM f) QS_LIM_CQ_MAX ∧ u.rings.cqs.length < 1024) ∧
    (u.qsArg f 3 &&& 0x7F00FF00 = 0 ∧ u.qsArg f 4 < 65536 ∧ u.qsArg f 3 % 256 < u.vecCount f)) ∧
    (∃ (f : Fn) (k : RingNo) (word : Option (BitVec 64)) (u s : State),
    Reaches s f (qsKey f 0x18 % 2 ^ 24) ∧
    s.bit (QS_STAT f) QS_STAT_BUSY = false ∧
    u = ((s.setReg (QS_CMD f) (qsWord 2 k &&& 0x00FF00FF#32)).setBit (QS_STAT f) QS_STAT_BUSY true).lockFeatures f ∧
    (u.createOk f = true ∧ u.sq? f k = none ∧ u.sqUsed f < u.fld (QS_LIM f) QS_LIM_SQ_MAX ∧ u.rings.sqs.length < 1024) ∧
    (u.bit (QS_SH_LO f) QS_SH_LO_VALID = true ∧ u.qsArg f 3 < 2048 ∧ u.qsArg f 4 = 0 ∧ u.qsArg f 3 / 256 % 4 ≠ 3) ∧
    (u.cq? f (u.qsArg f 3 % 256)).isSome = true ∧
    ((u.qsArg f 3 / 256 % 4 = 1 → u.accepted f featSchuss = true) ∧ (u.qsArg f 3 / 1024 % 2 = 1 → u.accepted f featChained = true))) ∧
    (∃ (f : Fn) (k : RingNo) (q : Sq) (u s : State),
    Reaches s f (qsKey f 0x18 % 2 ^ 24) ∧
    s.bit (QS_STAT f) QS_STAT_BUSY = false ∧
    u = (s.setReg (QS_CMD f) (qsWord 3 k &&& 0x00FF00FF#32)).setBit (QS_STAT f) QS_STAT_BUSY true ∧
    u.sq? f k = some q) ∧
    (∃ (f : Fn) (k : RingNo) (q : Sq) (u s : State),
    Reaches s f (qsKey f 0x18 % 2 ^ 24) ∧
    s.bit (QS_STAT f) QS_STAT_BUSY = false ∧
    u = (s.setReg (QS_CMD f) (qsWord 3 k &&& 0x00FF00FF#32)).setBit (QS_STAT f) QS_STAT_BUSY true ∧
    (u.sq? f k = some q ∧ q.fetch = 0 ∧ u.rings.deleting = []) ∧
    (u.work.cmds.any (fun c => c.fn == f.val && c.sq == k.val && !c.mute) = false) ∧
    (u.rings.cqs.any (fun e => e.1 / 256 == f.val && e.2.waiting.any (fun w => w.sq == k.val)) = false)) ∧
    (∃ (f : Fn) (k : RingNo) (u s : State),
    Reaches s f (qsKey f 0x18 % 2 ^ 24) ∧
    s.bit (QS_STAT f) QS_STAT_BUSY = false ∧
    u = (s.setReg (QS_CMD f) (qsWord 4 k &&& 0x00FF00FF#32)).setBit (QS_STAT f) QS_STAT_BUSY true ∧
    (u.cq? f k).isSome = true ∧
    (u.rings.sqs.any (fun e => e.1 / 256 == f.val && e.2.cq == k.val) = false)) ∧
    (∃ (f : Fn) (k : RingNo) (s : State),
    (s.cq? f k = none ∨ s.rings.sqs.any (fun e => e.1 / 256 == f.val && e.2.cq == k.val) = true)) :=
  ⟨⟨0, 5, none, createState, reaches_of (by decide +kernel), by decide +kernel⟩,
  ⟨0, 5, none, createState.setBit (QS_STAT 0) QS_STAT_BUSY true, .deleteSq 0 5, reaches_of (by decide +kernel), by decide +kernel, by decide +kernel⟩,
  ⟨0, 5, none, (((createState).setReg (QS_CMD 0) (qsWord 1 5 &&& 0x00FF00FF#32)).setBit (QS_STAT 0) QS_STAT_BUSY true).lockFeatures 0, createState, reaches_of (by decide +kernel), by decide +kernel, by decide +kernel, by decide +kernel, by decide +kernel⟩,
  ⟨0, 5, none, (((createSqState).setReg (QS_CMD 0) (qsWord 2 5 &&& 0x00FF00FF#32)).setBit (QS_STAT 0) QS_STAT_BUSY true).lockFeatures 0, createSqState, reaches_of (by decide +kernel), by decide +kernel, by decide +kernel, by decide +kernel, by decide +kernel, by decide +kernel, by decide +kernel⟩,
  ⟨0, 1, oneSq, ((ringState).setReg (QS_CMD 0) (qsWord 3 1 &&& 0x00FF00FF#32)).setBit (QS_STAT 0) QS_STAT_BUSY true, ringState, reaches_of (by decide +kernel), by decide +kernel, by decide +kernel, by decide +kernel⟩,
  ⟨0, 1, oneSq, ((ringState).setReg (QS_CMD 0) (qsWord 3 1 &&& 0x00FF00FF#32)).setBit (QS_STAT 0) QS_STAT_BUSY true, ringState, reaches_of (by decide +kernel), by decide +kernel, by decide +kernel, by decide +kernel, by decide +kernel, by decide +kernel⟩,
  ⟨0, 2, (({ ringState with rings.sqs := [] }).setReg (QS_CMD 0) (qsWord 4 2 &&& 0x00FF00FF#32)).setBit (QS_STAT 0) QS_STAT_BUSY true, { ringState with rings.sqs := [] }, reaches_of (by decide +kernel), by decide +kernel, by decide +kernel, by decide +kernel, by decide +kernel⟩,
  ⟨0, 2, ringState, by decide +kernel⟩⟩

/-- States and operands that meet the hypotheses of each clause of PollsAndDoorbells. -/
theorem test_pollsAndDoorbells :
    (∃ (f : Fn) (sch : Bool) (s : State),
    s.mayPoll f = true ∧
    s.holds f (s.qsPasid f) (s.dbBase f / 4096) = true) ∧
    (∃ (f : Fn) (sch : Bool) (s : State),
    s.mayPoll f = true ∧
    s.holds f (s.qsPasid f) (s.dbBase f / 4096) = false) ∧
    (∃ (f : Fn) (sch : Bool) (s : State),
    s.mayPoll f = false) ∧
    (∃ (f : Fn) (k : RingNo) (w : BitVec 64) (q : Sq) (s : State),
    s.sq? f k = some q ∧
    (q.lastWord ≠ some w ∨ q.ignored = true) ∧
    (w.toNat / 65536 = SMap.getD s.rings.sqEpoch 0 (ringKey f k) ∧ w.toNat % 65536 < q.size) ∧
    (q.tail + q.size - s.fld (SQ_STAT f k) SQ_STAT_HEAD) % q.size ≤ (w.toNat % 65536 + q.size - s.fld (SQ_STAT f k) SQ_STAT_HEAD) % q.size) ∧
    (∃ (f : Fn) (k : RingNo) (w : BitVec 64) (q : Sq) (s : State),
    s.sq? f k = some q ∧
    (q.lastWord ≠ some w ∨ q.ignored = true) ∧
    sqTakes q (SMap.getD s.rings.sqEpoch 0 (ringKey f k)) (s.fld (SQ_STAT f k) SQ_STAT_HEAD) w = false) ∧
    (∃ (f : Fn) (k : RingNo) (w : BitVec 64) (q : Sq) (s : State),
    (s.sq? f k = some q ∧ q.lastWord = some w ∧ q.ignored = false)) ∧
    (∃ (f : Fn) (k : RingNo) (w : BitVec 64) (q : Cq) (s : State),
    (s.cq? f k = some q ∧ q.lastWord = some w ∧ q.ignored = false)) ∧
    (∃ (f : Fn) (k : RingNo) (w : BitVec 64) (q : Cq) (s : State),
    s.cq? f k = some q ∧
    (q.lastWord ≠ some w ∨ q.ignored = true) ∧
    cqTakes q (SMap.getD s.rings.cqEpoch 0 (ringKey f k)) (s.fld (CQ_STAT f k) CQ_STAT_TAIL) w = false) ∧
    (∃ (f : Fn) (k : RingNo) (w : BitVec 64) (q : Cq) (s : State),
    s.cq? f k = some q ∧
    (q.lastWord ≠ some w ∨ q.ignored = true) ∧
    (w.toNat / 65536 = SMap.getD s.rings.cqEpoch 0 (ringKey f k) ∧ w.toNat % 65536 < q.size) ∧
    (w.toNat % 65536 + q.size - q.head) % q.size ≤ (s.fld (CQ_STAT f k) CQ_STAT_TAIL + q.size - q.head) % q.size) ∧
    (∃ (f : Fn) (k : RingNo) (q : Sq) (s : State),
    s.sq? f k = some q ∧
    q.shadowDue = true ∧
    (s.mayPost f = true ∧ s.bit (QS_FLT f) QS_FLT_SH_FAULT = false ∧ s.holds f (s.qsPasid f) (s.shPage f k) = true)) ∧
    (∃ (f : Fn) (k : RingNo) (s : State),
    (s.mayPost f = false ∨ s.bit (QS_FLT f) QS_FLT_SH_FAULT = true)) ∧
    (∃ (f : Fn) (s : State),
    (∀ e ∈ s.rings.cqs, e.1 / 256 = f.val → s.bit (CQ_STAT f (e.1 % 256)) CQ_STAT_FULL = false)) :=
  ⟨⟨0, false, ringState, by decide +kernel, by decide +kernel⟩,
  ⟨0, false, ringState.setFunc 0 (fun g => { g with ats := true }), by decide +kernel, by decide +kernel⟩,
  ⟨0, false, ready, by decide +kernel⟩,
  ⟨0, 1, 0x1003F#64, oneSq, ringState, by decide +kernel, by decide +kernel, by decide +kernel, by decide +kernel⟩,
  ⟨0, 1, 0x10040#64, oneSq, ringState, by decide +kernel, by decide +kernel, by decide +kernel⟩,
  ⟨0, 1, 0x10005#64, { oneSq with lastWord := some 0x10005#64 }, ringState.putSq 0 1 { oneSq with lastWord := some 0x10005#64 }, by decide +kernel⟩,
  ⟨0, 2, 0x10005#64, { oneCq with lastWord := some 0x10005#64 }, ringState.putCq 0 2 { oneCq with lastWord := some 0x10005#64 }, by decide +kernel⟩,
  ⟨0, 2, 0x20000#64, oneCq, ringState, by decide +kernel, by decide +kernel, by decide +kernel⟩,
  ⟨0, 2, 0x10002#64, oneCq, ringState.setFld (CQ_STAT 0 2) CQ_STAT_TAIL 5, by decide +kernel, by decide +kernel, by decide +kernel, by decide +kernel⟩,
  ⟨0, 1, { oneSq with shadowDue := true }, ringState.putSq 0 1 { oneSq with shadowDue := true }, by decide +kernel, by decide +kernel, by decide +kernel⟩,
  ⟨0, 1, (ringState.putSq 0 1 { oneSq with shadowDue := true }).setFunc 0 (fun g => { g with d3hot := true }), by decide +kernel⟩,
  ⟨0, ringState, by decide +kernel⟩⟩

/-- States and operands that meet the hypotheses of each clause of CompletionEntries. -/
theorem test_completionEntries :
    (∃ (f : Fn) (k : RingNo) (q : Cq) (e : Entry) (rest : List Entry) (s : State),
    s.cq? f k = some q ∧
    (q.waiting = e :: rest ∧ e.kind = 0 ∧ e.log = none) ∧
    (s.isOn domHOST = true ∧ s.isOn domCORE = true ∧ s.mayPost f = true ∧ s.cqRoom f k q = true) ∧
    (s.bit (QS_FLT f) QS_FLT_SH_FAULT = false ∨ (∀ x, s.sq? f e.sq = some x → x.shadowDue = false)) ∧
    (s.shadowWaits f e.sq = false ∧ s.holds f q.pasid (s.cqPage f k q) = true)) ∧
    (∃ (f : Fn) (k : RingNo) (q : Cq) (e : Entry) (rest : List Entry) (s : State),
    s.cq? f k = some q ∧
    q.waiting = e :: rest ∧
    (s.isOn domHOST = true ∧ s.isOn domCORE = true ∧ s.mayPost f = true ∧ s.cqRoom f k q = true) ∧
    (s.bit (QS_FLT f) QS_FLT_SH_FAULT = false ∨ (∀ x, s.sq? f e.sq = some x → x.shadowDue = false)) ∧
    (s.shadowWaits f e.sq = false ∧ s.holds f q.pasid (s.cqPage f k q) = false)) ∧
    (∃ (f : Fn) (k : RingNo) (ok : Bool) (q : Cq) (s : State),
    s.cq? f k = some q ∧
    q.waiting ≠ [] ∧
    (s.isOn domHOST = true ∧ s.isOn domCORE = true) ∧
    s.cqRoom f k q = false) ∧
    (∃ (f : Fn) (k : RingNo) (ok : Bool) (q : Cq) (e : Entry) (rest : List Entry) (x : Sq) (s : State),
    s.cq? f k = some q ∧
    q.waiting = e :: rest ∧
    (s.isOn domHOST = true ∧ s.isOn domCORE = true) ∧
    (s.bit (QS_FLT f) QS_FLT_SH_FAULT = true ∧ (s.func f).shWait = true ∧ s.sq? f e.sq = some x ∧ x.shadowDue = true)) ∧
    (∃ (f : Fn) (k : RingNo) (q : Cq) (e : Entry) (rest : List Entry) (s : State),
    s.cq? f k = some q ∧
    q.waiting = e :: rest ∧
    (s.isOn domHOST = true ∧ s.isOn domCORE = true ∧ s.mayPost f = true ∧ s.cqRoom f k q = true) ∧
    (s.bit (QS_FLT f) QS_FLT_SH_FAULT = false ∨ (∀ x, s.sq? f e.sq = some x → x.shadowDue = false))) ∧
    (∃ (f : Fn) (k : RingNo) (q : Cq) (s : State),
    s.cq? f k = some q ∧
    (q.ien = true ∧ 0 < q.unsignalled)) :=
  ⟨⟨0, 2, { oneCq with waiting := [oneEntry] }, oneEntry, [], postState, by decide +kernel, by decide +kernel, by decide +kernel, by decide +kernel, by decide +kernel⟩,
  ⟨0, 2, { oneCq with waiting := [oneEntry] }, oneEntry, [], postState.setFunc 0 (fun g => { g with ats := true }), by decide +kernel, by decide +kernel, by decide +kernel, by decide +kernel, by decide +kernel⟩,
  ⟨0, 2, true, { oneCq with waiting := [oneEntry] }, postState.setFld (CQ_STAT 0 2) CQ_STAT_TAIL 63, by decide +kernel, by decide +kernel, by decide +kernel, by decide +kernel⟩,
  ⟨0, 2, true, { oneCq with waiting := [oneEntry] }, oneEntry, [], { oneSq with shadowDue := true }, ((postState.putSq 0 1 { oneSq with shadowDue := true }).setBit (QS_FLT 0) QS_FLT_SH_FAULT true).setFunc 0 (fun g => { g with shWait := true }), by decide +kernel, by decide +kernel, by decide +kernel, by decide +kernel⟩,
  ⟨0, 2, { oneCq with waiting := [oneEntry] }, oneEntry, [], postState, by decide +kernel, by decide +kernel, by decide +kernel, by decide +kernel⟩,
  ⟨0, 2, ⟨0x100000, 64, true, 4, 3, 9, none, 0, none, [], 2, false⟩, ringState.putCq 0 2 ⟨0x100000, 64, true, 4, 3, 9, none, 0, none, [], 2, false⟩, by decide +kernel, by decide +kernel⟩⟩

/-- States and operands that meet the hypotheses of each clause of TheDispatcher. -/
theorem test_theDispatcher :
    (∃ (n : Stn) (t : Task) (turn : Option Bool) (s : State),
    (s.work.tasks.any (fun t => t.stn == n.val) = true ∧ s.isOn (domSTN n) = true) ∧
    (s.work.hold && s.bit (SEQ_BANK n) SEQ_BANK_PEND) = false ∧
    (s.bit (TASK_STATUS n) TASK_STATUS_BUSY = false ∧ s.bit (TASK_STATUS n) TASK_STATUS_SUSP = false) ∧
    s.nextTask n = some (t, turn)) ∧
    (∃ (n : Stn) (s : State),
    (s.work.tasks.any (fun t => t.stn == n.val) = true) ∧
    s.isOn (domSTN n) = false) ∧
    (∃ (n : Stn) (s : State),
    (s.work.tasks.any (fun t => t.stn == n.val) = true ∧ s.isOn (domSTN n) = true) ∧
    (s.work.hold = true ∧ s.bit (SEQ_BANK n) SEQ_BANK_PEND = true)) ∧
    (∃ (n : Stn) (s : State),
    (s.work.tasks.any (fun t => t.stn == n.val) = true ∧ s.isOn (domSTN n) = true) ∧
    (s.work.hold && s.bit (SEQ_BANK n) SEQ_BANK_PEND) = false ∧
    s.bit (TASK_STATUS n) TASK_STATUS_BUSY = true) ∧
    (∃ (id : Nat) (c : Cmd) (s : State),
    s.cmd? id = some c ∧
    (c.started = false ∧ c.ended = false ∧ s.cmdCls c ≠ 1 ∧ c.admitted + 500000 ≤ s.now)) ∧
    (∃ (id : Nat) (c : Cmd) (hs : List Nat) (v : State) (s : State),
    s.cmd? id = some c ∧
    (c.phase = 7 ∧ c.ended = false ∧ c.held = false ∧ c.reserved = false) ∧
    (bufNeed c.caps ≠ [] ∧ s.work.cmds.any (fun x => decide (x.id < id) && !x.ended && !x.held && x.phase == 7 && !x.reserved && s.cmdCls x == s.cmdCls c) = false) ∧
    s.allocAll (bufNeed c.caps) (s.cmdCls c == 1) = (some hs, v)) ∧
    (∃ (id : Nat) (p : Parison) (s : State),
    (s.ledger.parisons.find? (fun p => p.id == id) = some p) ∧
    (p.due = false ∧ p.blocks ≠ [])) :=
  ⟨⟨1, ⟨3, 1, .park, [], 0, 0, [], false, [], false⟩, none, { ready with work.tasks := [⟨3, 1, .park, [], 0, 0, [], false, [], false⟩] }, by decide +kernel, by decide +kernel, by decide +kernel, by decide +kernel⟩,
  ⟨1, { ready.setDom (domSTN 1) 2 with work.tasks := [⟨3, 1, .park, [], 0, 0, [], false, [], false⟩] }, by decide +kernel, by decide +kernel⟩,
  ⟨1, ({ ready with work.tasks := [⟨3, 1, .park, [], 0, 0, [], false, [], false⟩], work.hold := true } : State).setBit (SEQ_BANK 1) SEQ_BANK_PEND true, by decide +kernel, by decide +kernel⟩,
  ⟨1, { busy 1 with work.tasks := [⟨3, 1, .park, [], 0, 0, [], false, [], false⟩] }, by decide +kernel, by decide +kernel, by decide +kernel⟩,
  ⟨9, oneCmd 9 1, { ringState with work.cmds := [oneCmd 9 1], now := 500000 }, by decide +kernel, by decide +kernel⟩,
  (by exact ⟨9, waitCmd, [2 ^ 30], (waitState.allocAll (bufNeed waitCmd.caps) (waitState.cmdCls waitCmd == 1)).2, waitState, by decide +kernel⟩),
  ⟨3, { oneParison with due := false }, { ready with ledger.parisons := [{ oneParison with due := false }] }, by decide +kernel, by decide +kernel⟩⟩

/-- States and operands that meet the hypotheses of each clause of LifeCycleCommands. -/
theorem test_lifeCycleCommands :
    (∃ (len : BitVec 13) (token : Bytes) (s : State),
    Reaches s 0 LC_CMD.key) ∧
    (∃ (len : Nat) (s : State),
    ((s.reg LC_TOK_LO).toNat + 2 ^ 32 * (s.reg LC_TOK_HI).toNat) % 4096 + 256 ≤ 4096 ∧
    (s.holds 0 none (((s.reg LC_TOK_LO).toNat + 2 ^ 32 * (s.reg LC_TOK_HI).toNat) / 4096) = true ∧ s.holds 0 none (((s.reg LC_TOK_LO).toNat + 2 ^ 32 * (s.reg LC_TOK_HI).toNat + 128) / 4096) = true)) ∧
    (∃ (op len : Nat) (tok : Bytes) (s : State),
    ((op = 1 ∧ s.sec.lc ≠ 0) ∨ (op = 2 ∧ (s.sec.lc ≠ 1 ∨ s.bit LC_STAT LC_STAT_CERT = false)) ∨ (op = 3 ∧ s.sec.lc ≠ 2) ∨ (op = 4 ∧ s.sec.lc = 4)
  ∨ (op = 5 ∧ s.sec.lc ≠ 1 ∧ s.sec.lc ≠ 3) ∨ (op = 6 ∧ s.sec.lc ≠ 2) ∨ (op = 8 ∧ (s.sec.lc ≠ 1 ∨ len = 0 ∨ 4096 < len))
  ∨ (op = 9 ∧ (s.sec.lc ≠ 2 ∨ s.sec.ownerDig ≠ none)) ∨ op = 0 ∨ 9 < op)) ∧
    (∃ (op len : Nat) (tok : Bytes) (s : State),
    ((op = 3 ∧ s.sec.lc = 2 ∧ s.sec.ownerDig ≠ none) ∨ (op = 4 ∧ s.sec.lc ≠ 4)) ∧
    s.anyVault = true) ∧
    (∃ (len : Nat) (tok : Bytes) (s : State),
    (s.sec.lc = 0 ∧ s.sec.entropyOk = true)) ∧
    (∃ (len : Nat) (tok : Bytes) (s : State),
    (s.sec.lc = 1 ∧ s.bit LC_STAT LC_STAT_CERT = true)) ∧
    (∃ (len : Nat) (tok : Bytes) (s : State),
    (s.sec.lc = 2 ∧ s.sec.ownerDig ≠ none ∧ s.anyVault = false)) ∧
    (∃ (len : Nat) (tok : Bytes) (s : State),
    (s.sec.lc = 1 ∨ s.sec.lc = 3)) ∧
    (∃ (len : Nat) (tok : Bytes) (s : State),
    s.sec.lc = 2) ∧
    (∃ (len : Nat) (tok : Bytes) (s : State),
    (s.sec.lc ≠ 4 ∧ (s.sec.lc = 2 → s.sec.ownerDig = none) ∧ s.anyVault = false)) ∧
    (∃ (len : Nat) (tok : Bytes) (s : State),
    (s.sec.lc = 2 ∧ s.sec.ownerDig ≠ none ∧ s.anyVault = false)) ∧
    (∃ (len : Nat) (tok : Bytes) (s : State),
    (s.sec.lc = 1 ∧ 1 ≤ len ∧ len ≤ 4096)) ∧
    (∃ (len : Nat) (tok : Bytes) (s : State),
    (s.sec.lc = 2 ∧ s.sec.ownerDig = none)) :=
  ⟨⟨5, [], ready, reaches_of (by decide +kernel)⟩,
  ⟨256, ready, by decide +kernel, by decide +kernel⟩,
  ⟨9, 32, [], ready, by decide +kernel⟩,
  ⟨4, 0, [], { ready with ledger.vaults := [oneVault 1] }, by decide +kernel, by decide +kernel⟩,
  ⟨64, zeros 64, ready, by decide +kernel⟩,
  ⟨128, [], ({ ready with sec.lc := 1 } : State).setBit LC_STAT LC_STAT_CERT true, by decide +kernel⟩,
  ⟨256, [], { ready with sec.lc := 2, sec.ownerDig := some [] }, by decide +kernel⟩,
  ⟨128, [], { ready with sec.lc := 3 }, by decide +kernel⟩,
  ⟨128, [], { ready with sec.lc := 2 }, by decide +kernel⟩,
  ⟨0, [], ready, by decide +kernel⟩,
  ⟨128, [], { ready with sec.lc := 2, sec.ownerDig := some [] }, by decide +kernel⟩,
  ⟨4096, zeros 4096, { ready with sec.lc := 1 }, by decide +kernel⟩,
  ⟨32, zeros 32, { ready with sec.lc := 2 }, by decide +kernel⟩⟩

/-- States and operands that meet the hypotheses of each clause of SensorsHeatWearAndEntropy. -/
theorem test_sensorsHeatWearAndEntropy :
    (∃ (t : Vector Int 8) (s : State),
    s.benchRuns = true) ∧
    (∃ (t : Vector Int 8) (s : State),
    s.benchRuns = false) ∧
    (∃ (s : State),
    (∀ i ∈ List.range 8, s.tempOf i + 500 ≤ s.warnLevel) ∧
    s.evt.cool = 10) ∧
    (∃ (s : State),
    (s.evt.cool < 10 ∨ ∃ i ∈ List.range 8, s.warnLevel < s.tempOf i + 500)) ∧
    (∃ (k : Fin 8) (s : State),
    s.aon.powered = true) ∧
    (∃ (l : List (Nat × Nat)) (s : State),
    s.benchRuns = true) ∧
    (∃ (n : Stn) (sum k : Nat) (s : State),
    0 < k ∧
    (SMap.getD s.evt.wearSum (0, 0) n = (sum, k) ∧ SMap.getD s.evt.wearSum (0, 0) (16 + n) = (sum, k) ∧ SMap.getD s.evt.wearSum (0, 0) (32 + n) = (0, 0))) ∧
    (∃ (s : State),
    s.benchRuns = true) ∧
    (∃ (s : State),
    s.sec.benchUp = false) :=
  ⟨⟨Vector.replicate 8 11000, ready, by decide +kernel⟩,
  ⟨Vector.replicate 8 11000, { ready with sec.benchHalt := true }, by decide +kernel⟩,
  ⟨{ ready with evt.thermal := true, evt.cool := 10 }, by decide +kernel, by decide +kernel⟩,
  ⟨{ ready with evt.thermal := true }, by decide +kernel⟩,
  ⟨3, ready, by decide +kernel⟩,
  ⟨[(66, 5)], ready, by decide +kernel⟩,
  ⟨1, 7, 2, { ready with evt.wearSum := [(1, (7, 2)), (17, (7, 2))] }, by decide +kernel, by decide +kernel⟩,
  ⟨ready, by decide +kernel⟩,
  ⟨{ ready with sec.benchUp := false }, by decide +kernel⟩⟩

/-- States and operands that meet the hypotheses of each clause of HandshakeChannels. -/
theorem test_handshakeChannels :
    (∃ (ch : Nat) (w : ChWord) (good bad : ChRx) (s : State),
    ((s.chan ch).replay = false ∧ (s.chan ch).buf.length < 8) ∧
    (good.ok = true ∧ bad.ok = false)) ∧
    (∃ (ch : Nat) (w : ChWord) (x : ChRx) (s : State),
    ((s.chan ch).replay = true ∧ (s.chan ch).buf.length < 8)) ∧
    (∃ (ch : Nat) (rx : List ChRx) (s : State),
    ((s.chan ch).replay = true ∧ rx.length ≤ (s.chan ch).buf.length ∧ rx.all ChRx.ok = true)) ∧
    (∃ (ch : Nat) (pass : List ChWord) (w : ChWord) (rest : List ChWord) (ok later : List ChRx) (x : ChRx) (s : State),
    ((s.chan ch).replay = true ∧ (s.chan ch).buf = pass ++ w :: rest) ∧
    (ok.length = pass.length ∧ ok.all ChRx.ok = true ∧ x.ok = false) ∧
    (pass ≠ [] ∨ (s.chan ch).fails < 3)) ∧
    (∃ (ch ctx : Nat) (w : ChWord) (rest : List ChWord) (x : ChRx) (s : State),
    ((s.chan ch).replay = true ∧ (s.chan ch).buf = w :: rest ∧ (s.chan ch).fails = 3) ∧
    x.ok = false) :=
  ⟨⟨3, ⟨4, [7#8], none⟩, (⟨4, [7#8], none⟩ : ChWord).sent, { (⟨4, [7#8], none⟩ : ChWord).sent with req := ⟨true, true⟩ }, ready, by decide +kernel, by decide +kernel⟩,
  ⟨3, ⟨4, [], none⟩, (⟨4, [], none⟩ : ChWord).sent, ready.setChan 3 { ready.chan 3 with buf := [⟨5, [], none⟩], fails := 1, replay := true }, by decide +kernel⟩,
  ⟨3, [(⟨5, [], none⟩ : ChWord).sent], ready.setChan 3 { ready.chan 3 with buf := [⟨5, [], none⟩, ⟨6, [], none⟩], fails := 1, replay := true }, by decide +kernel⟩,
  ⟨3, [⟨5, [], none⟩], ⟨6, [], none⟩, [], [(⟨5, [], none⟩ : ChWord).sent], [], { (⟨6, [], none⟩ : ChWord).sent with ack := ⟨false, false⟩ }, ready.setChan 3 { ready.chan 3 with buf := [⟨5, [], none⟩, ⟨6, [], none⟩], fails := 2, replay := true }, by decide +kernel, by decide +kernel, by decide +kernel⟩,
  ⟨3, 5, ⟨5, [], none⟩, [⟨6, [], none⟩], { (⟨5, [], none⟩ : ChWord).sent with req := ⟨true, true⟩ }, ready.setChan 3 { ready.chan 3 with buf := [⟨5, [], none⟩, ⟨6, [], none⟩], fails := 3, replay := true }, by decide +kernel, by decide +kernel⟩⟩

/-- States and operands that meet the hypotheses of each clause of JtagAccess. -/
theorem test_jtagAccess :
    (∃ (b : Bool) (s : State),
    s.jtagOpen = true) ∧
    (∃ (a n : Nat) (bs : Bytes) (s : State),
    (s.jtagOpen = true ∧ s.isOn domMEM = true) ∧
    (a + n ≤ memEnd ∧ a + bs.length ≤ memEnd)) ∧
    (∃ (off : Nat) (w : Word) (s : State),
    (s.jtagOpen = true ∧ s.isOn (regDom 0 off) = true)) ∧
    (∃ (s : State),
    (s.jtagOpen = false ∧ s.jtagTelem = true)) ∧
    (∃ (off : Nat) (s : State),
    (s.jtagOpen = false ∧ s.jtagTelem = true) ∧
    (0x70000 ≤ off ∧ off < 0x80000 ∧ s.isOn (regDom 0 off) = true)) ∧
    (∃ (j : Jtag) (s : State),
    s.jtagOpen = false ∧
    ((match j with | .boundary => false | .regRead off => !(s.jtagTelem && decide (0x70000 ≤ off ∧ off < 0x80000)) | .eventLog => !s.jtagTelem | _ => true) = true)) :=
  ⟨⟨true, ready, by decide +kernel⟩,
  ⟨memEnd - 4, 4, [1#8], ready, by decide +kernel, by decide +kernel⟩,
  ⟨0x70000, 3#32, ready, by decide +kernel⟩,
  ⟨({ ready with sec.lc := 2 } : State).setBit LC_STAT LC_STAT_TELEM true, by decide +kernel⟩,
  ⟨0x7FFFC, ({ ready with sec.lc := 2 } : State).setBit LC_STAT LC_STAT_TELEM true, by decide +kernel, by decide +kernel⟩,
  ⟨.memRead 0 4, { ready with sec.lc := 2 }, by decide +kernel, by decide +kernel⟩⟩

/-- States and operands that meet the hypotheses of each clause of MemoryPorts. -/
theorem test_memoryPorts :
    (∃ (port : Fin 10) (a len fill free : Nat) (wrong : List (Nat × List LineBit)) (bytes : Bytes) (mark : Bool) (go : List (Fin 4)) (s : State),
    s.isOn domMEM = true) ∧
    (∃ (port : Fin 10) (a len fill free : Nat) (wrong : List (Nat × List LineBit)) (bytes : Bytes) (mark : Bool) (go : List (Fin 4)) (s : State),
    s.isOn domMEM = false) ∧
    (∃ (before after' : List MemReq) (r : MemReq) (c x : Nat) (s : State),
    s.firstLine c r = some x ∧
    (∀ q ∈ before, ∀ y, s.firstLine c q = some y → s.memLevel r x < s.memLevel q y) ∧
    (∀ q ∈ after', ∀ y, s.firstLine c q = some y → s.memLevel r x ≤ s.memLevel q y)) ∧
    (∃ (r q : MemReq) (x y : Nat) (s : State),
    (s.inPanic 5 = true ∧ q.port = 4 ∧ q.urgent = false)) ∧
    (∃ (port : Fin 10) (a len fill free : Nat) (c : Fin 4) (s : State),
    (s.isOn domMEM = true ∧ s.mem.waiting = []) ∧
    (a % 64 + len ≤ 64 ∧ 0 < len ∧ a + len ≤ memEnd ∧ s.channelOf (a / 64) = c) ∧
    s.rangePoisoned a len = false) ∧
    (∃ (port : Fin 10) (line fill free : Nat) (k : LineBit) (c : Fin 4) (s : State),
    (s.isOn domMEM = true ∧ 64 * line + 64 ≤ memEnd ∧ s.channelOf line = c) ∧
    s.mem.waiting = [] ∧
    (k.val < 524 ∧ s.rangePoisoned (64 * line) 64 = false)) ∧
    (∃ (port : Fin 10) (line fill free : Nat) (j k : LineBit) (c : Fin 4) (s : State),
    (s.isOn domMEM = true ∧ 64 * line + 64 ≤ memEnd ∧ s.channelOf line = c) ∧
    s.mem.waiting = [] ∧
    s.mem.poison = [] ∧
    (j ≠ k ∧ (524 ≤ j.val ∨ j.val < 523 ∧ k.val < 523))) ∧
    (∃ (a : Nat) (bs : Bytes) (s : State),
    (a % 64 + bs.length ≤ 64 ∧ bs ≠ [])) ∧
    (∃ (port : Fin 10) (a len fill free : Nat) (go : List (Fin 4)) (wrong : List (Nat × List LineBit)) (s : State),
    s.isOn domMEM = true ∧
    s.mem.waiting = [] ∧
    memEnd < a + len) ∧
    (∃ (port : Fin 10) (a fill free : Nat) (bytes : Bytes) (mark : Bool) (c : Fin 4) (s : State),
    (s.isOn domMEM = true ∧ s.mem.waiting = []) ∧
    (a % 64 + bytes.length ≤ 64 ∧ bytes ≠ [] ∧ a + bytes.length ≤ memEnd ∧ s.channelOf (a / 64) = c)) ∧
    (∃ (port : Fin 10) (a fill free : Nat) (bytes : Bytes) (mark : Bool) (wrong : List (Nat × List LineBit)) (go : List (Fin 4)) (s : State),
    (s.isOn domMEM = true ∧ s.mem.waiting = [] ∧ memEnd < a + bytes.length)) ∧
    (∃ (i line : Nat) (s : State),
    (i < 32 ∧ s.bit (MEM_REMAP i) MEM_REMAP_VALID = true ∧ s.fld (MEM_REMAP i) MEM_REMAP_LINE = line) ∧
    (∀ j < i, s.bit (MEM_REMAP j) MEM_REMAP_VALID = false ∨ s.fld (MEM_REMAP j) MEM_REMAP_LINE ≠ line)) :=
  ⟨⟨0, 0, 64, 0, 65536, [], [], true, [], ready, by decide +kernel⟩,
  ⟨0, 0, 64, 0, 65536, [], [], true, [], ready.setDom domMEM 2, by decide +kernel⟩,
  ⟨[⟨9, 0, 64, none, [], false, false, [0]⟩], [⟨2, 64, 64, none, [], false, false, [1]⟩], ⟨4, 0, 128, none, [], true, false, [0, 1]⟩, 0, 0, ready, by decide +kernel, by decide +kernel, by decide +kernel⟩,
  ⟨⟨5, 0, 64, none, [], false, false, [0]⟩, ⟨4, 0, 64, none, [], false, false, [0]⟩, 0, 1, ready.setFld (MEM_RT 0) MEM_RT_LOW 4, by decide +kernel⟩,
  ⟨7, 3, 5, 0, 65536, 0, ready, by decide +kernel, by decide +kernel, by decide +kernel⟩,
  ⟨4, 8, 0, 65536, 523, 0, ready, by decide +kernel, by decide +kernel, by decide +kernel⟩,
  ⟨4, 8, 0, 65536, 3, 522, 0, ready, by decide +kernel, by decide +kernel, by decide +kernel, by decide +kernel⟩,
  ⟨70, [1#8], ready, by decide +kernel⟩,
  ⟨4, memEnd, 1, 0, 65536, [1], [], ready, by decide +kernel, by decide +kernel, by decide +kernel⟩,
  ⟨4, 5, 0, 65536, [1#8, 2#8], true, 0, ready, by decide +kernel, by decide +kernel⟩,
  ⟨4, memEnd, 0, 65536, [1#8], false, [], [], ready, by decide +kernel⟩,
  ⟨2, 9, (ready.setFld (MEM_REMAP 2) MEM_REMAP_LINE 9).setFld (MEM_REMAP 2) MEM_REMAP_VALID 1, by decide +kernel, by decide +kernel⟩⟩

/-- States and operands that meet the hypotheses of each clause of RefreshTrainingAndLehr. -/
theorem test_refreshTrainingAndLehr :
    (∃ (c : Fin 4) (fill free : Nat) (s : State),
    (s.isOn domMEM = true ∧ (s.fifos fill free).panicWaits c = false)) ∧
    (∃ (c : Fin 4) (fill free : Nat) (s : State),
    (s.isOn domMEM = true ∧ (s.fifos fill free).panicWaits c = true)) ∧
    (∃ (fill free : Nat) (s : State),
    (s.inPanic 6 = false ∧ 256 * s.fld (MEM_RT 1) MEM_RT_LOW ≤ free)) ∧
    (∃ (port : Fin 10) (before after' : List MemReq) (r : MemReq) (s : State),
    (port.val ≠ 5 ∧ port.val ≠ 6 ∧ port.val ≠ 9) ∧
    (s.mem.waiting = before ++ r :: after' ∧ r.port = port.val ∧ r.urgent = false) ∧
    (∀ q ∈ before, q.port ≠ port.val ∨ q.urgent = true)) ∧
    (∃ (temp : Int) (found : Vector (Option Nat) 4) (s : State),
    (s.isOn domMEM = true ∧ s.bit MEM_STAT MEM_STAT_READY = true) ∧
    (s.mem.round = true ∨ (s.fld MEM_CTL MEM_CTL_PERIOD ≠ 0 ∧ s.mem.trainedAt + s.fld MEM_CTL MEM_CTL_PERIOD * 60000000 ≤ s.now)
  ∨ (s.fld MEM_CTL MEM_CTL_DTEMP ≠ 0 ∧ s.fld MEM_CTL MEM_CTL_DTEMP ≤ (temp - s.fldInt MEM_STAT MEM_STAT_TEMP).natAbs))) ∧
    (∃ (temp : Int) (found : Vector (Option Nat) 4) (s : State),
    (s.mem.round = false ∧ s.roundDue = false ∧ s.roundTemp temp = false)) ∧
    (∃ (left : List (Fin 4)) (s : State),
    (s.isOn domMEM = true ∧ s.bit MEM_STAT MEM_STAT_READY = true) ∧
    (left ≠ [] ∧ (s.mem.round = true ∨ s.roundDue = true))) ∧
    (∃ (wrong : List LineBit) (s : State),
    (s.isOn domMEM = true ∧ s.bit MEM_STAT MEM_STAT_READY = true) ∧
    s.channelBusy s.mem.lehr = false) ∧
    (∃ (wrong : List LineBit) (s : State),
    (∃ r ∈ s.mem.waiting, ∃ x ∈ r.left, s.channelOf x = s.channelOf s.mem.lehr)) ∧
    (∃ (s : State),
    s.isOn domMEM = true) ∧
    (∃ (s : State),
    (s.isOn domMEM = true ∧ s.fld MEM_SCRUB MEM_SCRUB_LAPMAX ≠ 0 ∧ s.fld MEM_SCRUB MEM_SCRUB_LAPMAX < s.mem.lapTime / 60000000 ∧ s.mem.lapRaised = false)) ∧
    (∃ (s : State),
    (s.fld MEM_SCRUB MEM_SCRUB_LAPMAX = 0 ∨ s.mem.lapTime / 60000000 ≤ s.fld MEM_SCRUB MEM_SCRUB_LAPMAX ∨ s.mem.lapRaised = true)) :=
  ⟨⟨1, 2 ^ 14, 2 ^ 16, ready, by decide +kernel⟩,
  ⟨0, 0, 2 ^ 16, ({ ready with mem.waiting := [⟨5, 0, 64, none, [], false, false, [0]⟩] } : State).setFld (MEM_RT 0) MEM_RT_LOW 4, by decide +kernel⟩,
  ⟨0, 65536, { ready with mem.rt0 := 16384 }, by decide +kernel⟩,
  ⟨2, [⟨3, 0, 64, none, [], false, false, [0]⟩], [], ⟨2, 0, 64, none, [], false, false, [0]⟩, { ready with mem.waiting := [⟨3, 0, 64, none, [], false, false, [0]⟩, ⟨2, 0, 64, none, [], false, false, [0]⟩] }, by decide +kernel, by decide +kernel, by decide +kernel⟩,
  ⟨40, #v[some 1, none, some 3, some 4], ({ ready with mem.round := true } : State).setBit MEM_STAT MEM_STAT_READY true, by decide +kernel, by decide +kernel⟩,
  ⟨40, #v[some 1, none, some 3, some 4], (ready.setReg MEM_CTL 0#32).setBit MEM_STAT MEM_STAT_READY true, by decide +kernel⟩,
  ⟨[2], ({ ready with mem.round := true } : State).setBit MEM_STAT MEM_STAT_READY true, by decide +kernel, by decide +kernel⟩,
  ⟨[3], ({ ready with mem.lehr := memEnd / 64 - 1, mem.lapTime := 420000000 } : State).setBit MEM_STAT MEM_STAT_READY true, by decide +kernel, by decide +kernel⟩,
  (by exact ⟨[], ({ ready with mem.waiting := [⟨2, 0, 64, none, [], false, false, [0]⟩] } : State).setBit MEM_STAT MEM_STAT_READY true, by decide +kernel⟩),
  ⟨{ ready with mem.lapTime := 59999999 }, by decide +kernel⟩,
  ⟨{ ready.setFld MEM_SCRUB MEM_SCRUB_LAPMAX 20 with mem.lapTime := 30 * 60000000 }, by decide +kernel⟩,
  ⟨{ ready with mem.lapRaised := true }, by decide +kernel⟩⟩

/-- States and operands that meet the hypotheses of each clause of PoolOperations. -/
theorem test_poolOperations :
    (∃ (who : Fin 32) (size p : Nat) (schuss : Bool) (s : State),
    (s.isOn domMEM = true ∧ poolFor size = some p) ∧
    ((if p = 3 ∧ schuss = false then 64 else 0) < s.poolFree p) ∧
    (s.mem.pools.getD p {}).next < s.mem.layout.getD (3 + p) 0) ∧
    (∃ (who : Fin 32) (size p : Nat) (schuss : Bool) (s : State),
    (s.isOn domMEM = true ∧ poolFor size = some p) ∧
    (s.poolFree p ≤ (if p = 3 ∧ schuss = false then 64 else 0))) ∧
    (∃ (who : Fin 32) (size : Nat) (schuss : Bool) (s : State),
    (s.isOn domMEM = true ∧ 2097152 < size)) ∧
    (∃ (h : Nat) (who new owner : Fin 32) (off len : Nat) (s : State),
    s.checkHandle h off len = none ∧
    ((s.holdersOf h).1.contains who.val = true ∧ (owner = who ∨ owner = new))) ∧
    (∃ (h : Nat) (who : Fin 32) (off len : Nat) (s : State),
    s.checkHandle h off len = none ∧
    ((s.holdersOf h).1.contains who.val = true ∧ (s.holdersOf h).2 ≠ who)) ∧
    (∃ (h : Nat) (who : Fin 32) (off len : Nat) (s : State),
    s.checkHandle h off len = none ∧
    s.holdersOf h = ([who.val], who.val)) ∧
    (∃ (h why : Nat) (who new owner : Fin 32) (off len : Nat) (s : State),
    s.checkHandle h off len = some why) ∧
    (∃ (h : Nat) (who new owner : Fin 32) (off len : Nat) (s : State),
    s.checkHandle h off len = none ∧
    (s.holdersOf h).1.contains who.val = false) ∧
    (∃ (h : Nat) (who new owner : Fin 32) (off len : Nat) (s : State),
    s.checkHandle h off len = none ∧
    ((s.holdersOf h).1.contains who.val = true ∧ owner ≠ who ∧ owner ≠ new)) ∧
    (∃ (h : Nat) (who : Fin 32) (off len : Nat) (s : State),
    s.checkHandle h off len = none ∧
    ((s.holdersOf h).1.contains who.val = true ∧ (s.holdersOf h).2 = who)) ∧
    (∃ (h : Nat) (who : Fin 32) (off len : Nat) (s : State),
    s.checkHandle h off len = none ∧
    (s.holdersOf h).2 ≠ who) ∧
    (∃ (h : Nat) (who : Fin 32) (off len : Nat) (s : State),
    s.checkHandle h off len = none ∧
    ((s.holdersOf h).2 = who ∧ (s.holdersOf h).1 ≠ [who.val] ∧ (s.holdersOf h).1.contains who.val = true)) :=
  ⟨⟨3, 300, 1, false, waitState, by decide +kernel, by decide +kernel, by decide +kernel⟩,
  ⟨3, 2097152, 3, false, { waitState with mem.layout := [0, 0, 0, 4, 4, 4, 64] }, by decide +kernel, by decide +kernel⟩,
  ⟨3, 2097153, true, waitState, by decide +kernel⟩,
  ⟨2 ^ 30, 3, 4, 4, 64, 10, (waitState.alloc 300 3 false).2, by decide +kernel, by decide +kernel⟩,
  ⟨2 ^ 30, 3, 64, 10, (waitState.alloc 300 3 false).2.setHolders (2 ^ 30) ([3, 4], 4), by decide +kernel, by decide +kernel⟩,
  ⟨2 ^ 30, 3, 64, 10, (waitState.alloc 300 3 false).2, by decide +kernel, by decide +kernel⟩,
  ⟨2 ^ 30 + 1, 2, 3, 4, 4, 64, 10, (waitState.alloc 300 3 false).2, by decide +kernel⟩,
  ⟨2 ^ 30, 5, 4, 4, 64, 10, (waitState.alloc 300 3 false).2, by decide +kernel, by decide +kernel⟩,
  ⟨2 ^ 30, 3, 4, 5, 64, 10, (waitState.alloc 300 3 false).2, by decide +kernel, by decide +kernel⟩,
  ⟨2 ^ 30, 3, 64, 10, (waitState.alloc 300 3 false).2, by decide +kernel, by decide +kernel⟩,
  ⟨2 ^ 30, 5, 64, 10, (waitState.alloc 300 3 false).2, by decide +kernel, by decide +kernel⟩,
  ⟨2 ^ 30, 3, 64, 10, (waitState.alloc 300 3 false).2.setHolders (2 ^ 30) ([3, 4], 3), by decide +kernel, by decide +kernel⟩⟩

/-- States and operands that meet the hypotheses of each clause of TheControlCache. -/
theorem test_theControlCache :
    (∃ (a len : Nat) (ctx : Fin 32) (s : State),
    (s.isOn domCACHE = true ∧ a < memEnd ∧ s.cacheable a = true ∧ a % 64 + len ≤ 64)) ∧
    (∃ (a len : Nat) (ctx : Fin 32) (d : Bytes) (s : State),
    (s.isOn domCACHE = true ∧ a < memEnd ∧ s.cacheable a = true ∧ a % 64 + d.length ≤ 64)) ∧
    (∃ (a len : Nat) (ctx : Fin 32) (data : Option Bytes) (wrong : List CacheBit) (s : State),
    s.isOn domCACHE = false) ∧
    (∃ (a len : Nat) (ctx : Fin 32) (data : Option Bytes) (wrong : List CacheBit) (s : State),
    (s.isOn domCACHE = true ∧ a < memEnd) ∧
    (s.cacheable a = false ∨ 64 < a % 64 + (match data with | some d => d.length | none => len))) ∧
    (∃ (a len : Nat) (ctx : Fin 32) (d : Bytes) (wrong : List CacheBit) (s : State),
    (s.isOn domCACHE = true ∧ memEnd ≤ a)) ∧
    (∃ (a len : Nat) (ctx : Fin 32) (wrong : List CacheBit) (w : Nat) (s : State),
    parityFails wrong = true ∧
    (s.isOn domCACHE = true ∧ a < memEnd ∧ s.cacheable a = true ∧ a % 64 + len ≤ 64) ∧
    (s.cacheWay (a / 64) = some w ∧ (s.lineAt (a / 64) w).dirty = false) ∧
    s.wayLocked w = false) ∧
    (∃ (a len : Nat) (ctx : Fin 32) (data : Option Bytes) (wrong : List CacheBit) (w : Nat) (s : State),
    parityFails wrong = true ∧
    (s.isOn domCACHE = true ∧ a < memEnd ∧ s.cacheable a = true ∧ a % 64 + (match data with | some d => d.length | none => len) ≤ 64) ∧
    (s.cacheWay (a / 64) = some w ∧ (s.lineAt (a / 64) w).dirty = true)) ∧
    (∃ (s : State),
    s.bit CC_MAINT CC_MAINT_BUSY = true) :=
  ⟨⟨0x1234, 8, 3, ready, by decide +kernel⟩,
  ⟨0x1234, 0, 3, [1#8, 2#8], ready, by decide +kernel⟩,
  ⟨0x1234, 8, 3, none, [], ready.setDom domCACHE 2, by decide +kernel⟩,
  ⟨0x1239, 8, 3, none, [], ready, by decide +kernel, by decide +kernel⟩,
  ⟨memEnd, 8, 3, [], [], ready, by decide +kernel⟩,
  ⟨0x1234, 8, 3, [70], 0, ready.fillLine 0x48 0 3, by decide +kernel, by decide +kernel, by decide +kernel, by decide +kernel⟩,
  ⟨0x1234, 8, 3, none, [519], 0, (ready.fillLine 0x48 0 3).cacheWrite 0x1200 3 [1#8], by decide +kernel, by decide +kernel, by decide +kernel⟩,
  ⟨ready.setBit CC_MAINT CC_MAINT_BUSY true, by decide +kernel⟩⟩

/-- States and operands that meet the hypotheses of each clause of SupplyMonitor. -/
theorem test_supplyMonitor :
    (∃ (mv : Nat) (s : State),
    (mv < max 6500 (min 38000 (s.fld PM_VWARN PM_VWARN_VWARN)) ∧ s.bit PM_SUPPLY PM_SUPPLY_WARN = false)) ∧
    (∃ (mv : Nat) (s : State),
    (mv < max 6500 (min 38000 (s.fld PM_VWARN PM_VWARN_VWARN)) ∧ s.bit PM_SUPPLY PM_SUPPLY_WARN = true)) ∧
    (∃ (mv : Nat) (s : State),
    max 6500 (min 38000 (s.fld PM_VWARN PM_VWARN_VWARN)) ≤ mv) ∧
    (∃ (mv : Nat) (s : State),
    (s.bit PM_SUPPLY PM_SUPPLY_WARN = true ∧ max 6500 (min 38000 (s.fld PM_VWARN PM_VWARN_VWARN)) + 500 < mv)) ∧
    (∃ (mv : Nat) (s : State),
    mv < 5500) ∧
    (∃ (mv : Nat) (s : State),
    (5800 ≤ mv ∧ s.pins.pwrGood = false)) ∧
    (∃ (mv : Nat) (s : State),
    mv < 4000) ∧
    (∃ (straps : Fin 8) (s : State),
    s.aon.powered = false) :=
  ⟨⟨6499, ready, by decide +kernel⟩,
  ⟨6499, ready.setBit PM_SUPPLY PM_SUPPLY_WARN true, by decide +kernel⟩,
  ⟨38000, ready, by decide +kernel⟩,
  ⟨38501, ready.setBit PM_SUPPLY PM_SUPPLY_WARN true, by decide +kernel⟩,
  ⟨5499, ready, by decide +kernel⟩,
  ⟨5800, { ready with pins.pwrGood := false }, by decide +kernel⟩,
  ⟨3999, ready, by decide +kernel⟩,
  ⟨5, { ready with aon.powered := false }, by decide +kernel⟩⟩

/-- States and operands that meet the hypotheses of each clause of PowerDomains. -/
theorem test_powerDomains :
    (∃ (e : PmEntry) (s : State),
    s.power.entry = some e ∧
    (e.stage = .stopping ∧ e.named.any isDeferred = false)) ∧
    (∃ (e : PmEntry) (s : State),
    s.power.entry = some e ∧
    (e.stage = .stopping ∧ e.named.any isDeferred = true)) ∧
    (∃ (e : PmEntry) (s : State),
    s.power.entry = some e ∧
    (e.stage = .deferred ∧ s.cmd? e.cmd = none)) ∧
    (∃ (d : Fin 27) (e : PmEntry) (s : State),
    s.power.entry = some e ∧
    (e.stage ≠ .waking ∧ e.named.any (fun x => x.1 == d.val) = true)) ∧
    (∃ (f : Fn) (off : Nat) (s : State),
    (s.linkReaches f .bar0 = true ∧ fusedDom s.part (regDom f off) = false ∧ nudgePage .bar0 f off = false ∧ off % 4 = 0) ∧
    ((s.wake domHOST).wake (regDom f off)).isOn (regDom f off) = false) ∧
    (∃ (f : Fn) (off : Nat) (s : State),
    Reaches s f off ∧
    (nudgePage .bar0 f off = false ∧ off % 4 = 0)) ∧
    (∃ (f : Fn) (sp : Space) (off : Nat) (s : State),
    (nudgePage sp f off = false ∧ off % 8 = 0)) ∧
    (∃ (f : Fn) (sp : Space) (off size : Nat) (s : State),
    s.linkReaches f sp = true) ∧
    (∃ (d : Fin 27) (off : Bool) (s : State),
    (s.power.waking.find? (fun x => x.1 == d.val) = some (d.val, off))) :=
  ⟨⟨⟨9, 7, [(3, 2)], [], .stopping⟩, { ready with power.entry := some ⟨9, 7, [(3, 2)], [], .stopping⟩ }, by decide +kernel, by decide +kernel⟩,
  ⟨⟨9, 7, [(3, 2), (5, 2)], [], .stopping⟩, { ready with power.entry := some ⟨9, 7, [(3, 2), (5, 2)], [], .stopping⟩ }, by decide +kernel, by decide +kernel⟩,
  ⟨⟨9, 7, [(5, 2)], [], .deferred⟩, { ready with power.entry := some ⟨9, 7, [(5, 2)], [], .deferred⟩ }, by decide +kernel, by decide +kernel⟩,
  ⟨3, ⟨9, 7, [(3, 2)], [], .stopping⟩, { ready with power.entry := some ⟨9, 7, [(3, 2)], [], .stopping⟩ }, by decide +kernel, by decide +kernel⟩,
  ⟨0, 0x100000, ready.setDom (domSTN 0) 2, by decide +kernel, by decide +kernel⟩,
  ⟨0, 0x100000, ready, reaches_of (by decide +kernel), by decide +kernel⟩,
  ⟨0, .bar0, 0x100000, ready, by decide +kernel⟩,
  ⟨0, .bar0, 0x100001, 4, ready, by decide +kernel⟩,
  ⟨12, true, { ready.setDom (domSTN 1) 0 with power.waking := [(12, true)] }, by decide +kernel⟩⟩

/-- States and operands that meet the hypotheses of each clause of StartAndLift. -/
theorem test_startAndLift :
    (∃ (t7 : Int) (found : Vector (Option Nat) 4) (savedOk : Vector Bool 4) (s : State),
    (s.aon.lockout = false ∧ s.aon.powered = true ∧ 5500 ≤ s.aon.vin ∧ s.pins.perst = false ∧ s.pins.rst = false) ∧
    s.pcie.trainReady = false) ∧
    (∃ (t7 : Int) (found : Vector (Option Nat) 4) (savedOk : Vector Bool 4) (s : State),
    (s.aon.lockout = true ∧ 100 < t7)) ∧
    (∃ (width speed : Nat) (flit : Bool) (s : State),
    (s.pcie.trainReady = true ∧ [1, 2, 4, 8].contains width = true ∧ 1 ≤ speed ∧ speed ≤ 6)) ∧
    (∃ (s : State),
    (s.pcie.trainReady = true ∧ s.bit ID_DEV ID_DEV_READY = false ∧ s.bit MEM_STAT MEM_STAT_READY = true ∧ s.evt.coreSramBad = false)) ∧
    (∃ (a check : BitVec 8) (stop : Bool) (s : State),
    s.aon.powered = true ∧
    (a.toNat + check.toNat ≠ 255 ∨ (stop = false ∧ a.toNat ≠ 0xB0 + s.fld PM_LIFT PM_LIFT_ADDR ∧ a.toNat ≠ 0xBF))) ∧
    (∃ (a check : BitVec 8) (s : State),
    (s.aon.powered = true ∧ a.toNat + check.toNat = 255) ∧
    (a.toNat = 0xB0 + s.fld PM_LIFT PM_LIFT_ADDR ∨ a.toNat = 0xBF)) ∧
    (∃ (a check : BitVec 8) (s : State),
    (s.aon.powered = true ∧ a.toNat + check.toNat = 255) ∧
    (a.toNat ≠ 0xB0 + s.fld PM_LIFT PM_LIFT_ADDR ∧ a.toNat ≠ 0xBF)) ∧
    (∃ (a check : BitVec 8) (s : State),
    (s.aon.powered = true ∧ a.toNat + check.toNat = 255) ∧
    (a.toNat = 0xB0 + s.fld PM_LIFT PM_LIFT_ADDR ∨ a.toNat = 0xBF) ∧
    (s.bit ID_DEV ID_DEV_READY = true ∧ (((s.emit .liftAck).bump PM_LIFT PM_LIFT_MATCHES 1).raise 12 []).dom domHOST ≠ 3)) ∧
    (∃ (a check : BitVec 8) (s : State),
    (s.aon.powered = true ∧ a.toNat + check.toNat = 255) ∧
    (a.toNat = 0xB0 + s.fld PM_LIFT PM_LIFT_ADDR ∨ a.toNat = 0xBF) ∧
    (s.bit ID_DEV ID_DEV_READY = false ∧ s.dom domHOST = 3 ∧ s.pins.perst = true)) :=
  ⟨⟨25, Vector.replicate 4 (some 1), Vector.replicate 4 true, State.reset, by decide +kernel, by decide +kernel⟩,
  ⟨101, Vector.replicate 4 (some 1), Vector.replicate 4 true, { ready with aon.lockout := true }, by decide +kernel⟩,
  ⟨8, 6, true, { ready with pcie.trainReady := true }, by decide +kernel⟩,
  ⟨({ ready with pcie.trainReady := true } : State).setBit MEM_STAT MEM_STAT_READY true, by decide +kernel⟩,
  ⟨0xBF#8, 0x41#8, true, ready, by decide +kernel, by decide +kernel⟩,
  ⟨0xBF#8, 0x40#8, ready, by decide +kernel, by decide +kernel⟩,
  ⟨0xB1#8, 0x4E#8, ready, by decide +kernel, by decide +kernel⟩,
  ⟨0xBF#8, 0x40#8, ready.setBit ID_DEV ID_DEV_READY true, by decide +kernel, by decide +kernel, by decide +kernel⟩,
  ⟨0xB0#8, 0x4F#8, { ready.setDom domHOST 3 with pins.perst := true }, by decide +kernel, by decide +kernel, by decide +kernel⟩⟩

/-- States and operands that meet the hypotheses of each clause of ResetsOfTheBlock. -/
theorem test_resetsOfTheBlock :
    (∃ (s : State),
    s.pins.perst = true) ∧
    (∃ (ns : Nat) (s : State),
    10000 ≤ ns) ∧
    (∃ (ns : Nat) (s : State),
    ns ≤ 1000) ∧
    (∃ (ns : Nat) (s : State),
    (1000 < ns ∧ ns < 10000)) ∧
    (∃ (s : State),
    s.pins.rst = true) ∧
    (∃ (s : State),
    (s.aon.powered = true ∧ 5500 ≤ s.aon.vin ∧ s.pins.perst = false ∧ s.pins.rst = false ∧ s.aon.lockout = false)) :=
  ⟨⟨{ ready with pins.perst := true }, by decide +kernel⟩,
  ⟨10000, ready, by decide +kernel⟩,
  ⟨1000, ready, by decide +kernel⟩,
  ⟨9999, ready, by decide +kernel⟩,
  ⟨{ ready with pins.rst := true }, by decide +kernel⟩,
  ⟨State.reset, by decide +kernel⟩⟩

/-- States and operands that meet the hypotheses of each clause of FunctionEvents. -/
theorem test_functionEvents :
    (∃ (v : Fn) (s : State),
    (v.val ≠ 0 ∧ s.fnExists v = true)) ∧
    (∃ (v : Fn) (s : State),
    (v.val = 0 ∨ s.fnExists v = false)) ∧
    (∃ (f : Fn) (s : State),
    s.fnExists f = true) ∧
    (∃ (f : Fn) (s : State),
    ((s.func f).d3hot = true)) ∧
    (∃ (num : BitVec 16) (s : State),
    (s.pcie.vfEnable = false ∧ num.toNat ≤ 63 ∧ s.pcie.linkUp = true ∧ s.power.entry = none) ∧
    (∀ d ∈ domClosure domHOST, s.dom d = 1) ∧
    fusedDom s.part domHOST = false) ∧
    (∃ (num : BitVec 16) (s : State),
    (s.pcie.vfEnable = true ∧ s.pcie.linkUp = true ∧ s.power.entry = none) ∧
    (∀ d ∈ domClosure domHOST, s.dom d = 1) ∧
    fusedDom s.part domHOST = false) ∧
    (∃ (f : Fn) (on : Bool) (s : State),
    (s.fnExists f = true ∧ s.pcie.linkUp = true ∧ s.power.entry = none) ∧
    (∀ d ∈ domClosure domHOST, s.dom d = 1) ∧
    fusedDom s.part domHOST = false) ∧
    (∃ (s : State),
    s.pcie.rateSet = true ∧
    (1 ≤ (s.cfgKept 0 0x80).toNat % 16 ∧ (s.cfgKept 0 0x80).toNat % 16 ≤ 6)) ∧
    (∃ (s : State),
    s.pcie.rateSet = false) :=
  ⟨⟨1, { ready with pcie.vfEnable := true, pcie.numVfs := 63 }, by decide +kernel⟩,
  ⟨63, { ready with pcie.vfEnable := true, pcie.numVfs := 62 }, by decide +kernel⟩,
  ⟨0, ready, by decide +kernel⟩,
  ⟨0, ready.setFunc 0 (fun g => { g with d3hot := true }), by decide +kernel⟩,
  ⟨63#16, { ready with pcie.linkUp := true }, by decide +kernel, by decide +kernel, by decide +kernel⟩,
  ⟨5#16, { ready with pcie.linkUp := true, pcie.vfEnable := true, pcie.numVfs := 2 }, by decide +kernel, by decide +kernel, by decide +kernel⟩,
  ⟨0, true, ({ ready with pcie.linkUp := true } : State).setBit (QS_FLT 0) QS_FLT_PRI_STOP true, by decide +kernel, by decide +kernel, by decide +kernel⟩,
  ⟨({ ready with pcie.rateSet := true } : State).setFunc 0 (fun g => { g with cfg := [(0x80, 4#32)] }), by decide +kernel, by decide +kernel⟩,
  ⟨ready, by decide +kernel⟩⟩

/-- States and operands that meet the hypotheses of each clause of ReadsOfHostMemory. -/
theorem test_readsOfHostMemory :
    (∃ (id : Nat) (bs : Bytes) (c : Cmd) (s : State),
    s.cmd? id = some c ∧
    s.reading c = true) ∧
    (∃ (id : Nat) (c : Cmd) (a l : Nat) (s : State),
    s.cmd? id = some c ∧
    (s.reading c = true ∧ nextChunk c.segsIn = some (a, l))) ∧
    (∃ (f : Fn) (k : RingNo) (q : Sq) (r : ReadBack) (s : State),
    s.sq? f k = some q ∧
    ((match r with | .data _ => false | _ => true) = true)) ∧
    (∃ (f : Fn) (r : ReadBack) (s : State),
    (s.fnExists f = true ∧ (s.setFunc f (fun g => { g with pollLeft := 0, pollOwed := false })).bit (QS_FLT f) QS_FLT_POLL_FAULT = false) ∧
    ((match r with | .data _ => false | _ => true) = true)) ∧
    (∃ (f : Fn) (s : State),
    s.fnExists f = true) ∧
    (∃ (f : Fn) (pasid : Option Nat) (page : Nat) (s : State),
    (s.qsPasid f = pasid ∧ s.dbBase f / 4096 = page ∧ (s.func f).pollOwed = true ∧ (s.func f).pollLeft = 0)) ∧
    (∃ (f : Fn) (pasid : Option Nat) (page : Nat) (ok : Bool) (s : State),
    ((∀ e ∈ s.rings.sqs, e.1 / 256 ≠ f.val) ∧ (∀ e ∈ s.rings.cqs, e.1 / 256 ≠ f.val) ∧ (s.func f).pollOwed = false)) ∧
    (∃ (id : Nat) (c : Cmd) (s : State),
    s.cmd? id = some c ∧
    c.pr = .outstanding) ∧
    (∃ (id : Nat) (code : Fin 16) (c : Cmd) (a l : Nat) (s : State),
    s.cmd? id = some c ∧
    (c.pr = .outstanding ∧ code.val ≠ 0 ∧ nextChunk c.segs = some (a, l))) ∧
    (∃ (f : Fn) (pasid : Option Nat) (page : Nat) (s : State),
    ((s.func f).ats = true)) ∧
    (∃ (f page : Nat) (pasid : Option Nat) (s : State),
    s.pcie.invals = [((f, pasid, page), [])]) :=
  ⟨⟨9, zeros 64, dmaCmd, dmaState, by decide +kernel, by decide +kernel⟩,
  ⟨9, dmaCmd, 0x5000, 64, dmaState, by decide +kernel, by decide +kernel⟩,
  ⟨0, 1, { oneSq with fetch := 1 }, .poisoned, ringState.putSq 0 1 { oneSq with fetch := 1 }, by decide +kernel, by decide +kernel⟩,
  ⟨0, .unsupported, ringState, by decide +kernel, by decide +kernel⟩,
  ⟨0, ready, by decide +kernel⟩,
  ⟨0, none, 0, ringState.setFunc 0 (fun g => { g with pollOwed := true }), by decide +kernel⟩,
  ⟨1, none, 0, true, ringState, by decide +kernel⟩,
  ⟨9, { dmaCmd with pr := .outstanding, parked := true }, { dmaState with work.cmds := [{ dmaCmd with pr := .outstanding, parked := true }] }, by decide +kernel, by decide +kernel⟩,
  ⟨9, 15, { dmaCmd with pr := .outstanding, parked := true }, 0x5000, 64, { dmaState with work.cmds := [{ dmaCmd with pr := .outstanding, parked := true }] }, by decide +kernel, by decide +kernel⟩,
  ⟨0, none, 0, ringState.setFunc 0 (fun g => { g with ats := true, pollLeft := 2 }), by decide +kernel⟩,
  ⟨3, 77, none, { ready with pcie.invals := [((3, none, 77), [])] }, by decide +kernel⟩⟩

/-- States and operands that meet the hypotheses of each clause of DoeSpdmAndIde. -/
theorem test_doeSpdmAndIde :
    (∃ (type index len : Nat) (s : State),
    (s.dom domHOST ≠ 3 ∧ s.pcie.doe ≠ .busy ∧ s.spdmDown = false) ∧
    (len ≤ 16384 ∧ 1 ≤ type ∧ type ≤ 2)) ∧
    (∃ (index len : Nat) (s : State),
    (s.dom domHOST ≠ 3 ∧ s.pcie.doe ≠ .busy ∧ s.spdmDown = false) ∧
    (len ≤ 16384 ∧ index ≤ 2)) ∧
    (∃ (type index len : Nat) (s : State),
    (s.dom domHOST = 3 ∨ s.pcie.doe = .busy ∨ 16384 < len ∨ 2 < type)) ∧
    (∃ (q : SpdmReq) (s : State),
    (s.pcie.doe = .busy ∧ s.spdmDown = true)) ∧
    (∃ (q : SpdmReq) (s : State),
    (s.pcie.doe = .busy ∧ s.spdmDown = false ∧ s.sec.benchUp = true ∧ s.sec.benchHalt = false)) ∧
    (∃ (x : Nat) (s : State),
    (s.pcie.doe = .busy ∧ s.spdmDown = false ∧ s.sec.benchUp = true ∧ s.sec.benchHalt = false) ∧
    s.session x = true) ∧
    (∃ (x : Nat) (s : State),
    (s.pcie.doe = .busy ∧ s.spdmDown = false ∧ s.sec.benchUp = true ∧ s.sec.benchHalt = false) ∧
    s.session x = false) ∧
    (∃ (x : Nat) (payload signer seed : Bytes) (s : State),
    (s.pcie.doe = .busy ∧ s.spdmDown = false ∧ s.sec.benchUp = true ∧ s.sec.benchHalt = false) ∧
    s.sec.seed = some seed) ∧
    (∃ (s : State),
    s.pcie.ideSecure = true) ∧
    (∃ (x set sub dir : Nat) (key : Bytes) (s : State),
    s.session x = true) ∧
    (∃ (s : State),
    ((s.reg (FEAT_DRV 0 0)).getLsbD 8 = true ∧ s.pcie.ideSecure = false ∧ (s.cfgKept 0 0x30C).getLsbD 0 = true)) ∧
    (∃ (s : State),
    ((s.reg (FEAT_DRV 0 0)).getLsbD 8 = false ∨ s.pcie.ideSecure = true ∨ (s.cfgKept 0 0x30C).getLsbD 0 = false)) ∧
    (∃ (s : State),
    s.pcie.ideSecure = true) :=
  ⟨⟨1, 0, 16384, ready.setBit FW_STAT FW_STAT_ROM false, by decide +kernel, by decide +kernel⟩,
  ⟨2, 8, ready.setBit FW_STAT FW_STAT_ROM false, by decide +kernel, by decide +kernel⟩,
  ⟨0, 0, 16385, ready, by decide +kernel⟩,
  ⟨.version, (({ ready with pcie.doe := .busy } : State)).setBit FW_STAT FW_STAT_ROM true, by decide +kernel⟩,
  ⟨.version, (({ ready with pcie.doe := .busy } : State)).setBit FW_STAT FW_STAT_ROM false, by decide +kernel⟩,
  ⟨4, ({ ready with pcie.doe := .busy, pcie.sessions := [(4, 0)] } : State).setBit FW_STAT FW_STAT_ROM false, by decide +kernel, by decide +kernel⟩,
  ⟨5, ({ ready with pcie.doe := .busy, pcie.sessions := [(4, 0)] } : State).setBit FW_STAT FW_STAT_ROM false, by decide +kernel, by decide +kernel⟩,
  ⟨4, [], [], zeros 32, kekState, by decide +kernel, by decide +kernel⟩,
  ⟨{ ringState with pcie.ideSecure := true }, by decide +kernel⟩,
  ⟨4, 1, 2, 1, zeros 32, { ready with pcie.sessions := [(4, 0)] }, by decide +kernel⟩,
  ⟨ideState, by decide +kernel⟩,
  ⟨ready, by decide +kernel⟩,
  ⟨{ ideState with pcie.ideSecure := true }, by decide +kernel⟩⟩

/-- States and operands that meet the hypotheses of each clause of RegisterAccess. -/
theorem test_registerAccess :
    (∃ (f : Fn) (sp : Space) (off : Nat) (w : Word) (data : Bytes) (s : State),
    (s.linkReaches f sp = true ∧ sp ≠ .bar0 ∧ s.power.entry = none ∧ fusedDom s.part domHOST = false) ∧
    (∀ d ∈ domClosure domHOST, s.dom d = 1)) ∧
    (∃ (f : Fn) (off v : Nat) (data : Bytes) (s : State),
    Reaches s f off ∧
    (nudgePage .bar0 f off = false ∧ off % 4 = 0)) ∧
    (∃ (f : Fn) (off v : Nat) (data : Bytes) (s : State),
    (s.linkReaches f .bar0 = true ∧ fusedDom s.part (regDom f off) = false ∧ nudgePage .bar0 f off = false ∧ off % 4 = 0) ∧
    ((s.wake domHOST).wake (regDom f off)).isOn (regDom f off) = false) ∧
    (∃ (f : Fn) (off : Nat) (w : Word) (data : Bytes) (s : State),
    (regRow f off).isNone = true) :=
  ⟨⟨0, .bar2, 12, 1#32, [], ready, by decide +kernel, by decide +kernel⟩,
  ⟨0, 0x70010, 100, [], ready, reaches_of (by decide +kernel), by decide +kernel⟩,
  ⟨0, 0x100000, 3, [], ready.setDom (domSTN 0) 2, by decide +kernel, by decide +kernel⟩,
  ⟨0, 0x90000, 0#32, [], ready, by decide +kernel⟩⟩

/-- States and operands that meet the hypotheses of each clause of MemoryRegisters. -/
theorem test_memoryRegisters :
    (∃ (idx : Fin 7) (w : Word) (s : State),
    (Reaches s 0 (if idx.val < 3 then MEM_LAY idx.val else POOL_CNT (idx.val - 3)).key)) ∧
    (∃ (k : Fin 6) (hi : Bool) (w : Word) (s : State),
    (Reaches s 0 (if hi then MEM_XOR_HI k.val else MEM_XOR_LO k.val).key)) ∧
    (∃ (w : Word) (s : State),
    Reaches s 0 MEM_WDATA.key ∧
    (s.inRegion 1 s.waddr 4 = true ∧ s.cacheWay (s.waddr / 64) = none)) ∧
    (∃ (s : State),
    Reaches s 0 MEM_WDATA.key ∧
    s.inRegion 1 s.waddr 4 = true) ∧
    (∃ (w : Word) (s : State),
    Reaches s 0 MEM_WDATA.key ∧
    s.inRegion 1 s.waddr 4 = false) ∧
    (∃ (idx : Fin 32) (w : Word) (s : State),
    Reaches s 0 (MEM_REMAP idx.val).key) ∧
    (∃ (s : State),
    Reaches s 0 MEM_CTL.key) ∧
    (∃ (len : BitVec 12) (s : State) (c : Instr) (op : Nat),
    (c, op) ∈ [(Instr.ccClean len, 1), (.ccInvalidate len, 2), (.ccCleanInvalidate len, 3)] ∧
    Reaches s 0 CC_MAINT.key ∧
    s.bit CC_MAINT CC_MAINT_BUSY = false) ∧
    (∃ (len : BitVec 12) (way : Fin 16) (ctx : Fin 32) (s : State),
    Reaches s 0 CC_MAINT.key ∧
    (s.bit CC_MAINT CC_MAINT_BUSY = false ∧ way.val ≠ 15)) ∧
    (∃ (len : BitVec 12) (way : Fin 16) (ctx : Fin 32) (s : State),
    Reaches s 0 CC_MAINT.key ∧
    s.bit CC_MAINT CC_MAINT_BUSY = true) ∧
    (∃ (seed : BitVec 16) (s : State),
    Reaches s 0 CC_CTL.key ∧
    (s.bit CC_MAINT CC_MAINT_BUSY = false ∧ s.fld CC_CTL CC_CTL_LOCK ≠ 0x7FFF)) ∧
    (∃ (s : State),
    Reaches s 0 CC_CTL.key) ∧
    (∃ (ways : BitVec 15) (s : State),
    Reaches s 0 CC_CTL.key ∧
    (ways ≠ 0x7FFF#15 ∧ s.bit CC_MAINT CC_MAINT_BUSY = false)) ∧
    (∃ (ways : BitVec 15) (s : State),
    Reaches s 0 CC_CTL.key ∧
    (ways ≠ 0x7FFF#15 ∧ s.bit CC_MAINT CC_MAINT_BUSY = true ∧ s.fld CC_MAINT CC_MAINT_OP = 4)) :=
  ⟨⟨3, 100#32, ready, reaches_of (by decide +kernel)⟩,
  ⟨5, false, 0x801000#32, ready, reaches_of (by decide +kernel)⟩,
  ⟨5#32, ({ ready with mem.layout := [1, 0, 0, 0, 0, 0, 0] } : State).setWaddr 0x4000000, reaches_of (by decide +kernel), by decide +kernel⟩,
  ⟨({ ready with mem.layout := [1, 0, 0, 0, 0, 0, 0] } : State).setWaddr 0x4000000, reaches_of (by decide +kernel), by decide +kernel⟩,
  ⟨5#32, ready, reaches_of (by decide +kernel), by decide +kernel⟩,
  ⟨31, 0x80000005#32, ready, reaches_of (by decide +kernel)⟩,
  ⟨ready, reaches_of (by decide +kernel)⟩,
  ⟨4#12, ready, .ccClean 4#12, 1, by decide +kernel, reaches_of (by decide +kernel), by decide +kernel⟩,
  ⟨4#12, 14, 31, ready, reaches_of (by decide +kernel), by decide +kernel⟩,
  ⟨4#12, 14, 31, ready.setBit CC_MAINT CC_MAINT_BUSY true, reaches_of (by decide +kernel), by decide +kernel⟩,
  ⟨0#16, ready, reaches_of (by decide +kernel), by decide +kernel⟩,
  ⟨ready, reaches_of (by decide +kernel)⟩,
  ⟨0x3FFF#15, ready, reaches_of (by decide +kernel), by decide +kernel⟩,
  ⟨0x3FFF#15, (ready.setBit CC_MAINT CC_MAINT_BUSY true).setFld CC_MAINT CC_MAINT_OP 4, reaches_of (by decide +kernel), by decide +kernel⟩⟩

/-- States and operands that meet the hypotheses of each clause of DeviceRegisters. -/
theorem test_deviceRegisters :
    (∃ (f : Fn) (idx : Fin 4) (w : Word) (s : State),
    Reaches s f (FEAT_DRV f idx).place.2) ∧
    (∃ (v : Fin 63) (count : BitVec 7) (s : State),
    Reaches s 0 (VF_VEC (v.val + 1)).key) ∧
    (∃ (f : Fn) (s : State),
    (s.linkReaches f (if f.val = 0 then .bar4 else .bar0) = true)) ∧
    (∃ (f : Fn) (s : State),
    (s.power.entry = none ∧ (s.func f).pollLeft = 0 ∧ s.ideHeld = false) ∧
    (∀ d ∈ domClosure domHOST ++ domClosure domCORE, s.dom d = 1)) ∧
    (∃ (f : Fn) (s : State),
    (s.power.entry = none ∧ (0 < (s.func f).pollLeft ∨ s.ideHeld = true)) ∧
    (∀ d ∈ domClosure domHOST ++ domClosure domCORE, s.dom d = 1)) ∧
    (∃ (hi : Word) (s : State),
    Reaches s 0 CLK_SET_HI.key) ∧
    (∃ (s : State),
    Reaches s 0 CLK_NOW_LO.key) ∧
    (∃ (s : State),
    Reaches s 0 CLK_NOW_HI.key) ∧
    (∃ (x : BitVec 16) (s : State),
    Reaches s 0 PM_VWARN.key) ∧
    (∃ (n : Stn) (s : State),
    Reaches s 0 MC_RECOVER.key) ∧
    (∃ (idx : Fin 16) (w : Word) (s : State),
    Reaches s 0 (EVT_PEND idx.val).key) ∧
    (∃ (f : Fn) (v : Fin 256) (s : State),
    (s.linkReaches f .bar2 = true ∧ s.power.entry = none ∧ 16 * v.val + 12 < 16 * s.vecCount f) ∧
    (∀ d ∈ domClosure domHOST, s.dom d = 1) ∧
    fusedDom s.part domHOST = false) ∧
    (∃ (f : Fn) (s : State),
    (s.linkReaches f .config = true ∧ s.power.entry = none) ∧
    (∀ d ∈ domClosure domHOST, s.dom d = 1) ∧
    fusedDom s.part domHOST = false) :=
  ⟨⟨0, 3, 0xFF#32, ready, reaches_of (by decide +kernel)⟩,
  ⟨62, 64#7, ready, reaches_of (by decide +kernel)⟩,
  ⟨0, ringState, by decide +kernel⟩,
  ⟨0, ringState, by decide +kernel, by decide +kernel⟩,
  ⟨0, ringState.setFunc 0 (fun g => { g with pollLeft := 2 }), by decide +kernel, by decide +kernel⟩,
  ⟨0#32, { ready with aon.clock := 2 ^ 40 }, reaches_of (by decide +kernel)⟩,
  ⟨ready, reaches_of (by decide +kernel)⟩,
  ⟨ready, reaches_of (by decide +kernel)⟩,
  ⟨30000#16, ready, reaches_of (by decide +kernel)⟩,
  ⟨3, ready, reaches_of (by decide +kernel)⟩,
  ⟨15, 0x80000000#32, ready.setReg (EVT_PEND 15) 0x80000001#32, reaches_of (by decide +kernel)⟩,
  ⟨0, 3, ready, by decide +kernel, by decide +kernel, by decide +kernel⟩,
  ⟨0, { ready with pcie.linkUp := true }, by decide +kernel, by decide +kernel, by decide +kernel⟩⟩

/-- States and operands that meet the hypotheses of each clause of BufferMemoryReadsBack. -/
theorem test_bufferMemoryReadsBack :
    (∃ (a : Nat) (bs : Bytes) (k : Nat) (b : Byte) (s : State),
    bs[k]? = some b) ∧
    (∃ (a c : Nat) (bs : Bytes) (s : State),
    (c < a ∨ a + bs.length ≤ c)) ∧
    (∃ (a : Nat) (bs : Bytes) (s : State),
    Memory.wf s.mem.data = true) ∧
    (∃ (w : Word) (s : State),
    s.inRegion 1 s.waddr 4 = true ∧
    (s.waddr + 4 ≤ memEnd ∧ (s.cacheWay (s.waddr / 64)).all (fun k => (s.lineAt (s.waddr / 64) k).data.length == 64) = true)) :=
  ⟨⟨64, [1#8, 2#8], 1, 2#8, ready, by decide +kernel⟩,
  ⟨64, 66, [1#8, 2#8], ready, by decide +kernel⟩,
  ⟨64, [0#8, 2#8], ready, by decide +kernel⟩,
  ⟨0x12345678#32, ({ ready with mem.layout := [1, 0, 0, 0, 0, 0, 0] } : State).setWaddr 0x4000000, by decide +kernel, by decide +kernel⟩⟩

/-- States and operands that meet the hypotheses of each clause of CapsulesAreCheckedAndAdmitted. -/
theorem test_capsulesAreCheckedAndAdmitted :
    (∃ (i : Instr) (r : CapRow) (fn : Fn) (sq : RingNo) (caps : Capsule) (x : CapIn) (s : State),
    i.capsule = some (r, fn, sq, caps, x) ∧
    rowFits r caps = false) ∧
    (∃ (i : Instr) (r : CapRow) (fn : Fn) (sq : RingNo) (caps : Capsule) (x : CapIn) (s : State),
    i.capsule = some (r, fn, sq, caps, x) ∧
    (rowFits r caps = true ∧ s.sq? fn sq = none)) ∧
    (∃ (i : Instr) (r : CapRow) (fn : Fn) (sq : RingNo) (caps : Capsule) (x : CapIn) (q : Sq) (s : State),
    i.capsule = some (r, fn, sq, caps, x) ∧
    (rowFits r caps = true ∧ s.sq? fn sq = some q) ∧
    (q.fetch < 2 ∧ ¬ (s.isOn domHOST = true ∧ s.isOn domCORE = true))) ∧
    (∃ (i : Instr) (r : CapRow) (fn : Fn) (sq : RingNo) (caps : Capsule) (x : CapIn) (q : Sq) (s : State),
    i.capsule = some (r, fn, sq, caps, x) ∧
    (rowFits r caps = true ∧ s.sq? fn sq = some q) ∧
    ((s.isOn domHOST = true ∧ s.isOn domCORE = true) ∧ q.fetch < 2 ∧ s.mayFetch fn sq q = false)) ∧
    (∃ (i : Instr) (r : CapRow) (fn : Fn) (sq : RingNo) (caps : Capsule) (x : CapIn) (q : Sq) (s : State),
    i.capsule = some (r, fn, sq, caps, x) ∧
    (rowFits r caps = true ∧ s.sq? fn sq = some q) ∧
    ((s.isOn domHOST = true ∧ s.isOn domCORE = true) ∧ s.mayFetch fn sq q = true) ∧
    (q.fetch = 0 ∧ s.holds fn q.pasid (s.capPage fn sq q) = false)) ∧
    (∃ (i : Instr) (r : CapRow) (fn : Fn) (sq : RingNo) (caps : Capsule) (x : CapIn) (q : Sq) (s : State),
    i.capsule = some (r, fn, sq, caps, x) ∧
    (rowFits r caps = true ∧ s.sq? fn sq = some q) ∧
    q.fetch = 2) ∧
    (∃ (i : Instr) (r : CapRow) (fn : Fn) (sq : RingNo) (caps : Capsule) (x : CapIn) (q : Sq) (s : State),
    i.capsule = some (r, fn, sq, caps, x) ∧
    (rowFits r caps = true ∧ s.sq? fn sq = some q) ∧
    q.fetch = 3) ∧
    (∃ (i : Instr) (r : CapRow) (fn : Fn) (sq : RingNo) (caps : Capsule) (x : CapIn) (q : Sq) (s : State),
    i.capsule = some (r, fn, sq, caps, x) ∧
    (rowFits r caps = true ∧ s.sq? fn sq = some q) ∧
    ((s.isOn domHOST = true ∧ s.isOn domCORE = true) ∧ s.mayFetch fn sq q = true) ∧
    (q.fetch < 2 ∧ (q.fetch = 0 → s.holds fn q.pasid (s.capPage fn sq q) = true)) ∧
    (s.takeHead fn sq q).checks fn sq (q.cls == 1) caps ≠ .ok) ∧
    (∃ (fn k : Nat) (schuss : Bool) (caps : Capsule) (s : State),
    ((rowOf caps).isNone = true ∨ (pfOnly.contains (capOPC caps) = true ∧ fn ≠ 0))) ∧
    (∃ (fn k : Nat) (schuss : Bool) (caps : Capsule) (s : State),
    ((rowOf caps).isSome = true ∧ (pfOnly.contains (capOPC caps) && fn != 0) = false) ∧
    s.check2 fn k caps = false) ∧
    (∃ (fn k : Nat) (schuss : Bool) (caps : Capsule) (s : State),
    ((rowOf caps).isSome = true ∧ (pfOnly.contains (capOPC caps) && fn != 0) = false) ∧
    s.check2 fn k caps = true ∧
    s.check3 fn caps ≠ .ok) ∧
    (∃ (fn k : Nat) (schuss : Bool) (caps : Capsule) (s : State),
    ((rowOf caps).isSome = true ∧ (pfOnly.contains (capOPC caps) && fn != 0) = false) ∧
    (s.check2 fn k caps = true ∧ s.check3 fn caps = .ok) ∧
    (s.fatal ctxLEDGER = true ∧ needsMap caps = true)) ∧
    (∃ (fn k : Nat) (schuss : Bool) (caps : Capsule) (s : State),
    ((rowOf caps).isSome = true ∧ (pfOnly.contains (capOPC caps) && fn != 0) = false) ∧
    (s.check2 fn k caps = true ∧ s.check3 fn caps = .ok) ∧
    (s.fatal ctxLEDGER && needsMap caps) = false) ∧
    (∃ (i : Instr) (r : CapRow) (fn : Fn) (sq : RingNo) (caps : Capsule) (x : CapIn) (q : Sq) (s : State),
    i.capsule = some (r, fn, sq, caps, x) ∧
    Passes s r fn sq caps q ∧
    bufNeed caps ≠ [] ∧
    (queuesBehind ((s.takeHead fn sq q).enrol fn sq caps x) s.freshId q.cls = true ∨ (((s.takeHead fn sq q).enrol fn sq caps x).allocAll (bufNeed caps) (q.cls == 1)).1 = none)) ∧
    (∃ (i : Instr) (r : CapRow) (fn : Fn) (sq : RingNo) (caps : Capsule) (x : CapIn) (q : Sq) (hs : List Nat) (u : State) (s : State),
    i.capsule = some (r, fn, sq, caps, x) ∧
    Admitted s r fn sq caps x q hs u ∧
    capXRDY caps = false ∧
    ((u.benchFails caps || (u.fatal ctxLEDGER && needsMap caps) || u.engineGone caps || u.stageShut caps) = true ∨ (capOPC caps = 0x11 ∧ cap caps 25 1 ≠ 0 ∧ u.kek.isNone = true))) ∧
    (∃ (i : Instr) (r : CapRow) (fn : Fn) (sq : RingNo) (caps : Capsule) (x : CapIn) (q : Sq) (hs : List Nat) (u : State) (s : State),
    i.capsule = some (r, fn, sq, caps, x) ∧
    Admitted s r fn sq caps x q hs u ∧
    capXRDY caps = false ∧
    ((u.benchFails caps || (u.fatal ctxLEDGER && needsMap caps) || u.engineGone caps || u.stageShut caps) = false ∧ ¬ (capOPC caps = 0x11 ∧ cap caps 25 1 ≠ 0 ∧ u.kek.isNone = true)) ∧
    ((cmdDomains caps).all (fun d => u.isOn d) = false ∨ u.benchWaits caps = true)) :=
  ⟨⟨.nop 0 1 (capBytes [(0, 1)]), .nop, 0, 1, capBytes [(0, 1)], {}, capState, by decide +kernel, by decide +kernel⟩,
  ⟨.nop 0 3 (capBytes [(0, 0x3F)]), .nop, 0, 3, capBytes [(0, 0x3F)], {}, capState, by decide +kernel, by decide +kernel⟩,
  ⟨.nop 0 1 (capBytes [(0, 0x3F)]), .nop, 0, 1, capBytes [(0, 0x3F)], {}, capSq, capState.setDom domCORE 2, by decide +kernel, by decide +kernel, by decide +kernel⟩,
  ⟨.nop 0 1 (capBytes [(0, 0x3F)]), .nop, 0, 1, capBytes [(0, 0x3F)], {}, capSq, capState.setBit (SQ_STAT 0 1) SQ_STAT_FAULT true, by decide +kernel, by decide +kernel, by decide +kernel⟩,
  ⟨.nop 0 1 (capBytes [(0, 0x3F)]), .nop, 0, 1, capBytes [(0, 0x3F)], {}, capSq, capState.setFunc 0 (fun g => { g with ats := true }), by decide +kernel, by decide +kernel, by decide +kernel, by decide +kernel⟩,
  ⟨.nop 0 1 (capBytes [(0, 0x3F)]), .nop, 0, 1, capBytes [(0, 0x3F)], {}, { capSq with fetch := 2 }, capState.putSq 0 1 { capSq with fetch := 2 }, by decide +kernel, by decide +kernel, by decide +kernel⟩,
  ⟨.nop 0 1 (capBytes [(0, 0x3F)]), .nop, 0, 1, capBytes [(0, 0x3F)], {}, { capSq with fetch := 3 }, capState.putSq 0 1 { capSq with fetch := 3 }, by decide +kernel, by decide +kernel, by decide +kernel⟩,
  ⟨.nop 0 1 (capBytes [(0, 0x3F), (24, 1)]), .nop, 0, 1, capBytes [(0, 0x3F), (24, 1)], {}, capSq, capState, by decide +kernel, by decide +kernel, by decide +kernel, by decide +kernel, by decide +kernel⟩,
  ⟨1, 1, false, capBytes [(0, 0x28)], capState, by decide +kernel⟩,
  ⟨0, 1, false, capBytes [(0, 0x28), (30, 0), (32, 1)], capState, by decide +kernel, by decide +kernel⟩,
  ⟨0, 1, false, capBytes [(0, 0x0B), (4, 5)], capState, by decide +kernel, by decide +kernel, by decide +kernel⟩,
  ⟨0, 1, false, capBytes [(0, 0x0B), (4, 77)], capState.setFatal ctxLEDGER, by decide +kernel, by decide +kernel, by decide +kernel⟩,
  ⟨0, 1, false, capBytes [(0, 1), (4, 77), (16, 4096), (24, 4096)], capState, by decide +kernel, by decide +kernel, by decide +kernel⟩,
  ⟨.hash 0 1 (capBytes [(0, 0x12), (2, 1), (16, 300), (32, 64)]), .hash, 0, 1, capBytes [(0, 0x12), (2, 1), (16, 300), (32, 64)], {}, capSq, { capState with work.cmds := [waitCmd] }, by decide +kernel, passes_of (by decide +kernel), by decide +kernel, by decide +kernel⟩,
  ⟨.fwStageMicrocode 0 1 (capBytes [(0, 0x38), (16, 300), (24, 1)]), .stageMicrocode, 0, 1, capBytes [(0, 0x38), (16, 300), (24, 1)], {}, capSq, capBufs (capState.setFatal ctxBENCH) capSq (capBytes [(0, 0x38), (16, 300), (24, 1)]) {}, (capTaken (capState.setFatal ctxBENCH) capSq (capBytes [(0, 0x38), (16, 300), (24, 1)]) {}).2, capState.setFatal ctxBENCH, by decide +kernel, admitted_of (by decide +kernel), by decide +kernel, by decide +kernel⟩,
  ⟨.hash 0 1 (capBytes [(0, 0x12), (16, 300), (32, 64)]), .hash, 0, 1, capBytes [(0, 0x12), (16, 300), (32, 64)], {}, capSq, capBufs (capState.setDom domSEAL 2) capSq (capBytes [(0, 0x12), (16, 300), (32, 64)]) {}, (capTaken (capState.setDom domSEAL 2) capSq (capBytes [(0, 0x12), (16, 300), (32, 64)]) {}).2, capState.setDom domSEAL 2, by decide +kernel, admitted_of (by decide +kernel), by decide +kernel, by decide +kernel, by decide +kernel⟩⟩

/-- States and operands that meet the hypotheses of each clause of DataFromTheHost. -/
theorem test_dataFromTheHost :
    (∃ (i : Instr) (r : CapRow) (fn : Fn) (sq : RingNo) (caps : Capsule) (x : CapIn) (q : Sq) (hs : List Nat) (u : State) (s : State),
    i.capsule = some (r, fn, sq, caps, x) ∧
    r ∈ [CapRow.write, .vaultMount, .cryptGcmEnc, .cryptGcmDec, .cryptCtr, .cryptWrap, .cryptUnwrap, .hash, .planReplace, .planAppend, .stageFirmware, .stageMicrocode] ∧
    Begins s r fn sq caps x q hs u ∧
    (capXRDY caps = false ∧ capLIST caps = false)) ∧
    (∃ (i : Instr) (r : CapRow) (fn : Fn) (sq : RingNo) (caps : Capsule) (x : CapIn) (q : Sq) (hs : List Nat) (u : State) (s : State),
    i.capsule = some (r, fn, sq, caps, x) ∧
    Begins s r fn sq caps x q hs u ∧
    (capXRDY caps = false ∧ capLIST caps = true)) ∧
    (∃ (fn : Fn) (sq : RingNo) (caps : Capsule) (q : Sq) (hs : List Nat) (u : State) (s : State),
    Admitted s .write fn sq caps {} q hs u ∧
    capXRDY caps = true) ∧
    (∃ (id : Nat) (c : Cmd) (s : State),
    s.cmd? id = some c ∧
    (c.phase = 1 ∧ nextChunk c.segsIn = none ∧ capOPC c.caps = 0x12)) ∧
    (∃ (id : Nat) (c : Cmd) (s : State),
    s.cmd? id = some c ∧
    (c.phase = 1 ∧ nextChunk c.segsIn = none ∧ capOPC c.caps = 0x11)) ∧
    (∃ (id : Nat) (c : Cmd) (s : State),
    s.cmd? id = some c ∧
    (c.phase = 1 ∧ nextChunk c.segsIn = none ∧ capOPC c.caps = 0x19)) ∧
    (∃ (id : Nat) (c : Cmd) (s : State),
    s.cmd? id = some c ∧
    (c.phase = 1 ∧ nextChunk c.segsIn = none ∧ capOPC c.caps = 0x38)) ∧
    (∃ (id : Nat) (c : Cmd) (s : State),
    s.cmd? id = some c ∧
    (c.phase = 1 ∧ nextChunk c.segsIn = none ∧ capOPC c.caps = 9)) ∧
    (∃ (id : Nat) (c : Cmd) (s : State),
    s.cmd? id = some c ∧
    (c.phase ≠ 0 ∧ capOPC c.caps = 2)) :=
  ⟨⟨.write 0 1 (capBytes [(0, 2), (4, 77), (8, 0x10000), (16, 4096)]), .write, 0, 1, capBytes [(0, 2), (4, 77), (8, 0x10000), (16, 4096)], {}, capSq, capBufs capState capSq (capBytes [(0, 2), (4, 77), (8, 0x10000), (16, 4096)]) {}, (capTaken capState capSq (capBytes [(0, 2), (4, 77), (8, 0x10000), (16, 4096)]) {}).2, capState, by decide +kernel, by decide +kernel, begins_of (by decide +kernel), by decide +kernel⟩,
  ⟨.hash 0 1 (capBytes [(0, 0x12), (1, 1), (8, 0x10000), (16, 300), (20, 2), (32, 64)]), .hash, 0, 1, capBytes [(0, 0x12), (1, 1), (8, 0x10000), (16, 300), (20, 2), (32, 64)], {}, capSq, capBufs capState capSq (capBytes [(0, 0x12), (1, 1), (8, 0x10000), (16, 300), (20, 2), (32, 64)]) {}, (capTaken capState capSq (capBytes [(0, 0x12), (1, 1), (8, 0x10000), (16, 300), (20, 2), (32, 64)]) {}).2, capState, by decide +kernel, begins_of (by decide +kernel), by decide +kernel⟩,
  ⟨0, 1, capBytes [(0, 2), (1, 2), (4, 77), (8, 0x10000), (16, 4096)], capSq, capBufs capState capSq (capBytes [(0, 2), (1, 2), (4, 77), (8, 0x10000), (16, 4096)]) {}, (capTaken capState capSq (capBytes [(0, 2), (1, 2), (4, 77), (8, 0x10000), (16, 4096)]) {}).2, capState, admitted_of (by decide +kernel), by decide +kernel⟩,
  ⟨9, { dmaCmd with segsIn := [], inBytes := zeros 3 }, { ringState with work.cmds := [{ dmaCmd with segsIn := [], inBytes := zeros 3 }] }, by decide +kernel, by decide +kernel⟩,
  ⟨9, { oneCmd 9 0x11 with phase := 1, inBytes := zeros 40, lead := 32 }, { ringState with work.cmds := [{ oneCmd 9 0x11 with phase := 1, inBytes := zeros 40, lead := 32 }] }, by decide +kernel, by decide +kernel⟩,
  ⟨9, { oneCmd 9 0x19 with phase := 1, inBytes := zeros 64 }, { ringState with work.cmds := [{ oneCmd 9 0x19 with phase := 1, inBytes := zeros 64 }] }, by decide +kernel, by decide +kernel⟩,
  ⟨9, { oneCmd 9 0x38 with phase := 1 }, { ringState with work.cmds := [{ oneCmd 9 0x38 with phase := 1 }] }, by decide +kernel, by decide +kernel⟩,
  ⟨9, { oneCmd 9 9 with phase := 1 }, { ringState with work.cmds := [{ oneCmd 9 9 with phase := 1 }] }, by decide +kernel, by decide +kernel⟩,
  ⟨9, { oneCmd 9 2 with phase := 1 }, { ringState with work.cmds := [{ oneCmd 9 2 with phase := 1 }] }, by decide +kernel, by decide +kernel⟩⟩

/-- States and operands that meet the hypotheses of each clause of DataToTheHost. -/
theorem test_dataToTheHost :
    (∃ (i : Instr) (r : CapRow) (fn : Fn) (sq : RingNo) (caps : Capsule) (q : Sq) (hs : List Nat) (u : State) (s : State),
    ((i, r) = (.read fn sq caps, .read) ∨ (i, r) = (.readVersion fn sq caps, .readVersion)) ∧
    Begins s r fn sq caps {} q hs u ∧
    capLIST caps = false) ∧
    (∃ (i : Instr) (r : CapRow) (fn : Fn) (sq : RingNo) (caps : Capsule) (q : Sq) (hs : List Nat) (u : State) (s : State),
    ((i, r) = (.vaultQuerySummary fn sq caps, .querySummary) ∨ (i, r) = (.vaultQuerySealedSince fn sq caps, .querySealed) ∨ (i, r) = (.vaultQueryVersions fn sq caps, .queryVersions) ∨ (i, r) = (.vaultQueryDiscs fn sq caps, .queryDiscs)) ∧
    Begins s r fn sq caps {} q hs u ∧
    capLIST caps = false) ∧
    (∃ (id : Nat) (c : Cmd) (v : Vault) (s : State),
    s.cmd? id = some c ∧
    (s.vault? (capVAULT c.caps) = some v ∧ s.fatal ctxLEDGER = false)) ∧
    (∃ (fn : Fn) (sq : RingNo) (caps : Capsule) (q : Sq) (hs : List Nat) (u : State) (s : State),
    Begins s .sealExport fn sq caps {} q hs u ∧
    capLIST caps = false) ∧
    (∃ (fn : Fn) (sq : RingNo) (caps : Capsule) (q : Sq) (hs : List Nat) (u : State) (s : State),
    Begins s .bistReport fn sq caps {} q hs u ∧
    capLIST caps = false) ∧
    (∃ (fn : Fn) (sq : RingNo) (caps : Capsule) (q : Sq) (hs : List Nat) (u : State) (s : State),
    Begins s .logRead fn sq caps {} q hs u ∧
    capLIST caps = false) ∧
    (∃ (fn : Fn) (sq : RingNo) (caps : Capsule) (q : Sq) (hs : List Nat) (u : State) (s : State),
    Begins s .eventLogRead fn sq caps {} q hs u ∧
    capLIST caps = false) :=
  ⟨⟨.read 0 1 (capBytes [(0, 1), (4, 77), (8, 0x10000), (16, 4096)]), .read, 0, 1, capBytes [(0, 1), (4, 77), (8, 0x10000), (16, 4096)], capSq, capBufs capState capSq (capBytes [(0, 1), (4, 77), (8, 0x10000), (16, 4096)]) {}, (capTaken capState capSq (capBytes [(0, 1), (4, 77), (8, 0x10000), (16, 4096)]) {}).2, capState, by decide +kernel, begins_of (by decide +kernel), by decide +kernel⟩,
  ⟨.vaultQueryDiscs 0 1 (capBytes [(0, 0x0B), (4, 77), (8, 0x10000), (16, 64), (24, 3)]), .queryDiscs, 0, 1, capBytes [(0, 0x0B), (4, 77), (8, 0x10000), (16, 64), (24, 3)], capSq, capBufs capState capSq (capBytes [(0, 0x0B), (4, 77), (8, 0x10000), (16, 64), (24, 3)]) {}, (capTaken capState capSq (capBytes [(0, 0x0B), (4, 77), (8, 0x10000), (16, 64), (24, 3)]) {}).2, capState, by decide +kernel, begins_of (by decide +kernel), by decide +kernel⟩,
  ⟨9, newCmd 9 0 1 0 (capBytes [(0, 0x0B), (4, 77), (16, 64)]) {}, oneVault 1, { capState with work.cmds := [newCmd 9 0 1 0 (capBytes [(0, 0x0B), (4, 77), (16, 64)]) {}] }, by decide +kernel, by decide +kernel⟩,
  ⟨0, 1, capBytes [(0, 0x10), (4, 77), (8, 0x10000), (16, 4096), (24, 0), (32, 1)], capSq, capBufs capState capSq (capBytes [(0, 0x10), (4, 77), (8, 0x10000), (16, 4096), (24, 0), (32, 1)]) {}, (capTaken capState capSq (capBytes [(0, 0x10), (4, 77), (8, 0x10000), (16, 4096), (24, 0), (32, 1)]) {}).2, capState, begins_of (by decide +kernel), by decide +kernel⟩,
  ⟨0, 1, capBytes [(0, 0x21), (8, 0x10000), (16, 256)], capSq, capBufs capState capSq (capBytes [(0, 0x21), (8, 0x10000), (16, 256)]) {}, (capTaken capState capSq (capBytes [(0, 0x21), (8, 0x10000), (16, 256)]) {}).2, capState, begins_of (by decide +kernel), by decide +kernel⟩,
  ⟨0, 1, capBytes [(0, 0x31), (8, 0x10000), (16, 256), (24, 0xFFFF), (28, 2)], capSq, capBufs capState capSq (capBytes [(0, 0x31), (8, 0x10000), (16, 256), (24, 0xFFFF), (28, 2)]) {}, (capTaken capState capSq (capBytes [(0, 0x31), (8, 0x10000), (16, 256), (24, 0xFFFF), (28, 2)]) {}).2, capState, begins_of (by decide +kernel), by decide +kernel⟩,
  ⟨0, 1, capBytes [(0, 0x31), (8, 0x10000), (16, 256), (24, 0xFFFE), (28, 2)], capSq, capBufs capState capSq (capBytes [(0, 0x31), (8, 0x10000), (16, 256), (24, 0xFFFE), (28, 2)]) {}, (capTaken capState capSq (capBytes [(0, 0x31), (8, 0x10000), (16, 256), (24, 0xFFFE), (28, 2)]) {}).2, capState, begins_of (by decide +kernel), by decide +kernel⟩⟩

/-- States and operands that meet the hypotheses of each clause of StationAndCalibrationCommands. -/
theorem test_stationAndCalibrationCommands :
    (∃ (i : Instr) (r : CapRow) (k : TaskKind) (fn : Fn) (sq : RingNo) (caps : Capsule) (q : Sq) (hs : List Nat) (u : State) (s : State),
    ((i, r, k) = (.stationCtlLoad fn sq caps, .ctlLoad, .load) ∨ (i, r, k) = (.stationCtlSpin fn sq caps, .ctlSpin, .spin) ∨ (i, r, k) = (.stationCtlPark fn sq caps, .ctlPark, .park) ∨ (i, r, k) = (.stationCtlStow fn sq caps, .ctlStow, .stow) ∨ (i, r, k) = (.stationCtlRetire fn sq caps, .ctlRetire, .retire)) ∧
    Begins s r fn sq caps {} q hs u ∧
    capLIST caps = false) ∧
    (∃ (i : Instr) (r : CapRow) (planned : Bool) (fn : Fn) (sq : RingNo) (caps : Capsule) (q : Sq) (hs : List Nat) (u : State) (s : State),
    ((i, r, planned) = (.stationCtlAdaptive fn sq caps, .ctlAdaptive, false) ∨ (i, r, planned) = (.stationCtlPlanned fn sq caps, .ctlPlanned, true)) ∧
    Begins s r fn sq caps {} q hs u ∧
    capLIST caps = false) ∧
    (∃ (fn : Fn) (sq : RingNo) (caps : Capsule) (q : Sq) (hs : List Nat) (u : State) (s : State),
    Begins s .ctlForce fn sq caps {} q hs u ∧
    capLIST caps = false) ∧
    (∃ (n : Stn) (t : Task) (s : State),
    t.kind = .mode) ∧
    (∃ (fn : Fn) (sq : RingNo) (caps : Capsule) (q : Sq) (hs : List Nat) (u : State) (s : State),
    Begins s .capture fn sq caps {} q hs u ∧
    capLIST caps = false) ∧
    (∃ (fn : Fn) (sq : RingNo) (caps : Capsule) (q : Sq) (hs : List Nat) (u : State) (s : State),
    Begins s .captureStop fn sq caps {} q hs u ∧
    capLIST caps = false) ∧
    (∃ (i : Instr) (r : CapRow) (fn : Fn) (sq : RingNo) (caps : Capsule) (m : Option CalMeas) (q : Sq) (hs : List Nat) (u : State) (s : State),
    ((i, r) = (.refin fn sq caps m, .calRefin) ∨ (i, r) = (.temp fn sq caps m, .calTemp) ∨ (i, r) = (.vin fn sq caps m, .calVin)) ∧
    Begins s r fn sq caps { meas := m } q hs u ∧
    capLIST caps = false) ∧
    (∃ (i : Instr) (r : CapRow) (fn : Fn) (sq : RingNo) (caps : Capsule) (q : Sq) (hs : List Nat) (u : State) (s : State),
    ((i, r) = (.pdSense fn sq caps, .calPd) ∨ (i, r) = (.hfOffset fn sq caps, .calOffset) ∨ (i, r) = (.hfGain fn sq caps, .calGain) ∨ (i, r) = (.zoneLearn fn sq caps, .calZone) ∨ (i, r) = (.testWrite fn sq caps, .calTest) ∨ (i, r) = (.liveOn fn sq caps, .calLiveOn) ∨ (i, r) = (.liveOff fn sq caps, .calLiveOff)) ∧
    Begins s r fn sq caps {} q hs u ∧
    capLIST caps = false) ∧
    (∃ (fn : Fn) (sq : RingNo) (caps : Capsule) (q : Sq) (hs : List Nat) (u : State) (s : State),
    Begins s .calBistClear fn sq caps {} q hs u ∧
    capLIST caps = false) ∧
    (∃ (fn : Fn) (sq : RingNo) (caps : Capsule) (bist : List BistFind) (q : Sq) (hs : List Nat) (u : State) (s : State),
    Begins s .calShutdown fn sq caps { bist := bist } q hs u ∧
    capLIST caps = false) :=
  ⟨⟨.stationCtlSpin 0 1 (capBytes [(0, 0x1A), (24, 1), (25, 2), (28, 3000)]), .ctlSpin, .spin, 0, 1, capBytes [(0, 0x1A), (24, 1), (25, 2), (28, 3000)], capSq, capBufs capState capSq (capBytes [(0, 0x1A), (24, 1), (25, 2), (28, 3000)]) {}, (capTaken capState capSq (capBytes [(0, 0x1A), (24, 1), (25, 2), (28, 3000)]) {}).2, capState, by decide +kernel, begins_of (by decide +kernel), by decide +kernel⟩,
  ⟨.stationCtlPlanned 0 1 (capBytes [(0, 0x1A), (24, 1), (25, 7)]), .ctlPlanned, true, 0, 1, capBytes [(0, 0x1A), (24, 1), (25, 7)], capSq, capBufs capState capSq (capBytes [(0, 0x1A), (24, 1), (25, 7)]) {}, (capTaken capState capSq (capBytes [(0, 0x1A), (24, 1), (25, 7)]) {}).2, capState, by decide +kernel, begins_of (by decide +kernel), by decide +kernel⟩,
  ⟨0, 1, capBytes [(0, 0x1A), (24, 1), (25, 3), (26, 1)], capSq, capBufs (capState.withTask 1 .seek []) capSq (capBytes [(0, 0x1A), (24, 1), (25, 3), (26, 1)]) {}, (capTaken (capState.withTask 1 .seek []) capSq (capBytes [(0, 0x1A), (24, 1), (25, 3), (26, 1)]) {}).2, capState.withTask 1 .seek [], begins_of (by decide +kernel), by decide +kernel⟩,
  ⟨1, ⟨3, 1, .mode, [9], 0, 0, [1], false, [], false⟩, { ready with work.cmds := [oneCmd 9 0x1A], work.tasks := [⟨3, 1, .mode, [9], 0, 0, [1], false, [], false⟩] }, by decide +kernel⟩,
  ⟨0, 1, capBytes [(0, 0x18), (4, 77), (8, 0x10000), (16, 100000), (24, 1), (28, 1), (32, 2048)], capSq, capBufs capState capSq (capBytes [(0, 0x18), (4, 77), (8, 0x10000), (16, 100000), (24, 1), (28, 1), (32, 2048)]) {}, (capTaken capState capSq (capBytes [(0, 0x18), (4, 77), (8, 0x10000), (16, 100000), (24, 1), (28, 1), (32, 2048)]) {}).2, capState, begins_of (by decide +kernel), by decide +kernel⟩,
  ⟨0, 1, capBytes [(0, 0x18), (4, 77), (24, 1), (25, 2), (26, 5)], capSq, capBufs capState capSq (capBytes [(0, 0x18), (4, 77), (24, 1), (25, 2), (26, 5)]) {}, (capTaken capState capSq (capBytes [(0, 0x18), (4, 77), (24, 1), (25, 2), (26, 5)]) {}).2, capState, begins_of (by decide +kernel), by decide +kernel⟩,
  ⟨.refin 0 1 (capBytes [(0, 0x20), (24, 0xFF), (26, 1), (8, 0x10000), (16, 64)]) none, .calRefin, 0, 1, capBytes [(0, 0x20), (24, 0xFF), (26, 1), (8, 0x10000), (16, 64)], none, capSq, capBufs capState capSq (capBytes [(0, 0x20), (24, 0xFF), (26, 1), (8, 0x10000), (16, 64)]) {}, (capTaken capState capSq (capBytes [(0, 0x20), (24, 0xFF), (26, 1), (8, 0x10000), (16, 64)]) {}).2, capState, by decide +kernel, begins_of (by decide +kernel), by decide +kernel⟩,
  ⟨.hfGain 0 1 (capBytes [(0, 0x20), (24, 1), (26, 0x12), (8, 0x10000), (16, 64)]), .calGain, 0, 1, capBytes [(0, 0x20), (24, 1), (26, 0x12), (8, 0x10000), (16, 64)], capSq, capBufs capState capSq (capBytes [(0, 0x20), (24, 1), (26, 0x12), (8, 0x10000), (16, 64)]) {}, (capTaken capState capSq (capBytes [(0, 0x20), (24, 1), (26, 0x12), (8, 0x10000), (16, 64)]) {}).2, capState, by decide +kernel, begins_of (by decide +kernel), by decide +kernel⟩,
  ⟨0, 1, capBytes [(0, 0x20), (24, 1), (26, 0x30), (8, 0x10000), (16, 64)], capSq, capBufs capState capSq (capBytes [(0, 0x20), (24, 1), (26, 0x30), (8, 0x10000), (16, 64)]) {}, (capTaken capState capSq (capBytes [(0, 0x20), (24, 1), (26, 0x30), (8, 0x10000), (16, 64)]) {}).2, capState, begins_of (by decide +kernel), by decide +kernel⟩,
  ⟨0, 1, capBytes [(0, 0x20), (24, 0xFF), (26, 0x31), (8, 0x10000), (16, 64)], [], capSq, capBufs { capState with ledger.vaults := [] } capSq (capBytes [(0, 0x20), (24, 0xFF), (26, 0x31), (8, 0x10000), (16, 64)]) {}, (capTaken { capState with ledger.vaults := [] } capSq (capBytes [(0, 0x20), (24, 0xFF), (26, 0x31), (8, 0x10000), (16, 64)]) {}).2, { capState with ledger.vaults := [] }, begins_of (by decide +kernel), by decide +kernel⟩⟩

/-- States and operands that meet the hypotheses of each clause of VaultOrderAndDeviceCommands. -/
theorem test_vaultOrderAndDeviceCommands :
    (∃ (i : Instr) (r : CapRow) (fn : Fn) (sq : RingNo) (caps : Capsule) (q : Sq) (hs : List Nat) (u : State) (s : State),
    (i.capsule = some (r, fn, sq, caps, {}) ∧ r ∈ [CapRow.vaultCreate, .vaultRebind, .vaultUnmount]) ∧
    Begins s r fn sq caps {} q hs u ∧
    capLIST caps = false) ∧
    (∃ (id : Nat) (c : Cmd) (s : State),
    s.cmd? id = some c ∧
    ((s.boundTo (capVAULT c.caps)).isSome = true ∧ (s.vault? (capVAULT c.caps)).isNone = true ∧ s.ledger.mounting.contains (capVAULT c.caps) = false ∧ s.kek.isSome = true)) ∧
    (∃ (i : Instr) (r : CapRow) (fn : Fn) (sq : RingNo) (caps : Capsule) (q : Sq) (hs : List Nat) (u : State) (s : State),
    ((i, r) = (.flush fn sq caps, .flush) ∨ (i, r) = (.fence fn sq caps, .fence)) ∧
    Begins s r fn sq caps {} q hs u ∧
    capLIST caps = false) ∧
    (∃ (fn : Fn) (sq : RingNo) (caps : Capsule) (q : Sq) (hs : List Nat) (u : State) (s : State),
    Begins s .domainSet fn sq caps {} q hs u ∧
    capLIST caps = false) ∧
    (∃ (i : Instr) (r : CapRow) (fn : Fn) (sq : RingNo) (caps : Capsule) (q : Sq) (hs : List Nat) (u : State) (s : State),
    ((i, r) = (.queueResetResumeAfter fn sq caps, .resetResume) ∨ (i, r) = (.queueResetDiscard fn sq caps, .resetDiscard)) ∧
    Begins s r fn sq caps {} q hs u ∧
    capLIST caps = false ∧
    (cap caps 24 2 = sq ∨ u.sq? fn (cap caps 24 2) = none ∨ u.fld (SQ_STAT fn (cap caps 24 2)) SQ_STAT_STATE = 2)) ∧
    (∃ (i : Instr) (r : CapRow) (discard : Bool) (fn : Fn) (sq : RingNo) (caps : Capsule) (q t : Sq) (hs : List Nat) (u : State) (s : State),
    ((i, r, discard) = (.queueResetResumeAfter fn sq caps, .resetResume, false) ∨ (i, r, discard) = (.queueResetDiscard fn sq caps, .resetDiscard, true)) ∧
    Begins s r fn sq caps {} q hs u ∧
    capLIST caps = false ∧
    (cap caps 24 2 ≠ sq ∧ u.sq? fn (cap caps 24 2) = some t ∧ u.fld (SQ_STAT fn (cap caps 24 2)) SQ_STAT_STATE ≠ 2)) ∧
    (∃ (fn : Fn) (sq : RingNo) (caps : Capsule) (q : Sq) (hs : List Nat) (u : State) (s : State),
    Begins s .activateFirmware fn sq caps {} q hs u ∧
    capLIST caps = false) ∧
    (∃ (fn : Fn) (sq : RingNo) (caps : Capsule) (q : Sq) (hs : List Nat) (u : State) (s : State),
    Begins s .activateMicrocode fn sq caps {} q hs u ∧
    capLIST caps = false) ∧
    (∃ (fn : Fn) (sq : RingNo) (caps : Capsule) (q : Sq) (hs : List Nat) (u : State) (s : State),
    Begins s .nop fn sq caps {} q hs u ∧
    capLIST caps = false) :=
  ⟨⟨.vaultUnmount 0 1 (capBytes [(0, 0x0A), (4, 77)]), .vaultUnmount, 0, 1, capBytes [(0, 0x0A), (4, 77)], capSq, capBufs capState capSq (capBytes [(0, 0x0A), (4, 77)]) {}, (capTaken capState capSq (capBytes [(0, 0x0A), (4, 77)]) {}).2, capState, by decide +kernel, begins_of (by decide +kernel), by decide +kernel⟩,
  ⟨9, newCmd 9 0 1 0 (capBytes [(0, 8), (4, 77), (24, 3), (26, 1)]) {}, { capState with ledger.vaults := [], sec.seed := some (zeros 32), work.cmds := [newCmd 9 0 1 0 (capBytes [(0, 8), (4, 77), (24, 3), (26, 1)]) {}] }, by decide +kernel, by decide +kernel⟩,
  ⟨.fence 0 1 (capBytes [(0, 5), (2, 1)]), .fence, 0, 1, capBytes [(0, 5), (2, 1)], capSq, capBufs { capState with work.cmds := [waitCmd] } capSq (capBytes [(0, 5), (2, 1)]) {}, (capTaken { capState with work.cmds := [waitCmd] } capSq (capBytes [(0, 5), (2, 1)]) {}).2, { capState with work.cmds := [waitCmd] }, by decide +kernel, begins_of (by decide +kernel), by decide +kernel⟩,
  ⟨0, 1, capBytes [(0, 0x28), (24, 0xC0)], capSq, capBufs capState capSq (capBytes [(0, 0x28), (24, 0xC0)]) {}, (capTaken capState capSq (capBytes [(0, 0x28), (24, 0xC0)]) {}).2, capState, begins_of (by decide +kernel), by decide +kernel⟩,
  ⟨.queueResetDiscard 0 1 (capBytes [(0, 0x30), (24, 1), (26, 1)]), .resetDiscard, 0, 1, capBytes [(0, 0x30), (24, 1), (26, 1)], capSq, capBufs capState capSq (capBytes [(0, 0x30), (24, 1), (26, 1)]) {}, (capTaken capState capSq (capBytes [(0, 0x30), (24, 1), (26, 1)]) {}).2, capState, by decide +kernel, begins_of (by decide +kernel), by decide +kernel, by decide +kernel⟩,
  ⟨.queueResetDiscard 0 1 (capBytes [(0, 0x30), (24, 2), (26, 1)]), .resetDiscard, true, 0, 1, capBytes [(0, 0x30), (24, 2), (26, 1)], capSq, { capSq with tail := 5 }, capBufs twoSqs capSq (capBytes [(0, 0x30), (24, 2), (26, 1)]) {}, (capTaken twoSqs capSq (capBytes [(0, 0x30), (24, 2), (26, 1)]) {}).2, twoSqs, by decide +kernel, begins_of (by decide +kernel), by decide +kernel, by decide +kernel⟩,
  ⟨0, 1, capBytes [(0, 0x39)], capSq, capBufs { capState with sec.staged := [true, true] } capSq (capBytes [(0, 0x39)]) {}, (capTaken { capState with sec.staged := [true, true] } capSq (capBytes [(0, 0x39)]) {}).2, { capState with sec.staged := [true, true] }, begins_of (by decide +kernel), by decide +kernel⟩,
  ⟨0, 1, capBytes [(0, 0x39), (24, 1)], capSq, capBufs { capState with sec.staged := [true, true] } capSq (capBytes [(0, 0x39), (24, 1)]) {}, (capTaken { capState with sec.staged := [true, true] } capSq (capBytes [(0, 0x39), (24, 1)]) {}).2, { capState with sec.staged := [true, true] }, begins_of (by decide +kernel), by decide +kernel⟩,
  ⟨0, 1, capBytes [(0, 0x3F)], capSq, capBufs capState capSq (capBytes [(0, 0x3F)]) {}, (capTaken capState capSq (capBytes [(0, 0x3F)]) {}).2, capState, begins_of (by decide +kernel), by decide +kernel⟩⟩

/-- States and operands that meet the hypotheses of each clause of CheckpointsAndMounts. -/
theorem test_checkpointsAndMounts :
    (∃ (idx count no vault prevLoc prevBands : Nat) (frontier : List Nat) (bands : List CkBand) (dropped : List (Nat × Nat)),
    (idx < 2 ^ 8 ∧ count < 2 ^ 8 ∧ no < 2 ^ 32 ∧ vault < 2 ^ 32 ∧ prevLoc < 2 ^ 32 ∧ prevBands < 2 ^ 32) ∧
    (frontier.length = 16 ∧ (∀ l ∈ frontier, l < 2 ^ 32)) ∧
    (bands.length < 2 ^ 32 ∧ dropped.length < 2 ^ 32) ∧
    (∀ b ∈ bands, b.seq < 2 ^ 64 ∧ b.loc < 2 ^ 32 ∧ b.n < 2 ^ 16 ∧ b.flags < 2 ^ 16 ∧ b.relocs.length < 2 ^ 16 ∧ b.entries.length < 2 ^ 16) ∧
    (∀ b ∈ bands, (∀ r ∈ b.relocs, r.length = 8) ∧ (∀ e ∈ b.entries, e.1 < 2 ^ 64 ∧ 0 < e.2.1 ∧ e.2.1 < 2 ^ 32 ∧ e.2.2 < 2 ^ 16)) ∧
    (∀ e ∈ dropped, e.1 < 2 ^ 64 ∧ e.2 < 2 ^ 32) ∧
    128 + (bands.flatMap ckDescriptor).length + 16 * dropped.length < 2 ^ 64) ∧
    (∃ (pub : Bytes) (vault : Nat) (f : DiscFound) (y : Nat),
    ((readDisc pub vault f).head = none ∧ y < 16)) ∧
    (∃ (pub : Bytes) (vault : Nat) (f : DiscFound) (y : Nat),
    (y < 16 ∧ f.bands.map (·.loc) = [])) ∧
    (∃ (d : DiscRead) (b : CkBand),
    b ∈ d.covered) ∧
    (∃ (d : DiscRead) (c : CkRead) (r : BandRead),
    (d.head = some c ∧ r ∈ c.own)) ∧
    (∃ (d : DiscRead) (c : CkRead) (e : Nat × Nat),
    (d.head = some c ∧ e ∈ c.drops ∧ e.1 < 2 ^ 63)) :=
  ⟨⟨1, 2, 3, 4, 5, 6, List.replicate 16 7, [⟨8, 9, 1, 1, [[1#8, 2#8, 3#8, 4#8, 0#8, 0#8, 0#8, 0#8]], [(5, 6, 0)]⟩, ⟨9, 10, 0, 4, [], []⟩], [(11, 12)], by decide +kernel, by decide +kernel, by decide +kernel, by decide +kernel, by decide +kernel, by decide +kernel, by decide +kernel⟩,
  ⟨[], 1, ⟨0, [], [], [⟨0, [], []⟩], [], [], []⟩, 0, by decide +kernel⟩,
  ⟨[], 1, ⟨0, [], [], [], [], [], []⟩, 5, by decide +kernel⟩,
  ⟨⟨⟨0, [], [], [], [], [], []⟩, 0, [], none, 0, [⟨1, 0, 1, 1, [], [(5, 6, 0)]⟩], none, [], [], 0⟩, ⟨1, 0, 1, 1, [], [(5, 6, 0)]⟩, by decide +kernel⟩,
  ⟨⟨⟨0, [], [], [], [], [], []⟩, 0, [], some ⟨0, 1, [], ⟨0, 1, 1, 1, 128, 0, 1, 0, 0, []⟩, [], [], [⟨2048, [], []⟩]⟩, 1, [], none, [], [], 0⟩, ⟨0, 1, [], ⟨0, 1, 1, 1, 128, 0, 1, 0, 0, []⟩, [], [], [⟨2048, [], []⟩]⟩, ⟨2048, [], []⟩, by decide +kernel⟩,
  ⟨⟨⟨0, [], [], [], [], [], []⟩, 0, [], some ⟨0, 1, [], ⟨0, 1, 1, 1, 128, 0, 1, 0, 0, []⟩, [], [(5, 6)], []⟩, 1, [], none, [], [], 0⟩, ⟨0, 1, [], ⟨0, 1, 1, 1, 128, 0, 1, 0, 0, []⟩, [], [(5, 6)], []⟩, (5, 6), by decide +kernel⟩⟩

end Sys2Proof.Machine
end

section
/-!
SUPPORT. The scope chapter: how software's accesses go (R2, R9 to R13), what reset leaves (R12), and what a domain that is ready
brings about (R424).
-/

namespace Sys2Proof

open Machine

/-! ## The meanings of register writes, register reads and DOMAIN_READY -/

theorem exec_registerWrite (f : Fn) (sp : Space) (off size v : Nat) (data : Bytes) (s : State) :
    exec (.registerWrite f sp off size v data) s = .next (s.close (s.busWrite f.val sp off size v data)) := rfl

theorem exec_domainWake (f : Fn) (sp : Space) (off size : Nat) (s : State) :
    exec (.domainWake f sp off size) s = .next (s.close (s.busRead f.val sp off size)) := rfl

theorem exec_domainReady (d : Fin 27) (s : State) : exec (.domainReady d) s = .next (s.close (s.domainIsReady d.val)) := rfl

@[simp] theorem toFn_val (f : Fn) : toFn f.val = f := Fin.ext (Nat.mod_eq_of_lt f.isLt)

/-! ## A write of the bus, by its size and alignment (R9, R281) -/

section BusWrite

variable {s : State} {fn : Nat} {sp : Space} {off size : Nat} (v : Nat) (data : Bytes)

theorem busWrite_four (hn : nudgePage sp fn off = false) (ha : off % 4 = 0) :
    s.busWrite fn sp off 4 v data = s.accessAt fn sp off (BitVec.ofNat 32 v) data := by
  simp [State.busWrite, hn, ha]

theorem busWrite_eight (hn : nudgePage sp fn off = false) (ha : off % 8 = 0) :
    s.busWrite fn sp off 8 v data =
      (s.accessAt fn sp off (BitVec.ofNat 32 v) data).accessAt fn sp (off + 4) (BitVec.ofNat 32 (v / 2 ^ 32)) data := by
  simp [State.busWrite, hn, ha]

theorem busWrite_other (hn : nudgePage sp fn off = false) (h4 : ¬ (size = 4 ∧ off % 4 = 0))
    (h8 : ¬ (size = 8 ∧ off % 8 = 0)) : s.busWrite fn sp off size v data = s := by
  simp only [State.busWrite, hn, h4, h8, Bool.false_eq_true, ↓reduceIte]

theorem busWrite_nudge (hn : nudgePage sp fn off = true) :
    s.busWrite fn sp off size v data = if s.linkReaches fn sp then s.nudge (toFn fn) else s := by
  simp only [State.busWrite, hn, ↓reduceIte]

end BusWrite

/-! ## A read of the bus, by its size and alignment -/

theorem busRead_four {s : State} {fn : Nat} {sp : Space} {off : Nat} (hn : nudgePage sp fn off = false) (ha : off % 4 = 0) :
    s.busRead fn sp off 4 = s.readAt fn sp off := by
  simp [State.busRead, hn, ha]

theorem busRead_eight {s : State} {fn : Nat} {sp : Space} {off : Nat} (hn : nudgePage sp fn off = false) (ha : off % 8 = 0) :
    s.busRead fn sp off 8 = (s.readAt fn sp off).readAt fn sp (off + 4) := by
  simp [State.busRead, hn, ha]

/-! ## An access of 32 bits goes through, stalls, or meets a fused domain -/

/-- A write to BAR0 that goes through at once has the register's own effect (R11). -/
theorem accessAt_of_reaches {s : State} {fn off : Nat} (h : Reaches s fn off) (w : Word) (data : Bytes) :
    s.accessAt fn .bar0 off w data = s.applyWrite fn off w data := access_of_reaches h w data

theorem readAt_of_reaches {s : State} {fn off : Nat} (h : Reaches s fn off) : s.readAt fn .bar0 off = s.applyRead fn .bar0 off :=
  accessRead_of_reaches h

theorem reach_domHOST_of_on {s : State} (he : s.power.entry = none) (h : ∀ d ∈ domClosure domHOST, s.dom d = 1) :
    s.reach domHOST = (s, true) := by
  have on : s.isOn domHOST = true := by simp [State.isOn, h _ (self_mem_domClosure domHOST)]
  simp only [State.reach, wake_of_on he h, on, Bool.and_self]

theorem spaceDom_of_ne_bar0 {sp : Space} (h : sp ≠ .bar0) (fn off : Nat) : spaceDom sp fn off = domHOST := by
  cases sp with
  | bar0 => exact absurd rfl h
  | bar2 | bar4 | config => rfl

/-- Outside BAR0 a write goes through once HOST is ON (R13). -/
theorem accessAt_of_host_on {s : State} {fn : Nat} {sp : Space} (hl : s.linkReaches fn sp = true) (hsp : sp ≠ .bar0)
    (he : s.power.entry = none) (hf : fusedDom s.part domHOST = false) (on : ∀ d ∈ domClosure domHOST, s.dom d = 1)
    (off : Nat) (w : Word) (data : Bytes) : s.accessAt fn sp off w data = s.applyAt fn sp off w data := by
  simp [State.accessAt, spaceDom_of_ne_bar0 hsp, hl, hf, reach_domHOST_of_on he on]

/-- A write to a register whose domain is not ON waits, and the domain wakes (R13). -/
theorem accessAt_stalls {s : State} {fn off : Nat} (hl : s.linkReaches fn .bar0 = true) (hf : fusedDom s.part (regDom fn off) = false)
    (hoff : ((s.wake domHOST).wake (regDom fn off)).isOn (regDom fn off) = false) (w : Word) (data : Bytes) :
    let u := (s.wake domHOST).wake (regDom fn off)
    s.accessAt fn .bar0 off w data = { u with power.stalled := u.power.stalled ++ [.write fn .bar0 off w data] } := by
  simp [State.accessAt, spaceDom, hl, hf, State.reach, hoff]

/-- A write to a fused domain is discarded at once (R2). -/
theorem accessAt_of_fused {s : State} {fn off : Nat} {sp : Space} (h : fusedDom s.part (spaceDom sp fn off) = true) (w : Word)
    (data : Bytes) : s.accessAt fn sp off w data = s := by
  simp [State.accessAt, h]

/-- A read of a fused domain is answered with 0 at once (R2). -/
theorem readAt_of_fused {s : State} {fn off : Nat} {sp : Space} (h : fusedDom s.part (spaceDom sp fn off) = true)
    (hl : s.linkReaches fn sp = true) : s.readAt fn sp off = s.emit (.readData 0#32) := by
  simp [State.readAt, h, hl]

/-! ## Where no register lies (R10) -/

theorem applyWrite_of_no_row {s : State} {fn off : Nat} (h : regRow fn off = none) (w : Word) (data : Bytes) :
    s.applyWrite fn off w data = s := by
  simp only [State.applyWrite, h]

/-- A register that a read serves in a way of its own is not where no register lies. -/
theorem not_at_of_no_row {fn off k : Nat} (h : regRow fn off = none) (hk : (regRow 0 k).isSome = true) : ¬ (fn = 0 ∧ off = k) := by
  rintro ⟨rfl, rfl⟩
  simp [h] at hk

theorem applyRead_bar0_of_no_row {s : State} {fn off : Nat} (h : regRow fn off = none) :
    s.applyRead fn .bar0 off = s.emit (.readData 0#32) := by
  have lo : ¬ (fn = 0 ∧ off = CLK_NOW_LO.key) := not_at_of_no_row h (by decide)
  have hi : ¬ (fn = 0 ∧ off = CLK_NOW_HI.key) := not_at_of_no_row h (by decide)
  have wdata : ¬ (fn = 0 ∧ off = MEM_WDATA.key) := not_at_of_no_row h (by decide)
  simp only [State.applyRead, lo, hi, wdata, h, ↓reduceIte]

theorem applyAt_bar2_of_beyond {s : State} {fn off : Nat} (h : 16 * s.vecCount fn ≤ off) (w : Word) (data : Bytes) :
    s.applyAt fn .bar2 off w data = s := by
  simp only [State.applyAt, Nat.not_lt.mpr h, ↓reduceIte]

/-- Beside the MSI-X table and the PBA BAR2 reads 0. -/
theorem msixRead_of_beyond {s : State} {f : Fn} {off : Nat} (h : 16 * s.vecCount f ≤ off)
    (hp : ¬ ((if f.val = 0 then 0x8000 else 0x2000) ≤ off ∧
      off < (if f.val = 0 then 0x8000 else 0x2000) + (if f.val = 0 then 32 else 8))) : s.msixRead f off = 0#32 := by
  simp only [State.msixRead, Nat.not_lt.mpr h, hp, ↓reduceIte]

/-- Settles O5: each space's own effect, at an offset that nothing occupies. -/
theorem anUnoccupiedOffsetReadsZero : Obligations.AnUnoccupiedOffsetReadsZero := by
  refine ⟨?bar0, ?bar0Waited, ?bar2, ?bar4⟩
  case bar0 =>
    rintro f off v data s hr ⟨hrow, hn, ha⟩
    constructor
    · rw [exec_registerWrite, busWrite_four v data hn ha, accessAt_of_reaches hr, applyWrite_of_no_row hrow]
    · rw [exec_domainWake, busRead_four hn ha, readAt_of_reaches hr, applyRead_bar0_of_no_row hrow]
  case bar0Waited =>
    exact fun f off w data s hrow => ⟨applyWrite_of_no_row hrow w data, applyRead_bar0_of_no_row hrow⟩
  case bar2 =>
    intro f off w data s ht hp
    refine ⟨applyAt_bar2_of_beyond ht w data, ?_⟩
    simp only [State.applyRead, toFn_val, msixRead_of_beyond ht hp]
  case bar4 => exact fun f off w data s => ⟨rfl, rfl⟩

/-! ## The stations that a VK1608 does not have (R2) -/

/-- The window of station `n` lies in the station's domain. -/
theorem regDom_window (n : Stn) {off : Nat} (h : off < 0x10000) : regDom 0 (0x100000 + 0x10000 * n.val + off) = domSTN n := by
  have hn := n.isLt
  have hd : (0x100000 + 0x10000 * n.val + off - 0x100000) / 0x10000 = n.val := by omega
  have far (c : Nat) (hc : c ≤ 0x100000) : ¬ 0x100000 + 0x10000 * n.val + off < c := by omega
  have inside : 0x100000 ≤ 0x100000 + 0x10000 * n.val + off ∧ 0x100000 + 0x10000 * n.val + off < 0x200000 := by omega
  simp (disch := decide) only [regDom, far, inside, hd, domSTN, ne_eq, not_true_eq_false, and_self, ↓reduceIte]

theorem fusedDom_upper_station {p : Part} {n : Stn} (hp : p = .vk1608) (hn : 8 ≤ n.val) : fusedDom p (domSTN n) = true := by
  subst hp
  exact decide_eq_true (show domSTN n = 9 ∨ domSTN n = 10 ∨ 19 ≤ domSTN n by unfold domSTN; omega)

theorem fusedDom_upper_window {p : Part} {n : Stn} {off : Nat} (hp : p = .vk1608) (hn : 8 ≤ n.val) (ho : off < 0x10000) :
    fusedDom p (spaceDom .bar0 0 (0x100000 + 0x10000 * n.val + off)) = true := by
  rw [spaceDom, regDom_window n ho]
  exact fusedDom_upper_station hp hn

/-- Settles O6: the windows of those stations lie in fused domains, which every access finds before it stalls or wakes anything. -/
theorem stationsThatAVk1608DoesNotHave : Obligations.StationsThatAVk1608DoesNotHave := by
  refine ⟨?writes, ?reads32, ?reads64, ?domain⟩
  case writes =>
    rintro n off size v data s ⟨hp, hn, ho, ⟨rfl, ha⟩ | ⟨rfl, ha⟩⟩
    · rw [exec_registerWrite, Fin.val_zero, busWrite_four v data rfl (by omega), accessAt_of_fused (fusedDom_upper_window hp hn ho)]
    · rw [exec_registerWrite, Fin.val_zero, busWrite_eight v data rfl (by omega), accessAt_of_fused (fusedDom_upper_window hp hn ho),
        Nat.add_assoc, accessAt_of_fused (fusedDom_upper_window hp hn (by omega))]
  case reads32 =>
    rintro n off s ⟨hp, hn, ho, ha⟩ hl
    rw [exec_domainWake, Fin.val_zero, busRead_four rfl (by omega), readAt_of_fused (fusedDom_upper_window hp hn ho) hl]
  case reads64 =>
    rintro n off s ⟨hp, hn, ho, ha⟩ hl
    rw [exec_domainWake, Fin.val_zero, busRead_eight rfl (by omega), readAt_of_fused (fusedDom_upper_window hp hn ho) hl, Nat.add_assoc,
      readAt_of_fused (s := s.emit _) (fusedDom_upper_window hp hn (by omega)) hl]
  case domain =>
    rintro n s ⟨hp, hn⟩
    simp only [State.dom, fusedDom_upper_station hp hn, ↓reduceIte]

/-! ## Register accesses (R11) -/

/-- What a plain write leaves in its register: RW bits and open RWL bits taken, W1C bits written 1 cleared. -/
theorem plainWrite_reg_same (s : State) (r : RegRow) (x : Reg) (w : Word) :
    (s.plainWrite r x w).reg x =
      ((s.reg x &&& ~~~(r.rw ||| (if s.rwlOpen then r.rwl else 0#32))) ||| (w &&& (r.rw ||| (if s.rwlOpen then r.rwl else 0#32))))
        &&& ~~~(w &&& r.w1c) := by
  rw [State.plainWrite, State.reg_setReg_same, rowWrite]
  cases s.rwlOpen <;> simp

/-- Settles O51, clause by clause from the laws of accesses. -/
theorem registerAccess : Obligations.RegisterAccess := by
  refine ⟨?sizes, ?elsewhere, ?through, ?stalls, ?nowhere, ?plain⟩
  case sizes =>
    intro f sp off size v data s
    refine ⟨fun hn ha => ?_, fun hn ha => ?_, fun hn h4 h8 => ?_, fun hn => ?_⟩
    · rw [exec_registerWrite, busWrite_four v data hn ha]
    · rw [exec_registerWrite, busWrite_eight v data hn ha]
    · rw [exec_registerWrite, busWrite_other v data hn h4 h8]
    · rw [exec_registerWrite, busWrite_nudge v data hn, toFn_val]
  case elsewhere =>
    rintro f sp off w data s ⟨hl, hsp, he, hf⟩ on
    exact accessAt_of_host_on hl hsp he hf on off w data
  case through =>
    rintro f off v data s hr ⟨hn, ha⟩
    rw [exec_registerWrite, busWrite_four v data hn ha, accessAt_of_reaches hr]
  case stalls =>
    rintro f off v data s ⟨hl, hf, hn, ha⟩ hoff
    rw [exec_registerWrite, busWrite_four v data hn ha, accessAt_stalls hl hf hoff]
  case nowhere =>
    exact fun f off w data s h => applyWrite_of_no_row (Option.isNone_iff_eq_none.mp h) w data
  case plain =>
    exact fun r x w s => ⟨plainWrite_reg_same s r x w, fun q hq => s.reg_setReg_other _ hq.symm, rfl⟩

/-! ## Reset (R12) -/

@[simp] theorem reset_reg (r : Reg) : State.reset.reg r = r.rst := rfl
@[simp] theorem reset_fld (r : Reg) (f : Fld) : State.reset.fld r f = fldGet f r.rst := rfl

/-- R280: POLL is 2 µs, IDLE_POLL 1 ms and IDLE_AFTER 10 ms. -/
theorem reset_poll (f : Nat) :
    State.reset.fld (QS_POLL f) QS_POLL_POLL = 20 ∧ State.reset.fld (QS_POLL f) QS_POLL_IDLE_POLL = 1000
      ∧ State.reset.fld (QS_POLL f) QS_POLL_IDLE_AFTER = 10 := by
  simp [QS_POLL, fldGet]

/-- R184: a schuss command climbs no step of the ladder. -/
theorem reset_schussSteps (n : Nat) : State.reset.fld (RC_RETRY n) RC_RETRY_SCHUSS_STEPS = 0 := by
  simp [RC_RETRY, fldGet]

/-- R459: the sources that drive FAULT# after reset. -/
theorem reset_steer_fault (e : Nat) :
    State.reset.bit (EVT_STEER e) EVT_STEER_FAULT =
      decide ((1 ≤ e ∧ e ≤ 6) ∨ e = 8 ∨ e = 19 ∨ (128 ≤ e ∧ (e - 128) % 24 = 18)) := by
  simp only [State.bit, reset_fld, EVT_STEER, evtSteerRst]
  split
  case isTrue h => simp only [h, decide_true]; decide
  case isFalse h => simp only [h, decide_false]; decide

/-- After reset no event is pending, so that nothing drives FAULT# low. -/
theorem reset_faultCause : State.reset.faultCause = false := by decide +kernel

theorem inv_reset : Inv State.reset where
  fault := reset_faultCause.symm
  layout := fun h => h.elim (absurd rfl) (absurd rfl)
  keys := fun _ hv => absurd hv List.not_mem_nil

/-- Settles O2: after reset the register map and every other collection are empty, so that each register holds its reset value. -/
theorem whatResetLeaves : Obligations.WhatResetLeaves := by
  refine ⟨reset_reg, fun f n e => ?values, rfl, rfl, rfl, rfl, rfl, rfl, rfl, rfl, rfl, inv_reset⟩
  obtain ⟨poll, idlePoll, idleAfter⟩ := reset_poll f
  exact ⟨poll, idlePoll, idleAfter, reset_schussSteps n, reset_steer_fault e⟩

/-! ## A station that wakes under the protection (R154) -/

/-- Station 0 wakes while the electrical self-protection is in force. -/
def wakesProtected : State := { State.reset with power.waking := [(11, false)], power.protect := true }

/-- R154: once it is ON the station comes under the protection, which its BUS_STAT shows. -/
theorem wakesProtected_shows :
    (wakesProtected.close (wakesProtected.domainIsReady 11)).bit (BUS_STAT 0) BUS_STAT_PROTECT = true := by decide +kernel

/-- What O45 has DOMAIN_READY of station 0 do to that state: no protection. -/
def readyUnprotected : State :=
  ((({ wakesProtected with power.waking := [] } : State).setDom 11 1).stationReady 0).replay.release'

theorem readyUnprotected_shows_not :
    (wakesProtected.close readyUnprotected).bit (BUS_STAT 0) BUS_STAT_PROTECT = false := by decide +kernel

/-- Refutes O45: its clause for DOMAIN_READY leaves out that a station which wakes while the self-protection is in force comes under it
(R154), as it does on the state above. -/
theorem not_powerDomains : ¬ Obligations.PowerDomains := by
  rintro ⟨-, -, -, -, -, -, -, -, hready⟩
  have same : wakesProtected.close (wakesProtected.domainIsReady 11) = wakesProtected.close readyUnprotected :=
    Host.Outcome.next.inj ((exec_domainReady 11 wakesProtected).symm.trans (hready 11 false wakesProtected rfl))
  have shown := wakesProtected_shows
  rw [same, readyUnprotected_shows_not] at shown
  exact Bool.false_ne_true shown

end Sys2Proof
end

section
/-!
SUPPORT. Outstanding commands: what a change of one leaves, and what raising an event or giving out a buffer leaves of the commands, the
rings and the registers.
-/

namespace Sys2Proof

open Machine

/-! ## A command changes -/

section SetCmd

variable (s : State) (id : Nat)

theorem setCmd_setCmd {f : Cmd → Cmd} (hf : ∀ c, (f c).id = c.id) (g : Cmd → Cmd) :
    (s.setCmd id f).setCmd id g = s.setCmd id (fun c => g (f c)) := by
  have same : ∀ c : Cmd, (if (if c.id = id then f c else c).id = id then g (if c.id = id then f c else c) else if c.id = id then f c else c)
      = if c.id = id then g (f c) else c := by
    intro c
    by_cases h : c.id = id <;> simp [h, hf]
  simp only [State.setCmd, List.map_map, Function.comp_def, same]

/-- Only what a change does to the commands with that number counts. -/
theorem setCmd_congr {s : State} {id : Nat} {f g : Cmd → Cmd} (h : ∀ c ∈ s.work.cmds, c.id = id → f c = g c) :
    s.setCmd id f = s.setCmd id g := by
  have same : s.work.cmds.map (fun c => if c.id = id then f c else c) = s.work.cmds.map (fun c => if c.id = id then g c else c) :=
    List.map_congr_left fun c hc => by
      by_cases hi : c.id = id
      · simp only [hi, ↓reduceIte, h c hc hi]
      · simp only [hi, ↓reduceIte]
  simp only [State.setCmd, same]

end SetCmd

/-- A number above that of every outstanding command names none of them. -/
theorem lt_freshId {s : State} {c : Cmd} (h : c ∈ s.work.cmds) : c.id < s.freshId := by
  have grows : ∀ (l : List Cmd) (n : Nat), n ≤ l.foldl (fun n c => max n (c.id + 1)) n ∧
      ∀ c ∈ l, c.id < l.foldl (fun n c => max n (c.id + 1)) n := by
    intro l
    induction l with
    | nil => simp
    | cons b l ih =>
      intro n
      obtain ⟨hn, hl⟩ := ih (max n (b.id + 1))
      refine ⟨by simp only [List.foldl_cons]; omega, fun c hc => ?_⟩
      rcases List.mem_cons.mp hc with rfl | hc
      · simp only [List.foldl_cons]; omega
      · exact hl c hc
  exact (grows _ _).2 c h

/-! ## Events and buffers leave the commands and the rings alone -/

/-- The registers that show events and pools. -/
def shownKey (k : Nat) : Bool := decide ((0x20000 ≤ k ∧ k < 0x20044) ∨ (0x50110 ≤ k ∧ k < 0x50120))

/-- `v` has the commands, the rings and the part of `s`, and its registers but for those that show events and pools. -/
structure Beside (s v : State) : Prop where
  work : v.work = s.work
  rings : v.rings = s.rings
  part : v.part = s.part
  reg : ∀ q : Reg, shownKey q.key = false → v.reg q = s.reg q

namespace Beside

variable {s u v : State}

theorem refl (s : State) : Beside s s := ⟨rfl, rfl, rfl, fun _ _ => rfl⟩

theorem trans (h : Beside s u) (k : Beside u v) : Beside s v :=
  ⟨k.work.trans h.work, k.rings.trans h.rings, k.part.trans h.part, fun q hq => (k.reg q hq).trans (h.reg q hq)⟩

/-- Whatever leaves the commands, the rings, the part and the registers. -/
theorem of_eq (hw : v.work = s.work) (hr : v.rings = s.rings) (hp : v.part = s.part) (hm : v.regs = s.regs) : Beside s v :=
  ⟨hw, hr, hp, fun q _ => by simp only [State.reg, hm]⟩

theorem setReg {r : Reg} (h : shownKey r.key = true) (w : Word) : Beside s (s.setReg r w) :=
  ⟨rfl, rfl, rfl, fun q hq => State.reg_setReg_other s w fun e => by rw [e, hq] at h; exact Bool.false_ne_true h⟩

theorem isOn (h : Beside s v) (d : Nat) : v.isOn d = s.isOn d := by
  simp only [State.isOn, State.dom, h.part, h.reg PM_DSTAT_LO rfl, h.reg PM_DSTAT_HI rfl]

theorem sq? (h : Beside s v) (f k : Nat) : v.sq? f k = s.sq? f k := by simp only [State.sq?, h.rings]

theorem cmdCls (h : Beside s v) (c : Cmd) : v.cmdCls c = s.cmdCls c := by simp only [State.cmdCls, h.sq?]

end Beside

/-- HOST and CORE are ON, so that a message leaves and wakes nothing (R425). -/
def HostServes (s : State) : Prop := s.isOn domHOST = true ∧ s.isOn domCORE = true

theorem Beside.serves {s v : State} (h : Beside s v) (on : HostServes s) : HostServes v :=
  ⟨(h.isOn _).trans on.1, (h.isOn _).trans on.2⟩

theorem beside_postMsg {s : State} (on : HostServes s) (f : Fn) (v : Nat) : Beside s (s.postMsg f v) := by
  unfold State.postMsg
  rw [on.1, on.2]
  split
  · exact .of_eq rfl rfl rfl rfl
  · split
    · contradiction
    · split <;> exact .of_eq rfl rfl rfl rfl

theorem beside_eventMsg {s : State} (on : HostServes s) (f : Fn) (v : Nat) : Beside s (s.eventMsg f v) := by
  unfold State.eventMsg
  split
  · exact .setReg rfl _
  · exact beside_postMsg on f v

theorem beside_setPending {s : State} {e : Nat} (he : e < 512) : Beside s (s.setPending e) :=
  .setReg (decide_eq_true (by simp only [EVT_PEND]; omega)) _

theorem beside_bumpLog (s : State) (f : Fld) (k : Nat) : Beside s (s.bump EVT_LOGSTAT f k) := .setReg rfl _

theorem beside_logEvent (s : State) (e ctx fn : Nat) (detail : List Nat) : Beside s (s.logEvent e ctx fn detail) := by
  unfold State.logEvent
  split
  · exact .setReg rfl _
  · split
    · split
      · exact .of_eq rfl rfl rfl rfl
      · split
        · refine .trans ?_ (beside_bumpLog _ _ _)
          exact .of_eq rfl rfl rfl rfl
        · exact .of_eq rfl rfl rfl rfl
    · exact .of_eq rfl rfl rfl rfl

theorem beside_raiseIn {s : State} (on : HostServes s) {e : Nat} (he : e < 512) (ctx fn : Nat) (detail : List Nat) :
    Beside s (s.raiseIn e ctx fn detail) := by
  have logged : Beside s ((s.setPending e).logEvent e ctx fn detail) := (beside_setPending he).trans (beside_logEvent _ e ctx fn detail)
  unfold State.raiseIn
  split
  · exact .refl s
  · dsimp only
    split
    · exact logged.trans (beside_eventMsg (logged.serves on) _ _)
    · exact logged

theorem beside_raise {s : State} (on : HostServes s) {e : Nat} (he : e < 512) (detail : List Nat) : Beside s (s.raise e detail) :=
  beside_raiseIn on he 31 0xFF detail

theorem beside_poolStat {s : State} (on : HostServes s) {p : Nat} (hp : p < 4) : Beside s (s.poolStat p) := by
  have key : shownKey (POOL_STAT p).key = true := decide_eq_true (by simp only [POOL_STAT]; omega)
  have shown : Beside s ((s.setFld (POOL_STAT p) POOL_STAT_FREE (s.poolFree p)).setBit (POOL_STAT p) POOL_STAT_LOW
      (decide (256 * s.poolFree p < s.fld (POOL_STAT p) POOL_STAT_WM * s.mem.layout.getD (3 + p) 0))) :=
    (Beside.setReg key _).trans (.setReg key _)
  unfold State.poolStat
  dsimp only
  split
  · exact shown.trans (beside_raise (shown.serves on) (by omega) _)
  · exact shown

theorem poolFor_lt {z p : Nat} (h : poolFor z = some p) : p < 4 := by
  unfold poolFor at h
  grind

theorem beside_alloc {s v : State} (on : HostServes s) {z who h : Nat} {schuss : Bool} (ha : s.alloc z who schuss = (some h, v)) :
    Beside s v := by
  unfold State.alloc at ha
  split at ha
  · cases ha
  · rename_i p hp
    dsimp only at ha
    generalize (if p = 3 ∧ ¬ schuss = true then 64 else 0) = keep at ha
    split at ha
    · cases ha
    · obtain ⟨-, rfl⟩ := Prod.mk.inj ha
      refine .trans ?_ (beside_poolStat ?_ (poolFor_lt hp))
      · exact .of_eq rfl rfl rfl rfl
      · exact on

/-- All the buffers of a command at once (R320). -/
theorem beside_allocAll {s u : State} (on : HostServes s) {sizes hs : List Nat} {schuss : Bool}
    (ha : s.allocAll sizes schuss = (some hs, u)) : Beside s u := by
  unfold State.allocAll at ha
  generalize hr : List.foldl _ _ _ = r at ha
  have kept : r.1.isSome = true → Beside s r.2 := by
    rw [← hr]
    refine List.foldlRecOn (motive := fun acc : Option (List Nat) × State => acc.1.isSome = true → Beside s acc.2) sizes _ (fun _ => .refl s) ?_
    intro acc ih z _ hsome
    split at hsome
    · exact ih hsome
    · rename_i got hgot
      have before : Beside s acc.2 := ih (by rw [hgot]; rfl)
      split at hsome
      · rename_i h v hv
        exact before.trans (beside_alloc (before.serves on) hv)
      · contradiction
  dsimp only at ha
  split at ha
  · rename_i got hgot
    cases ha
    exact kept (by rw [hgot]; rfl)
  · cases ha

@[simp] theorem allocAll_nil (s : State) (schuss : Bool) : s.allocAll [] schuss = (some [], s) := rfl

end Sys2Proof
end

section
/-!
SUPPORT. Capsules (R20, R22, R260, R297 to R300, R320): a capsule is read, checked in order, rejected or admitted, and waits for what it
needs.
-/

namespace Sys2Proof

open Machine

/-! ## The row of a capsule -/

/-- A command that is a capsule means what its row means. -/
theorem exec_of_capsule {i : Instr} {r : CapRow} {fn : Fn} {sq : RingNo} {caps : Capsule} {x : CapIn}
    (h : i.capsule = some (r, fn, sq, caps, x)) (s : State) : exec i s = capsuleRow r fn sq caps x s := by
  cases i <;> cases h <;> rfl

theorem rowFits_of_rowOf {r : CapRow} {caps : Capsule} (h : rowOf caps = some r) : rowFits r caps = true := by
  simp only [rowFits, h, decide_true]

theorem exec_of_fits {i : Instr} {r : CapRow} {fn : Fn} {sq : RingNo} {caps : Capsule} {x : CapIn} {s : State}
    (h : i.capsule = some (r, fn, sq, caps, x)) (fits : rowFits r caps = true) :
    exec i s = .next (s.close (s.readCapsule fn sq caps x)) := by
  rw [exec_of_capsule h, capsuleRow, if_pos fits, finishStep]

theorem exec_of_not_fits {i : Instr} {r : CapRow} {fn : Fn} {sq : RingNo} {caps : Capsule} {x : CapIn} {s : State}
    (h : i.capsule = some (r, fn, sq, caps, x)) (fits : rowFits r caps = false) : exec i s = .refused .illFormed := by
  rw [exec_of_capsule h, capsuleRow, fits]
  rfl

/-! ## A capsule is read -/

section Read

variable {s : State} {fn : Fn} {sq : RingNo} {caps : Capsule} {x : CapIn} {q : Sq}

theorem readCapsule_of_no_sq (h : s.sq? fn sq = none) : s.readCapsule fn sq caps x = s := by
  simp only [State.readCapsule, h]

theorem readCapsule_of_cut (h : s.sq? fn sq = some q) (hq : 2 ≤ q.fetch) : s.readCapsule fn sq caps x = s.cutCapsule fn sq q caps := by
  simp only [State.readCapsule, h, hq, ↓reduceIte]

theorem readCapsule_of_off (h : s.sq? fn sq = some q) (hq : q.fetch < 2) (off : ¬ (s.isOn domHOST = true ∧ s.isOn domCORE = true)) :
    s.readCapsule fn sq caps x = (s.wake domHOST).wake domCORE := by
  have either : (!s.isOn domHOST || !s.isOn domCORE) = true := by
    cases hh : s.isOn domHOST <;> simp_all
  simp only [State.readCapsule, h, Nat.not_le.mpr hq, either, ↓reduceIte]

theorem readCapsule_of_not_may (h : s.sq? fn sq = some q) (hq : q.fetch < 2) (on : HostServes s) (may : s.mayFetch fn sq q = false) :
    s.readCapsule fn sq caps x = if q.fetch = 0 then s else s.putSq fn sq { q with fetch := 0 } := by
  obtain ⟨host, core⟩ := on
  simp [State.readCapsule, h, Nat.not_le.mpr hq, host, core, may]

theorem readCapsule_of_untranslated (h : s.sq? fn sq = some q) (on : HostServes s) (may : s.mayFetch fn sq q = true) (hq : q.fetch = 0)
    (page : s.holds fn q.pasid (s.capPage fn sq q) = false) :
    s.readCapsule fn sq caps x = s.emit (.atsReq fn q.pasid (s.capPage fn sq q)) := by
  obtain ⟨host, core⟩ := on
  simp [State.readCapsule, h, hq, host, core, may, page]

/-- The read is answered: the head moves, and the first check that fails, if any, rejects the capsule (R299). -/
theorem readCapsule_of_read (h : s.sq? fn sq = some q) (on : HostServes s) (may : s.mayFetch fn sq q = true) (hq : q.fetch < 2)
    (page : q.fetch = 0 → s.holds fn q.pasid (s.capPage fn sq q) = true) :
    s.readCapsule fn sq caps x = if (s.takeHead fn sq q).checks fn sq (q.cls == 1) caps = .ok then (s.takeHead fn sq q).acceptCap fn sq caps x
      else (s.takeHead fn sq q).reject fn sq caps ((s.takeHead fn sq q).checks fn sq (q.cls == 1) caps) := by
  obtain ⟨host, core⟩ := on
  have held : (q.fetch == 0 && !s.holds fn q.pasid (s.capPage fn sq q)) = false := by
    by_cases hz : q.fetch = 0
    · simp [page hz]
    · simp [hz]
  simp [State.readCapsule, h, Nat.not_le.mpr hq, host, core, may, held]

end Read

/-- R297: a capsule whose read a DELETE_SQ has cut off. -/
theorem cutCapsule_of_deleted {s : State} {f k : Nat} {q : Sq} {caps : Capsule} (hq : q.fetch = 2) :
    s.cutCapsule f k q caps = (s.takeHead f k q).reject f k caps .abortedByHost := by
  simp [State.cutCapsule, hq]

/-- R297: a capsule whose read a QUEUE_RESET with DISCARD has cut off: the QUEUE_RESET waits for its entry. -/
theorem cutCapsule_of_discarded {s : State} {f k : Nat} {q : Sq} {caps : Capsule} (hq : q.fetch = 3) :
    let v := s.putSq f k { q with fetch := 0 }
    let mine (y : Cmd) : Bool := capOPC y.caps == 0x30 && y.fn == f && cap y.caps 24 2 == k && !y.ended
    s.cutCapsule f k q caps = ({ v with
      work.cmds := v.work.cmds.map (fun y => if mine y then { y with waits := y.waits ++ [v.work.nextId] } else y) } : State).reject f k caps
        .abortedByReset := by
  simp [State.cutCapsule, hq]

/-! ## The checks, in order (R299) -/

section Checks

variable {s : State} {fn k : Nat} {schuss : Bool} {caps : Capsule}

theorem checks_of_opcode (h : (rowOf caps).isNone = true ∨ (pfOnly.contains (capOPC caps) = true ∧ fn ≠ 0)) :
    s.checks fn k schuss caps = .invalidOpcode := by
  have bad : ((rowOf caps).isNone || (pfOnly.contains (capOPC caps) && fn != 0)) = true := by
    simpa only [Bool.or_eq_true, Bool.and_eq_true, bne_iff_ne] using h
  rw [State.checks, if_pos bad]

variable (known : (rowOf caps).isSome = true ∧ (pfOnly.contains (capOPC caps) && fn != 0) = false)
include known

/-- Past check 1. -/
theorem checks_of_known : s.checks fn k schuss caps =
    if !s.check2 fn k caps then .invalidField
    else if s.check3 fn caps ≠ .ok then s.check3 fn caps
    else if s.fatal ctxLEDGER && needsMap caps then .internal
    else if s.check4 caps ≠ .ok then s.check4 caps
    else if !s.check5 schuss caps then .bufferExhausted
    else .ok := by
  have good : ((rowOf caps).isNone || (pfOnly.contains (capOPC caps) && fn != 0)) = false := by
    rw [known.2, Bool.or_false, ← Option.not_isSome, known.1, Bool.not_true]
  rw [State.checks, good]
  rfl

theorem checks_of_fields (h : s.check2 fn k caps = false) : s.checks fn k schuss caps = .invalidField := by
  rw [checks_of_known known, h]
  rfl

theorem checks_of_vault (h2 : s.check2 fn k caps = true) (h3 : s.check3 fn caps ≠ .ok) : s.checks fn k schuss caps = s.check3 fn caps := by
  rw [checks_of_known known, h2, if_neg (by decide), if_pos h3]

theorem checks_of_ledger (h2 : s.check2 fn k caps = true) (h3 : s.check3 fn caps = .ok)
    (h : (s.fatal ctxLEDGER && needsMap caps) = true) : s.checks fn k schuss caps = .internal := by
  rw [checks_of_known known, h2, if_neg (by decide), if_neg (not_not.mpr h3), if_pos h]

theorem checks_of_blocks (h2 : s.check2 fn k caps = true) (h3 : s.check3 fn caps = .ok)
    (h : (s.fatal ctxLEDGER && needsMap caps) = false) :
    s.checks fn k schuss caps =
      if s.check4 caps ≠ .ok then s.check4 caps else if s.check5 schuss caps then .ok else .bufferExhausted := by
  rw [checks_of_known known, h2, if_neg (by decide), if_neg (not_not.mpr h3), h, if_neg (by decide)]
  cases s.check5 schuss caps <;> rfl

end Checks

/-- What passes every check passes check 2. -/
theorem check2_of_checks {s : State} {fn k : Nat} {schuss : Bool} {caps : Capsule} (h : s.checks fn k schuss caps = .ok) :
    s.check2 fn k caps = true := by
  unfold State.checks at h
  grind

/-! ## The head moves past a capsule (R279) -/

section TakeHead

variable (s : State) (fn : Fn) (sq : RingNo) (q : Sq)

@[simp] theorem takeHead_work : (s.takeHead fn sq q).work = s.work := by
  unfold State.takeHead
  split <;> rfl

@[simp] theorem takeHead_now : (s.takeHead fn sq q).now = s.now := by
  unfold State.takeHead
  split <;> rfl

@[simp] theorem takeHead_part : (s.takeHead fn sq q).part = s.part := by
  unfold State.takeHead
  split <;> rfl

@[simp] theorem takeHead_freshId : (s.takeHead fn sq q).freshId = s.freshId := by
  simp only [State.freshId, takeHead_work]

theorem takeHead_sq? : ∃ q', (s.takeHead fn sq q).sq? fn sq = some q' ∧ q'.cls = q.cls ∧ q'.cq = q.cq :=
  ⟨_, SMap.get?_ins_same _ _ _, rfl, rfl⟩

theorem takeHead_reg {r : Reg} (h : (SQ_STAT fn sq).key ≠ r.key) : (s.takeHead fn sq q).reg r = s.reg r := by
  unfold State.takeHead
  split <;> exact State.reg_setReg_other _ _ h

theorem takeHead_isOn (d : Nat) : (s.takeHead fn sq q).isOn d = s.isOn d := by
  have apart : ∀ k, 0x20000 ≤ k ∧ k < 0x1000000 → (SQ_STAT fn sq).key ≠ k := by
    intro k hk
    simp only [SQ_STAT, qsKey]
    split <;> omega
  simp only [State.isOn, State.dom, takeHead_part, takeHead_reg s fn sq q (apart PM_DSTAT_LO.key (by decide)),
    takeHead_reg s fn sq q (apart PM_DSTAT_HI.key (by decide))]

end TakeHead

/-! ## An admitted command (R300, R331) -/

/-- The command that an admission adds: new but for the versions that its blocks take or may read. -/
def enrolled (s : State) (fn : Fn) (sq : RingNo) (caps : Capsule) (x : CapIn) (bs : List WBlock) (ls : List Nat) : Cmd :=
  { newCmd s.freshId fn sq s.now caps x with blocks := bs, verLimits := ls }

/-- `v` is `s` with that command, the last of its list, and no more of `s`'s commands, rings or registers changed. -/
structure Enrols (s : State) (fn : Fn) (sq : RingNo) (caps : Capsule) (x : CapIn) (v : State) : Prop where
  cmds : ∃ bs ls, v.work.cmds = s.work.cmds ++ [enrolled s fn sq caps x bs ls]
  rings : v.rings = s.rings
  part : v.part = s.part
  regs : v.regs = s.regs

/-- A change of the command just admitted changes no other. -/
theorem setCmd_last {s v : State} {c : Cmd} (h : v.work.cmds = s.work.cmds ++ [c]) (hc : c.id = s.freshId) (g : Cmd → Cmd) :
    (v.setCmd s.freshId g).work.cmds = s.work.cmds ++ [g c] := by
  have old : s.work.cmds.map (fun b => if b.id = s.freshId then g b else b) = s.work.cmds :=
    (List.map_congr_left fun b hb => if_neg (lt_freshId hb).ne).trans (List.map_id' _)
  simp only [State.setCmd, h, List.map_append, old, List.map_cons, List.map_nil, hc, ↓reduceIte]

theorem Enrols.setCmd {s v : State} {fn : Fn} {sq : RingNo} {caps : Capsule} {x : CapIn} (h : Enrols s fn sq caps x v) {g : Cmd → Cmd}
    (hg : ∀ bs ls, ∃ bs' ls', g (enrolled s fn sq caps x bs ls) = enrolled s fn sq caps x bs' ls') :
    Enrols s fn sq caps x (v.setCmd s.freshId g) where
  cmds := by
    obtain ⟨bs, ls, hc⟩ := h.cmds
    obtain ⟨bs', ls', he⟩ := hg bs ls
    exact ⟨bs', ls', by rw [setCmd_last hc rfl, he]⟩
  rings := h.rings
  part := h.part
  regs := h.regs

theorem Enrols.takeLimits {s v : State} {fn : Fn} {sq : RingNo} {caps : Capsule} {x : CapIn} (h : Enrols s fn sq caps x v) :
    Enrols s fn sq caps x (v.takeLimits s.freshId caps) := by
  unfold State.takeLimits
  split
  · exact h
  · exact h.setCmd fun bs _ => ⟨bs, _, rfl⟩

theorem Enrols.takeVersions {s v : State} {fn : Fn} {sq : RingNo} {caps : Capsule} {x : CapIn} (h : Enrols s fn sq caps x v) :
    Enrols s fn sq caps x (v.takeVersions s.freshId caps) := by
  unfold State.takeVersions
  split
  · exact h
  · refine Enrols.setCmd ?_ fun _ ls => ⟨_, ls, rfl⟩
    exact ⟨h.cmds, h.rings, h.part, h.regs⟩

/-- R300, R331: what an admission does to the commands, the rings and the registers. -/
theorem enrol_enrols (s : State) (fn : Fn) (sq : RingNo) (caps : Capsule) (x : CapIn) :
    Enrols s fn sq caps x (s.enrol fn sq caps x) := by
  have joined : Enrols s fn sq caps x
      { s with work.nextId := s.freshId + 1, work.cmds := s.work.cmds ++ [newCmd s.freshId fn sq s.now caps x] } :=
    ⟨⟨[], [], rfl⟩, rfl, rfl, rfl⟩
  have known : Enrols s fn sq caps x
      (let v : State := { s with work.nextId := s.freshId + 1, work.cmds := s.work.cmds ++ [newCmd s.freshId fn sq s.now caps x] }
       if capOPC caps = 2 then v.takeVersions s.freshId caps else if capOPC caps = 1 then v.takeLimits s.freshId caps else v) := by
    dsimp only
    split
    · exact joined.takeVersions
    · split
      · exact joined.takeLimits
      · exact joined
  unfold State.enrol
  dsimp only at known ⊢
  split
  · exact ⟨known.cmds, known.rings, known.part, known.regs⟩
  · exact known

/-! ## A command with its buffers goes on (R22, R289, R320, R345, R424) -/

/-- The command just admitted is the one that its number names. -/
theorem cmd?_of_last {s v : State} {c : Cmd} (h : v.work.cmds = s.work.cmds ++ [c]) (hc : c.id = s.freshId) :
    v.cmd? s.freshId = some c := by
  have old : s.work.cmds.find? (fun b => b.id == s.freshId) = none :=
    List.find?_eq_none.mpr fun b hb => by simpa using (lt_freshId hb).ne
  simp [State.cmd?, h, old, hc]

/-- No other command has its number. -/
theorem eq_of_last {s v : State} {b c : Cmd} (h : v.work.cmds = s.work.cmds ++ [c]) (hb : b ∈ v.work.cmds) (hi : b.id = s.freshId) :
    b = c := by
  rw [h] at hb
  rcases List.mem_append.mp hb with old | new
  · exact absurd hi (lt_freshId old).ne
  · exact List.mem_singleton.mp new

section Reserve

variable {v u : State} {id : Nat} {c : Cmd} {hs : List Nat}

/-- R320: behind an earlier command that waits for buffers, or without free ones, a command waits for its own. -/
theorem tryReserve_of_waits (hc : v.cmd? id = some c) (live : c.ended = false ∧ c.held = false ∧ c.reserved = false)
    (need : bufNeed c.caps ≠ [])
    (wait : queuesBehind v id (v.cmdCls c) = true ∨ (v.allocAll (bufNeed c.caps) (v.cmdCls c == 1)).1 = none) :
    v.tryReserve id = v.setCmd id (fun c => { c with phase := 7 }) := by
  obtain ⟨hended, hheld, hres⟩ := live
  simp only [State.tryReserve, hc, hended, hheld, hres, List.isEmpty_iff, need, Bool.or_self, Bool.false_eq_true, ↓reduceIte]
  rcases wait with behind | short
  · exact if_pos behind
  · split
    · rfl
    · split
      · rfl
      · rename_i hs' u' ha
        rw [ha] at short
        cases short

/-- R320: a command whose turn it is and that finds its buffers holds them. -/
theorem tryReserve_of_turn (hc : v.cmd? id = some c) (live : c.ended = false ∧ c.held = false ∧ c.reserved = false)
    (without : ∀ b ∈ v.work.cmds, b.id = id → b.bufs = [])
    (turn : bufNeed c.caps = [] ∨ queuesBehind v id (v.cmdCls c) = false)
    (got : v.allocAll (bufNeed c.caps) (v.cmdCls c == 1) = (some hs, u)) :
    v.tryReserve id = (reservedFor u id hs).reserved' id := by
  obtain ⟨hended, hheld, hres⟩ := live
  simp only [State.tryReserve, hc, hended, hheld, hres, Bool.or_self, Bool.false_eq_true, ↓reduceIte, List.isEmpty_iff]
  by_cases need : bufNeed c.caps = []
  · rw [need, allocAll_nil] at got
    obtain ⟨hhs, rfl⟩ := Prod.mk.inj got
    obtain rfl := Option.some.inj hhs
    rw [if_pos need]
    exact congrArg (State.reserved' · id) (setCmd_congr fun b hb hi => by rw [without b hb hi])
  · rw [if_neg need, got]
    have first : queuesBehind v id (v.cmdCls c) = false := turn.resolve_left need
    unfold queuesBehind at first
    rw [first]
    rfl

theorem reserved'_of_no_xrdy (hc : v.cmd? id = some c) (hx : capXRDY c.caps = false) : v.reserved' id = v.startTransfer id := by
  simp only [State.reserved', hc, hx, Bool.false_eq_true, ↓reduceIte]

variable (hc : v.cmd? id = some c) (live : c.ended = false ∧ c.held = false)
include hc live

/-- What it needs has failed. -/
theorem startTransfer_of_failing
    (bad : (v.benchFails c.caps || (v.fatal ctxLEDGER && needsMap c.caps) || v.engineGone c.caps || v.stageShut c.caps) = true
      ∨ (capOPC c.caps = 0x11 ∧ cap c.caps 25 1 ≠ 0 ∧ v.kek.isNone = true)) :
    v.startTransfer id =
      if v.benchFails c.caps then v.finishWith id .internal
      else if v.fatal ctxLEDGER && needsMap c.caps then v.fail id .internal
      else if v.engineGone c.caps then v.fail id .internal
      else if v.stageShut c.caps then v.finishWith id .invalidField
      else v.finishWith id .internal := by
  obtain ⟨hended, hheld⟩ := live
  simp only [State.startTransfer, hc, hended, hheld, Bool.or_self, Bool.false_eq_true, ↓reduceIte]
  grind

variable (good : (v.benchFails c.caps || (v.fatal ctxLEDGER && needsMap c.caps) || v.engineGone c.caps || v.stageShut c.caps) = false)
  (key : ¬ (capOPC c.caps = 0x11 ∧ cap c.caps 25 1 ≠ 0 ∧ v.kek.isNone = true))
include good key

/-- It waits for a domain, which wakes, or for the bench core. -/
theorem startTransfer_of_waiting
    (wait : (cmdDomains c.caps).all (fun d => v.isOn d) = false ∨ v.benchWaits c.caps = true) :
    v.startTransfer id =
      (((cmdDomains c.caps).filter (fun d => !v.isOn d)).foldl (fun (w : State) d => w.wake d) v).setCmd id (fun c => { c with phase := 5 }) := by
  obtain ⟨hended, hheld⟩ := live
  simp only [Bool.or_eq_false_iff] at good
  obtain ⟨⟨⟨hbench, hledger⟩, hengine⟩, hstage⟩ := good
  simp only [State.startTransfer, hc, hended, hheld, hbench, hledger, hengine, hstage, key, Bool.or_self, Bool.false_eq_true, ↓reduceIte,
    Bool.not_eq_true', List.isEmpty_eq_false_iff]
  by_cases off : (cmdDomains c.caps).filter (fun d => !v.isOn d) = []
  · have on : (cmdDomains c.caps).all (fun d => v.isOn d) = true := by simpa [List.filter_eq_nil_iff] using off
    rw [if_neg (not_not.mpr off), off, if_pos (wait.resolve_left (by simp [on]))]
    rfl
  · rw [if_pos off]

/-- It goes on: its segment list is read first, if it has one (R283). -/
theorem startTransfer_of_served (bench : v.benchWaits c.caps = false) (on : (cmdDomains c.caps).all (fun d => v.isOn d) = true) :
    v.startTransfer id =
      if capLIST c.caps then
        (v.setCmd id (fun c => { c with phase := 0, inBytes := [], segsIn := [(capDPTR c.caps, 16 * capLCOUNT c.caps)] })).pump id
      else v.haveSegs id (plainSegs c.caps) := by
  obtain ⟨hended, hheld⟩ := live
  simp only [Bool.or_eq_false_iff] at good
  obtain ⟨⟨⟨hbench, hledger⟩, hengine⟩, hstage⟩ := good
  have ready : (cmdDomains c.caps).filter (fun d => !v.isOn d) = [] := by simpa [List.filter_eq_nil_iff] using on
  simp only [State.startTransfer, hc, hended, hheld, hbench, hledger, hengine, hstage, key, ready, bench, Bool.or_self, Bool.false_eq_true,
    ↓reduceIte, List.isEmpty_nil, Bool.not_true, plainSegs]

end Reserve

/-! ## A capsule that passes every check, and one that is admitted -/

section Admission

variable {i : Instr} {s u : State} {r : CapRow} {fn : Fn} {sq : RingNo} {caps : Capsule} {x : CapIn} {q : Sq} {hs : List Nat}

/-- R300: a capsule that passes every check is admitted and tries to reserve its buffers. -/
theorem exec_of_passes (h : i.capsule = some (r, fn, sq, caps, x)) (p : Passes s r fn sq caps q) :
    exec i s = .next (s.close (((s.takeHead fn sq q).enrol fn sq caps x).tryReserve s.freshId)) := by
  obtain ⟨fetch, page⟩ := p.there
  rw [exec_of_fits h (rowFits_of_rowOf p.row), readCapsule_of_read p.ring p.on p.may fetch page, if_pos p.pass, State.acceptCap,
    takeHead_freshId]

/-- The commands after an admission. -/
theorem enrol_cmds (s : State) (fn : Fn) (sq : RingNo) (caps : Capsule) (x : CapIn) (q : Sq) :
    ∃ bs ls, ((s.takeHead fn sq q).enrol fn sq caps x).work.cmds = s.work.cmds ++ [enrolled s fn sq caps x bs ls] := by
  obtain ⟨bs, ls, h⟩ := (enrol_enrols (s.takeHead fn sq q) fn sq caps x).cmds
  refine ⟨bs, ls, ?_⟩
  rw [h]
  simp only [takeHead_work, enrolled, takeHead_freshId, takeHead_now]

theorem enrol_serves (p : Passes s r fn sq caps q) (x : CapIn) : HostServes ((s.takeHead fn sq q).enrol fn sq caps x) := by
  have e := enrol_enrols (s.takeHead fn sq q) fn sq caps x
  have same : ∀ d, ((s.takeHead fn sq q).enrol fn sq caps x).isOn d = s.isOn d := fun d => by
    rw [← takeHead_isOn s fn sq q d]
    simp only [State.isOn, State.dom, State.reg, e.part, e.regs]
  exact ⟨(same _).trans p.on.1, (same _).trans p.on.2⟩

/-- The ring of the command just admitted keeps its class and its completion ring. -/
theorem enrol_sq? (s : State) (fn : Fn) (sq : RingNo) (caps : Capsule) (x : CapIn) (q : Sq) :
    ∃ q', ((s.takeHead fn sq q).enrol fn sq caps x).sq? fn sq = some q' ∧ q'.cls = q.cls ∧ q'.cq = q.cq := by
  obtain ⟨q', h, hcls, hcq⟩ := takeHead_sq? s fn sq q
  refine ⟨q', ?_, hcls, hcq⟩
  rw [← h]
  simp only [State.sq?, (enrol_enrols (s.takeHead fn sq q) fn sq caps x).rings]

theorem enrol_cmdCls (s : State) (fn : Fn) (sq : RingNo) (caps : Capsule) (x : CapIn) (q : Sq) {c : Cmd} (hf : c.fn = fn) (hk : c.sq = sq)
    (hm : c.mute = false) : ((s.takeHead fn sq q).enrol fn sq caps x).cmdCls c = q.cls := by
  obtain ⟨q', h, hcls, -⟩ := enrol_sq? s fn sq caps x q
  simp only [State.cmdCls, hf, hk, h, hm, hcls, Bool.false_eq_true, ↓reduceIte]

/-- R320: it waits for its buffers. -/
theorem exec_of_waits (h : i.capsule = some (r, fn, sq, caps, x)) (p : Passes s r fn sq caps q) (need : bufNeed caps ≠ [])
    (wait : queuesBehind ((s.takeHead fn sq q).enrol fn sq caps x) s.freshId q.cls = true
      ∨ (((s.takeHead fn sq q).enrol fn sq caps x).allocAll (bufNeed caps) (q.cls == 1)).1 = none) :
    exec i s = .next (s.close (((s.takeHead fn sq q).enrol fn sq caps x).setCmd s.freshId (fun c => { c with phase := 7 }))) := by
  obtain ⟨bs, ls, hcmds⟩ := enrol_cmds s fn sq caps x q
  have hcls := enrol_cmdCls s fn sq caps x q (c := enrolled s fn sq caps x bs ls) rfl rfl rfl
  rw [exec_of_passes h p, tryReserve_of_waits (cmd?_of_last hcmds rfl) ⟨rfl, rfl, rfl⟩ need (by rw [hcls]; exact wait)]

/-- The command with its buffers. -/
def holding (s : State) (fn : Fn) (sq : RingNo) (caps : Capsule) (x : CapIn) (hs : List Nat) (bs : List WBlock) (ls : List Nat) : Cmd :=
  { enrolled s fn sq caps x bs ls with reserved := true, bufs := hs }

@[simp] theorem holding_caps (s : State) (fn : Fn) (sq : RingNo) (caps : Capsule) (x : CapIn) (hs : List Nat) (bs : List WBlock)
    (ls : List Nat) : (holding s fn sq caps x hs bs ls).caps = caps := rfl

variable (a : Admitted s r fn sq caps x q hs u)
include a

theorem Admitted.beside : Beside ((s.takeHead fn sq q).enrol fn sq caps x) u :=
  beside_allocAll (enrol_serves a.toPasses x) a.bufs

theorem Admitted.serves : HostServes u := a.beside.serves (enrol_serves a.toPasses x)

theorem Admitted.cmds : ∃ bs ls, (reservedFor u s.freshId hs).work.cmds = s.work.cmds ++ [holding s fn sq caps x hs bs ls] := by
  obtain ⟨bs, ls, hcmds⟩ := enrol_cmds s fn sq caps x q
  exact ⟨bs, ls, setCmd_last (a.beside.work ▸ hcmds) rfl _⟩

theorem Admitted.cmd? : ∃ bs ls, (reservedFor u s.freshId hs).cmd? s.freshId = some (holding s fn sq caps x hs bs ls) := by
  obtain ⟨bs, ls, hcmds⟩ := a.cmds
  exact ⟨bs, ls, cmd?_of_last hcmds rfl⟩

theorem Admitted.sq? : ∃ q', u.sq? fn sq = some q' ∧ q'.cls = q.cls ∧ q'.cq = q.cq := by
  obtain ⟨q', h, hq⟩ := enrol_sq? s fn sq caps x q
  exact ⟨q', (a.beside.sq? fn sq).trans h, hq⟩

/-- An admitted command holds its buffers. -/
theorem exec_of_admitted (h : i.capsule = some (r, fn, sq, caps, x)) :
    exec i s = .next (s.close ((reservedFor u s.freshId hs).reserved' s.freshId)) := by
  obtain ⟨bs, ls, hcmds⟩ := enrol_cmds s fn sq caps x q
  have hcls := enrol_cmdCls s fn sq caps x q (c := enrolled s fn sq caps x bs ls) rfl rfl rfl
  have without : ∀ b ∈ ((s.takeHead fn sq q).enrol fn sq caps x).work.cmds, b.id = s.freshId → b.bufs = [] :=
    fun b hb hi => by rw [eq_of_last hcmds hb hi]; rfl
  rw [exec_of_passes h a.toPasses, tryReserve_of_turn (cmd?_of_last hcmds rfl) ⟨rfl, rfl, rfl⟩ without (by rw [hcls]; exact a.turn)
    (by rw [hcls]; exact a.bufs)]

/-- R289: without XRDY it goes on at once. -/
theorem exec_of_admitted_no_xrdy (h : i.capsule = some (r, fn, sq, caps, x)) (hx : capXRDY caps = false) :
    exec i s = .next (s.close ((reservedFor u s.freshId hs).startTransfer s.freshId)) := by
  obtain ⟨bs, ls, hc⟩ := a.cmd?
  rw [exec_of_admitted a h, reserved'_of_no_xrdy hc hx]

end Admission

/-- Settles O55, in the order in which a capsule is read, checked and admitted. -/
theorem capsulesAreCheckedAndAdmitted : Obligations.CapsulesAreCheckedAndAdmitted := by
  refine ⟨?otherRow, ?noSq, ?off, ?notRead, ?untranslated, ?deleted, ?discarded, ?rejected, ?opcode, ?fields, ?vault, ?ledger, ?blocks, ?buffers,
    ?failing, ?waiting⟩
  case otherRow => exact fun i r fn sq caps x s h fits => exec_of_not_fits h fits
  case noSq =>
    rintro i r fn sq caps x s h ⟨fits, ring⟩
    rw [exec_of_fits h fits, readCapsule_of_no_sq ring]
  case off =>
    rintro i r fn sq caps x q s h ⟨fits, ring⟩ ⟨fetch, off⟩
    rw [exec_of_fits h fits, readCapsule_of_off ring fetch off]
  case notRead =>
    rintro i r fn sq caps x q s h ⟨fits, ring⟩ ⟨on, fetch, may⟩
    rw [exec_of_fits h fits, readCapsule_of_not_may ring fetch on may]
  case untranslated =>
    rintro i r fn sq caps x q s h ⟨fits, ring⟩ ⟨on, may⟩ ⟨fetch, page⟩
    rw [exec_of_fits h fits, readCapsule_of_untranslated ring on may fetch page]
  case deleted =>
    rintro i r fn sq caps x q s h ⟨fits, ring⟩ fetch
    rw [exec_of_fits h fits, readCapsule_of_cut ring fetch.ge, cutCapsule_of_deleted fetch]
  case discarded =>
    rintro i r fn sq caps x q s h ⟨fits, ring⟩ fetch
    rw [exec_of_fits h fits, readCapsule_of_cut ring (by omega), cutCapsule_of_discarded fetch]
  case rejected =>
    rintro i r fn sq caps x q s h ⟨fits, ring⟩ ⟨on, may⟩ ⟨fetch, page⟩ bad
    rw [exec_of_fits h fits, readCapsule_of_read ring on may fetch page, if_neg bad]
  case opcode => exact fun fn k schuss caps s h => checks_of_opcode h
  case fields => exact fun fn k schuss caps s known h2 => checks_of_fields known h2
  case vault => exact fun fn k schuss caps s known h2 h3 => checks_of_vault known h2 h3
  case ledger => exact fun fn k schuss caps s known h h' => checks_of_ledger known h.1 h.2 (by rw [h'.1, h'.2]; rfl)
  case blocks => exact fun fn k schuss caps s known h h' => checks_of_blocks known h.1 h.2 h'
  case buffers => exact fun i r fn sq caps x q s h p need wait => exec_of_waits h p need wait
  case failing =>
    intro i r fn sq caps x q hs u s h a hx bad
    obtain ⟨bs, ls, hc⟩ := a.cmd?
    rw [exec_of_admitted_no_xrdy a h hx, startTransfer_of_failing hc ⟨rfl, rfl⟩ bad]
    rfl
  case waiting =>
    rintro i r fn sq caps x q hs u s h a hx ⟨good, key⟩ wait
    obtain ⟨bs, ls, hc⟩ := a.cmd?
    rw [exec_of_admitted_no_xrdy a h hx, startTransfer_of_waiting hc ⟨rfl, rfl⟩ good key wait]
    rfl

end Sys2Proof
end

section
/-!
SUPPORT. The handshake channels (R16 to R19): what a word's parity says, how a replay goes, and what the fourth failure does.
-/

namespace Sys2Proof

open Machine

theorem exec_channelWord (ch : Nat) (w : ChWord) (x : ChRx) (s : State) :
    exec (.channelWord ch w x) s = .next (s.close (s.channelWord ch w x)) := rfl

theorem exec_channelReplay (ch : Nat) (rx : List ChRx) (s : State) :
    exec (.channelReplay ch rx) s = .next (s.close (s.channelReplay ch rx)) := rfl

/-! ## Parity (R16) -/

/-- The parity bit is set exactly where the byte has an even number of ones. -/
theorem parityBit_eq (x : Byte) : parityBit x = decide (((List.range 8).filter (fun i => x.getLsbD i)).length % 2 = 0) := by
  have flips : ∀ (l : List Nat) (p : Bool),
      l.foldl (fun p i => p ^^ x.getLsbD i) p = (p ^^ decide ((l.filter (fun i => x.getLsbD i)).length % 2 = 1)) := by
    intro l
    induction l with
    | nil => simp
    | cons i l ih =>
      intro p
      rw [List.foldl_cons, ih]
      cases hi : x.getLsbD i
      · simp [hi]
      · rw [List.filter_cons_of_pos hi, List.length_cons]
        rcases Nat.mod_two_eq_zero_or_one (l.filter (fun i => x.getLsbD i)).length with h | h <;> simp [h, Nat.add_mod]
  rw [parityBit, flips, Bool.true_xor]
  rcases Nat.mod_two_eq_zero_or_one ((List.range 8).filter (fun i => x.getLsbD i)).length with h | h <;> simp [h]

theorem byteOk_iff (p : Byte × Bool) :
    byteOk p = true ↔ ((List.range 8).filter (fun i => p.1.getLsbD i)).length % 2 = if p.2 then 0 else 1 := by
  obtain ⟨b, odd⟩ := p
  rw [byteOk, beq_iff_eq, parityBit_eq]
  rcases Nat.mod_two_eq_zero_or_one ((List.range 8).filter (fun i => b.getLsbD i)).length with h | h <;> cases odd <;> simp [h]

theorem chRx_ok_iff (x : ChRx) :
    x.ok = true ↔ (∀ p ∈ x.tagA :: x.tagB :: x.data, ((List.range 8).filter (fun i => p.1.getLsbD i)).length % 2 = if p.2 then 0 else 1)
      ∧ x.req.t ≠ x.req.f ∧ x.ack.t ≠ x.ack.f := by
  simp only [← byteOk_iff, ChRx.ok, Rails.ok, Bool.and_eq_true, List.all_eq_true, List.forall_mem_cons, bne_iff_ne, and_assoc]

/-- A byte with its own parity bit passes. -/
@[simp] theorem byteOk_parityBit (b : Byte) : byteOk (b, parityBit b) = true := beq_self_eq_true _

/-- A word passes as it was sent. -/
@[simp] theorem sent_ok (w : ChWord) : w.sent.ok = true := by
  simp [ChWord.sent, ChRx.ok, Rails.ok]

theorem sent_tag? (w : ChWord) : w.sent.tag? = some (w.ctx % 32) := by
  simp only [ChRx.tag?, ChWord.sent, byteOk_parityBit, ↓reduceIte, BitVec.toNat_ofNat]
  congr 1
  omega

/-! ## A channel after it changes -/

@[simp] theorem chan_setChan (s : State) (ch : Nat) (c : Chan) : (s.setChan ch c).chan ch = c := SMap.getD_put_same _ _ _ _

/-! ## Replays (R17, R18) -/

/-- Words of which nothing wrong is known all pass. -/
theorem replayPassed_of_ok {ws : List ChWord} {rx : List ChRx} (h : rx.all ChRx.ok = true) : replayPassed ws rx = (ws.length, none) := by
  induction ws generalizing rx with
  | nil => rfl
  | cons w ws ih =>
    cases rx with
    | nil => simp [replayPassed, ih (rx := []) rfl]
    | cons x rx =>
      obtain ⟨hx, hrx⟩ := Bool.and_eq_true_iff.mp h
      simp [replayPassed, hx, ih hrx]

/-- The words before the first that fails pass. -/
theorem replayPassed_of_fails {pass rest : List ChWord} {w : ChWord} {ok later : List ChRx} {x : ChRx} (hlen : ok.length = pass.length)
    (hok : ok.all ChRx.ok = true) (hx : x.ok = false) : replayPassed (pass ++ w :: rest) (ok ++ x :: later) = (pass.length, some x) := by
  induction pass generalizing ok with
  | nil =>
    obtain rfl := List.length_eq_zero_iff.mp hlen
    simp [replayPassed, hx]
  | cons y pass ih =>
    cases ok with
    | nil => cases hlen
    | cons z ok =>
      obtain ⟨hz, hrest⟩ := Bool.and_eq_true_iff.mp hok
      simp [replayPassed, hz, ih (Nat.succ.inj hlen) hrest]

section Replay

variable {s : State} {ch : Nat} (asked : (s.chan ch).replay = true)
include asked

/-- A replay that passes empties the buffer. -/
theorem channelReplay_of_ok {rx : List ChRx} (h : rx.all ChRx.ok = true) :
    s.channelReplay ch rx = s.setChan ch { s.chan ch with buf := [], fails := 0, replay := false } := by
  simp [State.channelReplay, asked, replayPassed_of_ok h]

/-- A replay of which a word fails: the words before it leave the buffer, and it is counted against that word, now the oldest. -/
theorem channelReplay_of_fails {pass rest : List ChWord} {w : ChWord} {ok later : List ChRx} {x : ChRx}
    (hbuf : (s.chan ch).buf = pass ++ w :: rest) (hlen : ok.length = pass.length) (hok : ok.all ChRx.ok = true) (hx : x.ok = false) :
    let fails := if pass.isEmpty then (s.chan ch).fails + 1 else 1
    let v := s.setChan ch { s.chan ch with buf := w :: rest, fails := fails }
    s.channelReplay ch (ok ++ x :: later) =
      if fails < 4 then v.setChan ch { s.chan ch with buf := w :: rest, fails := fails, replays := (s.chan ch).replays + 1 }
      else x.tag?.elim (v.channelTagLost ch) (fun ctx => v.channelCheck ch ctx w) := by
  have counts : (if pass.length = 0 then (s.chan ch).fails + 1 else 1) = if pass.isEmpty then (s.chan ch).fails + 1 else 1 := by
    cases pass <;> rfl
  simp only [State.channelReplay, asked, hbuf, replayPassed_of_fails hlen hok hx, List.drop_left, counts, Bool.not_true, Bool.false_eq_true,
    ↓reduceIte]
  cases x.tag? <;> rfl

end Replay

/-- Settles O38, from what the parity says and how a replay goes. -/
theorem handshakeChannels : Obligations.HandshakeChannels := by
  refine ⟨?word, ?parity, ?during, ?passes, ?failsAgain, ?fourth⟩
  case word =>
    rintro ch w good bad s ⟨idle, room⟩ ⟨hgood, hbad⟩
    constructor
    · simp [exec_channelWord, State.channelWord, Nat.not_le.mpr room, idle, hgood]
    · simp [exec_channelWord, State.channelWord, Nat.not_le.mpr room, idle, hbad]
  case parity => exact fun w x => ⟨chRx_ok_iff x, sent_ok w, sent_tag? w⟩
  case during =>
    rintro ch w x s ⟨asked, room⟩
    simp [exec_channelWord, State.channelWord, Nat.not_le.mpr room, asked]
  case passes =>
    rintro ch rx s ⟨asked, -, hok⟩
    rw [exec_channelReplay, channelReplay_of_ok asked hok]
  case failsAgain =>
    rintro ch pass w rest ok later x s ⟨asked, hbuf⟩ ⟨hlen, hok, hx⟩ few
    have fewer : (if pass.isEmpty then (s.chan ch).fails + 1 else 1) < 4 := by
      cases pass with
      | nil => exact Nat.succ_lt_succ (few.resolve_left fun h => h rfl)
      | cons y pass => simp
    rw [exec_channelReplay, channelReplay_of_fails asked hbuf hlen hok hx, if_pos fewer]
  case fourth =>
    rintro ch ctx w rest x s ⟨asked, hbuf, hthree⟩ hx
    have fourth := channelReplay_of_fails (pass := []) (ok := []) (later := []) asked hbuf rfl rfl hx
    simp only [List.isEmpty_nil, ↓reduceIte, hthree, List.nil_append] at fourth
    rw [if_neg (by decide), ← hbuf] at fourth
    refine ⟨fun tag => ?_, fun tag => ?_⟩
    · rw [exec_channelReplay, fourth, tag]
      simp [State.channelCheck, hbuf]
    · rw [exec_channelReplay, fourth, tag]
      simp [State.channelTagLost, hbuf]

end Sys2Proof
end

section
/-!
SUPPORT. A command that begins (R283): what its row says of its capsule, and whether it reads its data or does its work.
-/

namespace Sys2Proof

open Machine

/-! ## The opcode of a row (Table 11.1) -/

/-- The opcode of the capsules that spell a row. -/
def rowOpcode : CapRow → Nat
  | .read => 0x01
  | .write => 0x02
  | .readVersion => 0x03
  | .flush => 0x04
  | .fence => 0x05
  | .vaultCreate | .vaultRebind => 0x08
  | .vaultMount => 0x09
  | .vaultUnmount => 0x0A
  | .querySummary | .querySealed | .queryVersions | .queryDiscs => 0x0B
  | .sealExport => 0x10
  | .cryptGcmEnc | .cryptGcmDec | .cryptCtr | .cryptWrap | .cryptUnwrap => 0x11
  | .hash => 0x12
  | .capture | .captureStop => 0x18
  | .planReplace | .planAppend => 0x19
  | .ctlLoad | .ctlSpin | .ctlPark | .ctlStow | .ctlRetire | .ctlAdaptive | .ctlPlanned | .ctlForce => 0x1A
  | .calRefin | .calTemp | .calVin | .calPd | .calOffset | .calGain | .calZone | .calTest | .calLiveOn | .calLiveOff | .calBistClear
  | .calShutdown => 0x20
  | .bistReport => 0x21
  | .domainSet => 0x28
  | .resetResume | .resetDiscard => 0x30
  | .logRead | .eventLogRead => 0x31
  | .stageFirmware | .stageMicrocode => 0x38
  | .activateFirmware | .activateMicrocode => 0x39
  | .nop => 0x3F

theorem opcode_of_rowOf {caps : Capsule} {r : CapRow} (h : rowOf caps = some r) : capOPC caps = rowOpcode r := by
  unfold rowOf at h
  split at h
  all_goals grind [rowOpcode]

/-! ## A command that begins (R283) -/

section Begin

variable {i : Instr} {s u : State} {r : CapRow} {fn : Fn} {sq : RingNo} {caps : Capsule} {x : CapIn} {q : Sq} {hs : List Nat}

/-- A command that begins reads its segment list, if it has one; its segments are known otherwise. -/
theorem exec_of_begins (h : i.capsule = some (r, fn, sq, caps, x)) (b : Begins s r fn sq caps x q hs u) (hx : capXRDY caps = false) :
    exec i s = .next (s.close (
      if capLIST caps then ((reservedFor u s.freshId hs).setCmd s.freshId (fun c => { c with
        phase := 0, inBytes := [], segsIn := [(capDPTR caps, 16 * capLCOUNT caps)] })).pump s.freshId
      else (reservedFor u s.freshId hs).haveSegs s.freshId (plainSegs caps))) := by
  obtain ⟨bs, ls, hcmds⟩ := b.toAdmitted.cmds
  have serves := b.serves
  simp only [Bool.or_eq_false_iff] at serves
  obtain ⟨⟨⟨⟨bench, waits⟩, engine⟩, stage⟩, ledger⟩ := serves
  have good : (u.benchFails caps || (u.fatal ctxLEDGER && needsMap caps) || u.engineGone caps || u.stageShut caps) = false := by
    rw [bench, ledger, engine, stage]
    rfl
  rw [exec_of_admitted_no_xrdy b.toAdmitted h hx, startTransfer_of_served (cmd?_of_last hcmds rfl) ⟨rfl, rfl⟩ good b.key waits b.need,
    holding_caps]
  split
  · have same : (reservedFor u s.freshId hs).setCmd s.freshId (fun c => { c with
          phase := 0, inBytes := [], segsIn := [(capDPTR c.caps, 16 * capLCOUNT c.caps)] })
        = (reservedFor u s.freshId hs).setCmd s.freshId (fun c => { c with
          phase := 0, inBytes := [], segsIn := [(capDPTR caps, 16 * capLCOUNT caps)] }) :=
      setCmd_congr fun c hc hi => by rw [eq_of_last hcmds hc hi, holding_caps]
    rw [same]
  · rfl

end Begin

section HaveSegs

variable {v : State} {id : Nat} {c : Cmd} (hc : v.cmd? id = some c)
include hc

/-- Any other command does its work. -/
theorem haveSegs_of_work (h : [0x02, 0x09, 0x11, 0x12, 0x19, 0x38].contains (capOPC c.caps) = false) (segs : List (Nat × Nat)) :
    v.haveSegs id segs = v.work' id segs := by
  simp only [State.haveSegs, hc, h, Bool.false_eq_true, ↓reduceIte]

end HaveSegs

/-! ## A PLAN_LOAD whose number another command bears (R305) -/

/-- A PLAN_LOAD of station `n` without slots, its data all there. -/
def planLoaded (n : Nat) : Cmd := { newCmd 9 0 1 0 (BitVec.ofNat 512 (0x19 + n * 2 ^ 192)) {} with phase := 1 }

/-- Two of them, for stations 0 and 1, bear one number. -/
def twinPlans : State :=
  { State.reset with
      rings.sqs := [(1, ⟨0, 2, 1, 0, false, none, 0, none, false, false, 0, []⟩)],
      work.cmds := [planLoaded 0, planLoaded 1] }

/-- The model shows the station of the first with both. -/
theorem twinPlans_stations : (twinPlans.arrived 9).work.cmds.map (·.station) = [0, 0] := by decide +kernel

/-- Refutes O56: its clause for PLAN_LOAD shows each command of the number with the station of that command's own capsule, where the model
takes the station from the one that has its data; on the state above the second comes to show 1, not 0. (Admission gives each command a
number of its own, `lt_freshId`; the statement speaks of every state.) -/
theorem not_dataFromTheHost : ¬ Obligations.DataFromTheHost := by
  rintro ⟨-, -, -, -, -, hplan, -⟩
  have stated := congrArg (fun v : State => v.work.cmds.map (·.station))
    (hplan 9 (planLoaded 0) twinPlans (by decide +kernel) (by decide +kernel))
  rw [twinPlans_stations] at stated
  exact absurd stated (by decide +kernel)

end Sys2Proof
end

section
/-!
SUPPORT. STATION_CTL, FORENSIC_CAPTURE and CAL_RUN (R306, R308, R441, R446): what the row of each says of its fields, and what it begins.
-/

namespace Sys2Proof

open Machine

/-! ## What the fields of an admitted capsule are (R303) -/

section Fields

variable {s : State} {r : CapRow} {fn : Fn} {sq : RingNo} {caps : Capsule} {q : Sq}

theorem Passes.check2 (p : Passes s r fn sq caps q) : (s.takeHead fn sq q).check2 fn sq caps = true := check2_of_checks p.pass

theorem Passes.fields (p : Passes s r fn sq caps q) : (s.takeHead fn sq q).fieldsOk fn caps = true := by
  have h := p.check2
  simp only [State.check2, Bool.and_eq_true] at h
  obtain ⟨⟨⟨-, fields⟩, -⟩, -⟩ := h
  exact fields

/-- Only a WRITE has XRDY. -/
theorem Passes.no_xrdy (p : Passes s r fn sq caps q) (hr : rowOpcode r ≠ 2) : capXRDY caps = false := by
  have h := p.check2
  have other : (capOPC caps == 2) = false := by rw [opcode_of_rowOf p.row]; exact beq_false_of_ne hr
  simp only [State.check2, headOk, other, Bool.or_false, Bool.and_eq_true, Bool.not_eq_true'] at h
  obtain ⟨⟨⟨⟨⟨⟨⟨-, none⟩, -⟩, -⟩, -⟩, -⟩, -⟩, -⟩ := h
  exact none

/-- The action of a STATION_CTL without FORCE (Table 11.7). -/
def ctlAction : CapRow → Nat
  | .ctlLoad => 1
  | .ctlSpin => 2
  | .ctlPark => 3
  | .ctlStow => 4
  | .ctlRetire => 5
  | .ctlAdaptive => 6
  | .ctlPlanned => 7
  | _ => 0

theorem ctl_of_rowOf (h : rowOf caps = some r) (ho : capOPC caps = 0x1A) (hr : r ≠ .ctlForce) (ha : 1 ≤ cap caps 25 1 ∧ cap caps 25 1 ≤ 7) :
    (cap caps 26 1).testBit 0 = false ∧ cap caps 25 1 = ctlAction r := by
  simp only [rowOf, ho] at h
  obtain ⟨lo, hi⟩ := ha
  grind [ctlAction]

theorem force_of_rowOf (h : rowOf caps = some .ctlForce) : (cap caps 26 1).testBit 0 = true := by
  have ho := opcode_of_rowOf h
  simp only [rowOf, ho, rowOpcode] at h
  grind

theorem capture_of_rowOf (h : rowOf caps = some r) (ho : capOPC caps = 0x18) : (cap caps 25 1).testBit 1 = decide (r = .captureStop) := by
  simp only [rowOf, ho] at h
  grind

/-- The step of a CAL_RUN (Table 16.4). -/
def calStep : CapRow → Nat
  | .calRefin => 0x01
  | .calTemp => 0x02
  | .calVin => 0x03
  | .calPd => 0x10
  | .calOffset => 0x11
  | .calGain => 0x12
  | .calZone => 0x13
  | .calTest => 0x14
  | .calLiveOn => 0x20
  | .calLiveOff => 0x21
  | .calBistClear => 0x30
  | .calShutdown => 0x31
  | _ => 0

theorem cal_of_rowOf (h : rowOf caps = some r) (ho : capOPC caps = 0x20) (hs : s.calOk caps = true) : cap caps 26 2 = calStep r := by
  have known : cap caps 26 2 ∈ [0x01, 0x02, 0x03, 0x10, 0x11, 0x12, 0x13, 0x14, 0x20, 0x21, 0x30, 0x31] := by
    simp only [State.calOk] at hs
    simp only [List.mem_cons, List.not_mem_nil, or_false]
    split_ifs at hs <;> omega
  simp only [rowOf, ho, Option.some.injEq] at h
  subst h
  generalize cap caps 26 2 = step at known ⊢
  revert step
  decide

end Fields

/-! ## Work that begins at once (R300) -/

section Work

variable {i : Instr} {s u : State} {r : CapRow} {fn : Fn} {sq : RingNo} {caps : Capsule} {x : CapIn} {q : Sq} {hs : List Nat}

/-- The class of the command is that of its SQ. -/
theorem Admitted.cmdCls (a : Admitted s r fn sq caps x q hs u) {v : State} (hv : v.rings = u.rings) {c : Cmd} (hf : c.fn = fn)
    (hk : c.sq = sq) (hm : c.mute = false) : v.cmdCls c = q.cls := by
  obtain ⟨q', hq, hcls, -⟩ := a.sq?
  have found : v.sq? fn sq = some q' := by rw [← hq, State.sq?, State.sq?, hv]
  simp only [State.cmdCls, hf, hk, found, hm, hcls, Bool.false_eq_true, ↓reduceIte]

/-- A command whose data segments are `segs` does its work. -/
def begun (segs : List (Nat × Nat)) (c : Cmd) : Cmd :=
  { c with segsOut := segs, phase := 3, started := c.started || [0x08, 0x39].contains (capOPC c.caps) }

/-- Only VAULT_CREATE and FW_ACTIVATE start with their engine operation. -/
theorem setCmd_begun (a : Admitted s r fn sq caps x q hs u) (late : [0x08, 0x39].contains (rowOpcode r) = false) :
    (reservedFor u s.freshId hs).setCmd s.freshId (begun (plainSegs caps)) = atWork u s.freshId hs caps false := by
  obtain ⟨bs, ls, hcmds⟩ := a.cmds
  have same : (reservedFor u s.freshId hs).setCmd s.freshId (begun (plainSegs caps))
      = (reservedFor u s.freshId hs).setCmd s.freshId (fun c => { c with
        segsOut := plainSegs caps, phase := 3, started := c.started || false }) :=
    setCmd_congr fun c hc hi => by
      have other : [0x08, 0x39].contains (capOPC c.caps) = false := by
        rw [eq_of_last hcmds hc hi, holding_caps, opcode_of_rowOf a.row, late]
      rw [begun, other]
  rw [same, reservedFor, setCmd_setCmd _ _ (fun _ => by rfl)]
  rfl

/-- A command that begins, takes no data from the host and has no list does its work. -/
theorem exec_of_begins_work (h : i.capsule = some (r, fn, sq, caps, x)) (b : Begins s r fn sq caps x q hs u) (hl : capLIST caps = false)
    (pulls : [0x02, 0x09, 0x11, 0x12, 0x19, 0x38].contains (rowOpcode r) = false) :
    exec i s = .next (s.close ((reservedFor u s.freshId hs).work' s.freshId (plainSegs caps))) := by
  obtain ⟨bs, ls, hc⟩ := b.toAdmitted.cmd?
  have notWrite : rowOpcode r ≠ 2 := fun e => by rw [e] at pulls; exact absurd pulls (by decide)
  have own : [0x02, 0x09, 0x11, 0x12, 0x19, 0x38].contains (capOPC (holding s fn sq caps x hs bs ls).caps) = false := by
    rw [holding_caps, opcode_of_rowOf b.row, pulls]
  rw [exec_of_begins h b (b.no_xrdy notWrite), hl, if_neg (by decide), haveSegs_of_work hc own]

end Work

section WorkOf

variable {v : State} {id : Nat} {c : Cmd} (hc : v.cmd? id = some c) (segs : List (Nat × Nat))
include hc

theorem work'_of_stationCtl (ho : capOPC c.caps = 0x1A) : v.work' id segs = (v.setCmd id (begun segs)).stationCtl id c := by
  simp only [State.work', hc, ho]
  rfl

theorem work'_of_calRun (ho : capOPC c.caps = 0x20) : v.work' id segs = (v.setCmd id (begun segs)).calRun id c := by
  simp only [State.work', hc, ho]
  rfl

theorem work'_of_capture (ho : capOPC c.caps = 0x18) : v.work' id segs =
    if (cap c.caps 25 1).testBit 1 then (v.setCmd id (begun segs)).captureEnd id c else (v.setCmd id (begun segs)).captureBegin id c segs := by
  simp only [State.work', hc, ho]
  rfl

end WorkOf

/-! ## The three commands, once they begin -/

section Begun

variable {i : Instr} {s u : State} {r : CapRow} {fn : Fn} {sq : RingNo} {caps : Capsule} {x : CapIn} {q : Sq} {hs : List Nat}
  (h : i.capsule = some (r, fn, sq, caps, x)) (b : Begins s r fn sq caps x q hs u) (hl : capLIST caps = false)
include h b hl

theorem exec_of_stationCtl (ho : rowOpcode r = 0x1A) : ∃ bs ls, exec i s = .next (s.close
    ((atWork u s.freshId hs caps false).stationCtl s.freshId (holding s fn sq caps x hs bs ls))) := by
  obtain ⟨bs, ls, hc⟩ := b.toAdmitted.cmd?
  refine ⟨bs, ls, ?_⟩
  rw [exec_of_begins_work h b hl (by rw [ho]; decide), work'_of_stationCtl hc _ ((opcode_of_rowOf b.row).trans ho),
    setCmd_begun b.toAdmitted (by rw [ho]; decide)]

theorem exec_of_calRun (ho : rowOpcode r = 0x20) : ∃ bs ls, exec i s = .next (s.close
    ((atWork u s.freshId hs caps false).calRun s.freshId (holding s fn sq caps x hs bs ls))) := by
  obtain ⟨bs, ls, hc⟩ := b.toAdmitted.cmd?
  refine ⟨bs, ls, ?_⟩
  rw [exec_of_begins_work h b hl (by rw [ho]; decide), work'_of_calRun hc _ ((opcode_of_rowOf b.row).trans ho),
    setCmd_begun b.toAdmitted (by rw [ho]; decide)]

theorem exec_of_capture (ho : rowOpcode r = 0x18) : ∃ bs ls, exec i s = .next (s.close
    (if (cap caps 25 1).testBit 1 then (atWork u s.freshId hs caps false).captureEnd s.freshId (holding s fn sq caps x hs bs ls)
      else (atWork u s.freshId hs caps false).captureBegin s.freshId (holding s fn sq caps x hs bs ls) (plainSegs caps))) := by
  obtain ⟨bs, ls, hc⟩ := b.toAdmitted.cmd?
  refine ⟨bs, ls, ?_⟩
  rw [exec_of_begins_work h b hl (by rw [ho]; decide), work'_of_capture hc _ ((opcode_of_rowOf b.row).trans ho), holding_caps,
    setCmd_begun b.toAdmitted (by rw [ho]; decide)]

/-- R306: an action without FORCE joins the tasks of its station. -/
theorem exec_of_action (ho : rowOpcode r = 0x1A) (hr : r ≠ .ctlForce) {k : TaskKind} {args : List Nat}
    (hk : actionTask (ctlAction r) = k) (ha : actionArgs (ctlAction r) (cap caps 24 1) (cap caps 28 4) = args) :
    let v := (atWork u s.freshId hs caps false).setCmd s.freshId (fun c => { c with station := cap caps 24 1 })
    exec i s = .next (s.close (v.addTask (cap caps 24 1) k [s.freshId] q.cls s.freshId args false)) := by
  obtain ⟨bs, ls, he⟩ := exec_of_stationCtl h b hl ho
  have opc : capOPC caps = 0x1A := (opcode_of_rowOf b.row).trans ho
  have range : 1 ≤ cap caps 25 1 ∧ cap caps 25 1 ≤ 7 := by
    have fields := b.fields
    simp only [State.fieldsOk, opc, Bool.and_eq_true, decide_eq_true_eq] at fields
    obtain ⟨⟨-, lo, hi, -⟩, -⟩ := fields
    exact ⟨lo, hi⟩
  obtain ⟨force, action⟩ := ctl_of_rowOf b.row opc hr range
  rw [he, State.stationCtl, holding_caps, force, action, hk, ha, b.toAdmitted.cmdCls (by rfl) (by rfl) (by rfl) (by rfl)]
  rfl

omit h hl in
/-- R441: the step of a CAL_RUN is its row's. -/
theorem calStep_of_begins (ho : rowOpcode r = 0x20) : cap caps 26 2 = calStep r := by
  have opc : capOPC caps = 0x20 := (opcode_of_rowOf b.row).trans ho
  have fields := b.fields
  simp only [State.fieldsOk, opc] at fields
  exact cal_of_rowOf b.row opc fields

end Begun

/-! ## CAL_RUN by its step (R441) -/

section CalRun

variable {s : State} {id : Nat} {c : Cmd}

theorem calRun_of_device (h : cap c.caps 26 2 ≤ 3) : s.calRun id c = s.devBegin id (cap c.caps 26 2) (paramInt c.caps) c.meas := by
  have clear : cap c.caps 26 2 ≠ 0x30 := by omega
  have shut : cap c.caps 26 2 ≠ 0x31 := by omega
  simp only [State.calRun, clear, shut, h, ↓reduceIte]

theorem calRun_of_station (h : 3 < cap c.caps 26 2 ∧ cap c.caps 26 2 < 0x30) :
    s.calRun id c =
      if s.unusableStn (cap c.caps 24 1) || (s.station (toStn (cap c.caps 24 1))).retired
      then (s.setCmd id (fun d => { d with station := cap c.caps 24 1 })).finishWith id .stationUnavailable
      else s.addTask (cap c.caps 24 1) .calStep [id] (s.cmdCls c) id [cap c.caps 26 2, 0, cap c.caps 28 4, 0, 0, 0] false := by
  obtain ⟨lo, hi⟩ := h
  have device : ¬ cap c.caps 26 2 ≤ 3 := by omega
  have clear : cap c.caps 26 2 ≠ 0x30 := by omega
  have shut : cap c.caps 26 2 ≠ 0x31 := by omega
  simp only [State.calRun, device, clear, shut, ↓reduceIte]

theorem calRun_of_clear (h : cap c.caps 26 2 = 0x30) :
    s.calRun id c = (s.bistClear (cap c.caps 24 1)).calEnd id 0x30 (cap c.caps 24 1) 0 (s.tempOf 1) 0xFF [] := by
  simp only [State.calRun, h, ↓reduceIte]

theorem calRun_of_shutdown (h : cap c.caps 26 2 = 0x31) : s.calRun id c = s.shutdown id c := by
  simp [State.calRun, h]

end CalRun

/-! ## Self-tests leave the sensors' readings (R446, R460) -/

theorem tempOf_bistClear (s : State) (n i : Nat) : (s.bistClear n).tempOf i = s.tempOf i := by
  unfold State.bistClear
  split <;> rfl

/-- The results of a part are written beside the commands, the rings and the registers that show neither events nor pools. -/
theorem beside_writeBist {s : State} (on : HostServes s) (own : Nat → Bool) (es : List BistEnt) : Beside s (s.writeBist own es) := by
  have raised : ∀ l : List BistEnt, Beside s (l.foldl (fun (v : State) e => v.raise 35 [e.code]) s) := fun l =>
    List.foldlRecOn (motive := Beside s) l _ (.refl s) fun _ hv _ _ => hv.trans (beside_raise (hv.serves on) (by decide) _)
  refine Beside.trans (raised ((es.filter (fun e => own e.code)).filter (fun e => e.result == 1))) ?_
  exact .of_eq rfl rfl rfl rfl

theorem beside_stationBists {s : State} (on : HostServes s) (l : List Nat) (bist : List BistFind) :
    Beside s (l.foldl (fun (v : State) n => v.stationBist n bist) s) :=
  List.foldlRecOn (motive := Beside s) l _ (.refl s) fun _ hv _ _ => hv.trans (beside_writeBist (hv.serves on) _ _)

theorem tempOf_deviceBist {s : State} (on : HostServes s) (bist : List BistFind) :
    ((s.deviceBist bist).setBit BIST_STAT BIST_STAT_SHUT true).tempOf 1 = s.tempOf 1 := by
  have same : ((s.deviceBist bist).setBit BIST_STAT BIST_STAT_SHUT true).reg (CAL_TEMP 1) = s.reg (CAL_TEMP 1) := by
    rw [State.setBit, State.reg_setFld_other _ _ _ (by decide)]
    exact (beside_writeBist on _ _).reg _ (by decide)
  unfold State.tempOf State.fldInt State.fld
  rw [same]

/-- The stations that a SHUTDOWN tests, tested. -/
def stationsTested (s : State) (bist : List BistFind) : State :=
  ((List.range s.stations).filter (fun n => s.bit (STN_CTL n) STN_CTL_ENABLE)).foldl (fun (w : State) n => w.stationBist n bist) s

/-- The controller tested too, its wear samples saved, and shut. -/
def shutDown (s : State) (bist : List BistFind) : State :=
  (({ stationsTested s bist with evt.wearFlash := (stationsTested s bist).evt.wear } : State).deviceBist bist).setBit BIST_STAT
    BIST_STAT_SHUT true

/-- SHUTDOWN (R446); its record's temperature is the one that was last read. -/
theorem shutdown_eq {s : State} (on : HostServes s) (id : Nat) (c : Cmd) :
    s.shutdown id c =
      if !s.ledger.vaults.isEmpty || (List.range s.stations).any (fun n => s.holdsTask n || s.spinState n != 0)
      then s.calEnd id 0x31 0xFF 2 (s.tempOf 1) 0xFF []
      else (shutDown s c.bist).calEnd id 0x31 0xFF 0 ((shutDown s c.bist).tempOf 1) 0xFF [] := by
  have saved : Beside s { stationsTested s c.bist with evt.wearFlash := (stationsTested s c.bist).evt.wear } :=
    (beside_stationBists on _ _).trans (.of_eq rfl rfl rfl rfl)
  rw [shutDown, tempOf_deviceBist (saved.serves on)]
  rfl

/-- Settles O58: the three commands by their rows, and what their tasks and self-tests do. -/
theorem stationAndCalibrationCommands : Obligations.StationAndCalibrationCommands := by
  refine ⟨?actions, ?modes, ?force, ?forced, ?mode, ?capture, ?captureStop, ?device, ?station, ?clear, ?shutdown⟩
  case actions =>
    intro i r k fn sq caps q hs u s h b hl
    simp only [Prod.mk.injEq] at h
    obtain ⟨rfl, rfl, rfl⟩ | ⟨rfl, rfl, rfl⟩ | ⟨rfl, rfl, rfl⟩ | ⟨rfl, rfl, rfl⟩ | ⟨rfl, rfl, rfl⟩ := h
    all_goals exact exec_of_action rfl b hl rfl (by decide) rfl rfl
  case modes =>
    intro i r planned fn sq caps q hs u s h b hl
    simp only [Prod.mk.injEq] at h
    obtain ⟨rfl, rfl, rfl⟩ | ⟨rfl, rfl, rfl⟩ := h
    all_goals exact exec_of_action rfl b hl rfl (by decide) rfl rfl
  case force =>
    intro fn sq caps q hs u s b hl
    obtain ⟨bs, ls, he⟩ := exec_of_stationCtl (i := .stationCtlForce fn sq caps) rfl b hl rfl
    rw [he, State.stationCtl, holding_caps, force_of_rowOf b.row]
    rfl
  case forced =>
    intro n s
    simp only [State.forceStop, Bool.and_eq_true, Bool.not_eq_true']
  case mode =>
    intro n t s hk
    rw [State.giveTask, if_pos hk]
    rfl
  case capture =>
    intro fn sq caps q hs u s b hl
    obtain ⟨bs, ls, he⟩ := exec_of_capture (i := .forensicCapture fn sq caps) rfl b hl rfl
    rw [he, capture_of_rowOf b.row (opcode_of_rowOf b.row), if_neg (by decide), State.captureBegin,
      b.toAdmitted.cmdCls (by rfl) (by rfl) (by rfl) (by rfl), holding_caps, atWork, setCmd_setCmd _ _ (fun _ => by rfl),
      setCmd_setCmd _ _ (fun _ => by rfl)]
  case captureStop =>
    intro fn sq caps q hs u s b hl
    obtain ⟨bs, ls, he⟩ := exec_of_capture (i := .forensicCaptureStop fn sq caps) rfl b hl rfl
    rw [he, capture_of_rowOf b.row (opcode_of_rowOf b.row), if_pos (by decide), State.captureEnd]
    rfl
  case device =>
    intro i r fn sq caps m q hs u s h b hl
    have capsule : i.capsule = some (r, fn, sq, caps, { meas := m }) ∧ rowOpcode r = 0x20 ∧ calStep r ≤ 3 := by
      simp only [Prod.mk.injEq] at h
      obtain ⟨rfl, rfl⟩ | ⟨rfl, rfl⟩ | ⟨rfl, rfl⟩ := h
      all_goals exact ⟨rfl, by decide⟩
    obtain ⟨hi, ho, small⟩ := capsule
    obtain ⟨bs, ls, he⟩ := exec_of_calRun hi b hl ho
    rw [← calStep_of_begins b ho] at small
    rw [he, calRun_of_device (c := holding s fn sq caps { meas := m } hs bs ls) small]
    cases m <;> rfl
  case station =>
    intro i r fn sq caps q hs u s h b hl
    have capsule : i.capsule = some (r, fn, sq, caps, {}) ∧ rowOpcode r = 0x20 ∧ 3 < calStep r ∧ calStep r < 0x30 := by
      simp only [Prod.mk.injEq] at h
      obtain ⟨rfl, rfl⟩ | ⟨rfl, rfl⟩ | ⟨rfl, rfl⟩ | ⟨rfl, rfl⟩ | ⟨rfl, rfl⟩ | ⟨rfl, rfl⟩ | ⟨rfl, rfl⟩ := h
      all_goals exact ⟨rfl, by decide⟩
    obtain ⟨hi, ho, range⟩ := capsule
    obtain ⟨bs, ls, he⟩ := exec_of_calRun hi b hl ho
    rw [← calStep_of_begins b ho] at range
    rw [he, calRun_of_station (c := holding s fn sq caps {} hs bs ls) range, b.toAdmitted.cmdCls (by rfl) (by rfl) (by rfl) (by rfl)]
    rfl
  case clear =>
    intro fn sq caps q hs u s b hl
    obtain ⟨bs, ls, he⟩ := exec_of_calRun (i := .bistClear fn sq caps) rfl b hl rfl
    have step : cap caps 26 2 = 0x30 := calStep_of_begins b rfl
    rw [he, calRun_of_clear (c := holding s fn sq caps {} hs bs ls) step, holding_caps]
    simp only [tempOf_bistClear]
  case shutdown =>
    intro fn sq caps bist q hs u s b hl
    obtain ⟨bs, ls, he⟩ := exec_of_calRun (i := .shutdown fn sq caps bist) rfl b hl rfl
    have on : HostServes (atWork u s.freshId hs caps false) := b.toAdmitted.serves
    have step : cap caps 26 2 = 0x31 := calStep_of_begins b rfl
    rw [he, calRun_of_shutdown (c := holding s fn sq caps { bist := bist } hs bs ls) step, shutdown_eq on]
    rfl

end Sys2Proof
end

section
/-!
SUPPORT. Captures (R24, R189 to R191, R295, R308): what an epoch boundary does with the capture of a station, and the drain of the
capture ring.
-/

namespace Sys2Proof

open Machine

/-! ## An epoch boundary, part by part -/

/-- R308: the command of a capture is over; a capture that software alone runs has none. -/
def captureDead (s : State) (c : Capture) : Bool :=
  match s.cmd? c.cmd with | some x => x.ended | none => decide (c.cmd ≠ 2 ^ 64)

/-- R189: a lane is not up, or no epoch has been received. -/
def epochLost (s : State) (n : Nat) : Bool :=
  s.lane n (s.servoLane n) != 2 || (!(s.fld (STN_STAT n) STN_STAT_MAP != 0) && s.lane n (1 - s.servoLane n) != 2) || (s.capEpoch n).isNone

/-- The place of the capture's next epoch in the host. -/
def epochSegs (c : Capture) (x : Cmd) : List (Nat × Nat) :=
  areaPieces x.segsIn (c.k * epochSize c.compand) (epochSize c.compand)

/-- Every one of these segments has its translations. -/
def placesHeld (s : State) (x : Cmd) (segs : List (Nat × Nat)) : Bool :=
  segs.all (fun g => s.holds x.fn (s.cmdPasid x) (g.1 / 4096) && s.holds x.fn (s.cmdPasid x) ((g.1 + g.2 - 1) / 4096))

/-- R24: the samples of this epoch leave at once, and not by way of the ring. -/
def epochDirect (s : State) (c : Capture) (accept : Bool) : Bool :=
  accept && !(!s.work.ring.isEmpty || (match s.cmd? c.cmd with | some x => !x.outBytes.isEmpty | none => false))
    && (match s.cmd? c.cmd with | some x => placesHeld s x (epochSegs c x) | none => true)

/-- The epoch has no room in the ring. -/
def epochFull (s : State) (c : Capture) (accept : Bool) : Bool :=
  !epochDirect s c accept && decide ((s.region 2).2 < s.ringUsed + epochSize c.compand)

/-- R295: the place of the epoch is asked for. -/
def placeAsked (s : State) (c : Capture) : State :=
  match s.cmd? c.cmd with | some x => s.askPlace x (epochSegs c x) | none => s

/-- R191: the run of dropped epochs that another of cause `why` joins or begins, the gaps entered so far, and the state once the run
before has been entered. -/
def nextGap (s : State) (c : Capture) (why : Nat) : Option (Nat × Nat × Nat) × Nat × State :=
  match c.gap with
  | some (k, m, w) =>
    if w = why then (some (k, m + 1, w), c.gaps, s)
    else
      let (s, gp) := s.closeGap c
      (some (c.k, 1, why), gp, s)
  | none => (some (c.k, 1, why), c.gaps, s)

/-- R191: an epoch is dropped. -/
def dropEpoch (s : State) (n : Nat) (c : Capture) (why : Nat) : State :=
  let (g, gp, s) := nextGap s c why
  s.setRd n (fun r => { r with
    cap := r.cap.map (fun (d : Capture) => { d with gap := g, gaps := gp, dropped := d.dropped + 1, k := d.k + 1 }) })

/-- R190: the samples and the index entry of epoch `a` are given out. -/
def giveEpoch (s : State) (n : Nat) (c : Capture) (a : PastEpoch) (direct : Bool) (x : Cmd) : State :=
  let at' := cap x.caps 40 8 + 16 * c.k
  if direct then (s.capOut c.cmd (epochSegs c x) (s.capData n c a)).capOut c.cmd [(at', 16)] (s.capIndex n c a)
  else s.ringIn c.cmd (epochSegs c x) (s.capData n c a) at' (s.capIndex n c a)

/-- The run of dropped epochs is over, and the capture goes on to its next epoch. -/
def nextEpoch (s : State) (n : Nat) (c : Capture) (gaps : Nat) (accept : Bool) : State :=
  let v := s.setRd n (fun r => { r with
    cap := r.cap.map (fun (d : Capture) => { d with gap := none, gaps := gaps, k := d.k + 1 }) })
  if accept then v.pump c.cmd else v

/-- After its last epoch a capture is over. -/
def epochDone (s : State) (n : Nat) : State :=
  (match (s.rd n).cap with | some d => if d.epochs ≤ d.k then s.captureOver n else s | none => s).preemptPoint n

/-! ## What the parts say -/

section Parts

variable {s : State} {n : Nat} {c : Capture} {accept : Bool}

/-- The statement's words for the same. -/
theorem captureDead_eq (s : State) (c : Capture) :
    captureDead s c = (match s.cmd? c.cmd with | some x => x.ended | none => c.cmd != 2 ^ 64) := by
  unfold captureDead
  cases s.cmd? c.cmd with
  | some x => rfl
  | none => exact decide_not

theorem epochLost_iff : epochLost s n = true ↔
    s.lane n (s.servoLane n) ≠ 2 ∨ (s.fld (STN_STAT n) STN_STAT_MAP = 0 ∧ s.lane n (1 - s.servoLane n) ≠ 2) ∨ s.capEpoch n = none := by
  simp [epochLost, or_assoc]

theorem not_epochLost {a : PastEpoch}
    (h : s.lane n (s.servoLane n) = 2 ∧ (s.fld (STN_STAT n) STN_STAT_MAP ≠ 0 ∨ s.lane n (1 - s.servoLane n) = 2))
    (ha : s.capEpoch n = some a) : epochLost s n = false := by
  obtain ⟨lead, trail⟩ := h
  rw [← Bool.not_eq_true, epochLost_iff]
  rintro (h | ⟨one, h⟩ | h)
  · exact h lead
  · exact trail.elim (absurd one) h
  · simp [h] at ha

theorem epochDirect_iff : epochDirect s c accept = true ↔ accept = true ∧ s.work.ring = [] ∧
    (match s.cmd? c.cmd with | some x => x.outBytes.isEmpty && placesHeld s x (epochSegs c x) | none => true) = true := by
  unfold epochDirect
  cases s.cmd? c.cmd with
  | none => simp
  | some x => simp [and_assoc]

theorem epochDirect_of_cmd {x : Cmd} (hx : s.cmd? c.cmd = some x) : epochDirect s c accept =
    (accept && s.work.ring.isEmpty && x.outBytes.isEmpty && placesHeld s x (epochSegs c x)) := by
  simp [epochDirect, hx, Bool.and_assoc]

theorem epochFull_iff : epochFull s c accept = true ↔
    ¬ epochDirect s c accept = true ∧ (s.region 2).2 < s.ringUsed + epochSize c.compand := by
  simp [epochFull]

theorem not_epochFull (h : epochDirect s c accept = true ∨ s.ringUsed + epochSize c.compand ≤ (s.region 2).2) :
    epochFull s c accept = false := by
  rw [← Bool.not_eq_true, epochFull_iff, not_and, Nat.not_lt]
  exact fun notDirect => h.resolve_left notDirect

/-- A run of the same cause goes on; another is entered, and a new one begins. -/
theorem dropEpoch_eq (s : State) (n : Nat) (c : Capture) (why : Nat) :
    dropEpoch s n c why =
      let same := match c.gap with | some g => decide (g.2.2 = why) | none => false
      let v := if same then (s, c.gaps) else s.closeGap c
      let gap := match c.gap with | some g => if same then (g.1, g.2.1 + 1, why) else (c.k, 1, why) | none => (c.k, 1, why)
      v.1.setRd n (fun r => { r with
        cap := r.cap.map (fun (d : Capture) => { d with gap := some gap, gaps := v.2, dropped := d.dropped + 1, k := d.k + 1 }) }) := by
  unfold dropEpoch nextGap
  cases hg : c.gap with
  | none => simp [State.closeGap, hg]
  | some g =>
    obtain ⟨k, m, w⟩ := g
    by_cases hw : w = why
    · subst hw
      simp
    · simp [hw]

/-- A gap's record goes to the gap list of the capture's command, if the list has room (R191). -/
theorem closeGap_of_gap {k m why : Nat} {x : Cmd} (hg : c.gap = some (k, m, why)) (hx : s.cmd? c.cmd = some x) :
    s.closeGap c = (if cap x.caps 56 4 < 16 * (c.gaps + 1) then s else s.capOut c.cmd [(cap x.caps 48 8 + 16 * c.gaps, 16)]
      (leBytes 4 k ++ leBytes 4 m ++ leBytes 1 why ++ zeros 7), c.gaps + 1) := by
  simp only [State.closeGap, hg, hx]
  split <;> rfl

theorem closeGap_of_no_cmd (hx : s.cmd? c.cmd = none) : (s.closeGap c).1 = s := by
  unfold State.closeGap
  split <;> simp [hx]

@[simp] theorem rd_closeGap (s : State) (c : Capture) (n : Nat) : (s.closeGap c).1.rd n = s.rd n := by
  unfold State.closeGap
  split
  · rfl
  · split
    · rfl
    · split <;> rfl

theorem rd_placeAsked (s : State) (c : Capture) (n : Nat) : (placeAsked s c).rd n = s.rd n := by
  unfold placeAsked State.askPlace
  split
  · split <;> rfl
  · rfl

theorem capEpoch_ready (s : State) (c : Capture) (n : Nat) : ((placeAsked s c).closeGap c).1.capEpoch n = s.capEpoch n := by
  simp only [State.capEpoch, rd_closeGap, rd_placeAsked]

theorem setRd_congr {g g' : ReadCh → ReadCh} (h : g (s.rd n) = g' (s.rd n)) : s.setRd n g = s.setRd n g' :=
  congrArg (fun r : ReadCh => s.setStn (toStn n) (fun t => { t with read := r })) h

end Parts

/-! ## The drain of the capture ring (R24, R395) -/

section Drain

/-- The bytes of a waiting epoch whose lines carry the poison mark, by their place in what the command gives out. -/
def poisonedIn (s : State) (c : Cmd) (e : RingEntry) : List (Nat × Nat) :=
  s.mem.poison.filterMap (fun l =>
    let o := (64 * l - (s.region 2).1 + (s.region 2).2 - e.at') % max 1 (s.region 2).2
    if (s.region 2).1 ≤ 64 * l ∧ 64 * l < (s.region 2).1 + (s.region 2).2 ∧ o < e.len then some (c.off + o, 64) else none)

/-- What waits longest leaves the ring. -/
def drainEntry (s : State) (id : Nat) (c : Cmd) (e : RingEntry) (rest : List RingEntry) : State :=
  let v : State := { s with work.ring := rest }
  let v := if (poisonedIn s c e).isEmpty then v else v.markPoison id (poisonedIn s c e)
  let v := (v.capOut id e.segs (s.ringGet e.at' e.len)).capOut id [(e.idxAt, 16)] e.idx
  (if rest.any (fun x => x.cmd == id) || v.capturesFor id then v else v.setCmd id (fun c => { c with outDone := true })).pump id

variable {s : State} {id : Nat} {c : Cmd} (hc : s.cmd? id = some c)
include hc

theorem captureDrain_eq :
    s.captureDrain id =
      if capOPC c.caps ≠ 0x18 ∨ c.phase ≠ 2 ∨ c.ended then s
      else if !c.outBytes.isEmpty then s.pump id
      else match s.work.ring with
        | [] => s
        | e :: rest => if e.cmd ≠ id then s else drainEntry s id c e rest := by
  unfold State.captureDrain
  rw [hc]
  rfl

/-- A command that gives out a capture has its turn. -/
theorem captureDrain_of_gives (h : capOPC c.caps = 0x18 ∧ c.phase = 2 ∧ c.ended = false) :
    s.captureDrain id =
      if !c.outBytes.isEmpty then s.pump id
      else match s.work.ring with
        | [] => s
        | e :: rest => if e.cmd ≠ id then s else drainEntry s id c e rest := by
  obtain ⟨opc, phase, runs⟩ := h
  rw [captureDrain_eq hc, if_neg (by simp [opc, phase, runs])]

end Drain

theorem exec_of_captureEpoch {s v : State} {n : Stn} {accept : Bool} (h : s.captureEpoch n accept = v) :
    exec (.captureEpoch n accept) s = .next (s.close v) := by
  rw [← h]
  rfl

theorem exec_of_captureDrain {s v : State} {id : Nat} (h : s.captureDrain id = v) : exec (.captureDrain id) s = .next (s.close v) := by
  rw [← h]
  rfl

section Boundary

variable {s : State} {n : Nat} {c : Capture} {accept : Bool} (hc : (s.rd n).cap = some c)
include hc

theorem captureEpoch_eq :
    s.captureEpoch n accept =
      if c.stop.isSome || captureDead s c then s.captureOver n
      else epochDone (if epochLost s n || epochFull s c accept
        then dropEpoch (placeAsked s c) n c (if epochLost s n then 1 else 0)
        else
          let v := (placeAsked s c).closeGap c
          let a := (v.1.capEpoch n).getD ⟨0, 0, true, []⟩
          nextEpoch (match s.cmd? c.cmd with
            | none => v.1
            | some x => giveEpoch v.1 n c a (epochDirect s c accept) x) n c v.2 accept) n := by
  unfold State.captureEpoch
  rw [hc]
  rfl

theorem captureEpoch_of_ends (h : c.stop.isSome = true ∨ captureDead s c = true) : s.captureEpoch n accept = s.captureOver n := by
  rw [captureEpoch_eq hc, if_pos (by simpa using h)]

/-- A capture that goes on drops the epoch, or keeps it. -/
theorem captureEpoch_of_runs (hs : c.stop = none) (hd : captureDead s c = false) :
    s.captureEpoch n accept =
      epochDone (if epochLost s n || epochFull s c accept
        then dropEpoch (placeAsked s c) n c (if epochLost s n then 1 else 0)
        else
          let v := (placeAsked s c).closeGap c
          let a := (v.1.capEpoch n).getD ⟨0, 0, true, []⟩
          nextEpoch (match s.cmd? c.cmd with
            | none => v.1
            | some x => giveEpoch v.1 n c a (epochDirect s c accept) x) n c v.2 accept) n := by
  rw [captureEpoch_eq hc, if_neg (by simp [hs, hd])]

theorem captureEpoch_of_lost (hs : c.stop = none) (hd : captureDead s c = false) (h : epochLost s n = true) :
    s.captureEpoch n accept = epochDone (dropEpoch (placeAsked s c) n c 1) n := by
  simp only [captureEpoch_of_runs hc hs hd, h, Bool.true_or, ↓reduceIte]

theorem captureEpoch_of_full (hs : c.stop = none) (hd : captureDead s c = false) (up : ¬ epochLost s n = true)
    (h : epochFull s c accept = true) : s.captureEpoch n accept = epochDone (dropEpoch (placeAsked s c) n c 0) n := by
  rw [captureEpoch_of_runs hc hs hd, h, Bool.or_true, if_pos rfl, if_neg up]

theorem captureEpoch_of_kept (hs : c.stop = none) (hd : captureDead s c = false) (up : epochLost s n = false)
    (h : epochFull s c accept = false) {a : PastEpoch} (ha : s.capEpoch n = some a) :
    s.captureEpoch n accept =
      let v := (placeAsked s c).closeGap c
      epochDone (nextEpoch (match s.cmd? c.cmd with
        | none => v.1
        | some x => giveEpoch v.1 n c a (epochDirect s c accept) x) n c v.2 accept) n := by
  simp only [captureEpoch_of_runs hc hs hd, up, h, Bool.or_false, Bool.false_eq_true, ↓reduceIte, capEpoch_ready, ha, Option.getD_some]

end Boundary

/-- Settles O27: an epoch boundary part by part, and the ring's drain by what its command has. -/
theorem captureEpochs : Obligations.CaptureEpochs := by
  refine ⟨?ends, ?dropped, ?kept, ?ringIn, ?gap, ?alone, ?drained, ?before, ?idle⟩
  case ends =>
    intro n accept c s hc h
    exact exec_of_captureEpoch (captureEpoch_of_ends hc (h.imp_right (captureDead_eq s c).trans))
  case dropped =>
    intro n accept c why s hc h cause
    obtain ⟨hs, alive⟩ := h
    have hd : captureDead s c = false := (captureDead_eq s c).trans alive
    have drops : s.captureEpoch n accept = epochDone (dropEpoch (placeAsked s c) n c why) n := by
      obtain ⟨lost, rfl⟩ | ⟨up, notDirect, full, rfl⟩ := cause
      · exact captureEpoch_of_lost hc hs hd (epochLost_iff.mpr lost)
      · exact captureEpoch_of_full hc hs hd (mt epochLost_iff.mp up) (epochFull_iff.mpr ⟨mt epochDirect_iff.mp notDirect, full⟩)
    rw [dropEpoch_eq] at drops
    exact exec_of_captureEpoch drops
  case kept =>
    intro n accept direct c x a s hc h up ha hdir room
    obtain ⟨hx, he, hs⟩ := h
    have hd : captureDead s c = false := by rw [captureDead, hx, ← he]
    have direct_eq : epochDirect s c accept = direct := (epochDirect_of_cmd hx).trans hdir.symm
    have keeps := captureEpoch_of_kept hc hs hd (not_epochLost up ha) (not_epochFull (direct_eq ▸ room)) ha
    simp only [hx, direct_eq, placeAsked] at keeps
    exact exec_of_captureEpoch keeps
  case ringIn =>
    intro id segs bs idx idxAt s
    rfl
  case gap =>
    intro c k m why x s hg hx
    exact closeGap_of_gap hg hx
  case alone =>
    intro n accept c a s hc h up ha room
    obtain ⟨hcmd, hx, hs⟩ := h
    rw [← hcmd] at hx ⊢
    have hd : captureDead s c = false := by rw [captureDead, hx]; simpa using hcmd
    have direct : accept = true ∧ s.work.ring = [] → epochDirect s c accept = true := fun h =>
      epochDirect_iff.mpr ⟨h.1, h.2, by rw [hx]⟩
    have keeps := captureEpoch_of_kept hc hs hd (not_epochLost up ha) (not_epochFull (room.imp_left direct)) ha
    simp only [placeAsked, hx, closeGap_of_no_cmd hx] at keeps
    rw [nextEpoch, setRd_congr (s := s) (g' := fun r => { r with cap := some { c with gap := none, gaps := (s.closeGap c).2, k := c.k + 1 } })
      (by rw [hc]; rfl)] at keeps
    exact exec_of_captureEpoch keeps
  case drained =>
    intro id c e rest s hc h hr he
    obtain ⟨opc, phase, runs, hout⟩ := h
    have drains : s.captureDrain id = drainEntry s id c e rest := by
      rw [captureDrain_of_gives hc ⟨opc, phase, runs⟩, hout, hr]
      exact if_neg (not_not.mpr he)
    exact exec_of_captureDrain drains
  case before =>
    intro id c s hc h
    obtain ⟨opc, phase, runs, hout⟩ := h
    refine exec_of_captureDrain ?_
    rw [captureDrain_of_gives hc ⟨opc, phase, runs⟩, if_pos (by simpa using hout)]
  case idle =>
    intro id s h
    refine exec_of_captureDrain ?_
    cases hc : s.cmd? id with
    | none => simp only [State.captureDrain, hc]
    | some c =>
      rw [captureDrain_eq hc]
      simp only [hc, Bool.or_eq_true, bne_iff_ne, Bool.and_eq_true, or_assoc] at h
      by_cases other : capOPC c.caps ≠ 0x18 ∨ c.phase ≠ 2 ∨ c.ended = true
      · exact if_pos other
      · obtain ⟨empty, behind⟩ : c.outBytes.isEmpty = true ∧ s.work.ring.head?.map (·.cmd) ≠ some id := by tauto
        rw [if_neg other, empty, if_neg (by decide)]
        cases hr : s.work.ring with
        | nil => rfl
        | cons e rest => exact if_pos (by simpa [hr] using behind)

end Sys2Proof
end

section
/-!
SUPPORT. The slots of a band (R195, R202, R208 to R210) and of a plan (R31 to R33): what each step does by what the station holds.
-/

namespace Sys2Proof

open Machine

/-! ## A band that is not begun (R202, R333) -/

section Unbegun

variable {s : State} {n first : Nat} {refused : List (Nat × Nat)} {b : BandWrite}

/-- No position is to be looked for again once the band has begun. -/
theorem freshLoc_of_begun (hb : s.bw? n = some b) (h : b.begun = true) : s.freshLoc n = s := by
  simp only [State.freshLoc, hb, h, ↓reduceIte]

theorem slotStart_of_unbegun (hb : s.bw? n = some b) (h : b.seq = none ∧ b.waitSince = none ∧ s.freshLoc n = s) (cool : s.tooHot = false) :
    s.slotStart n first refused = if s.preOk n then s.beginBand n first refused else s.beginWait n := by
  obtain ⟨hseq, hwait, hloc⟩ := h
  simp only [State.slotStart, hloc, hb, BandWrite.begun, hseq, hwait, cool, Option.isSome_none, Bool.not_false, Bool.or_false,
    Bool.false_eq_true, ↓reduceIte]

theorem passage_of_unbegun (hb : s.bw? n = some b) (h : b.seq = none ∧ b.waitSince.isSome = true ∧ s.freshLoc n = s)
    (ready : s.tooHot = false ∧ s.preOk n = true) : s.passage n first refused = s.beginBand n first refused := by
  obtain ⟨hseq, hwait, hloc⟩ := h
  obtain ⟨cool, pre⟩ := ready
  simp only [State.passage, hloc, hb, BandWrite.begun, hseq, hwait, cool, pre, Option.isSome_none, Bool.not_false, Bool.and_true,
    ↓reduceIte]

end Unbegun

/-! ## A band that has begun (R195, R204) -/

section Begun

variable {s : State} {n first : Nat} {refused : List (Nat × Nat)} {b : BandWrite} (hb : s.bw? n = some b) (hseq : b.seq.isSome = true)
include hb hseq

/-- With no hold its next slot is written, or after the last one its write power goes off. -/
theorem slotStart_of_writing (hold : b.hold = none) :
    s.slotStart n first refused =
      if b.slot < 71 then (s.writeSlot n first).refuse n (readBound b.slot) refused
      else if b.slot = 71 then ((s.powerOff n).setBw n (fun b => { b with slot := 72 })).settleBand n
      else s := by
  simp only [State.slotStart, freshLoc_of_begun hb hseq, hb, BandWrite.begun, hseq, hold, Bool.not_true, Bool.false_eq_true, ↓reduceIte]

/-- R218: once its hold point is fixed, slots are only read ahead of. -/
theorem slotStart_of_held {h : Hold} {c : Nat} (hold : b.hold = some h) (cut : h.cut = some c) :
    s.slotStart n first refused = s.refuse n (readBound (resumeSlot c h.long - 1)) refused := by
  obtain ⟨causes, since, hcut, recovered, adjusted, long, back⟩ := h
  subst cut
  simp only [State.slotStart, freshLoc_of_begun hb hseq, hb, BandWrite.begun, hseq, hold, Bool.not_true, Bool.false_eq_true, ↓reduceIte]

end Begun

/-! ## Refused frames (R208) -/

theorem refuseSlot_of_data {s : State} {n t : Nat} {ks : List Nat} {b : BandWrite} (hb : s.bw? n = some b)
    (h : b.skipped.contains t = false ∧ t ≤ 63) (hds : (ks.map (homeIndex t)).filter b.has ≠ []) :
    s.refuseSlot n t ks = s.refuseData n t ((ks.map (homeIndex t)).filter b.has) := by
  obtain ⟨read, data⟩ := h
  have some_ks : ks.isEmpty = false := by
    cases ks with
    | nil => exact absurd rfl hds
    | cons _ _ => rfl
  have some_ds : ((ks.map (homeIndex t)).filter b.has).isEmpty = false := by simpa using hds
  simp only [State.refuseSlot, hb, read, some_ks, data, some_ds, Bool.or_self, Bool.false_eq_true, ↓reduceIte]

/-! ## Slots of a plan (R31, R32) -/

section Plan

variable {s : State} {n : Nat} {p : PlanSlot}

/-- The start time of a slot has come, or cannot be told. -/
def planDue (s : State) (p : PlanSlot) : Bool := p.start == 0 || decide (p.start ≤ s.stamp) || s.bit CLK_STAT CLK_STAT_UNSET

theorem planDue_iff : planDue s p = true ↔ p.start = 0 ∨ p.start ≤ s.stamp ∨ s.bit CLK_STAT CLK_STAT_UNSET = true := by
  simp [planDue, or_assoc]

theorem slotLate_iff : s.slotLate p = true ↔ p.start ≠ 0 ∧ p.start + 120000000 / max 1 p.speed < s.stamp := by
  simp [State.slotLate]

theorem planSlotStart_of_waiting {rest : List PlanSlot}
    (h : (s.station (toStn n)).planned = true ∧ s.fatal n = false ∧ (s.station (toStn n)).slotRun = none)
    (hp : (s.station (toStn n)).plan = p :: rest) :
    s.planSlotStart n = if planDue s p then (s.setStn (toStn n) (fun t => { t with plan := rest })).skipSlot n else s := by
  obtain ⟨planned, well, free⟩ := h
  simp only [State.planSlotStart, planned, well, free, hp, Bool.not_true, Bool.or_false, Bool.false_eq_true, ↓reduceIte]
  rfl

theorem planSlotStart_of_taken
    (h : (s.station (toStn n)).planned = true ∧ s.fatal n = false ∧ (s.station (toStn n)).slotRun = some p ∧ (s.station (toStn n)).slotOn = false)
    (due : planDue s p = true) : s.planSlotStart n = s.beginSlot n p := by
  obtain ⟨planned, well, taken, off⟩ := h
  simp only [State.planSlotStart, planned, well, taken, off, Bool.not_true, Bool.not_false, Bool.or_false, Bool.false_eq_true, ↓reduceIte]
  exact if_pos due

theorem beginSlot_of_skipped {v : State} {r : Option Bool} (ha : s.approach n (s.reg (TASK_ARG n 0)).toNat = (v, r))
    (h : r ≠ some true ∨ (p.start ≠ 0 ∧ (v.bit CLK_STAT CLK_STAT_UNSET = true ∨ p.start + 120000000 / max 1 p.speed < v.stamp))) :
    s.beginSlot n p = v.dropSlot n true := by
  simp only [State.beginSlot, ha]
  exact if_pos (by rw [slotLate_iff, ← and_or_left]; exact h)

/-- Its place is reached, its time can be told and its first revolution has not passed. -/
theorem beginSlot_of_timely {v : State} (ha : s.approach n (s.reg (TASK_ARG n 0)).toNat = (v, some true))
    (h : p.start = 0 ∨ (p.start ≤ s.stamp ∧ v.bit CLK_STAT CLK_STAT_UNSET = false ∧ v.stamp ≤ p.start + 120000000 / max 1 p.speed)) :
    s.beginSlot n p =
      if p.read then (v.setStn (toStn n) (fun t => { t with slotDue := true })).readSlotBegins n p
      else match (v.slotSet n p).inHand? n with
        | none => (v.slotSet n p).dropSlot n true
        | some t => match (v.slotSet n p).taskParison t with
          | none => (v.slotSet n p).dropSlot n true
          | some q =>
            if !((v.slotSet n p).preBitsAt n (p.loc / 2048 * 2048) (fun x => x.1 == p.stab)).all id || (v.slotSet n p).tooHot
            then (v.slotSet n p).dropSlot n true
            else ((v.slotSet n p).setStn (toStn n) (fun t => { t with slotOn := true, slotSince := (v.slotSet n p).now })).startBand n
              (p.loc / 2048 * 2048) q p.stab := by
  simp only [State.beginSlot, ha]
  refine if_neg ?_
  rw [slotLate_iff, ← and_or_left]
  rintro (h' | ⟨started, unset | late⟩)
  · exact h' rfl
  · obtain h | ⟨-, told, -⟩ := h
    · exact started h
    · simp [told] at unset
  · obtain h | ⟨-, -, timely⟩ := h
    · exact started h
    · omega

theorem atSlotStart_eq (s : State) (n : Nat) (p : PlanSlot) : s.atSlotStart n p =
    (s.rd n).wobble.any (fun a => wobbleLayer a == locLayer p.loc && wobbleZone a == locZone p.loc && wobbleBpos a == locBpos p.loc
      && wobbleFpos a == p.loc / 16 % 128) := by
  unfold State.atSlotStart
  cases (s.rd n).wobble <;> rfl

/-- R31: within its first revolution a read slot waits for its starting frame position. -/
theorem readSlotBegins_of_timely (due : (s.station (toStn n)).slotDue = true)
    (h : p.start = 0 ∨ s.stamp ≤ p.start + 120000000 / max 1 p.speed) :
    s.readSlotBegins n p =
      if s.atSlotStart n p then (s.setStn (toStn n) (fun t => { t with slotOn := true, slotDue := false, slotSince := s.now })).bandRead n true
      else s := by
  have timely : s.slotLate p = false := by
    rw [← Bool.not_eq_true, slotLate_iff]
    omega
  simp only [State.readSlotBegins, due, timely]
  cases s.atSlotStart n p <;> rfl

theorem readSlotBegins_of_late (due : (s.station (toStn n)).slotDue = true)
    (h : p.start ≠ 0 ∧ p.start + 120000000 / max 1 p.speed < s.stamp) : s.readSlotBegins n p = s.dropSlot n true := by
  simp only [State.readSlotBegins, due, slotLate_iff.mpr h, Bool.not_true, Bool.false_eq_true, ↓reduceIte]

end Plan

/-! ## Each step is its function -/

section Steps

variable {s v : State} {n : Stn} {first : Nat} {refused : List (Nat × Nat)} {j : Fin 32} {ok : Bool}

theorem exec_of_slotStart (h : s.slotStart n first refused = v) : exec (.slotStart n first refused) s = .next (s.close v) := by
  rw [← h]
  rfl

theorem exec_of_passage (h : s.passage n first refused = v) : exec (.bandPositionPassage n first refused) s = .next (s.close v) := by
  rw [← h]
  rfl

theorem exec_of_sealSigned (h : s.sealSigned n = v) : exec (.sealSigned n) s = .next (s.close v) := by
  rw [← h]
  rfl

theorem exec_of_parityRebuilt (h : s.parityRebuilt n j ok = v) : exec (.parityRebuildDone n j ok) s = .next (s.close v) := by
  rw [← h]
  rfl

theorem exec_of_planSlotStart (h : s.planSlotStart n = v) : exec (.planSlotStart n) s = .next (s.close v) := by
  rw [← h]
  rfl

end Steps

/-- Settles O28: each step by what the station holds. -/
theorem bandAndPlanSlots : Obligations.BandAndPlanSlots := by
  refine ⟨?begins, ?waits, ?waited, ?later, ?held, ?refused, ?refusedData, ?last, ?signed, ?rebuilt, ?early, ?readDue, ?readNow, ?readLate,
    ?writeDue, ?skipped, ?untaken⟩
  case begins =>
    intro n first refused b s hb h ready
    obtain ⟨cool, pre⟩ := ready
    exact exec_of_slotStart ((slotStart_of_unbegun hb h cool).trans (if_pos pre))
  case waits =>
    intro n first refused b s hb h ready
    obtain ⟨cool, pre⟩ := ready
    exact exec_of_slotStart ((slotStart_of_unbegun hb h cool).trans (if_neg (by simp [pre])))
  case waited =>
    intro n first refused b s hb h ready
    exact exec_of_passage (passage_of_unbegun hb h ready)
  case later =>
    intro n first refused b s hb h early
    obtain ⟨hseq, hold⟩ := h
    exact exec_of_slotStart ((slotStart_of_writing hb hseq hold).trans (if_pos early))
  case held =>
    intro n first refused b h c s hb hh
    obtain ⟨hseq, hold, cut⟩ := hh
    exact exec_of_slotStart (slotStart_of_held hb hseq hold cut)
  case refused =>
    intro n bound refused b s hb
    simp only [State.refuse, hb]
  case refusedData =>
    intro n t ks b s hb h hds
    rw [refuseSlot_of_data hb h hds, State.refuseData, hb]
  case last =>
    intro n first refused b s hb h last
    obtain ⟨hseq, hold⟩ := h
    refine exec_of_slotStart ((slotStart_of_writing hb hseq hold).trans ?_)
    rw [if_neg (by omega), if_pos last]
  case signed =>
    intro n b s hb h
    obtain ⟨frozen, unsigned⟩ := h
    refine exec_of_sealSigned ?_
    simp only [State.sealSigned, hb, frozen, unsigned, Option.isNone_none, Bool.and_self, ↓reduceIte]
  case rebuilt =>
    intro n j b s hb h
    refine ⟨exec_of_parityRebuilt ?_, exec_of_parityRebuilt ?_⟩
    · simp only [State.parityRebuilt, hb, h, Bool.not_true, Bool.false_eq_true, ↓reduceIte]
    · simp only [State.parityRebuilt, hb, h, Bool.not_true, Bool.false_eq_true, ↓reduceIte]
  case early =>
    intro n p rest s h hp early
    obtain ⟨timed, before, told⟩ := early
    refine exec_of_planSlotStart ((planSlotStart_of_waiting h hp).trans (if_neg ?_))
    rw [planDue_iff]
    simp only [timed, told, Bool.false_eq_true, or_false, false_or]
    omega
  case readDue =>
    intro n p v s h due ha read
    refine exec_of_planSlotStart ((planSlotStart_of_taken h (planDue_iff.mpr (due.imp_right fun h => .inl h.1))).trans ?_)
    rw [beginSlot_of_timely ha due, if_pos read]
  case readNow =>
    intro n p s due timely
    rw [readSlotBegins_of_timely due timely, atSlotStart_eq]
  case readLate =>
    intro n p s due late
    exact readSlotBegins_of_late due late
  case writeDue =>
    intro n p t q v s h due ha write task pre
    obtain ⟨hand, parison⟩ := task
    obtain ⟨met, cool⟩ := pre
    refine exec_of_planSlotStart ((planSlotStart_of_taken h (planDue_iff.mpr (due.imp_right fun h => .inl h.1))).trans ?_)
    rw [beginSlot_of_timely ha due]
    simp only [write, hand, parison, met, cool, Bool.not_true, Bool.or_false, Bool.false_eq_true, ↓reduceIte]
  case skipped =>
    intro n p v s r h due ha skip
    exact exec_of_planSlotStart ((planSlotStart_of_taken h (planDue_iff.mpr due)).trans (beginSlot_of_skipped ha skip))
  case untaken =>
    intro n p rest s h hp due
    exact exec_of_planSlotStart ((planSlotStart_of_waiting h hp).trans (if_pos (planDue_iff.mpr due)))

end Sys2Proof
end

section
/-!
SUPPORT. A step (R91, R354, R386, R389, R398) and software's writes of STN_CTL (R84, R86, R87, R91).
-/

namespace Sys2Proof

open Machine

/-- Settles O1: a step looks at the front of the queue, and the table spells no command by words. -/
theorem aStepRunsTheCommandInFront : Obligations.AStepRunsTheCommandInFront := by
  refine ⟨?waits, ?empty, ?words⟩
  case waits => exact fun c rest s => rfl
  case empty =>
    intro s none_waits
    simp only [step, none_waits, State.tick]
  case words => exact fun nbits w s => rfl

/-! ## A register that the map holds at its reset value (R91) -/

/-- Station 0 right after reset, but that the register map holds the reset value of STN_CTL, which a write of that value takes out. -/
def ctlHeld : State := { State.reset with regs := [((STN_CTL 0).key, (STN_CTL 0).rst)] }

/-- The register at STN_CTL's place, were its reset value 0: it tells a held value from one that is not. -/
def ctlProbe : Reg := ⟨(STN_CTL 0).key, 0#32⟩

theorem ctlHeld_reaches : Reaches ctlHeld 0 (STN_CTL 0).key := ⟨rfl, rfl, rfl, by decide +kernel⟩

/-- Whatever has the registers of that state has nothing that waits either. -/
theorem quiet_of_ctlHeld {v : State} (h : OnlyRegs ctlHeld v []) : Quiet v := by
  obtain ⟨rest, others⟩ := h
  have unlocked : v.bit MEM_CTL MEM_CTL_LOCK = false := by
    rw [State.bit, State.fld, others MEM_CTL List.not_mem_nil]
    decide +kernel
  rw [rest] at unlocked ⊢
  exact ⟨rfl, rfl, rfl, rfl, rfl, rfl, unlocked, rfl, rfl, rfl⟩

/-- RETRAIN writes STN_CTL with the value it has, and so takes it out of the map. -/
theorem ctlHeld_retrained : (ctlHeld.close (ctlHeld.writeField (STN_CTL 0) [(STN_CTL_UNFAIL, 0), (STN_CTL_RETRAIN, 1)] [])).reg ctlProbe = 0#32 := by
  decide +kernel

/-- Refutes O10: its clauses for UNFAIL and RETRAIN let no register change, whatever its reset value is taken to be, where the model writes the
other fields of STN_CTL with what they hold; on the state above that takes the register's value out of the map. (Every write leaves a map
without reset values; the statement speaks of every state.) -/
theorem not_stationControlWrites : ¬ Obligations.StationControlWrites := by
  rintro ⟨-, -, -, -, -, -, retrain⟩
  obtain ⟨v, only, stated⟩ := retrain 0 ctlHeld ctlHeld_reaches
  rw [if_pos (by decide +kernel)] at stated
  have same : ctlHeld.close (ctlHeld.writeField (STN_CTL 0) [(STN_CTL_UNFAIL, 0), (STN_CTL_RETRAIN, 1)] []) = ctlHeld.close v :=
    Host.Outcome.next.inj stated
  have part : v.part = ctlHeld.part := by rw [only.rest]
  have pending : v.pending = ctlHeld.pending := by rw [only.rest]
  have held : (ctlHeld.close v).reg ctlProbe = (STN_CTL 0).rst := by
    rw [close_of_quiet (quiet_of_ctlHeld only) part pending]
    exact (only.others ctlProbe List.not_mem_nil).trans (by decide +kernel)
  rw [← same, ctlHeld_retrained] at held
  exact absurd held (by decide)

end Sys2Proof
end

section
/-!
SUPPORT. What the meanings about stations share: a station that changes twice, AX words (R82) and microwords that are fetched (R226, R237).
-/

namespace Sys2Proof

open Machine

@[simp] theorem toStn_val (n : Stn) : toStn n.val = n := Fin.ext (Nat.mod_eq_of_lt n.isLt)

/-! ## A station changes -/

section SetStn

variable (s : State) (n : Stn)

theorem setStn_setStn (g g' : Station → Station) : (s.setStn n g).setStn n g' = s.setStn n (fun t => g' (g t)) := by
  simp [State.setStn]

/-- Only what a change does to the station as it stands counts. -/
theorem setStn_congr {s : State} {n : Stn} {g g' : Station → Station} (h : g (s.station n) = g' (s.station n)) :
    s.setStn n g = s.setStn n g' := congrArg (fun t => ({ s with stn := s.stn.set n t } : State)) h

end SetStn

section SetPort

variable (s : State) (n : Nat) (g g' : Port → Port)

theorem setPort_setPort : (s.setPort n g).setPort n g' = s.setPort n (fun p => g' (g p)) := setStn_setStn s _ _ _

theorem setPort_congr {s : State} {n : Nat} {g g' : Port → Port} (h : g (s.port n) = g' (s.port n)) : s.setPort n g = s.setPort n g' :=
  setStn_congr (congrArg (fun p : Port => ({ s.station (toStn n) with port := p } : Station)) h)

@[simp] theorem port_setPort : (s.setPort n g).port n = g (s.port n) := by
  simp only [State.port, State.setPort, State.station_setStn_same]

end SetPort

/-! ## AX words (R82) -/

theorem crc4_lt (x : Nat) : crc4 x < 16 := by
  have step : ∀ (l : List Nat) (c : Nat), c < 16 → l.foldl (fun c i =>
      let b := (if x.testBit (11 - i) then 1 else 0)
      let t := 2 * c % 16
      if (c / 8 + b) % 2 = 1 then t ^^^ 3 else t) c < 16 := by
    intro l
    induction l with
    | nil => exact fun c h => h
    | cons i l ih =>
      intro c _
      have shifted : 2 * c % 16 < 16 := by omega
      have divided : 2 * c % 16 ^^^ 3 < 16 := Nat.xor_lt_two_pow (n := 4) shifted (by decide)
      refine ih _ ?_
      dsimp only
      split_ifs <;> assumption
  exact step _ 0 (by decide)

/-- A 16-bit word is a transmission exactly where its last four bits are the CRC-4 of the others. -/
theorem axWord_eq_iff (w : BitVec 16) : axWord (w.toNat / 16 % 4096) = w.toNat % 65536 ↔ w.toNat % 16 = crc4 (w.toNat / 16) := by
  have hw := w.isLt
  have status : w.toNat / 16 % 4096 % 4096 = w.toNat / 16 := by omega
  rw [axWord, status]
  omega

section AxWord

variable (x : BitVec 12)

theorem axWord_lt : axWord x.toNat < 65536 := by
  have := crc4_lt (x.toNat % 4096)
  unfold axWord
  omega

/-- The status that a transmission carries. -/
theorem axWord_status : axWord x.toNat / 16 % 4096 = x.toNat := by
  have := crc4_lt (x.toNat % 4096)
  have := x.isLt
  unfold axWord
  omega

@[simp] theorem toNat_axWord : (BitVec.ofNat 16 (axWord x.toNat)).toNat = axWord x.toNat := by
  rw [BitVec.toNat_ofNat, Nat.mod_eq_of_lt (axWord_lt x)]

theorem append_crc4 : (x ++ BitVec.ofNat 4 (crc4 x.toNat)).toNat = axWord x.toNat := by
  have crc := crc4_lt x.toNat
  rw [BitVec.toNat_append, BitVec.toNat_ofNat, Nat.mod_eq_of_lt crc, ← Nat.shiftLeft_add_eq_or_of_lt crc, Nat.shiftLeft_eq, axWord,
    Nat.mod_eq_of_lt x.isLt]

end AxWord

/-! ## A microword (R226) -/

section Micro

variable {s : State} {n : Nat} {m : Micro} {o : Nano} {mine : Micro → Nano → Bool} {run : State → Micro → Nano → State}

/-- A microword of a class that is no WAIT runs where it is fetched and is the command's. -/
theorem micro_of_fetches (h : Fetches s n m o) (hc : m.cls ≠ 7 ∧ m.cls ≠ 15) (hm : mine m o = true) :
    s.micro n mine run = run (running s n) m o := by
  obtain ⟨no_wait, defined⟩ := hc
  have wait : (m.cls == 7) = false := by simpa using no_wait
  simp only [State.micro, h.can, h.word, defined, hm, wait, Bool.not_true, Bool.or_false, Bool.false_eq_true, ↓reduceIte]
  rfl

theorem micro_of_not_mine (h : Fetches s n m o) (hc : m.cls ≠ 15) (hm : mine m o = false) : s.micro n mine run = s := by
  simp only [State.micro, h.can, h.word, hc, hm, Bool.not_true, Bool.false_eq_true, ↓reduceIte]

/-- R239: a word that fails parity, whatever its class. -/
theorem micro_of_bad {store addr : Nat} (can : s.canRun n = true) (h : s.fetch n = .bad store addr) :
    s.micro n mine run =
      (s.raise 6 [s.fld (SEQ_BANK n) SEQ_BANK_CUR, store, addr]).gafferCheck n 0 store (s.fld (SEQ_BANK n) SEQ_BANK_CUR) addr := by
  simp only [State.micro, can, h, Bool.not_true, Bool.false_eq_true, ↓reduceIte]

/-- Outside a trap routine a synchronous cause is only recorded. -/
theorem syncCause_of_outside (h : (s.gaf n).inTrap = false) (c info : Nat) : s.syncCause n c info = (s.trapCause n c info).nextPc n := by
  simp only [State.syncCause, h, Bool.false_eq_true, ↓reduceIte]

@[simp] theorem gaf_setGaf (g : Gaffer → Gaffer) : (s.setGaf n g).gaf n = g (s.gaf n) := by
  simp only [State.gaf, State.setGaf, State.station_setStn_same]

/-- A microword that runs leaves the trap state. -/
@[simp] theorem running_inTrap (s : State) (n : Nat) : ((running s n).gaf n).inTrap = (s.gaf n).inTrap := by
  simp only [running, gaf_setGaf]

@[simp] theorem mreg_running (s : State) (n k : Nat) : (running s n).mreg n k = s.mreg n k := by
  simp only [State.mreg, running, gaf_setGaf]

@[simp] theorem mOff_running (s : State) (n : Nat) (o : Nano) : (running s n).mOff n o = s.mOff n o := by
  simp only [State.mOff, mreg_running]

@[simp] theorem memFault_running (s : State) (n a : Nat) : (running s n).memFault n a = s.memFault n a := rfl

@[simp] theorem axHeld_running (s : State) (n : Nat) : ((running s n).port n).axHeld = (s.port n).axHeld := by
  simp only [State.port, running, State.setGaf, State.station_setStn_same]

end Micro

/-! ## The control cache leaves the stations alone (R404) -/

/-- What a fold over lines leaves, if each line leaves it. -/
theorem foldl_stn {α : Type} {f : State → α → State} (h : ∀ v a, (f v a).stn = v.stn) (l : List α) (s : State) : (l.foldl f s).stn = s.stn := by
  induction l generalizing s with
  | nil => rfl
  | cons a l ih => exact (ih _).trans (h s a)

@[simp] theorem touch_stn (s : State) (port a n : Nat) : (s.touch port a n).stn = s.stn :=
  foldl_stn (fun v l => by unfold State.touchLine; split <;> rfl) _ s

@[simp] theorem memWrite_stn (s : State) (a : Nat) (bs : Bytes) : (s.memWrite a bs).stn = s.stn := by
  unfold State.memWrite
  exact foldl_stn (f := fun s l => s.sealLine l) (fun _ _ => rfl) _ _

@[simp] theorem writeBack_stn (s : State) (c : CLine) : (s.writeBack c).stn = s.stn := by
  unfold State.writeBack
  split
  · exact (memWrite_stn _ _ _).trans (touch_stn _ _ _ _)
  · rfl

theorem fillLine_stn (s : State) (line w ctx : Nat) : (s.fillLine line w ctx).stn = s.stn := by
  unfold State.fillLine
  refine (touch_stn _ _ _ _).trans ?_
  split
  · exact writeBack_stn s _
  · rfl

theorem cacheGet_stn (s : State) (line ctx : Nat) : (s.cacheGet line ctx).2.stn = s.stn := by
  unfold State.cacheGet
  split
  · rfl
  · exact fillLine_stn _ _ _ _

@[simp] theorem gaf_memInstall (s : State) (n a : Nat) : (s.memInstall n a).gaf n = s.gaf n := by
  have same : (s.memInstall n a).stn = s.stn := by
    unfold State.memInstall
    split
    · exact cacheGet_stn s _ n
    · rfl
  simp only [State.gaf, State.station, same]

end Sys2Proof
end

section
/-!
SUPPORT. RD, WR, MEM and LINK microwords (R82, R226, R239, R395, R407).
-/

namespace Sys2Proof

open Machine

/-! ## Each microword is its function -/

section Exec

variable {s v : State} {n : Stn}

theorem exec_of_rd (h : s.rdWord n = v) : exec (.rd n) s = .next (s.close v) := by rw [← h]; rfl

theorem exec_of_wr (h : s.wrWord n = v) : exec (.wr n) s = .next (s.close v) := by rw [← h]; rfl

theorem exec_of_memLoad (h : s.memLoad n = v) : exec (.memLoad n) s = .next (s.close v) := by rw [← h]; rfl

theorem exec_of_memStore (h : s.memStore n = v) : exec (.memStore n) s = .next (s.close v) := by rw [← h]; rfl

theorem exec_of_link {r : Option (BitVec 16)} (h : s.link n (r.map (·.toNat)) = v) : exec (.link n r) s = .next (s.close v) := by
  rw [← h]
  rfl

end Exec

/-! ## What they do once fetched -/

section Words

variable {s : State} {n : Nat} {m : Micro} {o : Nano}

theorem rdWord_of_fetches {off : Nat} (h : Fetches s n m o) (hc : m.cls = 1) (ho : o.subop < 2 ∧ o.dst < 12) (hoff : s.mOff n o = some off) :
    s.rdWord n = match stnRow n off with
      | none => (running s n).syncCause n 3 off
      | some r => ((running s n).setMreg n o.dst (s.reg (r.reg ((off - r.lo) / r.stride)))).nextPc n := by
  obtain ⟨subop, dst⟩ := ho
  rw [State.rdWord, micro_of_fetches h (by simp [hc]) (by simp [hc]), if_neg (by omega)]
  simp only [mOff_running, hoff]
  rfl

theorem wrWord_of_fetches {x : Word} {off : Nat} (h : Fetches s n m o) (hc : m.cls = 2) (ho : o.subop < 4)
    (hx : (if o.subop / 2 % 2 = 1 then some (BitVec.ofNat 32 o.const) else s.mreg n o.srca) = some x) (hoff : s.mOff n o = some off) :
    s.wrWord n = if ((running s n).stnWrite n off x true).2 then ((running s n).stnWrite n off x true).1.syncCause n 3 off
      else ((running s n).stnWrite n off x true).1.nextPc n := by
  rw [State.wrWord, micro_of_fetches h (by simp [hc]) (by simp [hc])]
  simp only [mreg_running, mOff_running, hx, hoff]
  exact if_neg (by omega)

variable {a x : Word}

theorem memLoad_of_fetches (h : Fetches s n m o) (hc : m.cls = 8) (ho : o.subop = 0 ∧ o.dst < 12) (ha : s.mreg n o.srca = some a) :
    s.memLoad n = if s.memFault n (a.toNat + o.const) then
        ((running s n).memInstall n (a.toNat + o.const)).syncCause n 4 ((a.toNat + o.const) % 2 ^ 32)
      else
        let x := (running s n).cacheRead ((a.toNat + o.const) / 4 * 4) 4 n
        (x.2.2.setMreg n o.dst (BitVec.ofNat 32 (leNat x.1))).nextPc n := by
  obtain ⟨load, dst⟩ := ho
  rw [State.memLoad, micro_of_fetches h (by simp [hc]) (by simp [hc, load])]
  simp only [State.mAddr, mreg_running, ha, Option.map_some, memFault_running]
  exact if_neg (by omega)

theorem memStore_of_fetches (h : Fetches s n m o) (hc : m.cls = 8) (ho : o.subop = 1) (ha : s.mreg n o.srca = some a)
    (hx : s.mreg n o.srcb = some x) :
    s.memStore n = if s.memFault n (a.toNat + o.const) then
        ((running s n).memInstall n (a.toNat + o.const)).syncCause n 4 ((a.toNat + o.const) % 2 ^ 32)
      else ((running s n).cacheWrite ((a.toNat + o.const) / 4 * 4) n (leBytes 4 x.toNat)).nextPc n := by
  rw [State.memStore, micro_of_fetches h (by simp [hc]) (by simp [hc, ho])]
  simp only [State.mAddr, mreg_running, ha, hx, Option.map_some, memFault_running]
  rfl

/-- R226, R395: a refused access installs the line where it may, and raises MEMFAULT. -/
theorem memInstall_syncCause (outside : (s.gaf n).inTrap = false) (at' info : Nat) :
    ((running s n).memInstall n at').syncCause n 4 info = (((running s n).memInstall n at').trapCause n 4 info).nextPc n :=
  syncCause_of_outside (by rw [gaf_memInstall, running_inTrap, outside]) _ _

theorem link_of_fetches (h : Fetches s n m o) (hc : m.cls = 9) (dst : o.dst < 12) (ha : s.mreg n o.srca = some a)
    (free : (s.port n).axHeld = false) (reply : Option Nat) :
    s.link n reply = (match reply.filter (fun r => axWord (r / 16 % 4096) == r % 65536) with
      | some r => (((running s n).axSend n m.imm (a.toNat % 16)).axReply n r).setMreg n o.dst (BitVec.ofNat 32 (r / 16 % 4096))
      | none => ((running s n).axSend n m.imm (a.toNat % 16)).setFlag n 4 true).nextPc n := by
  rw [State.link, micro_of_fetches h (by simp [hc]) (by simp [hc, free])]
  simp only [mreg_running, ha]
  exact if_neg (by omega)

/-- R82: while the loader holds the line a LINK waits. -/
theorem link_of_held (h : Fetches s n m o) (hc : m.cls = 9) (held : (s.port n).axHeld = true) (reply : Option Nat) : s.link n reply = s := by
  rw [State.link, micro_of_not_mine h (by simp [hc]) (by simp [held])]

end Words

/-- R239: each of these commands is a microword. -/
theorem exec_of_bad {s : State} {n : Stn} {store addr : Nat} (can : s.canRun n = true) (bad : s.fetch n = .bad store addr) {c : Instr}
    (hc : c ∈ [Instr.alu n, .rd n, .wr n, .br n, .jmp n, .call n, .ret n, .rtt n, .loop n, .wait n, .memLoad n, .memStore n, .link n none,
      .evt n, .trap n]) :
    exec c s = .next (s.close
      ((s.raise 6 [s.fld (SEQ_BANK n) SEQ_BANK_CUR, store, addr]).gafferCheck n 0 store (s.fld (SEQ_BANK n) SEQ_BANK_CUR) addr)) := by
  have micro : ∀ mine run, s.micro n mine run = _ := fun mine run => micro_of_bad (mine := mine) (run := run) can bad
  simp only [List.mem_cons, List.not_mem_nil, or_false] at hc
  rcases hc with rfl | rfl | rfl | rfl | rfl | rfl | rfl | rfl | rfl | rfl | rfl | rfl | rfl | rfl | rfl <;>
    exact congrArg (fun v => Host.Outcome.next (s.close v)) (micro _ _)

/-- Settles O20: each microword once it is fetched, and the fetch that fails. -/
theorem registerAndMemoryMicrowords : Obligations.RegisterAndMemoryMicrowords := by
  refine ⟨?rd, ?rdNowhere, ?wr, ?load, ?store, ?fault, ?link, ?linkNone, ?linkHeld, ?parity⟩
  case rd =>
    intro n m o off s h hc hsub hdst hoff _ r hr
    refine exec_of_rd ?_
    rw [rdWord_of_fetches h hc ⟨hsub, hdst⟩ hoff, hr]
  case rdNowhere =>
    intro n m o off s h hc hsub hdst hoff hr outside
    refine exec_of_rd ?_
    rw [rdWord_of_fetches h hc ⟨hsub, hdst⟩ hoff, Option.isNone_iff_eq_none.mp hr]
    exact syncCause_of_outside ((running_inTrap s n).trans outside) _ _
  case wr =>
    intro n m o x off s h hc hsub hx hoff outside same
    refine exec_of_wr ?_
    rw [wrWord_of_fetches h hc hsub hx hoff, syncCause_of_outside (by rw [same, running_inTrap, outside])]
  case load =>
    intro n m o a s h hc hsub hdst ha fine
    refine exec_of_memLoad ?_
    rw [memLoad_of_fetches h hc ⟨hsub, hdst⟩ ha, fine]
    rfl
  case store =>
    intro n m o a x s h hc hsub ha hx fine
    refine exec_of_memStore ?_
    rw [memStore_of_fetches h hc hsub ha hx, fine]
    rfl
  case fault =>
    intro n m o a x s h hc hsub hdst ha hx fault outside
    obtain load | store : o.subop = 0 ∨ o.subop = 1 := by omega
    · rw [if_pos load]
      refine exec_of_memLoad ?_
      rw [memLoad_of_fetches h hc ⟨load, hdst⟩ ha, if_pos fault, memInstall_syncCause outside]
      rfl
    · rw [if_neg (by omega)]
      refine exec_of_memStore ?_
      rw [memStore_of_fetches h hc store ha hx, if_pos fault, memInstall_syncCause outside]
      rfl
  case link =>
    intro n m o a x s h hc hdst ha free
    refine exec_of_link ?_
    have sound : (Option.some (axWord x.toNat)).filter (fun r => axWord (r / 16 % 4096) == r % 65536) = some (axWord x.toNat) := by
      rw [Option.filter_some, if_pos]
      rw [axWord_status, Nat.mod_eq_of_lt (axWord_lt x), beq_iff_eq]
    rw [link_of_fetches h hc hdst ha free, Option.map_some, toNat_axWord, sound]
    simp only [axWord_status, BitVec.ofNat_toNat]
  case linkNone =>
    intro n m o a r s h hc hdst ha free bad
    refine exec_of_link ?_
    have unsound : (r.map (·.toNat)).filter (fun r => axWord (r / 16 % 4096) == r % 65536) = none := by
      cases r with
      | none => rfl
      | some w =>
        rw [Option.map_some, Option.filter_some, if_neg]
        rw [beq_iff_eq, axWord_eq_iff]
        simpa using bad
    rw [link_of_fetches h hc hdst ha free, unsound]
  case linkHeld =>
    intro n m o r s h hc held
    exact exec_of_link (link_of_held h hc held _)
  case parity =>
    intro n store addr c s hc can bad
    exact exec_of_bad can bad hc

end Sys2Proof
end

section
/-!
SUPPORT. The interlock (R81), the loader line (R82), lanes that are lost and attempts to train them (R85, R86, R88, R89).
-/

namespace Sys2Proof

open Machine

/-! ## Each event is its function -/

section Exec

variable {s v : State} {n : Stn}

theorem exec_of_interlock {ns : Nat} (h : s.interlock n ns = v) : exec (.interlock n ns) s = .next (s.close v) := by rw [← h]; rfl

theorem exec_of_axReplyTimeout (h : s.axMissing n = v) : exec (.axReplyTimeout n) s = .next (s.close v) := by rw [← h]; rfl

theorem exec_of_axReply {w : BitVec 16} (h : s.axReply n w.toNat = v) : exec (.axReply n w) s = .next (s.close v) := by rw [← h]; rfl

theorem exec_of_axAttention {b : Bool} (h : s.axAttention n b = v) : exec (.axAttention n b) s = .next (s.close v) := by rw [← h]; rfl

theorem exec_of_laneLost {ks : List (Fin 5)} (h : s.laneLost n (ks.map (·.val)) = v) : exec (.laneLost n ks) s = .next (s.close v) := by
  rw [← h]
  rfl

theorem exec_of_trainingEnd {k : Fin 5} {e x y : Nat} (h : s.trainingEnd n k e x y = v) :
    exec (.trainingAttemptEnd n k e x y) s = .next (s.close v) := by
  rw [← h]
  rfl

end Exec

/-! ## The interlock (R81) -/

section Interlock

variable {s : State} {n ns : Nat}

theorem interlock_of_long (h : 50 ≤ ns) : s.interlock n ns = s.interlockHigh n := if_pos h

theorem interlock_of_short (h : ns ≤ 10) : s.interlock n ns = s := by
  rw [State.interlock, if_neg (by omega), if_pos h]

theorem interlock_of_between (h : 10 < ns ∧ ns < 50) :
    s.interlock n ns = if Config.freeBool s.fresh then ({ s with fresh := s.fresh + 1 } : State).interlockHigh n else { s with fresh := s.fresh + 1 } := by
  rw [State.interlock, if_neg (by omega), if_neg (by omega)]
  rfl

end Interlock

/-! ## The loader line (R82) -/

section Loader

variable {s : State} {n : Nat}

theorem axSend_of_free (h : (s.port n).axHeld = false) (op arg : Nat) :
    s.axSend n op arg = s.emit (.ax n (axLevels (axWord (op % 256 * 16 + arg % 16)))) :=
  if_neg (by rw [← Bool.not_eq_true] at h; exact h)

theorem axMissing_of_third (h : 2 ≤ (s.port n).misses) (present : s.bit (STN_STAT n) STN_STAT_PRESENT = true) :
    s.axMissing n =
      ((s.setPort n (fun p => { p with misses := p.misses + 1 })).setBit (STN_STAT n) STN_STAT_PRESENT false).raiseStn n 2 [0] := by
  have counted : s.setPort n (fun p => { p with misses := (s.port n).misses + 1 }) = s.setPort n (fun p => { p with misses := p.misses + 1 }) :=
    setPort_congr rfl
  rw [← counted]
  exact if_pos ⟨by omega, present⟩

theorem axMissing_of_earlier (h : (s.port n).misses < 2) : s.axMissing n = s.setPort n (fun p => { p with misses := p.misses + 1 }) :=
  (if_neg (by omega)).trans (setPort_congr rfl)

theorem axReply_of_unsound {w : BitVec 16} (h : w.toNat % 16 ≠ crc4 (w.toNat / 16)) : s.axReply n w.toNat = s.axMissing n :=
  if_pos fun sound => h ((axWord_eq_iff w).mp sound.symm)

/-- STN_AXSTAT shows the status of a reply whose CRC-4 holds. -/
def axShown (s : State) (n : Nat) (x : BitVec 12) : State :=
  ((s.setFld (STN_AXSTAT n) STN_AXSTAT_STATUS x.toNat).setFld (STN_AXSTAT n) STN_AXSTAT_AGE 0).setPort n (fun p => { p with
    misses := 0, axAge := 0, axNew := true })

theorem axShown_stat (s : State) (n : Nat) (x : BitVec 12) (g : Fld) : (axShown s n x).fld (STN_STAT n) g = s.fld (STN_STAT n) g := by
  have other : (STN_AXSTAT n).key ≠ (STN_STAT n).key := by simp [STN_AXSTAT, STN_STAT, stnKey]
  exact (State.fld_setFld_other _ _ _ _ other).trans (State.fld_setFld_other _ _ _ _ other)

theorem axReply_of_sound (x : BitVec 12) (absent : s.bit (STN_STAT n) STN_STAT_PRESENT = false) :
    s.axReply n (axWord x.toNat) =
      let v := ((axShown s n x).setBit (STN_STAT n) STN_STAT_PRESENT true).raiseStn n 2 [1]
      if x.getLsbD 5 then v.raiseStn n 3 [x.toNat] else v := by
  have still : (axShown s n x).bit (STN_STAT n) STN_STAT_PRESENT = false := by rw [State.bit, axShown_stat, ← State.bit, absent]
  have sound : ¬ axWord x.toNat % 65536 ≠ axWord x.toNat := not_not.mpr (Nat.mod_eq_of_lt (axWord_lt x))
  simp only [axShown] at still
  simp only [State.axReply, axWord_status, if_neg sound, still, Bool.false_eq_true, ↓reduceIte, axShown]
  rfl

/-- R82: at the line's release STATUS is sent first, and then what has waited, here nothing. -/
theorem axAttention_of_released (on : s.bit (STN_CTL n) STN_CTL_ENABLE = true) (empty : (s.port n).axQueue = []) :
    s.axAttention n true = (s.setPort n (fun p => { p with axHeld := false, axQueue := [] })).emit (.ax n (axLevels (axWord 16))) := by
  have still : (s.setPort n (fun p => { p with axHeld := false, axQueue := [] })).bit (STN_CTL n) STN_CTL_ENABLE = true := on
  have free : ((s.setPort n (fun p => { p with axHeld := false, axQueue := [] })).port n).axHeld = false := by rw [port_setPort]
  have waits : ((s.setPort n (fun p => { p with axHeld := false })).port n).axQueue = [] := by rw [port_setPort, empty]
  simp only [State.axAttention, Bool.not_true, Bool.false_eq_true, ↓reduceIte, waits, setPort_setPort, still, axSend_of_free free, List.foldl_nil]

end Loader

/-! ## A lane is lost (R86) -/

section Lanes

variable {s : State} {n k : Nat}

theorem laneLost_of_up (hk : k < 5) (up : s.lane n k = 2) :
    s.laneLost n [k] =
      let v := (s.trainLanes n [k] false).raiseStn n 0 [k]
      let v := (if k ≤ 2 then v.freshTraining n [k] else v).trapLane n
      if k = 2 then v.stopNow n else v.checkWrite n := by
  have ups : [k].filter (fun k => decide (k < 5) && s.lane n k == 2) = [k] := by simp [hk, up]
  have again : [k].filter (fun k => decide (k < 5) && s.lane n k == 1) = [] := by simp [up]
  simp [State.laneLost, ups, again, eq_comm]

/-- R85: a lane in training that is lost has failed its attempt. -/
theorem laneLost_of_training (hk : k < 5) (trains : s.lane n k = 1) : s.laneLost n [k] = s.attemptLost n k := by
  have ups : [k].filter (fun k => decide (k < 5) && s.lane n k == 2) = [] := by simp [trains]
  have again : [k].filter (fun k => decide (k < 5) && s.lane n k == 1) = [k] := by simp [hk, trains]
  simp [State.laneLost, ups, again]

/-! ## An attempt to train a lane ends (R85) -/

/-- The count of attempts with one more that has failed. -/
def attemptCounted (s : State) (n k : Nat) : State :=
  s.setPort n (fun p => { p.clearLane k with attempts := p.attempts.set k ((s.port n).attempts.getD k 0 + 1) })

theorem attemptLost_of_more (h : (s.port n).attempts.getD k 0 + 1 < s.retries n) : s.attemptLost n k = attemptCounted s n k := if_pos h

theorem attemptLost_of_last (h : s.retries n ≤ (s.port n).attempts.getD k 0 + 1) :
    s.attemptLost n k = ((((attemptCounted s n k).setLane n k 3).raiseStn n 0 [k]).trapLane n).settlePort n := if_neg (Nat.not_lt.mpr h)

variable {e x y : Nat}

theorem trainingEnd_of_fails (hk : k < 5) (trains : s.lane n k = 1) (h : s.checkPasses n k e x y = false) :
    s.trainingEnd n k e x y = s.attemptLost n k := by
  rw [State.trainingEnd, if_neg (by omega), h]
  rfl

theorem trainingEnd_of_passes (hk : k < 5) (trains : s.lane n k = 1) (h : s.checkPasses n k e x y = true) :
    s.trainingEnd n k e x y =
      let v := (s.setLane n k 2).setPort n (fun p => p.clearLane k)
      let v := if k = 0 then (v.setFld (STN_EYE n) STN_EYE_SA0_V (min 255 x)).setFld (STN_EYE n) STN_EYE_SA0_H (min 255 y)
        else if k = 1 then (v.setFld (STN_EYE n) STN_EYE_SA1_V (min 255 x)).setFld (STN_EYE n) STN_EYE_SA1_H (min 255 y) else v
      (if k ≤ 1 then v.setPort n (fun p => { p with saved := true }) else v).settlePort n := by
  rw [State.trainingEnd, if_neg (by omega), if_pos h]

/-- The lanes other than SA0 and SA1 pass by what has been reported of them. -/
theorem checkPasses_of_reported (hk : 2 ≤ k) :
    s.checkPasses n k e x y = decide (8 ≤ (if k = 2 then (s.port n).clGood else if k = 3 then (s.port n).moGood else (s.port n).miGood)) := by
  rw [State.checkPasses, if_neg (by omega)]
  split_ifs <;> rfl

theorem checkPasses_of_margins (hk : k ≤ 1) (hx : 25 ≤ x) (hy : 32 ≤ y) : s.checkPasses n k 0 x y = true := by
  simp [State.checkPasses, hk, hx, hy]

end Lanes

/-- Settles O16: each event by the case that its operand and the station's state make it. -/
theorem interlockLoaderAndLanes : Obligations.InterlockLoaderAndLanes := by
  refine ⟨?acts, ?off, ?again, ?short, ?between, ?release, ?poll, ?pollHeld, ?reply, ?unsound, ?third, ?earlier, ?attention, ?lost, ?lostAgain,
    ?reported, ?margins, ?more, ?last⟩
  case acts =>
    intro n ns s long low
    refine exec_of_interlock ((interlock_of_long long).trans (if_neg ?_))
    rw [low]
    exact Bool.false_ne_true
  case off =>
    intro n s none_written
    simp only [State.stopNow, none_written]
  case again =>
    intro n ns s long high
    exact exec_of_interlock ((interlock_of_long long).trans (if_pos high))
  case short =>
    intro n ns s h
    exact exec_of_interlock (interlock_of_short h)
  case between =>
    intro n ns s above below
    exact exec_of_interlock (interlock_of_between ⟨above, below⟩)
  case release => exact fun n s => rfl
  case poll =>
    intro n s on free
    have polls : s.axPoll n = s.axSend n 1 0 := if_neg (by simp [on, free])
    exact congrArg (fun v => Host.Outcome.next (s.close v)) (polls.trans (axSend_of_free free 1 0))
  case pollHeld =>
    intro n s held
    have waits : s.axPoll n = s := if_pos (by simp [held])
    exact congrArg (fun v => Host.Outcome.next (s.close v)) waits
  case reply =>
    intro n x s absent
    refine exec_of_axReply ?_
    rw [append_crc4]
    exact axReply_of_sound x absent
  case unsound =>
    intro n w s h
    exact exec_of_axReply (axReply_of_unsound h)
  case third =>
    intro n s h present
    exact exec_of_axReplyTimeout (axMissing_of_third h present)
  case earlier =>
    intro n s h
    exact exec_of_axReplyTimeout (axMissing_of_earlier h)
  case attention =>
    intro n s on empty
    exact ⟨exec_of_axAttention (axAttention_of_released on empty), exec_of_axAttention rfl⟩
  case lost =>
    intro n k s up
    refine exec_of_laneLost ((laneLost_of_up k.isLt up).trans ?_)
    simp only [Fin.ext_iff]
    rfl
  case lostAgain =>
    intro n k s trains
    exact exec_of_laneLost (laneLost_of_training k.isLt trains)
  case reported =>
    intro n k e v h s trains hk good
    have passes : s.checkPasses n k e v h = true := by
      rw [checkPasses_of_reported hk, decide_eq_true_eq]
      simpa [Fin.ext_iff] using good
    refine exec_of_trainingEnd ((trainingEnd_of_passes k.isLt trains passes).trans ?_)
    simp only [show k.val ≠ 0 by omega, show k.val ≠ 1 by omega, show ¬ k.val ≤ 1 by omega, ↓reduceIte]
  case margins =>
    intro n k v h s trains hk hv hh
    refine exec_of_trainingEnd ((trainingEnd_of_passes k.isLt trains (checkPasses_of_margins hk hv hh)).trans ?_)
    obtain first | second : k.val = 0 ∨ k.val = 1 := by omega
    · simp only [first, Nat.zero_le, ↓reduceIte]
    · simp only [second, one_ne_zero, le_refl, ↓reduceIte]
  case more =>
    intro n k e v h s trains fails left
    exact exec_of_trainingEnd ((trainingEnd_of_fails k.isLt trains fails).trans (attemptLost_of_more left))
  case last =>
    intro n k e v h s trains fails none_left
    exact exec_of_trainingEnd ((trainingEnd_of_fails k.isLt trains fails).trans (attemptLost_of_last none_left))

end Sys2Proof
end

section
/-!
SUPPORT. What leaves the stations' own state alone: events, commands and their ends, vaults, checkpoints and parisons.
-/

namespace Sys2Proof

open Machine

section Frames

variable (s : State)

/-! ## Registers and events -/

@[simp] theorem setBit_stn (r : Reg) (f : Fld) (b : Bool) : (s.setBit r f b).stn = s.stn := rfl

@[simp] theorem bump_stn (r : Reg) (f : Fld) (k : Nat) : (s.bump r f k).stn = s.stn := rfl

@[simp] theorem setFldInt_stn (r : Reg) (f : Fld) (v : Int) : (s.setFldInt r f v).stn = s.stn := rfl

@[simp] theorem showSl_stn (n : Nat) : (s.showSl n).stn = s.stn := rfl

@[simp] theorem showPre_stn (n : Nat) : (s.showPre n).stn = s.stn := rfl

@[simp] theorem showSpares_stn (n : Nat) : (s.showSpares n).stn = s.stn := by
  unfold State.showSpares
  split <;> rfl

@[simp] theorem setDom_stn (d v : Nat) : (s.setDom d v).stn = s.stn := by
  unfold State.setDom
  split <;> rfl

@[simp] theorem setPending_stn (e : Nat) : (s.setPending e).stn = s.stn := rfl

@[simp] theorem logEvent_stn (e ctx fn : Nat) (detail : List Nat) : (s.logEvent e ctx fn detail).stn = s.stn := by
  simp only [State.logEvent]
  repeat' split
  all_goals rfl

/-! ## Commands end -/

@[simp] theorem setCmd_stn (id : Nat) (g : Cmd → Cmd) : (s.setCmd id g).stn = s.stn := rfl

@[simp] theorem note_stn (id : Nat) (st : Status) : (s.note id st).stn = s.stn := rfl

@[simp] theorem noteAt_stn (id q ev : Nat) (st : Status) : (s.noteAt id q ev st).stn = s.stn := rfl

@[simp] theorem dropTasks_stn (p : Task → Bool) : (s.dropTasks p).stn = s.stn := rfl

@[simp] theorem dropPr_stn (id : Nat) : (s.dropPr id).stn = s.stn := by
  simp only [State.dropPr]
  repeat' split
  all_goals rfl

@[simp] theorem reopen_stn (p : Cmd → Bool) : (s.reopen p).stn = s.stn := by
  simp only [State.reopen]
  split <;> rfl

@[simp] theorem noteWritten_stn (c : Cmd) : (s.noteWritten c).stn = s.stn := by
  simp only [State.noteWritten]
  repeat' split
  all_goals rfl

@[simp] theorem setFull_stn (f k : Nat) : (s.setFull f k).stn = s.stn := by
  simp only [State.setFull]
  repeat' split
  all_goals rfl

@[simp] theorem putCq_stn (f k : Nat) (q : Cq) : (s.putCq f k q).stn = s.stn := rfl

@[simp] theorem pushEntry_stn (f cq : Nat) (e : Entry) : (s.pushEntry f cq e).stn = s.stn := by
  unfold State.pushEntry
  split <;> simp

@[simp] theorem freezeSq_stn (f k : Nat) : (s.freezeSq f k).stn = s.stn := by simp [State.freezeSq]

@[simp] theorem finish_stn (id : Nat) (st : Status) : (s.finish id st).stn = s.stn := by
  simp only [State.finish]
  repeat' split
  all_goals simp

@[simp] theorem finishWith_stn (id : Nat) (st : Status) : (s.finishWith id st).stn = s.stn := by
  unfold State.finishWith
  split <;> simp

/-! ## Domains wake and messages leave -/

@[simp] theorem account_stn (e : PmEntry) (outcome refuser : Nat) : (s.account e outcome refuser).stn = s.stn := by
  refine (foldl_stn (fun v dn => ?_) e.named _).trans (State.setReg_stn s _ _)
  dsimp only
  split_ifs <;> simp

@[simp] theorem abortEntry_stn (refuser : Nat) : (s.abortEntry refuser).stn = s.stn := by
  unfold State.abortEntry
  split <;> simp

@[simp] theorem demand_stn (d : Nat) : (s.demand d).stn = s.stn := by
  unfold State.demand
  repeat' split
  all_goals simp

@[simp] theorem wakeOne_stn (d : Nat) : (s.wakeOne d).stn = s.stn := by
  simp only [State.wakeOne]
  repeat' split
  all_goals simp

@[simp] theorem wake_stn (d : Nat) : (s.wake d).stn = s.stn := (foldl_stn wakeOne_stn (domClosure d) _).trans (demand_stn s d)

@[simp] theorem msixOut_stn (f : Fn) (v : Nat) : (s.msixOut f v).stn = s.stn := rfl

@[simp] theorem postMsg_stn (f : Fn) (v : Nat) : (s.postMsg f v).stn = s.stn := by
  simp only [State.postMsg]
  repeat' split
  all_goals simp

@[simp] theorem eventMsg_stn (f : Fn) (v : Nat) : (s.eventMsg f v).stn = s.stn := by
  unfold State.eventMsg
  split <;> simp

@[simp] theorem raiseIn_stn (e ctx fn : Nat) (detail : List Nat) : (s.raiseIn e ctx fn detail).stn = s.stn := by
  simp only [State.raiseIn]
  repeat' split
  all_goals simp

@[simp] theorem raise_stn (e : Nat) (detail : List Nat) : (s.raise e detail).stn = s.stn := raiseIn_stn s _ _ _ _

@[simp] theorem raiseStn_stn (n i : Nat) (detail : List Nat) : (s.raiseStn n i detail).stn = s.stn := raiseIn_stn s _ _ _ _

/-! ## Data of a command leaves for the host -/

theorem sendOut_stn (f : Nat) (pasid : Option Nat) (k : Nat) (segs : List (Nat × Nat)) (bs : Bytes) :
    (s.sendOut f pasid k segs bs).1.stn = s.stn := by
  induction k generalizing s segs bs with
  | zero => rfl
  | succ k ih =>
    unfold State.sendOut
    repeat' split
    all_goals simp [ih]

@[simp] theorem markPoison_stn (id : Nat) (ps : List (Nat × Nat)) : (s.markPoison id ps).stn = s.stn := rfl

@[simp] theorem sendPoison_stn (c : Cmd) (n : Nat) : (s.sendPoison c n).stn = s.stn := by
  have sent : ∀ l : List (Nat × Nat), (l.foldl (fun (s : State) p => s.emit (.tlpPoison c.fn c.sq c.cid p.1 p.2)) s).stn = s.stn :=
    fun l => foldl_stn (f := fun (s : State) p => s.emit _) (fun _ _ => rfl) l s
  simp only [State.sendPoison]
  split_ifs <;> simp [sent]

@[simp] theorem pump_stn (id : Nat) : (s.pump id).stn = s.stn := by
  simp only [State.pump]
  repeat' split
  all_goals simp [sendOut_stn]

@[simp] theorem result_stn (id : Nat) (bs : Bytes) : (s.result id bs).stn = s.stn := by simp [State.result]

@[simp] theorem capOut_stn (id : Nat) (segs : List (Nat × Nat)) (bs : Bytes) : (s.capOut id segs bs).stn = s.stn := rfl

@[simp] theorem closeGap_stn (c : Capture) : (s.closeGap c).1.stn = s.stn := by
  unfold State.closeGap
  repeat' split
  all_goals simp

@[simp] theorem captureDone_stn (n : Nat) (c : Capture) (st : Status) : (s.captureDone n c st).stn = s.stn := by
  simp only [State.captureDone]
  split <;> simp

@[simp] theorem finishRead_stn (id : Nat) : (s.finishRead id).stn = s.stn := by
  simp only [State.finishRead]
  repeat' split
  all_goals simp

/-- The statuses that the entries of an export bring. -/
theorem exportNotes_stn {α : Type} (id : Nat) (es : List (Nat × Nat × α)) :
    (es.foldl (fun (s : State) e => if e.2.1 = 2 then s.note id .stationUnavailable else if e.2.1 = 3 then s.note id .mediumReadError
      else if e.2.1 = 4 then s.note id .sealMismatch else s) s).stn = s.stn := by
  refine foldl_stn (fun v e => ?_) es s
  split_ifs <;> rfl

@[simp] theorem finishExport_stn (id : Nat) : (s.finishExport id).stn = s.stn := by
  simp only [State.finishExport]
  repeat' split
  all_goals simp [exportNotes_stn]

/-! ## The end of a task (R231) -/

/-- Where the station is lost the commands of a task bear its event. -/
def taskNoted (t : Task) (st : Status) : State :=
  if st = .stationUnavailable then t.cmds.foldl (fun (s : State) i => s.noteAt i 0 (s.lossEvent t.stn) st) s else s

theorem taskNoted_stn (t : Task) (st : Status) : (taskNoted s t st).stn = s.stn := by
  unfold taskNoted
  split
  · exact foldl_stn (f := fun (s : State) i => s.noteAt i 0 (s.lossEvent t.stn) st) (fun _ _ => rfl) _ s
  · rfl

@[simp] theorem taskResult_stn (t : Task) (st : Status) : (s.taskResult t st).stn = s.stn := by
  have each : ∀ (f : State → Nat → State), (∀ v i, (f v i).stn = v.stn) → (t.cmds.foldl f (taskNoted s t st)).stn = s.stn :=
    fun f h => (foldl_stn h _ _).trans (taskNoted_stn s t st)
  unfold State.taskResult
  dsimp only
  split
  case h_2 => exact taskNoted_stn s t st
  all_goals
    refine each _ fun v i => ?_
    repeat' split
    all_goals simp

@[simp] theorem ladderMove_stn (n : Nat) (p : Pass) : (s.ladderMove n p).1.stn = s.stn := by
  unfold State.ladderMove
  split <;> rfl

@[simp] theorem checkActivation_stn : s.checkActivation.stn = s.stn := by
  unfold State.checkActivation
  repeat' split
  all_goals simp

@[simp] theorem switchBank_stn (n : Nat) : (s.switchBank n).stn = s.stn := by
  unfold State.switchBank
  split <;> simp

/-! ## Vaults and checkpoints -/

@[simp] theorem setDisc_stn (id idx : Nat) (g : Disc → Disc) : (s.setDisc id idx g).stn = s.stn := rfl

@[simp] theorem dropVersions_stn (vault idx : Nat) (l : List (Nat × Nat)) : (s.dropVersions vault idx l).stn = s.stn := by
  unfold State.dropVersions
  split <;> rfl

@[simp] theorem bandVoid_stn (n : Nat) (b : BandWrite) : (s.bandVoid n b).stn = s.stn := by
  unfold State.bandVoid
  split <;> simp

@[simp] theorem addTask_stn (stn : Nat) (kind : TaskKind) (cmds : List Nat) (cls order : Nat) (args : List Nat) (first : Bool) :
    (s.addTask stn kind cmds cls order args first).stn = s.stn := rfl

@[simp] theorem checkpoint_stn (vault idx : Nat) : (s.checkpoint vault idx).stn = s.stn := by
  unfold State.checkpoint
  split
  · rfl
  split
  · split
    · rfl
    · extract_lets no size bands front stream blks begun
      split
      · rfl
      · refine (foldl_stn (fun v k => ?_) _ begun).trans (setDisc_stn s _ _ _)
        exact addTask_stn _ _ _ _ _ _ _ _
  · rfl

@[simp] theorem unmountDegrades_stn (vault : Nat) : (s.unmountDegrades vault).stn = s.stn :=
  foldl_stn (f := fun (s : State) (c : Cmd) => s.note c.id .okDegraded) (fun _ _ => rfl) _ s

@[simp] theorem redoCheckpoint_stn (vault idx : Nat) : (s.redoCheckpoint vault idx).stn = s.stn := by
  simp only [State.redoCheckpoint]
  split_ifs <;> simp

@[simp] theorem releaseVault_stn (vault : Nat) : (s.releaseVault vault).stn = s.stn := rfl

@[simp] theorem checkVault_stn (vault : Nat) : (s.checkVault vault).stn = s.stn := by
  have discs : ∀ (l : List Disc) (id : Nat) (bad : Disc → Prop) [DecidablePred bad] (v : State),
      (l.foldl (fun (s : State) (d : Disc) => if bad d then s.note id .okDegraded else s.checkpoint vault d.idx) v).stn = v.stn := by
    intro l id bad _ v
    refine foldl_stn (fun v d => ?_) l v
    split <;> simp
  simp only [State.checkVault]
  repeat' split
  all_goals simp [discs]

/-! ## Blocks and parisons -/

@[simp] theorem moveBlock_stn (id vba : Nat) (place : BlockAt) : (s.moveBlock id vba place).stn = s.stn := rfl

@[simp] theorem checkWriteCmd_stn (id : Nat) : (s.checkWriteCmd id).stn = s.stn := by
  unfold State.checkWriteCmd
  repeat' split
  all_goals simp

@[simp] theorem failWrite_stn (id : Nat) (st : Status) : (s.failWrite id st).stn = s.stn := by
  simp only [State.failWrite]
  repeat' split
  all_goals simp

@[simp] theorem failParison_stn (p q ev : Nat) (st : Status) : (s.failParison p q ev st).stn = s.stn :=
  foldl_stn (fun v i => by simp) _ _

@[simp] theorem dropDead_stn (vault : Nat) (b : PBlock) : (s.dropDead vault b).1.stn = s.stn := by
  simp only [State.dropDead]
  split_ifs <;> simp

@[simp] theorem placedIn_stn (p : Nat) (bs : List PBlock) : (s.placedIn p bs).stn = s.stn :=
  foldl_stn (f := fun (s : State) (b : PBlock) => (s.moveBlock b.cmd b.vba (.placed p)).setCmd b.cmd (fun c => { c with started := true }))
    (fun _ _ => rfl) bs s

@[simp] theorem placeParison_stn (p : Parison) : (s.placeParison p).stn = s.stn := by
  simp only [State.placeParison]
  repeat' split
  all_goals simp

@[simp] theorem beginParison_stn (id : Nat) : (s.beginParison id).stn = s.stn := by
  unfold State.beginParison
  repeat' split
  all_goals simp

@[simp] theorem beginRipe_stn (vault p : Nat) : (s.beginRipe vault p).stn = s.stn := by
  simp only [State.beginRipe]
  repeat' split
  all_goals simp

@[simp] theorem placeBlocks_stn (vault : Nat) (bs : List PBlock) : (s.placeBlocks vault bs).stn = s.stn := by
  have live : ∀ (l : List PBlock) (a : State × List PBlock), (l.foldl (fun (a : State × List PBlock) b =>
      let r := a.1.dropDead vault b; (r.1, if r.2 then a.2 ++ [b] else a.2)) a).1.stn = a.1.stn := by
    intro l
    induction l with
    | nil => exact fun _ => rfl
    | cons b l ih => exact fun a => (ih _).trans (dropDead_stn a.1 vault b)
  simp only [State.placeBlocks]
  repeat' split
  all_goals simp [live]

@[simp] theorem unplace_stn (n vault q ev : Nat) (bs : List (PBlock × Bool)) : (s.unplace n vault q ev bs).stn = s.stn := by
  unfold State.unplace
  simp [foldl_stn]

@[simp] theorem unplaceIdx_stn (n : Nat) (b : BandWrite) (ev : Nat) (ds failed : List Nat) : (s.unplaceIdx n b ev ds failed).stn = s.stn := by
  unfold State.unplaceIdx
  split <;> simp

end Frames

end Sys2Proof
end

section
/-!
SUPPORT. The bus supervisor leaves what the station ports count of MO alone (R86, R151, R458): whatever a reaction to a regeneration fault
brings about, no trip fails a port and no failed MO frame is counted.
-/

namespace Sys2Proof

open Machine

/-! ## What says that MO is well -/

/-- Of the stations `l`, what R458 and R86 keep of station `k`: a trip has failed its port, and the MI frames in a row with a failed MO frame. -/
def moSigns (l : Vector Station 16) (k : Nat) : Bool × Nat := (l[toStn k].port.tripFail, l[toStn k].port.moBad)

theorem moSigns_stn (s : State) (k : Nat) : moSigns s.stn k = ((s.port k).tripFail, (s.port k).moBad) := rfl

/-- A change of a station that leaves both. -/
theorem setStn_moSigns (s : State) (n : Stn) (k : Nat) {g : Station → Station}
    (h : ∀ t, (g t).port.tripFail = t.port.tripFail ∧ (g t).port.moBad = t.port.moBad := by exact fun _ => ⟨rfl, rfl⟩) :
    moSigns (s.setStn n g).stn k = moSigns s.stn k := by
  by_cases same : n = toStn k
  · obtain ⟨trip, bad⟩ := h s.stn[n]
    subst same
    simp only [moSigns, State.setStn, Fin.getElem_fin, Vector.getElem_set_self] at trip bad ⊢
    rw [trip, bad]
  · have other : n.val ≠ (toStn k).val := fun e => same (Fin.ext e)
    simp only [moSigns, State.setStn, Fin.getElem_fin, Vector.getElem_set_ne _ _ other]

theorem foldl_moSigns {α : Type} {f : State → α → State} {k : Nat} (h : ∀ v a, moSigns (f v a).stn k = moSigns v.stn k) (l : List α) (s : State) :
    moSigns (l.foldl f s).stn k = moSigns s.stn k := by
  induction l generalizing s with
  | nil => rfl
  | cons a l ih => exact (ih _).trans (h s a)

section Frames

variable (s : State) (k : Nat)

@[simp] theorem setSpindle_moSigns (n : Nat) (g : Spindle → Spindle) : moSigns (s.setSpindle n g).stn k = moSigns s.stn k :=
  setStn_moSigns s _ k

@[simp] theorem setRd_moSigns (n : Nat) (g : ReadCh → ReadCh) : moSigns (s.setRd n g).stn k = moSigns s.stn k :=
  setStn_moSigns s _ k

@[simp] theorem setServo_moSigns (n : Nat) (g : Servo → Servo) : moSigns (s.setServo n g).stn k = moSigns s.stn k :=
  setStn_moSigns s _ k

@[simp] theorem setLoop_moSigns (n L : Nat) (g : Loop → Loop) : moSigns (s.setLoop n L g).stn k = moSigns s.stn k :=
  setStn_moSigns s _ k

@[simp] theorem setBw_moSigns (n : Nat) (g : BandWrite → BandWrite) : moSigns (s.setBw n g).stn k = moSigns s.stn k :=
  setStn_moSigns s _ k

@[simp] theorem trapCause_moSigns (n c info : Nat) : moSigns (s.trapCause n c info).stn k = moSigns s.stn k :=
  setStn_moSigns _ _ k

@[simp] theorem trapSpindle_moSigns (n : Nat) : moSigns (s.trapSpindle n).stn k = moSigns s.stn k := trapCause_moSigns s k _ _ _

@[simp] theorem showValid_moSigns (n : Nat) : moSigns (s.showValid n).stn k = moSigns s.stn k := by
  unfold State.showValid
  extract_lets t valid u
  refine (congrArg (moSigns · k) (setBit_stn u _ _ _)).trans ?_
  subst u
  split
  · exact setStn_moSigns s (toStn n) k (g := fun t => { t with spin.lostAt := none })
  · rfl

/-! ## Blocks for CL -/

@[simp] theorem clPut_moSigns (n : Nat) (data : Bool) (payload : Nat) : moSigns (s.clPut n data payload).stn k = moSigns s.stn k :=
  setStn_moSigns s _ k

@[simp] theorem powerOff_moSigns (n : Nat) : moSigns (s.powerOff n).stn k = moSigns s.stn k := by
  unfold State.powerOff
  refine (setStn_moSigns _ _ k).trans ?_
  split
  · exact clPut_moSigns s k _ _ _
  · rfl

@[simp] theorem powerOffNow_moSigns (n : Nat) : moSigns (s.powerOffNow n).stn k = moSigns s.stn k :=
  (powerOff_moSigns _ k n).trans (setStn_moSigns s _ k)

@[simp] theorem sendSet_moSigns (n layer zone stab : Nat) : moSigns (s.sendSet n layer zone stab).stn k = moSigns s.stn k := by
  unfold State.sendSet
  dsimp only
  repeat' split
  any_goals simp
  exact (setStn_moSigns _ _ k).trans (foldl_moSigns (fun v b => clPut_moSigns v k n false b) _ s)

@[simp] theorem resendSet_moSigns (n : Nat) : moSigns (s.resendSet n).stn k = moSigns s.stn k := by
  unfold State.resendSet
  dsimp only
  repeat' split
  all_goals simp

@[simp] theorem freshTraining_moSigns (n : Nat) (ks : List Nat) : moSigns (s.freshTraining n ks).stn k = moSigns s.stn k := by
  have unsent := setStn_moSigns s (toStn n) k (g := fun t => { t with setSent := none })
  unfold State.freshTraining
  dsimp only
  split
  · exact (setStn_moSigns _ _ k).trans unsent
  · exact unsent

/-! ## A task ends -/

@[simp] theorem unmove_moSigns (n : Nat) : moSigns (s.unmove n).stn k = moSigns s.stn k := by
  unfold State.unmove
  repeat' split
  any_goals rfl
  exact setStn_moSigns _ _ k

@[simp] theorem slotOver_moSigns (n : Nat) : moSigns (s.slotOver n).stn k = moSigns s.stn k := by
  simp only [State.slotOver]
  split <;> simp [setStn_moSigns]

@[simp] theorem slotEnd_moSigns (n : Nat) (t : Option Task) : moSigns (s.slotEnd n t).stn k = moSigns s.stn k := by
  unfold State.slotEnd
  dsimp only
  repeat' split
  all_goals simp

@[simp] theorem applyMode_moSigns (n : Nat) : moSigns (s.applyMode n).stn k = moSigns s.stn k := by
  unfold State.applyMode
  split
  · rfl
  · extract_lets u
    refine (congrArg (moSigns · k) (setBit_stn u _ _ _)).trans ?_
    exact setStn_moSigns s _ k

@[simp] theorem restore0_moSigns (n : Nat) (b : Bytes) : moSigns (s.restore0 n b).stn k = moSigns s.stn k :=
  setStn_moSigns _ _ k

@[simp] theorem passAgain_moSigns (n : Nat) : moSigns (s.passAgain n).stn k = moSigns s.stn k := by
  unfold State.passAgain
  split
  · rfl
  · dsimp only
    split <;> simp [setStn_moSigns]

@[simp] theorem resumeSuspended_moSigns (n : Nat) : moSigns (s.resumeSuspended n).stn k = moSigns s.stn k := by
  have args : ∀ (v : State) (w : Nat → Word),
      moSigns ((List.range 6).foldl (fun v i => v.setReg (TASK_ARG n i) (w i)) v).stn k = moSigns v.stn k :=
    fun v w => foldl_moSigns (f := fun v i => v.setReg (TASK_ARG n i) (w i)) (fun _ _ => rfl) _ v
  unfold State.resumeSuspended
  extract_lets b s1 s2 s3 tw s4 s5 s6 s7 s8
  have again : moSigns s8.stn k = moSigns s.stn k := calc
    moSigns s8.stn k = moSigns s7.stn k := passAgain_moSigns s7 k n
    _ = moSigns s6.stn k := setStn_moSigns s6 _ k
    _ = moSigns s4.stn k := rfl
    _ = moSigns s3.stn k := setStn_moSigns s3 _ k
    _ = moSigns s2.stn k := args s2 _
    _ = moSigns s1.stn k := rfl
    _ = moSigns s.stn k := restore0_moSigns s k n _
  split <;> exact again

@[simp] theorem endTask_moSigns (n : Nat) (st : Status) : moSigns (s.endTask n st).stn k = moSigns s.stn k := by
  unfold State.endTask
  split
  · rfl
  extract_lets t? s1 s2 s3 s4 s5 s6 w s7 s8 s9 s10 s11 s12
  have result : moSigns s8.stn k = moSigns s7.stn k := by
    subst s8
    cases t? with
    | some t => exact congrArg (moSigns · k) (taskResult_stn s7 t st)
    | none => rfl
  have ended : moSigns s12.stn k = moSigns s.stn k := calc
    moSigns s12.stn k = moSigns s11.stn k := applyMode_moSigns s11 k n
    _ = moSigns s10.stn k := slotEnd_moSigns s10 k n t?
    _ = moSigns s9.stn k := rfl
    _ = moSigns s8.stn k := setRd_moSigns s8 k n _
    _ = moSigns s7.stn k := result
    _ = moSigns s6.stn k := unmove_moSigns _ k n
    _ = moSigns s.stn k := setStn_moSigns s5 _ k
  split
  · split
    · exact ended
    · rw [resumeSuspended_moSigns, ended]
  · rw [switchBank_stn, ended]

@[simp] theorem stopTask_moSigns (n : Nat) : moSigns (s.stopTask n).stn k = moSigns s.stn k := by
  unfold State.stopTask
  split <;> simp

/-! ## Loops -/

@[simp] theorem endTune_moSigns (n st : Nat) : moSigns (s.endTune n st).stn k = moSigns s.stn k := by
  unfold State.endTune
  dsimp only
  repeat' split
  all_goals simp

@[simp] theorem loseLock_moSigns (n L : Nat) : moSigns (s.loseLock n L).stn k = moSigns s.stn k := by
  unfold State.loseLock
  dsimp only
  repeat' split
  all_goals simp

/-! ## A band that is held -/

@[simp] theorem stepBack_moSigns (n : Nat) : moSigns (s.stepBack n).stn k = moSigns s.stn k := setBw_moSigns _ k n _

@[simp] theorem freeze_moSigns (n : Nat) : moSigns (s.freeze n).stn k = moSigns s.stn k := by
  unfold State.freeze
  split <;> simp

@[simp] theorem refreeze_moSigns (n : Nat) : moSigns (s.refreeze n).stn k = moSigns s.stn k := by
  unfold State.refreeze
  repeat' split
  all_goals simp

@[simp] theorem closeEarly_moSigns (n n' : Nat) (failed : List Nat) : moSigns (s.closeEarly n n' failed).stn k = moSigns s.stn k := by
  unfold State.closeEarly
  dsimp only
  repeat' split
  all_goals simp

@[simp] theorem longHold_moSigns (n cut : Nat) : moSigns (s.longHold n cut).stn k = moSigns s.stn k := by
  unfold State.longHold
  extract_lets s1 s2 s3 s4
  have early : moSigns s4.stn k = moSigns s.stn k := calc
    moSigns s4.stn k = moSigns s3.stn k := setBw_moSigns s3 k n _
    _ = moSigns s2.stn k := closeEarly_moSigns s2 k n _ _
    _ = moSigns s.stn k := trapCause_moSigns s1 k n _ _
  have frozen (b : Bool) : moSigns (if b then s4.freeze n else s4.refreeze n).stn k = moSigns s.stn k := by
    cases b
    · exact (refreeze_moSigns s4 k n).trans early
    · exact (freeze_moSigns s4 k n).trans early
  exact frozen _

@[simp] theorem skipSlots_moSigns (n cut : Nat) : moSigns (s.skipSlots n cut).stn k = moSigns s.stn k := by
  unfold State.skipSlots
  dsimp only
  split <;> simp

end Frames

end Sys2Proof
end

section
/-!
SUPPORT. The bus supervisor leaves a port whose MO is well as it is: what follows from a regeneration fault may train lanes, and then the
failed MO frames in a row begin at 0.
-/

namespace Sys2Proof

open Machine

/-- MO of station `k` is well: no trip has failed its port and no failed MO frame is counted. -/
def MoWell (s : State) (k : Nat) : Prop := moSigns s.stn k = (false, 0)

section Well

variable {s : State} {k : Nat}

theorem MoWell.of_eq {u : State} (well : MoWell s k) (e : moSigns u.stn k = moSigns s.stn k) : MoWell u k := e.trans well

theorem MoWell.foldl {α : Type} {f : State → α → State} (h : ∀ v a, MoWell v k → MoWell (f v a) k) (l : List α) (well : MoWell s k) :
    MoWell (l.foldl f s) k := by
  induction l generalizing s with
  | nil => exact well
  | cons a l ih => exact ih (h s a well)

/-- A change of a station that fails no port and counts no failed MO frame. -/
theorem MoWell.setStn (well : MoWell s k) (n : Stn) {g : Station → Station}
    (h : ∀ t, (t.port.tripFail, t.port.moBad) = (false, 0) → ((g t).port.tripFail, (g t).port.moBad) = (false, 0)) : MoWell (s.setStn n g) k := by
  by_cases same : n = toStn k
  · subst same
    have now : (s.setStn (toStn k) g).stn[toStn k] = g s.stn[toStn k] := by
      simp [State.setStn]
    unfold MoWell moSigns
    rw [now]
    exact h _ well
  · have other : n.val ≠ (toStn k).val := fun e => same (Fin.ext e)
    have now : (s.setStn n g).stn[toStn k] = s.stn[toStn k] := by
      simp [State.setStn, Vector.getElem_set_ne _ _ other]
    unfold MoWell moSigns
    rw [now]
    exact well

theorem clearLane_well (p : Port) (l : Nat) (h : (p.tripFail, p.moBad) = (false, 0)) :
    ((p.clearLane l).tripFail, (p.clearLane l).moBad) = (false, 0) := by
  obtain ⟨trip, bad⟩ := Prod.mk.inj h
  unfold Port.clearLane
  split_ifs <;> simp [trip, bad]

theorem MoWell.trainLanes (well : MoWell s k) (n : Nat) (ks : List Nat) (full : Bool) : MoWell (s.trainLanes n ks full) k := by
  unfold State.trainLanes
  extract_lets s1 p both
  have trained : MoWell s1 k := well.foldl (fun v l h => MoWell.setStn (s := v.setLane n l 1) h _ fun t => clearLane_well t.port l) ks
  split
  · exact trained.of_eq (setStn_moSigns s1 _ k)
  · exact trained

/-! ## A band being written ends or is held -/

theorem MoWell.bandOver (well : MoWell s k) (n : Nat) (st : Status) : MoWell (s.bandOver n st) k := by
  unfold State.bandOver
  extract_lets due s1 s2 s3
  have cleared : MoWell s2 k := well.of_eq (u := s1) (setStn_moSigns s _ k)
  have trained : MoWell s3 k := by
    subst s3
    split
    · exact (cleared.trainLanes n _ false).of_eq (freshTraining_moSigns _ k n _)
    · exact cleared
  unfold MoWell
  rw [showPre_stn]
  split
  · exact trained.of_eq (endTask_moSigns s3 k n st)
  · exact trained

theorem MoWell.abandon (well : MoWell s k) (n : Nat) (st : Status) : MoWell (s.abandon n st) k := by
  unfold State.abandon
  split
  · exact well
  extract_lets s1 s2 s3 s4 s5 s6
  have late : s1.stn = s.stn := by
    subst s1
    split <;> rfl
  have told : moSigns s3.stn k = moSigns s2.stn k := by
    subst s3
    split
    · exact trapCause_moSigns s2 k n _ _
    · rfl
  have shown : s6.stn = s5.stn := by
    subst s6
    split <;> simp
  have gone : MoWell s6 k := well.of_eq <| calc
    moSigns s6.stn k = moSigns s5.stn k := by rw [shown]
    _ = moSigns s4.stn k := setStn_moSigns s4 _ k
    _ = moSigns s3.stn k := by rw [bandVoid_stn]
    _ = moSigns s2.stn k := told
    _ = moSigns s1.stn k := powerOffNow_moSigns s1 k n
    _ = moSigns s.stn k := by rw [late]
  unfold MoWell
  rw [checkVault_stn]
  exact gone.bandOver n st

theorem MoWell.holdPoint (well : MoWell s k) (n cut : Nat) : MoWell (s.holdPoint n cut) k := by
  unfold State.holdPoint
  split
  · exact well
  extract_lets s1 s2
  have cut : MoWell s2 k := well.of_eq (setBw_moSigns s k n _)
  split_ifs
  · exact cut.abandon n _
  · exact cut.of_eq (by simp)
  · exact cut.of_eq (by simp)

theorem MoWell.beginHold (well : MoWell s k) (n : Nat) (causes : List Nat) : MoWell (s.beginHold n causes) k := by
  unfold State.beginHold
  split
  · exact well
  extract_lets old back s1 s2 s3 s4
  have held : MoWell s4 k := well.of_eq <| calc
    moSigns s4.stn k = moSigns s3.stn k := (trapCause_moSigns _ k n _ _).trans (by rw [raiseStn_stn])
    _ = moSigns s.stn k := setBw_moSigns s k n _
  clear_value old
  cases old with
  | some c => exact held.holdPoint n c
  | none => exact held

theorem MoWell.checkWrite (well : MoWell s k) (n : Nat) : MoWell (s.checkWrite n) k := by
  unfold State.checkWrite
  extract_lets s1 bad recovering
  have shown : MoWell s1 k := well.of_eq (by rw [showPre_stn])
  have recovered : MoWell recovering k := shown.of_eq (setBw_moSigns s1 k n _)
  split
  · exact shown
  split
  · exact shown
  split
  · split
    · exact shown
    · exact shown.beginHold n bad
  split
  · split
    · exact shown
    · exact recovered.of_eq (trapCause_moSigns _ k n _ _)
  split
  · exact shown.beginHold n bad
  · exact shown.of_eq (setBw_moSigns s1 k n _)

/-! ## The spindle changes its state -/

theorem MoWell.endInj (well : MoWell s k) (n st : Nat) : MoWell (s.endInj n st) k := by
  unfold State.endInj
  split
  · exact well
  extract_lets s1 s2
  have ended : MoWell s2 k := well.of_eq (u := s1) (setServo_moSigns s k n _)
  refine MoWell.checkWrite ?_ n
  split <;> exact ended

theorem MoWell.modeChange (well : MoWell s k) (n L m : Nat) (hw : Bool) : MoWell (s.modeChange n L m hw) k := by
  unfold State.modeChange
  extract_lets old s1 s2 s3 s4 s5 s6 s7 free s8
  split
  · exact well
  have unlocked : MoWell s2 k := by
    subst s2
    split
    · exact well.of_eq ((setLoop_moSigns _ k n L _).trans (loseLock_moSigns s1 k n L))
    · exact well
  have still : MoWell s3 k := by
    subst s3
    split
    · split
      · exact unlocked.endInj n 5
      · exact unlocked
    · exact unlocked
  have tuned : MoWell s4 k := by
    subst s4
    split
    · split
      · exact still.of_eq (endTune_moSigns s3 k n 5)
      · exact still
    · exact still
  have restored : MoWell s6 k := by
    have drive : MoWell s5 k := by
      subst s5
      split <;> exact tuned
    subst s6
    split
    · split
      · exact drive.of_eq (s := s5) ((setLoop_moSigns _ k n L _).trans (by rw [setFldInt_stn]))
      · exact drive
    · exact drive
  have off : MoWell s7 k := by
    subst s7
    split
    · refine restored.of_eq ?_
      rw [State.setFld_stn]
      exact setLoop_moSigns s6 k n L _
    · exact restored
  refine MoWell.checkWrite (off.of_eq ?_) n
  have shown : (if free then s8.setBit (LP_STAT n L) LP_STAT_DEFECT false else s8).stn = s8.stn := by
    split <;> rfl
  rw [showValid_moSigns, shown]
  exact setLoop_moSigns s7 k n L _

theorem MoWell.forceMode (well : MoWell s k) (n L m : Nat) : MoWell (s.forceMode n L m) k := by
  unfold State.forceMode
  extract_lets s1 s2
  split
  · refine MoWell.of_eq (s := s1) well ((setLoop_moSigns _ k n L _).trans ?_)
    subst s2
    split
    · split
      · exact endTune_moSigns s1 k n 5
      · rfl
    · rfl
  · exact MoWell.modeChange (s := s1) well n L m true

theorem MoWell.setSpin (well : MoWell s k) (n st : Nat) : MoWell (s.setSpin n st) k := by
  unfold State.setSpin
  extract_lets s1 m s2 s3
  have forced : MoWell s2 k := (((MoWell.forceMode (s := s1) well n 4 m.1).forceMode n 5 m.2).forceMode n 6 m.2)
  have driven : s3.stn = s2.stn := by
    subst s3
    split_ifs <;> rfl
  refine MoWell.checkWrite (forced.of_eq ?_) n
  rw [showValid_moSigns, driven]

/-! ## The bus supervisor -/

theorem MoWell.rgfReact (well : MoWell s k) (n : Nat) : MoWell (s.rgfReact n) k := by
  unfold State.rgfReact
  extract_lets r s1
  split
  · exact well
  · have off : MoWell s1 k := well.of_eq (setSpindle_moSigns s k n _)
    exact (off.setSpin n _).of_eq ((stopTask_moSigns _ k n).trans (trapSpindle_moSigns _ k n))

theorem MoWell.checkRegen (well : MoWell s k) (n : Nat) : MoWell (s.checkRegen n) k := by
  unfold State.checkRegen
  extract_lets lvl st s1
  split
  · refine MoWell.foldl (fun v j h => ?_) _ (well.of_eq (u := s1.raiseStn n 9 []) (by rw [raiseStn_stn]; rfl))
    split
    · exact h.rgfReact j
    · exact h
  · exact well

theorem MoWell.supervise (well : MoWell s k) (n : Nat) : MoWell (s.supervise n) k := by
  unfold State.supervise
  extract_lets v st on off chon s1 s2 s3
  have due : MoWell s2 k := well.of_eq (setSpindle_moSigns s1 k n _)
  refine MoWell.checkRegen (due.of_eq ?_) n
  subst s3
  split <;> rfl

end Well

end Sys2Proof
end

section
/-!
SUPPORT. The SA lanes' blocks (R73, R75, R86) and the CL epoch (R71, R76, R95).
-/

namespace Sys2Proof

open Machine

/-! ## Each event is its function -/

section Exec

variable {s v : State} {n : Stn}

theorem exec_of_saHeader {k : Fin 2} {b : Block66} (h : s.saHeader n k b = v) : exec (.saHeader n k b) s = .next (s.close v) := by
  rw [← h]
  rfl

theorem exec_of_servoBlock {k : Fin 2} {b : Block66} (h : s.servoBlock n k b = v) : exec (.servoBlock n k b) s = .next (s.close v) := by
  rw [← h]
  rfl

theorem exec_of_sampleGroup {k : Fin 2} {g : Fin 525} {b : Vector Block66 3} (h : s.sampleGroup n k g b.toList = v) :
    exec (.sampleGroup n k g b) s = .next (s.close v) := by
  rw [← h]
  rfl

theorem exec_of_clEpoch (h : s.clEpoch n = v) : exec (.clEpoch n) s = .next (s.close v) := by rw [← h]; rfl

end Exec

/-! ## A block's sync header (R86) -/

/-- A control block's sync header is valid. -/
theorem valid_of_isControl {b : Block66} (h : b.isControl = true) : b.valid = true := by
  unfold Block66.isControl at h
  simp [Block66.valid, h]

section NoteSync

variable {s : State} {n k i : Nat} {b : Block66} {l : List Nat}

/-- Of invalid sync headers within 1,024 blocks none is forgotten. -/
theorem noteSync_of_recent (seen : (s.port n).syncs.getD k (0, []) = (i, l)) (recent : ∀ j ∈ l, i < j + 1023) :
    s.noteSync n k b =
      let bad := if b.valid then l else l ++ [i + 1]
      let v := s.setPort n (fun p => { p with syncs := p.syncs.set k (i + 1, bad) })
      if 16 ≤ bad.length then v.laneLost n [k] else v := by
  have kept : (if b.valid then l else l ++ [i + 1]).filter (fun j => decide (i + 1 < j + 1024)) = if b.valid then l else l ++ [i + 1] := by
    rw [List.filter_eq_self]
    intro j hj
    have : j ∈ l ∨ j = i + 1 := by
      split at hj
      · exact .inl hj
      · simpa using hj
    rcases this with hl | rfl
    · have := recent j hl
      simp only [decide_eq_true_eq]
      omega
    · simp
  unfold State.noteSync
  simp only [seen, kept]

/-- Where 15 invalid ones stand within 1,024 blocks the next loses the lane. -/
theorem noteSync_of_fifteen (seen : (s.port n).syncs.getD k (0, []) = (i, l)) (fifteen : l.length = 15) (recent : ∀ j ∈ l, i < j + 1023) :
    let e (l : List Nat) : State := s.setPort n (fun p => { p with syncs := p.syncs.set k (i + 1, l) })
    s.noteSync n k b = if b.valid then e l else (e (l ++ [i + 1])).laneLost n [k] := by
  rw [noteSync_of_recent seen recent]
  cases b.valid <;> simp [fifteen]

end NoteSync

/-! ## HEADERs (R75, R91) -/

section Header

variable {s : State} {n : Stn} {k : Fin 2} {b : Block66}

/-- A lane in training or up is neither down nor failed. -/
theorem lane_carries {x : Nat} (h : s.lane n x = 1 ∨ s.lane n x = 2) : ¬ (s.lane n x = 0 ∨ s.lane n x = 3) := by omega

theorem saHeader_of_lane (lane : s.lane n k = 1 ∨ s.lane n k = 2) (hb : b.isControl = false ∨ b.field 0 8 ≠ 0xA1) :
    s.saHeader n k b = s.noteSync n k b := by
  have heard : ¬ (2 ≤ k.val ∨ s.lane n k = 0 ∨ s.lane n k = 3) := by
    have := k.isLt
    have := lane_carries lane
    omega
  have other : (!b.isControl || decide (b.field 0 8 ≠ 0xA1)) = true := by
    rcases hb with h | h <;> simp [h]
  rw [State.saHeader, if_neg heard]
  exact if_pos other

theorem saHeader_of_header (lane : s.lane n k = 1 ∨ s.lane n k = 2) (control : b.isControl = true) (header : b.field 0 8 = 0xA1) :
    s.saHeader n k b =
      (let u := s.noteSync n k b
      let ok := b.field 40 16 == ((u.port n).saCrc.getD k 0).toNat
      let bad := if ok then 0 else (u.port n).hdrBad.getD k 0 + 1
      let v := if ok then u else u.bump (STN_LERR n) (if k = 0 then STN_LERR_SA0_ERR else STN_LERR_SA1_ERR) 1
      let v := v.setPort n (fun p => { p with
        hdrNone := p.hdrNone.set k 0, hdrBad := p.hdrBad.set k bad, saCrc := p.saCrc.set k 0xFFFF#16, saNext := p.saNext.set k 0xFFFF#16,
        saEpoch := p.saEpoch.set k (b.field 8 16),
        writeApplied := (b.field 32 8).testBit 1 })
      let v := (v.rollSamples n k ((v.port n).epochOf (b.field 8 16) - 1) (!ok)).setFld (STN_STAT n) STN_STAT_MAP (b.field 32 8 / 4 % 4)
      let v := if k.val = v.servoLane n then v.setPort n (fun p => p.framedBy (v.lane n k == 2)) else v
      let v := v.clReport n (b.field 8 16) (b.field 24 8) ((b.field 32 8).testBit 0)
      if 4 ≤ bad then v.laneLost n [k] else v) := by
  have heard : ¬ (2 ≤ k.val ∨ s.lane n k = 0 ∨ s.lane n k = 3) := by
    have := k.isLt
    have := lane_carries lane
    omega
  have isHeader : ¬ (!b.isControl || decide (b.field 0 8 ≠ 0xA1)) = true := by simp [control, header]
  have err : saErr k = if k = 0 then STN_LERR_SA0_ERR else STN_LERR_SA1_ERR := by
    fin_cases k <;> rfl
  rw [State.saHeader, if_neg heard, ← err]
  extract_lets u e status ok counted bad shown rolled framed reported bad'
  rw [if_neg isHeader]
  have same : bad = bad' := by
    have kept : counted.port n = u.port n := by
      subst counted
      split <;> rfl
    subst bad bad'
    rw [kept]
  clear_value bad bad'
  subst same
  rfl

end Header

theorem clReport_of_seen {s : State} {n e errs : Nat} {lock : Bool} (h : (s.port n).clSeen = some e) : s.clReport n e errs lock = s := if_pos h

theorem clReport_of_new {s : State} {n e errs : Nat} {lock : Bool} (h : (s.port n).clSeen ≠ some e) :
    s.clReport n e errs lock =
      (let next := match (s.port n).clSeen with | some x => decide ((x + 1) % 65536 = e) | none => false
      let v := (s.bump (STN_LERR n) STN_LERR_CL_ERR errs).setPort n (fun p => { p with
        clSeen := some e, clGood := if lock && errs == 0 then (if next then p.clGood + 1 else 1) else 0 })
      if lock = false ∧ v.lane n 2 = 2 then v.laneLost n [2] else v) := by
  rw [State.clReport]
  extract_lets next bumped v next' v'
  rw [if_neg h]
  have same : v' = v := rfl
  rw [same]
  cases lock <;> simp

/-! ## Servo blocks (R75) -/

section Servo

variable {s : State} {n : Stn} {k : Fin 2} {b : Block66}

/-- Twelve bits of a block as a two's complement number. -/
theorem toInt_field (b : Block66) (lo : Nat) :
    (BitVec.ofNat 12 (b.field lo 12)).toInt = if b.field lo 12 < 2048 then (b.field lo 12 : Int) else (b.field lo 12 : Int) - 4096 := by
  have bound : b.field lo 12 < 4096 := Nat.mod_lt _ (by decide)
  rw [BitVec.toInt_eq_toNat_cond, BitVec.toNat_ofNat, Nat.mod_eq_of_lt bound]
  split_ifs <;> omega

theorem servoBlock_of_valid (servo : k.val = s.servoLane n) (up : s.lane n k = 2) (control : b.isControl = true)
    (type : b.field 0 8 = 0xA2 ∨ b.field 0 8 = 0xA3) :
    s.servoBlock n k b =
      (let c := (List.range 4).map (fun i => (BitVec.ofNat 12 (b.field (16 + 12 * i) 12)).toInt)
      let put (l : List Int) : List Int := if b.field 0 8 = 0xA3 then l.take 4 ++ c else c ++ l.drop 4
      (s.noteSync n k b).setPort n (fun p => { p with
        last := put p.last,
        instants := (List.range 16).map (fun i => if b.field 8 4 ≤ i then put (p.instants.getD i []) else p.instants.getD i []) })) := by
  have heard : ¬ (k.val ≠ s.servoLane n ∨ s.lane n k ≠ 2) := by simp [← servo, up]
  have valid : ¬ (!b.valid) = true := by simp [valid_of_isControl control]
  have aServoBlock : ¬ (!b.isControl || (decide (b.field 0 8 ≠ 0xA2) && decide (b.field 0 8 ≠ 0xA3))) = true := by
    rcases type with h | h <;> simp [control, h]
  simp only [toInt_field]
  rw [State.servoBlock, if_neg heard]
  extract_lets
  rw [if_neg valid, if_neg aServoBlock]

theorem servoBlock_of_invalid (servo : k.val = s.servoLane n) (up : s.lane n k = 2) (invalid : b.valid = false) :
    s.servoBlock n k b = (s.noteSync n k b).bump (STN_LERR n) (if k = 0 then STN_LERR_SA0_ERR else STN_LERR_SA1_ERR) 1 := by
  have heard : ¬ (k.val ≠ s.servoLane n ∨ s.lane n k ≠ 2) := by simp [← servo, up]
  have err : saErr k = if k = 0 then STN_LERR_SA0_ERR else STN_LERR_SA1_ERR := by
    fin_cases k <;> rfl
  rw [State.servoBlock, if_neg heard, ← err]
  exact if_pos (by simp [invalid])

end Servo

/-! ## Sample groups (R73) -/

theorem setRd_setRd (s : State) (n : Nat) (g g' : ReadCh → ReadCh) : (s.setRd n g).setRd n g' = s.setRd n (fun r => g' (g r)) :=
  setStn_setStn s _ _ _

/-- Four samples stored one after the other. -/
theorem setRd_four (s : State) (n : Nat) (put : SMap Nat → Nat → SMap Nat) :
    (List.range 4).foldl (fun v i => v.setRd n (fun r => { r with samples := put r.samples i })) s =
      s.setRd n (fun r => { r with samples := put (put (put (put r.samples 0) 1) 2) 3 }) := by
  have four : List.range 4 = [0, 1, 2, 3] := rfl
  simp only [four, List.foldl, setRd_setRd]

/-- The three payloads of a group, one behind the other. -/
theorem foldr_three (x y z : Nat) : [x, y, z].foldr (fun b a => b + a * 2 ^ 64) 0 = x + y * 2 ^ 64 + z * 2 ^ 128 := by
  rw [List.foldr_cons, List.foldr_cons, List.foldr_cons, List.foldr_nil]
  omega

/-- The three blocks of a group. -/
theorem toList_three {α : Type} (b : Vector α 3) : b.toList = [b[0], b[1], b[2]] := by
  refine List.ext_getElem (by simp) fun i _ hi => ?_
  have : i < 3 := hi
  interval_cases i <;> simp

theorem sampleGroup_of_up {s : State} {n : Stn} {k : Fin 2} (g : Fin 525) (b : Vector Block66 3) (up : s.lane n k = 2) :
    s.sampleGroup n k g b.toList =
      (let pay := b[0].payload + b[1].payload * 2 ^ 64 + b[2].payload * 2 ^ 128
      let put (m : SMap Nat) (i : Nat) : SMap Nat := SMap.put m 0 (2100 * k + 4 * g + i) (pay / 2 ^ (48 * i) % 2 ^ 48)
      let crc (l : List (BitVec 16)) : List (BitVec 16) :=
        l.set k (blockCrc (blockCrc (blockCrc (l.getD k 0xFFFF#16) b[0].payload) b[1].payload) b[2].payload)
      let v := s.setPort n (fun p => { p with saCrc := crc p.saCrc, saNext := crc p.saNext })
      let v := v.setRd n (fun r => { r with samples := put (put (put (put r.samples 0) 1) 2) 3 })
      ((v.noteSync n k b[0]).noteSync n k b[1]).noteSync n k b[2]) := by
  have heard : ¬ (2 ≤ k.val ∨ 525 ≤ g.val ∨ s.lane n k = 0 ∨ s.lane n k = 3) := by omega
  have up' (g : Port → Port) : ¬ (s.setPort n g).lane n k ≠ 2 := not_not.mpr up
  rw [toList_three, State.sampleGroup, if_neg heard]
  extract_lets pay crc v stored pay' put crc' v' stored'
  have payload : pay = pay' := foldr_three _ _ _
  have carried : crc = crc' := by
    funext l
    simp only [crc, crc', List.map_cons, List.map_nil, List.foldl_cons, List.foldl_nil]
  clear_value pay pay' crc crc'
  subst payload carried
  have same : stored = stored' := (if_neg (up' _)).trans (setRd_four _ n put)
  rw [same]
  rfl

/-! ## The CL epoch (R71, R76, R95) -/

section ClEpoch

variable {s : State} {n : Stn}

theorem clEpoch_of_sent (run : s.bit (STN_STAT n) STN_STAT_SY_RUN = true) (lane : (s.missHeaders n).lane n 2 = 1 ∨ (s.missHeaders n).lane n 2 = 2) :
    s.clEpoch n = (((s.missHeaders n).setPort n Port.servoEpoch).clSendEpoch n).setPort n (fun p => { p with epochs := p.epochs + 1 }) := by
  have carries : ¬ (((s.missHeaders n).setPort n Port.servoEpoch).lane n 2 = 0 ∨ ((s.missHeaders n).setPort n Port.servoEpoch).lane n 2 = 3) :=
    lane_carries lane
  rw [State.clEpoch, if_neg (by simp [run])]
  exact congrArg (State.setPort · n fun p => { p with epochs := p.epochs + 1 }) (if_neg carries)

theorem clEpoch_of_silent (run : s.bit (STN_STAT n) STN_STAT_SY_RUN = true) (lane : (s.missHeaders n).lane n 2 = 0 ∨ (s.missHeaders n).lane n 2 = 3) :
    s.clEpoch n = ((s.missHeaders n).setPort n Port.servoEpoch).setPort n (fun p => { p with epochs := p.epochs + 1 }) := by
  have silent : ((s.missHeaders n).setPort n Port.servoEpoch).lane n 2 = 0 ∨ ((s.missHeaders n).setPort n Port.servoEpoch).lane n 2 = 3 := lane
  rw [State.clEpoch, if_neg (by simp [run])]
  exact congrArg (State.setPort · n fun p => { p with epochs := p.epochs + 1 }) (if_pos silent)

theorem clSendEpoch_eq (s : State) (n : Stn) :
    s.clSendEpoch n =
      (let p := s.port n
      let flags := (if s.lane n 0 == 1 || s.lane n 1 == 1 then 1 else 0) + (if p.writeEnable then 2 else 0) + 4 * p.mapWant
      let out := epochBlocks 776 250 p.clQueue
      let crc := (out.filter (·.1)).foldl (fun c b => crc16 64 (sentBits b.2) c) 0xFFFF#16
      (s.clWires n (List.replicate p.clLeft (false, 0xC0)
          ++ (false, clBlock 0xC1 [(p.epochs, 16), (flags, 8), (p.clCrc.toNat, 16)]) :: out)).setPort n (fun q => { q with
        clQueue := p.clQueue.drop out.length, clLeft := (if p.epochs % 4 = 3 then 781 else 780) - out.length, flow := flowAfter p.flow out,
        writeEnable := p.writeEnable && (p.nextBit.isSome || (p.clQueue.drop out.length).any (·.1)), clCrc := crc })) := by
  unfold State.clSendEpoch
  extract_lets p
  have blocks : 780 + (if p.epochs % 4 = 3 then 1 else 0) = if p.epochs % 4 = 3 then 781 else 780 := by
    split <;> rfl
  rw [blocks]
  rfl

theorem servoEpoch_facts (p : Port) :
    let q := p.servoEpoch
    let sum := (List.zip p.slowSum (sumChannels p.instants)).map (fun x => x.1 + x.2)
    q.instants = List.replicate 16 p.last ∧ (p.inFrame = false → q.slowSum = p.slowSum ∧ q.slowDone = p.slowDone ∧ q.framed = p.framed)
      ∧ (p.inFrame = true → q.framed = p.framed + 1 ∧ if (p.framed + 1) % 20 = 0 then q.slowDone = sum ∧ q.slowSum = List.replicate 8 0
          else q.slowDone = p.slowDone ∧ q.slowSum = sum) := by
  refine ⟨rfl, fun out => ?_, fun within => ?_⟩
  · simp [Port.servoEpoch, out]
  · simp only [Port.servoEpoch, within, if_true, Port.addEpoch]
    split_ifs <;> exact ⟨rfl, rfl, rfl⟩

theorem missHeaders_of_new (sa0 : s.lane n 0 = 2) (sa1 : s.lane n 1 = 2) (new : (s.port n).hdrNone = [0, 0]) :
    s.missHeaders n = s.setPort n (fun p => { p with hdrNone := [1, 1], saNext := [0xFFFF#16, 0xFFFF#16] }) := by
  unfold State.missHeaders
  extract_lets ks late rolled counted gone
  have both : ks = [0, 1] := by simp [ks, sa0, sa1]
  have none : late = [] := by simp [late, both, new]
  have shown : counted = s.setPort n (fun p => { p with hdrNone := [1, 1], saNext := [0xFFFF#16, 0xFFFF#16] }) := by
    subst counted rolled
    rw [none, both]
    refine setPort_congr ?_
    simp [new]
  have still : gone = [] := by
    subst gone
    rw [both, shown]
    simp
  rw [still, shown]
  rfl

end ClEpoch

end Sys2Proof
end

section
/-!
SUPPORT. MI frames (R79, R85, R86, R458) and the motion period (R80, R86, R126).
-/

namespace Sys2Proof

open Machine

section Exec

variable {s v : State} {n : Stn}

theorem exec_of_miFrame {cs : Vector (BitVec 10) 29} (h : s.miReceived n (cs.toList.map (·.toNat)) = v) :
    exec (.miFrame n cs) s = .next (s.close v) := by
  rw [← h]
  rfl

theorem exec_of_motionPeriod (h : s.periodTick n = v) : exec (.motionPeriod n) s = .next (s.close v) := by rw [← h]; rfl

end Exec

/-! ## MI frames -/

section MiFrame

variable {s : State} {n : Nat}

theorem miReceived_of_invalid {chars : List Nat} (h : frameBytes 28 chars = none) :
    s.miReceived n chars = (s.bump (STN_LERR n) STN_LERR_MI_ERR 1).setPort n (fun p => { p with miGood := 0 }) := by
  rw [State.miReceived, h]

/-- A frame that has come in period `t` and reports no MO frame as failed. -/
def miCounted (s : State) (n t : Nat) : State :=
  (s.setPort n (fun p => { p with miSeen := true, miGood := p.miGood + 1, miPeriod := t, moGood := p.moGood + 1, moBad := 0 })).bump
    (STN_LERR n) STN_LERR_MO_ERR 0

theorem station_miCounted (t : Nat) : (miCounted s n t).station (toStn n) = { s.station (toStn n) with port := (miCounted s n t).port n } := by
  have counted := State.station_setStn_same s (toStn n) fun u => { u with port := { u.port with
    miSeen := true, miGood := u.port.miGood + 1, miPeriod := t, moGood := u.port.moGood + 1, moBad := 0 } }
  exact counted.trans (congrArg (fun p => ({ s.station (toStn n) with port := p } : Station)) (congrArg Station.port counted).symm)

theorem spin_miCounted (t : Nat) : (miCounted s n t).spin n = s.spin n := by
  rw [State.spin, station_miCounted]
  rfl

theorem miValue_miCounted (t ch : Nat) (code : Int) : (miCounted s n t).miValue n ch code = s.miValue n ch code := by
  have pd : ((miCounted s n t).station (toStn n)).cal.pd = (s.station (toStn n)).cal.pd := by rw [station_miCounted]
  unfold State.miValue
  rw [pd]
  rfl

theorem spinState_miCounted (t : Nat) : (miCounted s n t).spinState n = s.spinState n := by
  have other : (STN_LERR n).key ≠ (MOT_SPST n).key := by simp [STN_LERR, MOT_SPST, stnKey]
  exact State.fld_setFld_other _ _ _ _ other

theorem moWell_miCounted (t : Nat) (unfailed : (s.port n).tripFail = false) : MoWell (miCounted s n t) n := by
  have counted := port_setPort s n fun p => { p with
    miSeen := true, miGood := p.miGood + 1, miPeriod := t, moGood := p.moGood + 1, moBad := 0 }
  unfold MoWell
  rw [moSigns_stn]
  exact Prod.ext ((congrArg Port.tripFail counted).trans unfailed) (congrArg Port.moBad counted)

theorem setSpindle_setSpindle (s : State) (n : Nat) (g g' : Spindle → Spindle) :
    (s.setSpindle n g).setSpindle n g' = s.setSpindle n (fun p => g' (g p)) := setStn_setStn s _ _ _

/-- The samples of a frame that reports no trip, before the bus supervisor follows. -/
def miSampled (s : State) (n : Nat) (x : Nat → Int) : State :=
  let v := s.setSpindle n (fun p =>
    let q : Spindle := { p with cur := [x 0, x 1, x 2], curLast := p.cur, trips := 0 }
    if s.spinState n = 1 then q.catchFrame [x 3, x 4, x 5] else q)
  v.setFld (BUS_STAT n) BUS_STAT_VLOC (clampI 0 65535 (x 8)).toNat

theorem miSampled_of_turning (h : s.spinState n ≠ 1) (x : Nat → Int) :
    miSampled s n x = (s.setSpindle n (fun p => { p with cur := [x 0, x 1, x 2], curLast := p.cur, trips := 0 })).setFld
      (BUS_STAT n) BUS_STAT_VLOC (clampI 0 65535 (x 8)).toNat := by
  simp only [miSampled, if_neg h]

theorem miSampled_of_catching (h : s.spinState n = 1) (x : Nat → Int) :
    miSampled s n x = (s.setSpindle n (fun p =>
        ({ p with cur := [x 0, x 1, x 2], curLast := p.cur, trips := 0 } : Spindle).catchFrame [x 3, x 4, x 5])).setFld
      (BUS_STAT n) BUS_STAT_VLOC (clampI 0 65535 (x 8)).toNat := by
  simp only [miSampled, if_pos h]

theorem miSampled_moSigns (s : State) (n k : Nat) (x : Nat → Int) : moSigns (miSampled s n x).stn k = moSigns s.stn k := by
  unfold miSampled
  extract_lets v
  rw [State.setFld_stn]
  exact setSpindle_moSigns s k n _

theorem miFrame_of_quiet (codes : List Int) (chopper : (s.spin n).chopDue = false) :
    s.miFrame n 0 codes = (miSampled s n (fun ch => s.miValue n ch (codes.getD ch 0))).supervise n := by
  unfold State.miFrame
  extract_lets x t old chopI fault s1 s2 s3 s4
  have fine : fault = false := by simp [fault, chopper]
  have sampled : s2 = s.setSpindle n (fun p =>
      let q : Spindle := { p with cur := [x 0, x 1, x 2], curLast := p.cur, trips := 0 }
      if s.spinState n = 1 then q.catchFrame [x 3, x 4, x 5] else q) := by
    have shown : s1 = s.setSpindle n (fun p => { p with cur := [x 0, x 1, x 2], curLast := p.cur, trips := 0 }) := by
      subst s1
      refine congrArg (s.setSpindle n) (funext fun p => ?_)
      simp [t]
    have state : s1.spinState n = s.spinState n := rfl
    subst s2
    rw [state, shown]
    split
    · exact setSpindle_setSpindle s n _ _
    · rfl
  have followed : s4 = miSampled s n x := by
    have same : s4 = s3 := if_neg (by simp [fine])
    rw [same]
    subst s3
    rw [sampled]
    rfl
  have noTrip (v : State) (b : Nat) : (if t.testBit b && !old.testBit b then v.tripRise n b else v) = v := if_neg (by simp [t])
  have settled (l : List Nat) (v : State) : l.foldl (fun v b => if t.testBit b && !old.testBit b then v.tripRise n b else v) v = v := by
    induction l generalizing v with
    | nil => rfl
    | cons b l ih => exact (congrArg (l.foldl _) (noTrip v b)).trans (ih v)
  exact (settled _ _).trans (congrArg (State.supervise · n) followed)

theorem miReceived_of_valid {chars : List Nat} {b : Bytes} (h : frameBytes 28 chars = some b) (trips : b.getD 1 0 = 0#8) (mo : b.getD 24 0 = 0#8)
    (unfailed : (s.port n).tripFail = false) (chopper : (s.spin n).chopDue = false) :
    s.miReceived n chars =
      (miSampled (miCounted s n (b.getD 0 0).toNat) n (fun ch => s.miValue n ch ((miCodes b).getD ch 0))).supervise n := by
  have frame := (miFrame_of_quiet (s := miCounted s n (b.getD 0 0).toNat) (miCodes b) (by rw [spin_miCounted, chopper]))
  simp only [miValue_miCounted] at frame
  have well : MoWell ((miCounted s n (b.getD 0 0).toNat).miFrame n 0 (miCodes b)) n := by
    rw [frame]
    refine MoWell.supervise ?_ n
    exact (moWell_miCounted _ unfailed).of_eq (miSampled_moSigns _ n n _)
  obtain ⟨trip, bad⟩ := Prod.mk.inj well
  unfold State.miReceived
  split
  case h_1 none => exact absurd (none.symm.trans h) (by simp)
  case h_2 b' some =>
    obtain rfl : b' = b := Option.some.inj (some.symm.trans h)
    extract_lets was t moErr counted moved settled
    have untripped : t = 0 := congrArg BitVec.toNat trips
    have noError : moErr = 0 := congrArg BitVec.toNat mo
    clear_value t moErr
    subst untripped noError
    have unfailed' : (moved.port n).tripFail = false := trip
    have noneBad : (moved.port n).moBad = 0 := bad
    have same : settled = moved := if_neg (by simp [unfailed'])
    rw [same, ← frame]
    exact if_neg (by simp [noneBad])

end MiFrame

/-! ## The motion period -/

section Period

variable {s : State} {n : Stn}

theorem port_setSpindle (s : State) (n : Nat) (g : Spindle → Spindle) : (s.setSpindle n g).port n = s.port n := by
  simp only [State.port, State.setSpindle, State.station_setStn_same]

theorem spin_setSpindle (s : State) (n : Nat) (g : Spindle → Spindle) : (s.setSpindle n g).spin n = g (s.spin n) := by
  simp only [State.spin, State.setSpindle, State.station_setStn_same]

/-- A period has passed, in which a valid MI frame has come or has not. -/
def miAwaited (s : State) (n : Nat) : State :=
  (s.setPort n (fun p => if p.miSeen then { p with miSeen := false, miNone := 0 } else { p with miNone := p.miNone + 1, miGood := 0, moGood := 0 })).setSpindle
    n (fun p => { p with lossDecel := false })

theorem miNone_miAwaited (s : State) (n : Nat) : ((miAwaited s n).port n).miNone = if (s.port n).miSeen then 0 else (s.port n).miNone + 1 := by
  rw [miAwaited, port_setSpindle, port_setPort]
  split <;> rfl

theorem lane_miAwaited (s : State) (n k : Nat) : (miAwaited s n).lane n k = s.lane n k := rfl

theorem periodTick_of_heard (heard : s.lane n 4 ≠ 2 ∨ (s.port n).miSeen = true ∨ (s.port n).miNone < 3) :
    s.periodTick n = (miAwaited s n).motionPeriod n := by
  have kept : ¬ ((miAwaited s n).lane n 4 == 2 && decide (4 ≤ ((miAwaited s n).port n).miNone)) = true := by
    rw [lane_miAwaited, miNone_miAwaited, Bool.and_eq_true, beq_iff_eq, decide_eq_true_iff]
    rintro ⟨up, late⟩
    rcases heard with down | seen | early
    · exact down up
    · simp [seen] at late
    · split at late <;> omega
  exact congrArg (State.motionPeriod · n) (if_neg kept)

theorem periodTick_of_lost (up : s.lane n 4 = 2) (unseen : (s.port n).miSeen = false) (third : 3 ≤ (s.port n).miNone) :
    s.periodTick n = ((miAwaited s n).laneLost n [4]).motionPeriod n := by
  have lost : ((miAwaited s n).lane n 4 == 2 && decide (4 ≤ ((miAwaited s n).port n).miNone)) = true := by
    rw [lane_miAwaited, miNone_miAwaited, up, unseen]
    simp [third]
  exact congrArg (State.motionPeriod · n) (if_pos lost)

theorem miAwaited_of_unseen (unseen : (s.port n).miSeen = false) :
    miAwaited s n =
      (s.setPort n (fun p => { p with miNone := p.miNone + 1, miGood := 0, moGood := 0 })).setSpindle n (fun p => { p with lossDecel := false }) := by
  unfold miAwaited
  rw [setPort_congr (g' := fun p => { p with miNone := p.miNone + 1, miGood := 0, moGood := 0 })]
  simp [unseen]

end Period

/-! ## The observer (R126) -/

section Observe

variable {s : State} {n : Nat}

theorem observe_of_state (ol : s.spinState n ≠ 3) (run : s.spinState n ≠ 4) : s.observe n = s := if_pos ⟨ol, run⟩

theorem observe_of_weak (run : s.spinState n = 4)
    (weak : vecLen (backEmf (s.spin n).cur (s.spin n).curLast (s.spin n).dutiesLast (s.vMeas n) (s.fld (MOT_PARAM n) MOT_PARAM_RS : Nat)
      (s.fld (MOT_PARAM n) MOT_PARAM_LS : Nat)) < s.fld (MOT_CATCH n) MOT_CATCH_VTH * 2 ^ 20) :
    ((s.observe n).spin n).resBad = (s.spin n).resBad + 1 ∧ ((s.observe n).spin n).resGood = 0 := by
  have threshold : s.fld (MOT_OBS n) MOT_OBS_RES_THR < 65536 := Nat.mod_lt _ (by decide)
  unfold State.observe
  rw [if_neg (by omega)]
  extract_lets p th e emf eps bw pll u bad s1
  have one : eps = 65536 := if_pos (.inl weak)
  have above : bad = true := by simp [bad, one, threshold]
  have shown : ((s1.showSpeed n).setFld (MOT_ANGLE n) MOT_ANGLE_EMF (min 65535 (rnd emf (2 ^ 20)).toNat)).spin n = s1.spin n := rfl
  rw [shown, spin_setSpindle]
  exact ⟨if_pos above, if_pos above⟩

end Observe

end Sys2Proof
end

section
/-! The statement about the lanes' blocks and frames. -/

namespace Sys2Proof

open Machine

/-- Settles O15: block by block, frame by frame and period by period. A valid MI frame's reaction to a regeneration fault neither fails the
port nor counts a failed MO frame (`MoWell.supervise`), so nothing follows the bus supervisor; a group's four samples are one change of the
read channel (`setRd_four`); of the invalid sync headers within 1,024 blocks none is forgotten (`noteSync_of_fifteen`). -/
theorem laneBlocksAndFrames : Obligations.LaneBlocksAndFrames := by
  unfold Obligations.LaneBlocksAndFrames
  refine ⟨?header, ?other, ?sixteenth, ?reported, ?newEpoch, ?servo, ?servoInvalid, ?samples, ?epoch, ?sent, ?control,
    ?servoEpoch, ?silent, ?headers, ?invalid, ?turning, ?catching, ?period, ?lost, ?atRest, ?weak⟩
  case header => exact fun n k b s lane control header => exec_of_saHeader (saHeader_of_header lane control header)
  case other => exact fun n k b s lane other => exec_of_saHeader (saHeader_of_lane lane other)
  case sixteenth => exact fun n k b l i s seen fifteen recent => noteSync_of_fifteen seen fifteen recent
  case reported => exact fun n e errs lock s seen => clReport_of_seen seen
  case newEpoch => exact fun n e errs lock s new => clReport_of_new new
  case servo => exact fun n k b s servo up control type => exec_of_servoBlock (servoBlock_of_valid servo up control type)
  case servoInvalid => exact fun n k b s servo up invalid => exec_of_servoBlock (servoBlock_of_invalid servo up invalid)
  case samples => exact fun n k g b s up => exec_of_sampleGroup (sampleGroup_of_up g b up)
  case epoch => exact fun n s run lane => exec_of_clEpoch (clEpoch_of_sent run lane)
  case sent => exact fun n s => clSendEpoch_eq s n
  case control => exact fun n type fields s => rfl
  case servoEpoch => exact servoEpoch_facts
  case silent => exact fun n s run lane => exec_of_clEpoch (clEpoch_of_silent run lane)
  case headers => exact fun n s sa0 sa1 new => missHeaders_of_new sa0 sa1 new
  case invalid => exact fun n cs s invalid => exec_of_miFrame (miReceived_of_invalid invalid)
  case turning =>
    intro n cs b s frame trips mo unfailed chopper state
    rw [← spinState_miCounted (b.getD 0 0).toNat] at state
    exact exec_of_miFrame ((miReceived_of_valid frame trips mo unfailed chopper).trans (congrArg (State.supervise · n) (miSampled_of_turning state _)))
  case catching =>
    intro n cs b s frame trips mo unfailed chopper state
    rw [← spinState_miCounted (b.getD 0 0).toNat] at state
    exact exec_of_miFrame ((miReceived_of_valid frame trips mo unfailed chopper).trans (congrArg (State.supervise · n) (miSampled_of_catching state _)))
  case period => exact fun n s heard => exec_of_motionPeriod (periodTick_of_heard heard)
  case lost =>
    intro n s up unseen third v u
    have awaited : u = miAwaited s n := (miAwaited_of_unseen unseen).symm
    rw [awaited]
    exact exec_of_motionPeriod (periodTick_of_lost up unseen third)
  case atRest => exact fun n s ol run => observe_of_state ol run
  case weak => exact fun n s run weak => observe_of_weak run weak

end Sys2Proof
end

section
/-!
SUPPORT. The servo of a station: its loops and its own fields after a change, and what a sample of the control law does to them (R99).
-/

namespace Sys2Proof

open Machine

/-! ## Reading a loop -/

@[simp] theorem loopIx_val (L : Fin 8) : loopIx L.val = L := Fin.ext (Nat.mod_eq_of_lt L.isLt)

section Read

variable (s : State) (n : Nat)

@[simp] theorem loop_setBit (r : Reg) (f : Fld) (b : Bool) (m L : Nat) : (s.setBit r f b).loop m L = s.loop m L := rfl

@[simp] theorem loop_setFldInt (r : Reg) (f : Fld) (v : Int) (m L : Nat) : (s.setFldInt r f v).loop m L = s.loop m L := rfl

@[simp] theorem servo_setBit (r : Reg) (f : Fld) (b : Bool) (m : Nat) : (s.setBit r f b).servo m = s.servo m := rfl

@[simp] theorem servo_setFldInt (r : Reg) (f : Fld) (v : Int) (m : Nat) : (s.setFldInt r f v).servo m = s.servo m := rfl

@[simp] theorem mode_setLoop (L : Nat) (g : Loop → Loop) (m M : Nat) : (s.setLoop n L g).mode m M = s.mode m M := rfl

@[simp] theorem servo_setServo (g : Servo → Servo) : (s.setServo n g).servo n = g (s.servo n) := by
  simp only [State.servo, State.setServo, State.station_setStn_same]

theorem servo_setLoop (L : Nat) (g : Loop → Loop) :
    (s.setLoop n L g).servo n = { s.servo n with loops := (s.servo n).loops.set (loopIx L) (g (s.loop n L)) } := by
  simp only [State.servo, State.setLoop, State.loop, State.station_setStn_same]

@[simp] theorem loop_setLoop (L : Nat) (g : Loop → Loop) : (s.setLoop n L g).loop n L = g (s.loop n L) := by
  simp only [State.loop, State.setLoop, State.station_setStn_same, Fin.getElem_fin, Vector.getElem_set_self]

theorem loop_setLoop_other {L M : Nat} (h : loopIx L ≠ loopIx M) (g : Loop → Loop) : (s.setLoop n L g).loop n M = s.loop n M := by
  have apart : (loopIx L).val ≠ (loopIx M).val := fun e => h (Fin.ext e)
  simp only [State.loop, State.setLoop, State.station_setStn_same, Fin.getElem_fin, Vector.getElem_set_ne _ _ apart]

end Read

/-! ## The parts of a sample (R99, R102, R109) -/

section Sample

variable (s : State) (n L : Nat)

@[simp] theorem loop_showLimits (slewed : Bool) (k M : Nat) : (s.showLimits n L slewed).loop k M = s.loop k M := by
  simp only [State.showLimits, loop_setBit]

/-- What a sample's output does (R99, steps 5 to 7). -/
theorem output_eq (w : Int) : s.output n L w = ((s.setLoop n L (fun l => { l with y := (s.limited n L w).2 })).showLimits n L
    ((s.limited n L w).2 != (s.limited n L w).1)).setFldInt (LP_MON n L) LP_MON_OUT (driveWord (s.limited n L w).2) := by
  unfold State.output
  generalize s.limited n L w = p
  rfl

theorem loop_output (w : Int) : (s.output n L w).loop n L = { s.loop n L with y := (s.limited n L w).2 } := by
  rw [output_eq, loop_setFldInt, loop_showLimits, loop_setLoop]

theorem loop_output_other {M : Nat} (h : loopIx L ≠ loopIx M) (w : Int) : (s.output n L w).loop n M = s.loop n M := by
  rw [output_eq, loop_setFldInt, loop_showLimits, loop_setLoop_other s n h]

@[simp] theorem loop_monitor (e r m T : Int) (k M : Nat) : (s.monitor n L e r m T).loop k M = s.loop k M := rfl

theorem loop_countLock (e : Int) (cond : Bool) : ∃ good bad, (s.countLock n L e cond).loop n L = { s.loop n L with good := good, bad := bad } :=
  ⟨_, _, loop_setLoop s n L _⟩

theorem loop_countLock_other {M : Nat} (h : loopIx L ≠ loopIx M) (e : Int) (cond : Bool) : (s.countLock n L e cond).loop n M = s.loop n M :=
  loop_setLoop_other s n h _

theorem inj_setLoop (g : Loop → Loop) : ((s.setLoop n L g).servo n).inj = (s.servo n).inj := by rw [servo_setLoop]

theorem inj_output (w : Int) : ((s.output n L w).servo n).inj = (s.servo n).inj := by
  rw [output_eq, servo_setFldInt, State.showLimits, servo_setBit, servo_setBit, inj_setLoop]

theorem inj_countLock (e : Int) (cond : Bool) : ((s.countLock n L e cond).servo n).inj = (s.servo n).inj := inj_setLoop s n L _

@[simp] theorem servo_monitor (e r m T : Int) (k : Nat) : (s.monitor n L e r m T).servo k = s.servo k := rfl

/-! ## The mode in force stands -/

theorem mode_setBit_stat {f : Fld} (h : 2 < f.lo) (b : Bool) : (s.setBit (LP_STAT n L) f b).mode n L = s.mode n L :=
  s.fld_setFld_field _ _ f _ (by decide) (.inl h)

theorem mode_setFldInt_other {r : Reg} (h : r.key ≠ (LP_STAT n L).key) (f : Fld) (v : Int) : (s.setFldInt r f v).mode n L = s.mode n L :=
  s.fld_setFld_other _ _ _ h

theorem mon_ne_stat : (LP_MON n L).key ≠ (LP_STAT n L).key := by
  simp only [LP_MON, LP_STAT, stnKey]
  omega

theorem ref_ne_stat : (LP_REF n L).key ≠ (LP_STAT n L).key := by
  simp only [LP_REF, LP_STAT, stnKey]
  omega

theorem mode_output (w : Int) : (s.output n L w).mode n L = s.mode n L := by
  rw [output_eq, mode_setFldInt_other _ _ _ (mon_ne_stat n L), State.showLimits, mode_setBit_stat _ _ _ (by decide),
    mode_setBit_stat _ _ _ (by decide), mode_setLoop]

theorem mode_monitor (e r m T : Int) : (s.monitor n L e r m T).mode n L = s.mode n L := by
  rw [State.monitor, mode_setFldInt_other _ _ _ (ref_ne_stat n L), mode_setFldInt_other _ _ _ (ref_ne_stat n L),
    mode_setFldInt_other _ _ _ (mon_ne_stat n L), mode_setBit_stat _ _ _ (by decide)]

theorem mode_countLock (e : Int) (cond : Bool) : (s.countLock n L e cond).mode n L = s.mode n L := rfl

end Sample

/-! ## The control law (R99) -/

section Law

variable {s : State} {n L : Nat}

/-- R101: the optical loops and SLD have no feed-forward, and the others none where FF_MODE is 0. -/
theorem ff_of_none (h : L < 4 ∨ L = 7 ∨ s.fld (LP_CTL n L) LP_CTL_FF_MODE = 0) (b : Nat) (alpha : Int) : s.ff n L b alpha = .none := by
  refine if_pos ?_
  omega

theorem injNow_of_none (h : (s.servo n).inj = none) : s.injNow n L = 0 := by
  simp only [State.injNow, h]

theorem injStep_of_none (h : (s.servo n).inj = none) (v d : Int) (clipped : Bool) : s.injStep n L v d clipped = s := by
  simp only [State.injStep, h]

/-- R102: the set-point that a sample moves towards `T`. -/
def ramped (s : State) (n L : Nat) (T : Int) : Int :=
  satS 24 ((s.loop n L).r + clampI (-(s.slope n L)) (s.slope n L) (T - (s.loop n L).r))

/-- R99, steps 2 and 3: what the compensator makes of the error `e` in Q1.40, in Q8.40. -/
def compensated (s : State) (n L : Nat) (e : Int) : Int :=
  satS 48 (rnd (s.coef n L (s.loop n L).sel 0 * e
    + ((List.range (s.order n L)).map (fun i => s.coef n L (s.loop n L).sel (1 + i) * (s.loop n L).eh.getD i 0)).sum
    - ((List.range (s.order n L)).map (fun i => s.coef n L (s.loop n L).sel (4 + i) * (s.loop n L).uh.getD i 0)).sum) (2 ^ 28))

/-- R99, step 8: a history takes its newest value; the third is kept in the third order only. -/
def shifted (s : State) (n L : Nat) (x : Int) (h : List Int) : List Int :=
  [x, h.getD 0 0, if s.order n L = 3 then h.getD 1 0 else 0]

variable (plain : L < 4 ∨ L = 7 ∨ s.fld (LP_CTL n L) LP_CTL_FF_MODE = 0) (entered : (s.loop n L).enter = false) (still : (s.servo n).inj = none)

include plain entered still

/-- The law without feed-forward, injection, preset and first sample. -/
theorem autoSample_of_plain (m T : Int) (cond : Bool) :
    let r := ramped s n L T
    let e := satS 24 (r - m)
    let w := satS 48 (compensated s n L (e * 2 ^ 17))
    s.autoSample n L m T cond false =
      (((s.output n L w).setLoop n L (fun l => { l with
        r := r, m := m, enter := false, eh := shifted s n L (e * 2 ^ 17) l.eh,
        uh := shifted s n L ((s.output n L w).loop n L).y l.uh })).monitor n L e r m T).countLock n L e cond := by
  intro r e w
  unfold State.autoSample
  simp only [ff_of_none plain, entered, Bool.or_self, Bool.false_eq_true, ↓reduceIte, injNow_of_none still, Int.add_zero, Ff.apply, Ff.undo]
  rw [injStep_of_none]
  · rfl
  · rw [inj_countLock, servo_monitor, inj_setLoop, inj_output, still]

theorem loop_autoSample (m T : Int) (cond : Bool) :
    let e := satS 24 (ramped s n L T - m) * 2 ^ 17
    let y := (s.limited n L (satS 48 (compensated s n L e))).2
    ∃ good bad, (s.autoSample n L m T cond false).loop n L = { s.loop n L with
      r := ramped s n L T, m := m, y := y, enter := false, eh := shifted s n L e (s.loop n L).eh,
      uh := shifted s n L y (s.loop n L).uh, good := good, bad := bad } := by
  intro e y
  have output := loop_output s n L (satS 48 (compensated s n L e))
  rw [autoSample_of_plain plain entered still]
  refine (loop_countLock _ n L _ cond).imp fun good counted => counted.imp fun bad counted => counted.trans ?_
  rw [loop_monitor, loop_setLoop, output]

theorem loop_autoSample_other {M : Nat} (h : loopIx L ≠ loopIx M) (m T : Int) (cond : Bool) :
    (s.autoSample n L m T cond false).loop n M = s.loop n M := by
  rw [autoSample_of_plain plain entered still, loop_countLock_other _ n L h, loop_monitor, loop_setLoop_other _ n h, loop_output_other _ n L h]

theorem mode_autoSample (m T : Int) (cond : Bool) : (s.autoSample n L m T cond false).mode n L = s.mode n L := by
  rw [autoSample_of_plain plain entered still, mode_countLock, mode_monitor, mode_setLoop, mode_output]

end Law

end Sys2Proof
end

section
/-! The statement about the control law. -/

namespace Sys2Proof

open Machine

/-- Settles O12: the sample with no feed-forward, injection or preset (`autoSample_of_plain`), read loop by loop. -/
theorem theControlLaw : Obligations.TheControlLaw := by
  unfold Obligations.TheControlLaw
  intro n L m T cond s plain entered still l b N r e v y u
  obtain ⟨good, bad, own⟩ := loop_autoSample plain entered still m T cond
  have other (M : Fin 8) (h : M ≠ L) : u.loop n M = s.loop n M :=
    loop_autoSample_other plain entered still (by rw [loopIx_val, loopIx_val]; exact h.symm) m T cond
  exact ⟨congrArg Loop.y own, congrArg Loop.r own, congrArg Loop.m own, congrArg Loop.eh own, congrArg Loop.uh own,
    mode_autoSample plain entered still m T cond, other⟩

end Sys2Proof
end

section
/-!
The statements about lock and defects (R98, R109), and about tunes, injections and layer jumps (R112 to R116).
-/

namespace Sys2Proof

open Machine

/-! ## Each event is its function -/

section Exec

variable {s v : State} {n : Stn}

theorem exec_of_lockSet {L : Fin 8} (h : s.lockSet n L = v) : exec (.lockSet n L) s = .next (s.close v) := by rw [← h]; rfl

theorem exec_of_lockCleared {L : Fin 8} (h : s.lockCleared n L = v) : exec (.lockCleared n L) s = .next (s.close v) := by rw [← h]; rfl

theorem exec_of_defectTimeout (h : s.defectTimeout n = v) : exec (.defectTimeout n) s = .next (s.close v) := by rw [← h]; rfl

theorem exec_of_tuneDone (h : s.tuneDone n = v) : exec (.tuneDone n) s = .next (s.close v) := by rw [← h]; rfl

theorem exec_of_tuneTimeout (h : s.tuneTimeout n = v) : exec (.tuneTimeout n) s = .next (s.close v) := by rw [← h]; rfl

theorem exec_of_injectionDone (h : s.injDone n = v) : exec (.injectionDone n) s = .next (s.close v) := by rw [← h]; rfl

theorem exec_of_layerJump {m : Fin 16} (h : s.jumpStart n m = v) : exec (.layerJump n m) s = .next (s.close v) := by rw [← h]; rfl

theorem exec_of_jumpTimeout (h : s.jumpTimeout n = v) : exec (.jumpTimeout n) s = .next (s.close v) := by rw [← h]; rfl

theorem exec_of_crossingTimeout (h : s.crossingTimeout n = v) : exec (.crossingTimeout n) s = .next (s.close v) := by rw [← h]; rfl

end Exec

/-! ## Lock and defects (R98, R109) -/

section Lock

variable {s : State} {n L : Nat}

theorem lockSet_of_counted (auto : s.mode n L = 2) (unlocked : s.bit (LP_STAT n L) LP_STAT_LOCKED = false)
    (counted : 8 * max 1 (s.fld (LP_LOCK n L) LP_LOCK_LOCK_N) ≤ (s.loop n L).good) :
    s.lockSet n L = (((s.setBit (LP_STAT n L) LP_STAT_LOCKED true).jumpLocked n L).showValid n).checkWrite n := by
  refine if_neg ?_
  rw [unlocked]
  rintro (other | locked | early)
  · exact other auto
  · exact absurd locked (by decide)
  · omega

theorem lockSet_of_early (h : s.mode n L ≠ 2 ∨ (s.loop n L).good < 8 * max 1 (s.fld (LP_LOCK n L) LP_LOCK_LOCK_N)) : s.lockSet n L = s :=
  if_pos (h.imp_right .inr)

theorem loseLock_of_locked (locked : s.bit (LP_STAT n L) LP_STAT_LOCKED = true) :
    let v := ((s.setBit (LP_STAT n L) LP_STAT_LOCKED false).setBit (LP_STAT n L) LP_STAT_LOSTLK true).raiseStn n 4 [L]
    s.loseLock n L = if L < 4 then v.trapCause n 9 L else v := by
  refine if_neg ?_
  rw [locked]
  decide

theorem lockCleared_of_counted (locked : s.bit (LP_STAT n L) LP_STAT_LOCKED = true)
    (counted : max 1 (s.fld (LP_LOCK n L) LP_LOCK_LOST_N) ≤ (s.loop n L).bad) :
    s.lockCleared n L = ((s.loseLock n L).showValid n).checkWrite n := by
  refine if_neg ?_
  rw [locked]
  rintro (unlocked | early)
  · exact absurd unlocked (by decide)
  · omega

theorem defectTimeout_of_long (lasts : (s.servo n).defect = true) (fresh : (s.servo n).defStuck = false)
    (long : s.fld (SV_SENSE n) SV_SENSE_DEF_MAX < (s.servo n).defLen) :
    s.defectTimeout n = ((((((s.setServo n (fun v => { v with defStuck := true })).setLoop n 0
      (fun l => { l with stuck := l.held, good := 0, bad := 0 })).setLoop n 1
      (fun l => { l with stuck := l.held, good := 0, bad := 0 })).loseLock n 0).loseLock n 1).checkWrite n) := by
  have due : ¬ (s.servo n).defLen ≤ s.fld (SV_SENSE n) SV_SENSE_DEF_MAX := by omega
  simp only [State.defectTimeout, lasts, fresh, due, decide_false, Bool.not_true, Bool.or_self, Bool.false_eq_true, ↓reduceIte,
    List.foldl_cons, List.foldl_nil]

end Lock

/-- Settles O13, from what the counted samples and the defect's length say. -/
theorem lockAndDefects : Obligations.LockAndDefects := by
  unfold Obligations.LockAndDefects
  refine ⟨?rises, ?early, ?falls, ?long⟩
  case rises => exact fun n L s auto unlocked counted => exec_of_lockSet (lockSet_of_counted auto unlocked counted)
  case early => exact fun n L s h => exec_of_lockSet (lockSet_of_early h)
  case falls =>
    intro n L s locked counted v
    refine exec_of_lockCleared ((lockCleared_of_counted locked counted).trans ?_)
    rw [loseLock_of_locked locked]
    rfl
  case long => exact fun n s lasts fresh long => exec_of_defectTimeout (defectTimeout_of_long lasts fresh long)

/-! ## Tunes and injections (R114 to R116) -/

section Measurements

variable {s : State} {n : Nat}

theorem tuneDone_of_switched {t : Tune} (runs : (s.servo n).tune = some t) (switched : 11 ≤ t.switches) (swung : 0 < satS 24 (rnd t.span 16)) :
    let a := satS 24 (rnd t.span 16)
    let ku := rnd ((s.fld (SV_TUNE n) SV_TUNE_H : Nat) * 2 ^ 88) (piQ * a.natAbs)
    s.tuneDone n = (((s.setReg (SV_TUNE_TU n) (BitVec.ofNat 32 (min (2 * t.counted) (2 ^ 20 - 1)))).setFld
      (SV_TUNE_A n) SV_TUNE_A_A a.toNat).setReg (SV_TUNE_KU n) (BitVec.ofNat 32 (min ku.toNat (2 ^ 32 - 1)))).endTune n 2 := by
  have complete : ¬ t.switches < 11 := by omega
  have positive : ¬ satS 24 (rnd t.span 16) ≤ 0 := by omega
  simp only [State.tuneDone, runs, complete, positive, ↓reduceIte]

/-- The registers of a tune lie beside the loops' status. -/
theorem mode_setReg_of_key {r : Reg} {L : Nat} (h : r.key % 64 ≠ 4) (w : Word) : (s.setReg r w).mode n L = s.mode n L := by
  refine s.fld_setReg_other w _ fun same => h ?_
  rw [same]
  simp only [LP_STAT, stnKey]
  omega

theorem tuneKeys (n : Nat) : (SV_TUNE_CTL n).key % 64 ≠ 4 ∧ (SV_TUNE_KU n).key % 64 ≠ 4 ∧ (SV_TUNE_TU n).key % 64 ≠ 4
    ∧ (SV_TUNE_A n).key % 64 ≠ 4 := by
  simp only [SV_TUNE_CTL, SV_TUNE_KU, SV_TUNE_TU, SV_TUNE_A, stnKey]
  omega

/-- R115: a tune that ends early leaves no result, and its loop returns to the mode that it left. -/
theorem endTune_of_early {t : Tune} {st : Nat} (runs : (s.servo n).tune = some t) (early : st ≠ 2) (tuning : s.mode n t.loop = 3) :
    s.endTune n st = (((((s.setServo n (fun v => { v with tune := none })).setFld (SV_TUNE_CTL n) SV_TUNE_CTL_STATUS st).setReg
      (SV_TUNE_KU n) 0).setReg (SV_TUNE_TU n) 0).setReg (SV_TUNE_A n) 0).setLoop n t.loop
      (fun l => { l with newMode := some t.back, newHw := false, restore := if t.back = 1 then some t.u0 else none }) := by
  obtain ⟨ctl, ku, tu, a⟩ := tuneKeys n
  have still : (((((s.setServo n (fun v => { v with tune := none })).setFld (SV_TUNE_CTL n) SV_TUNE_CTL_STATUS st).setReg
      (SV_TUNE_KU n) 0).setReg (SV_TUNE_TU n) 0).setReg (SV_TUNE_A n) 0).mode n t.loop = 3 := by
    rw [mode_setReg_of_key a, mode_setReg_of_key tu, mode_setReg_of_key ku, State.setFld, mode_setReg_of_key ctl]
    exact tuning
  simp only [State.endTune, runs, early, still, ne_eq, not_true_eq_false, ↓reduceIte]

theorem tuneTimeout_of_late {t : Tune} (runs : (s.servo n).tune = some t) (unfinished : t.switches < 11)
    (late : 64 * s.fld (SV_TUNE_CTL n) SV_TUNE_CTL_TMO ≤ t.total) : s.tuneTimeout n = s.endTune n 3 := by
  simp only [State.tuneTimeout, runs, unfinished, late, and_self, ↓reduceIte]

theorem injDone_of_wrapped {i : Inj} (runs : (s.servo n).inj = some i) (wrapped : max 1 (s.fld (SV_INJ_CTL n) SV_INJ_CTL_NCYC) ≤ i.wraps)
    (moved : i.yc * i.yc + i.ys * i.ys ≠ 0) :
    let mag := rootQ24 (i.vc * i.vc + i.vs * i.vs).toNat (i.yc * i.yc + i.ys * i.ys).toNat
    let ph := angleOf (-(i.vc * i.yc + i.vs * i.ys)) (-(i.vc * i.ys - i.vs * i.yc))
    s.injDone n = ((s.setReg (SV_INJ_MAG n) (BitVec.ofNat 32 (min mag (2 ^ 32 - 1)))).setFld (SV_INJ_PH n) SV_INJ_PH_PH ph).endInj n 2 := by
  have complete : ¬ i.wraps < s.injWraps n := by
    unfold State.injWraps
    omega
  simp only [State.injDone, runs, complete, moved, ↓reduceIte]

end Measurements

/-! ## Layer jumps (R112) -/

section Jumps

variable {s : State} {n m : Nat}

theorem jumpStart_of_locked (elsewhere : m ≠ s.fld (SV_JUMP n) SV_JUMP_CUR) (idle : (s.servo n).jump = none)
    (foc : s.bit (LP_STAT n 0) LP_STAT_LOCKED = true) (trk : s.bit (LP_STAT n 1) LP_STAT_LOCKED = true) :
    let v := (s.setFld (SV_JUMP n) SV_JUMP_STATUS 1).setJump n ⟨s.fld (SV_JUMP n) SV_JUMP_CUR, m, 2, 0, 0, 0⟩
    let w := (v.forceMode n 2 4).forceMode n 3 1
    s.jumpStart n m = (w.setFld (LP_DRV n 3) LP_DRV_MAN (w.fld (SV_LAYER n m) SV_LAYER_SAP)).checkWrite n := by
  simp only [State.jumpStart, elsewhere, idle, foc, trk, Option.isSome_none, Bool.and_self, Bool.not_true, Bool.false_eq_true, or_self, ↓reduceIte]

theorem jumpStart_of_unlocked (elsewhere : m ≠ s.fld (SV_JUMP n) SV_JUMP_CUR) (idle : (s.servo n).jump = none)
    (unlocked : s.bit (LP_STAT n 0) LP_STAT_LOCKED = false ∨ s.bit (LP_STAT n 1) LP_STAT_LOCKED = false) :
    s.jumpStart n m = s.setFld (SV_JUMP n) SV_JUMP_STATUS 5 := by
  have lost : (s.bit (LP_STAT n 0) LP_STAT_LOCKED && s.bit (LP_STAT n 1) LP_STAT_LOCKED) = false := Bool.and_eq_false_iff.mpr unlocked
  simp only [State.jumpStart, elsewhere, idle, lost, Option.isSome_none, Bool.not_false, Bool.false_eq_true, or_self, ↓reduceIte]

theorem jumpFail_of_jump {j : Jump} (runs : (s.servo n).jump = some j) (st : Nat) :
    let uf := if j.step ≤ 2 then (s.loop n 0).y else j.uf
    let v := (s.setServo n (fun v => { v with jump := none })).setFld (SV_JUMP n) SV_JUMP_STATUS st
    let w := (v.forceMode n 0 1).setFldInt (LP_DRV n 0) LP_DRV_MAN (driveWord uf)
    let w := ((w.forceMode n 1 4).forceMode n 2 4).forceMode n 3 1
    s.jumpFail n st = ((((w.loseLock n 0).loseLock n 1).loseLock n 2).loseLock n 3).checkWrite n := by
  simp only [State.jumpFail, runs, List.foldl_cons, List.foldl_nil]

theorem crossingTimeout_of_crossing {j : Jump} (runs : (s.servo n).jump = some j) (crossing : j.step = 3 ∨ j.step = 4) :
    s.crossingTimeout n = s.jumpFail n 3 := by
  simp only [State.crossingTimeout, runs, crossing, ↓reduceIte]

end Jumps

/-- Settles O14, event by event: each gives its function's branch for the state that the clause names. -/
theorem tuneInjectionAndJump : Obligations.TuneInjectionAndJump := by
  unfold Obligations.TuneInjectionAndJump
  refine ⟨?tuned, ?tuneLate, ?injected, ?jumps, ?unlocked, ?fails⟩
  case tuned => exact fun n t s runs switched swung => exec_of_tuneDone (tuneDone_of_switched runs switched swung)
  case tuneLate =>
    intro n t s runs unfinished late tuning back
    refine exec_of_tuneTimeout ((tuneTimeout_of_late runs unfinished late).trans ?_)
    rw [endTune_of_early runs (by decide) tuning, back]
    rfl
  case injected => exact fun n i s runs wrapped moved => exec_of_injectionDone (injDone_of_wrapped runs wrapped moved)
  case jumps => exact fun n m s elsewhere idle foc trk => exec_of_layerJump (jumpStart_of_locked elsewhere idle foc trk)
  case unlocked => exact fun n m s elsewhere idle unlocked => exec_of_layerJump (jumpStart_of_unlocked elsewhere idle unlocked)
  case fails =>
    rintro n j c st s runs (⟨rfl, rfl⟩ | ⟨rfl, rfl, crossing⟩)
    · exact exec_of_jumpTimeout (jumpFail_of_jump runs 4)
    · exact exec_of_crossingTimeout ((crossingTimeout_of_crossing runs crossing).trans (jumpFail_of_jump runs 3))

end Sys2Proof
end

section
/-!
SUPPORT. What the watch over a band that is being written leaves of the servo (R98, R119, R201): whatever a hold or an end brings about, it
changes no loop, defect, tune, injection or jump; a task that ends with it only gives up its claim to the loops.
-/

namespace Sys2Proof

open Machine

/-- Of the stations `l`, the servo of station `k`. -/
def servoIn (l : Vector Station 16) (k : Nat) : Servo := l[toStn k].servo

/-- A change of a station beside its servo. -/
@[simp] theorem setStn_servoIn (s : State) (n : Stn) (k : Nat) {g : Station → Station} (h : ∀ t, (g t).servo = t.servo) :
    servoIn (s.setStn n g).stn k = servoIn s.stn k := by
  by_cases same : n = toStn k
  · subst same
    simp [servoIn, State.setStn, h]
  · have other : n.val ≠ (toStn k).val := fun e => same (Fin.ext e)
    simp only [servoIn, State.setStn, Fin.getElem_fin, Vector.getElem_set_ne _ _ other]

theorem foldl_servoIn {α : Type} {f : State → α → State} {k : Nat} (h : ∀ v a, servoIn (f v a).stn k = servoIn v.stn k) (l : List α)
    (s : State) :
    servoIn (l.foldl f s).stn k = servoIn s.stn k := by
  induction l generalizing s with
  | nil => rfl
  | cons a l ih => exact (ih _).trans (h s a)

section Frames

variable (s : State) (k n : Nat)

@[simp] theorem setRd_servoIn (g : ReadCh → ReadCh) : servoIn (s.setRd n g).stn k = servoIn s.stn k :=
  setStn_servoIn s _ k fun _ => rfl

@[simp] theorem setBw_servoIn (g : BandWrite → BandWrite) : servoIn (s.setBw n g).stn k = servoIn s.stn k :=
  setStn_servoIn s _ k fun _ => rfl

@[simp] theorem trapCause_servoIn (c info : Nat) : servoIn (s.trapCause n c info).stn k = servoIn s.stn k :=
  setStn_servoIn _ _ k fun _ => rfl

@[simp] theorem showValid_servoIn : servoIn (s.showValid n).stn k = servoIn s.stn k := by
  unfold State.showValid
  extract_lets t valid u
  have waited : servoIn u.stn k = servoIn s.stn k := by
    subst u
    split <;> simp
  rw [setBit_stn, waited]

@[simp] theorem loseLock_servoIn (L : Nat) : servoIn (s.loseLock n L).stn k = servoIn s.stn k := by
  unfold State.loseLock
  dsimp only
  split_ifs <;> simp

/-! ## Blocks for CL, and lanes that train -/

@[simp] theorem clPut_servoIn (data : Bool) (payload : Nat) : servoIn (s.clPut n data payload).stn k = servoIn s.stn k :=
  setStn_servoIn s _ k fun _ => rfl

@[simp] theorem powerOff_servoIn : servoIn (s.powerOff n).stn k = servoIn s.stn k := by
  unfold State.powerOff
  refine (setStn_servoIn _ _ k (by exact fun _ => rfl)).trans ?_
  split
  · exact clPut_servoIn s k n _ _
  · rfl

@[simp] theorem powerOffNow_servoIn : servoIn (s.powerOffNow n).stn k = servoIn s.stn k :=
  (powerOff_servoIn _ k n).trans (setStn_servoIn s _ k (by exact fun _ => rfl))

@[simp] theorem resendSet_servoIn : servoIn (s.resendSet n).stn k = servoIn s.stn k := by
  have sent (layer zone stab : Nat) : servoIn (s.sendSet n layer zone stab).stn k = servoIn s.stn k := by
    unfold State.sendSet
    dsimp only
    split_ifs <;> simp [foldl_servoIn]
  unfold State.resendSet
  dsimp only
  repeat' split
  all_goals simp [sent]

@[simp] theorem freshTraining_servoIn (ks : List Nat) : servoIn (s.freshTraining n ks).stn k = servoIn s.stn k := by
  unfold State.freshTraining
  dsimp only
  split <;> simp

@[simp] theorem trainLanes_servoIn (ks : List Nat) (full : Bool) : servoIn (s.trainLanes n ks full).stn k = servoIn s.stn k := by
  unfold State.trainLanes
  dsimp only
  split_ifs <;> simp [foldl_servoIn, State.setLane]

/-! ## A task ends -/

@[simp] theorem unmove_servoIn : servoIn (s.unmove n).stn k = servoIn s.stn k := by
  unfold State.unmove State.moveTarget
  dsimp only
  repeat' split
  all_goals simp

@[simp] theorem slotEnd_servoIn (t : Option Task) : servoIn (s.slotEnd n t).stn k = servoIn s.stn k := by
  have ended : servoIn (s.slotOver n).stn k = servoIn s.stn k := by
    unfold State.slotOver
    dsimp only
    split <;> simp
  unfold State.slotEnd
  dsimp only
  repeat' split
  all_goals simp [ended]

@[simp] theorem applyMode_servoIn : servoIn (s.applyMode n).stn k = servoIn s.stn k := by
  unfold State.applyMode
  dsimp only
  split <;> simp

@[simp] theorem passAgain_servoIn : servoIn (s.passAgain n).stn k = servoIn s.stn k := by
  unfold State.passAgain
  dsimp only
  repeat' split
  all_goals simp

@[simp] theorem restore0_servoIn (b : Bytes) : servoIn (s.restore0 n b).stn k = servoIn s.stn k :=
  setStn_servoIn _ _ k (by exact fun _ => rfl)

@[simp] theorem resumeSuspended_servoIn : servoIn (s.resumeSuspended n).stn k = servoIn s.stn k := by
  have args (v : State) (w : Nat → Word) :
      servoIn ((List.range 6).foldl (fun v i => v.setReg (TASK_ARG n i) (w i)) v).stn k = servoIn v.stn k :=
    foldl_servoIn (f := fun v i => v.setReg (TASK_ARG n i) (w i)) (fun _ _ => rfl) _ v
  unfold State.resumeSuspended
  extract_lets b s1 s2 s3 tw s4 s5 s6 s7 s8
  have again : servoIn s8.stn k = servoIn s.stn k := calc
    servoIn s8.stn k = servoIn s7.stn k := passAgain_servoIn s7 k n
    _ = servoIn s6.stn k := setStn_servoIn s6 _ k (by exact fun _ => rfl)
    _ = servoIn s4.stn k := rfl
    _ = servoIn s3.stn k := setStn_servoIn s3 _ k (by exact fun _ => rfl)
    _ = servoIn s2.stn k := args s2 _
    _ = servoIn s1.stn k := rfl
    _ = servoIn s.stn k := restore0_servoIn s k n _
  split <;> exact again

/-! ## A band that is held -/

@[simp] theorem stepBack_servoIn : servoIn (s.stepBack n).stn k = servoIn s.stn k := setBw_servoIn _ k n _

@[simp] theorem freeze_servoIn : servoIn (s.freeze n).stn k = servoIn s.stn k := by
  unfold State.freeze
  split <;> simp

@[simp] theorem refreeze_servoIn : servoIn (s.refreeze n).stn k = servoIn s.stn k := by
  unfold State.refreeze
  repeat' split
  all_goals simp

@[simp] theorem closeEarly_servoIn (m : Nat) (failed : List Nat) : servoIn (s.closeEarly n m failed).stn k = servoIn s.stn k := by
  unfold State.closeEarly
  dsimp only
  repeat' split
  all_goals simp

@[simp] theorem longHold_servoIn (cut : Nat) : servoIn (s.longHold n cut).stn k = servoIn s.stn k := by
  unfold State.longHold
  extract_lets s1 s2 s3 s4
  have early : servoIn s4.stn k = servoIn s.stn k := by
    simp only [s4, s3, s2, s1, setBw_servoIn, closeEarly_servoIn, trapCause_servoIn, setBit_stn]
  split_ifs
  · rw [freeze_servoIn, early]
  · rw [refreeze_servoIn, early]

@[simp] theorem skipSlots_servoIn (cut : Nat) : servoIn (s.skipSlots n cut).stn k = servoIn s.stn k := by
  unfold State.skipSlots
  dsimp only
  split <;> simp

end Frames

/-! ## A task ends, a band ends or is held: where no task claims the loops, the servo stands (R119) -/

section Free

variable {s : State} {k : Nat} (free : (servoIn s.stn k).taking = false) (n : Nat)

include free

theorem setStn_servoIn_of_free (m : Stn) {g : Station → Station} (h : ∀ t, t.servo.taking = false → (g t).servo = t.servo) :
    servoIn (s.setStn m g).stn k = servoIn s.stn k := by
  by_cases same : m = toStn k
  · subst same
    have now : servoIn (s.setStn (toStn k) g).stn k = (g s.stn[toStn k]).servo := by simp [servoIn, State.setStn]
    exact now.trans (h _ free)
  · have other : m.val ≠ (toStn k).val := fun e => same (Fin.ext e)
    simp only [servoIn, State.setStn, Fin.getElem_fin, Vector.getElem_set_ne _ _ other]

theorem endTask_servoIn (st : Status) : servoIn (s.endTask n st).stn k = servoIn s.stn k := by
  unfold State.endTask
  split
  · rfl
  extract_lets t? s1 s2 s3 s4 s5 s6 w s7 s8 s9 s10 s11 s12
  have result : servoIn s8.stn k = servoIn s7.stn k := by
    subst s8
    cases t? with
    | some t => exact congrArg (servoIn · k) (taskResult_stn s7 t st)
    | none => rfl
  have ended : servoIn s12.stn k = servoIn s.stn k := calc
    servoIn s12.stn k = servoIn s11.stn k := applyMode_servoIn s11 k n
    _ = servoIn s10.stn k := slotEnd_servoIn s10 k n t?
    _ = servoIn s9.stn k := rfl
    _ = servoIn s8.stn k := setRd_servoIn s8 k n _
    _ = servoIn s7.stn k := result
    _ = servoIn s6.stn k := unmove_servoIn _ k n
    _ = servoIn s.stn k := setStn_servoIn_of_free (s := s5) free _ fun t quiet => by
      obtain ⟨_, servo, _⟩ := t
      exact congrArg (fun b => { servo with taking := b }) quiet.symm
  split
  · split
    · exact ended
    · rw [resumeSuspended_servoIn, ended]
  · rw [switchBank_stn, ended]

theorem bandOver_servoIn (st : Status) : servoIn (s.bandOver n st).stn k = servoIn s.stn k := by
  unfold State.bandOver
  extract_lets due s1 s2 s3
  have cleared : servoIn s1.stn k = servoIn s.stn k := setStn_servoIn s _ k (by exact fun _ => rfl)
  have trained : servoIn s3.stn k = servoIn s.stn k := by
    subst s3
    split
    · rw [freshTraining_servoIn, trainLanes_servoIn]
      exact cleared
    · exact cleared
  rw [showPre_stn]
  split
  · rw [endTask_servoIn (by rw [trained, free]), trained]
  · exact trained

theorem abandon_servoIn (st : Status) : servoIn (s.abandon n st).stn k = servoIn s.stn k := by
  unfold State.abandon
  split
  · rfl
  extract_lets s1 s2 s3 s4 s5 s6
  have late : servoIn s2.stn k = servoIn s.stn k := by
    rw [powerOffNow_servoIn]
    subst s1
    split <;> rfl
  have told : servoIn s3.stn k = servoIn s.stn k := by
    subst s3
    split
    · rw [trapCause_servoIn, late]
    · exact late
  have gone : servoIn s6.stn k = servoIn s.stn k := calc
    servoIn s6.stn k = servoIn s5.stn k := by
      subst s6
      split <;> simp
    _ = servoIn s4.stn k := setStn_servoIn s4 _ k (by exact fun _ => rfl)
    _ = servoIn s3.stn k := by rw [bandVoid_stn]
    _ = servoIn s.stn k := told
  rw [checkVault_stn, bandOver_servoIn (by rw [gone, free]), gone]

theorem holdPoint_servoIn (cut : Nat) : servoIn (s.holdPoint n cut).stn k = servoIn s.stn k := by
  unfold State.holdPoint
  split
  · rfl
  extract_lets s1 s2
  have cut : servoIn s2.stn k = servoIn s.stn k := setBw_servoIn s k n _
  split_ifs
  · rw [abandon_servoIn (by rw [cut, free]), cut]
  · simp [cut]
  · simp [cut]

theorem beginHold_servoIn (causes : List Nat) : servoIn (s.beginHold n causes).stn k = servoIn s.stn k := by
  unfold State.beginHold
  split
  · rfl
  extract_lets old back s1 s2 s3 s4
  have held : servoIn s4.stn k = servoIn s.stn k := calc
    servoIn s4.stn k = servoIn s3.stn k := by rw [trapCause_servoIn, raiseStn_stn]
    _ = servoIn s.stn k := setBw_servoIn s k n _
  clear_value old
  cases old with
  | some c => exact (holdPoint_servoIn (by rw [held, free]) n c).trans held
  | none => exact held

theorem checkWrite_servoIn : servoIn (s.checkWrite n).stn k = servoIn s.stn k := by
  unfold State.checkWrite
  extract_lets s1 bad recovering
  have shown : servoIn s1.stn k = servoIn s.stn k := by rw [showPre_stn]
  have held : servoIn (s1.beginHold n bad).stn k = servoIn s.stn k := (beginHold_servoIn (by rw [shown, free]) n bad).trans shown
  have recovered : servoIn recovering.stn k = servoIn s.stn k := (setBw_servoIn s1 k n _).trans shown
  split
  · exact shown
  split
  · exact shown
  split
  · split
    · exact shown
    · exact held
  split
  · split
    · exact shown
    · rw [trapCause_servoIn, setBit_stn, recovered]
  split
  · exact held
  · rw [setBw_servoIn, shown]

end Free

/-- R119: where no task claims the loops, a change of the write preconditions leaves the servo as it is. -/
theorem servo_checkWrite {s : State} {k : Nat} (free : (s.servo k).taking = false) (n : Nat) : (s.checkWrite n).servo k = s.servo k :=
  checkWrite_servoIn free n

end Sys2Proof
end

section
/-!
SUPPORT. A loop's sample (R95, R98, R99, R103, R105): the changes before it, the law of each mode, and what follows it for each loop.
-/

namespace Sys2Proof

open Machine

/-! ## Claims and defects (R98, R119) -/

/-- What station `n` keeps of a task that claims its loops and of a defect that lasts. -/
def marks (s : State) (n : Nat) : Bool × Bool := ((s.servo n).taking, (s.servo n).defect)

section Marks

variable (s : State) (n : Nat)

@[simp] theorem marks_setFld (r : Reg) (f : Fld) (v : Nat) : marks (s.setFld r f v) n = marks s n := rfl

@[simp] theorem marks_setFldInt (r : Reg) (f : Fld) (v : Int) : marks (s.setFldInt r f v) n = marks s n := rfl

@[simp] theorem marks_setReg (r : Reg) (w : Word) : marks (s.setReg r w) n = marks s n := rfl

@[simp] theorem marks_setBit (r : Reg) (f : Fld) (b : Bool) : marks (s.setBit r f b) n = marks s n := rfl

@[simp] theorem marks_setLoop (L : Nat) (g : Loop → Loop) : marks (s.setLoop n L g) n = marks s n := by
  simp only [marks, servo_setLoop]

@[simp] theorem marks_setServo {g : Servo → Servo} (h : ∀ v, (g v).taking = v.taking ∧ (g v).defect = v.defect) :
    marks (s.setServo n g) n = marks s n := by
  obtain ⟨taking, defect⟩ := h (s.servo n)
  simp only [marks, servo_setServo, taking, defect]

@[simp] theorem marks_loseLock (L : Nat) : marks (s.loseLock n L) n = marks s n := by
  have same : (s.loseLock n L).servo n = s.servo n := loseLock_servoIn s n n L
  simp only [marks, same]

@[simp] theorem marks_showValid : marks (s.showValid n) n = marks s n := by
  have same : (s.showValid n).servo n = s.servo n := showValid_servoIn s n n
  simp only [marks, same]

@[simp] theorem marks_endTune (st : Nat) : marks (s.endTune n st) n = marks s n := by
  unfold State.endTune
  dsimp only
  repeat' split
  all_goals simp

@[simp] theorem marks_output (L : Nat) (w : Int) : marks (s.output n L w) n = marks s n := by
  rw [output_eq, marks_setFldInt, State.showLimits, marks_setBit, marks_setBit, marks_setLoop]

@[simp] theorem marks_monitor (L : Nat) (e r m T : Int) : marks (s.monitor n L e r m T) n = marks s n := rfl

@[simp] theorem marks_preset (L b : Nat) (ff : Ff) : marks (s.preset n L b ff) n = marks s n := by
  unfold State.preset
  extract_lets N u sb sa small e third s1
  rw [marks_setLoop]
  subst s1
  split <;> rfl

@[simp] theorem marks_tuneSample (L : Nat) (m T : Int) : marks (s.tuneSample n L m T) n = marks s n := by
  unfold State.tuneSample
  split
  · rfl
  · extract_lets l e eps h high sw k w s1 s2 run
    have shown : marks s2 n = marks s n := by
      rw [marks_monitor, marks_setLoop, marks_output]
    split
    · rw [marks_endTune, shown]
    · rw [marks_setServo _ _ (by exact fun _ => ⟨rfl, rfl⟩), shown]

end Marks

/-- The law's sample, part by part: a preset where one is due, the output, the history, what the registers show, the lock's count and the
injection's step. -/
theorem autoSample_shape (s : State) (n L : Nat) (m T : Int) (cond fresh : Bool) :
    ∃ (b : Nat) (ff : Ff) (w : Int) (g : Loop → Loop) (e r v d : Int) (clipped : Bool), s.autoSample n L m T cond fresh =
      (((((if (s.loop n L).enter || fresh then s.preset n L b ff else s).output n L w).setLoop n L g).monitor n L e r m T).countLock
        n L e cond).injStep n L v d clipped :=
  ⟨_, _, _, _, _, _, _, _, _, rfl⟩

section Free

variable {s : State} {n : Nat} (free : (s.servo n).taking = false)

theorem taking_of_marks {u : State} (h : marks u n = marks s n) : (u.servo n).taking = (s.servo n).taking := congrArg Prod.fst h

include free

theorem marks_checkWrite : marks (s.checkWrite n) n = marks s n := by
  have same : (s.checkWrite n).servo n = s.servo n := servo_checkWrite free n
  simp only [marks, same]

theorem marks_endInj (st : Nat) : marks (s.endInj n st) n = marks s n := by
  unfold State.endInj
  split
  · rfl
  extract_lets s1 s2 
  have ended : marks s1 n = marks s n := marks_setServo s n (by exact fun _ => ⟨rfl, rfl⟩)
  have shown : marks (if st = 2 then s2 else (s2.setReg (SV_INJ_MAG n) 0).setReg (SV_INJ_PH n) 0) n = marks s n := by
    split <;> exact ended
  exact (marks_checkWrite ((taking_of_marks shown).trans free)).trans shown

theorem marks_injStep (L : Nat) (v d : Int) (clipped : Bool) : marks (s.injStep n L v d clipped) n = marks s n := by
  unfold State.injStep
  split
  · rfl
  split
  · rfl
  split
  · exact marks_endInj free 4
  split
  · rfl
  · exact marks_setServo s n (by exact fun _ => ⟨rfl, rfl⟩)

theorem marks_autoSample (L : Nat) (m T : Int) (cond fresh : Bool) : marks (s.autoSample n L m T cond fresh) n = marks s n := by
  obtain ⟨b, ff, w, g, e, r, v, d, clipped, shape⟩ := autoSample_shape s n L m T cond fresh
  rw [shape]
  have counted : marks (((((if (s.loop n L).enter || fresh then s.preset n L b ff else s).output n L w).setLoop n L g).monitor n L e r m T).countLock
      n L e cond) n = marks s n := by
    rw [State.countLock, marks_setLoop, marks_monitor, marks_setLoop, marks_output]
    split
    · exact marks_preset s n L b ff
    · rfl
  exact (marks_injStep ((taking_of_marks counted).trans free) L v d clipped).trans counted

theorem marks_modeSample (L : Nat) (m T : Int) (cond fresh : Bool) (w : Option Int) :
    marks (s.modeSample n L m T cond fresh w) n = marks s n := by
  unfold State.modeSample
  split
  · rw [marks_monitor, marks_setLoop, marks_output]
  · exact marks_autoSample free L m T cond fresh
  · exact marks_tuneSample s n L m T
  · rw [marks_monitor, State.showLimits, marks_setBit, marks_setBit, marks_setLoop]

theorem marks_modeChange (L k : Nat) (hw : Bool) : marks (s.modeChange n L k hw) n = marks s n := by
  unfold State.modeChange
  extract_lets old s1 s2 s3 s4 s5 s6 s7 free' s8
  split
  · rfl
  have unlocked : marks s2 n = marks s n := by
    subst s2
    split <;> simp [s1]
  have still : marks s3 n = marks s n := by
    subst s3
    repeat' split
    · exact (marks_endInj ((taking_of_marks unlocked).trans free) 5).trans unlocked
    all_goals exact unlocked
  have tuned : marks s4 n = marks s n := by
    subst s4
    repeat' split
    · rw [marks_endTune, still]
    all_goals exact still
  have driven : marks s5 n = marks s n := by
    subst s5
    split <;> simp [tuned]
  have restored : marks s6 n = marks s n := by
    subst s6
    repeat' split
    all_goals simp [driven]
  have off : marks s7 n = marks s n := by
    subst s7
    split <;> simp [restored]
  have shown : marks ((if free' then s8.setBit (LP_STAT n L) LP_STAT_DEFECT false else s8).showValid n) n = marks s n := by
    rw [marks_showValid]
    split <;> simp [s8, off]
  exact (marks_checkWrite ((taking_of_marks shown).trans free)).trans shown

end Free

/-! ## The changes before a sample (R103, R107, R119, R125) -/

theorem setStn_self {s : State} {n : Stn} {g : Station → Station} (h : g (s.station n) = s.station n) : s.setStn n g = s := by
  have same : s.stn.set n (g (s.station n)) = s.stn := by
    rw [h, State.station, Fin.getElem_fin, Vector.set_getElem_self]
  exact congrArg (fun l => ({ s with stn := l } : State)) same

theorem setLoop_self {s : State} {n L : Nat} {g : Loop → Loop} (h : g (s.loop n L) = s.loop n L) : s.setLoop n L g = s := by
  have same : (s.servo n).loops.set (loopIx L) (g (s.loop n L)) = (s.servo n).loops := by
    rw [h, State.loop, Fin.getElem_fin]
    exact Vector.set_getElem_self _
  exact setStn_self (congrArg (fun l => ({ s.station (toStn n) with servo.loops := l } : Station)) same)

section Changes

variable {s : State} {n L : Nat}

/-- The bank in force is the one selected. -/
theorem setLoop_sel (sel : (s.loop n L).sel = s.fld (LP_CTL n L) LP_CTL_CSEL) :
    s.setLoop n L (fun l => { l with sel := s.fld (LP_CTL n L) LP_CTL_CSEL }) = s :=
  setLoop_self (by rw [← sel])

/-- R105, R115: the change of mode that is due is taken, and ends a tune that has not begun its loop's mode. -/
def modeTaken (s : State) (n L : Nat) : State :=
  let s := match (s.servo n).tune, (s.loop n L).newMode with
    | some t, some k => if t.loop = L ∧ k ≠ 3 ∧ s.mode n L ≠ 3 then s.endTune n 5 else s
    | _, _ => s
  let s := match (s.loop n L).newMode with
    | some k => s.modeChange n L k (s.loop n L).newHw
    | none => s
  s.setLoop n L (fun l => { l with newMode := none })

/-- Where neither the bank nor SPD's source changes, only a change of mode precedes the law. -/
theorem changes_of_steady (sel : (s.loop n L).sel = s.fld (LP_CTL n L) LP_CTL_CSEL) (src : L = 4 → (s.station (toStn n)).spin.newSrc = none) :
    s.changes n L = (modeTaken s n L, false) := by
  unfold State.changes
  extract_lets b bank s1
  have same : s1 = s := setLoop_sel sel
  have unswitched : bank = false := by simp [bank, b, sel]
  rw [same, unswitched]
  split
  rename_i s2 switched source
  split at source
  case h_1 k new => exact absurd (src rfl) (by rw [new]; exact Option.some_ne_none k)
  case h_2 =>
    obtain ⟨rfl, rfl⟩ := Prod.mk.inj source
    rfl

theorem modeTaken_of_none (mode : (s.loop n L).newMode = none) : modeTaken s n L = s := by
  have cleared : s.setLoop n L (fun l => { l with newMode := none }) = s := setLoop_self (by rw [← mode])
  unfold modeTaken
  rw [mode]
  cases (s.servo n).tune <;> simp only [mode, cleared]

/-- Where nothing is due, nothing precedes the law. -/
theorem changes_of_settled (mode : (s.loop n L).newMode = none) (sel : (s.loop n L).sel = s.fld (LP_CTL n L) LP_CTL_CSEL)
    (src : L = 4 → (s.station (toStn n)).spin.newSrc = none) : s.changes n L = (s, false) := by
  rw [changes_of_steady sel src, modeTaken_of_none mode]

theorem modeTaken_of_mode {k : Nat} (mode : (s.loop n L).newMode = some k) (untuned : (s.servo n).tune = none) :
    modeTaken s n L = (s.modeChange n L k (s.loop n L).newHw).setLoop n L (fun l => { l with newMode := none }) := by
  unfold modeTaken
  simp only [untuned, mode]

theorem taskTakes_of_free (free : (s.servo n).taking = false) : s.taskTakes n = s := by
  simp only [State.taskTakes, free, Bool.not_false, ↓reduceIte]

end Changes

/-! ## A sample in each mode (R105) -/

section Modes

variable {s : State} {n L : Nat} (m T : Int) (cond fresh : Bool) (w : Option Int)

theorem modeSample_of_manual (h : s.mode n L = 1) : s.modeSample n L m T cond fresh none =
    ((s.output n L (s.fldInt (LP_DRV n L) LP_DRV_MAN * 2 ^ 25)).setLoop n L (fun l => { l with m := m })).monitor n L
      (satS 24 ((s.loop n L).r - m)) (s.loop n L).r m T := by
  have ramp : ((s.output n L (s.fldInt (LP_DRV n L) LP_DRV_MAN * 2 ^ 25)).loop n L).r = (s.loop n L).r := by
    rw [loop_output]
  rw [← ramp, State.modeSample, h]
  rfl

theorem modeSample_of_rest (h : s.mode n L = 0 ∨ s.mode n L = 4) : s.modeSample n L m T cond fresh w =
    ((s.setLoop n L (fun l => { l with m := m })).showLimits n L false).monitor n L (satS 24 ((s.loop n L).r - m)) (s.loop n L).r m T := by
  have ramp : (((s.setLoop n L (fun l => { l with m := m })).showLimits n L false).loop n L).r = (s.loop n L).r := by
    rw [loop_showLimits, loop_setLoop]
  rcases h with h | h
  all_goals
    rw [← ramp, State.modeSample, h]
    rfl

theorem modeSample_of_auto (h : s.mode n L = 2) : s.modeSample n L m T cond fresh w = s.autoSample n L m T cond fresh := by
  rw [State.modeSample, h]
  rfl

end Modes

end Sys2Proof
end

section
/-!
The statement about a loop's sample in every mode (R98, R99, R103, R105).
-/

namespace Sys2Proof

open Machine

theorem exec_of_loopSample {s v : State} {n : Stn} {L : Fin 8} {half : Bool} (h : s.loopSample n L half = v) :
    exec (.loopSample n L half) s = .next (s.close v) := by
  rw [← h]
  rfl

/-! ## The loops of the sled and the spindle, and the slow optical ones -/

/-- What follows the law in a sample of loop L, from 2 on: SLD's mean begins again, SPD shows the curve's clamp, SAB sends its actuator word. -/
def afterLaw (u : State) (n L : Nat) : State :=
  let u := if L = 7 then u.setServo n (fun v => { v with trkSum := 0, trkN := 0 }) else u
  let u := if L = 4 ∧ (u.curveQ n).2 = true then u.setBit (MOT_SPST n) MOT_SPST_CLAMP true else u
  u.sendAct n L

section Motion

variable {s v : State} {n L : Nat}

theorem loopSample_of_motion (motion : 2 ≤ L) (changed : s.changes n L = (v, false)) (free : (v.servo n).taking = false) (half : Bool) :
    s.loopSample n L half = afterLaw (v.modeSample n L (v.measured n L half) (v.target n L) (v.lockCond n L) false none) n L := by
  have no_foc : L ≠ 0 := by omega
  have no_trk : L ≠ 1 := by omega
  simp only [State.loopSample, changed, taskTakes_of_free free, no_foc, no_trk, ↓reduceIte, afterLaw]
  by_cases spd : L = 4 <;> simp only [spd, true_and, false_and, ↓reduceIte]

theorem sendAct_of_other (trk : L ≠ 1) (sab : L ≠ 3) (u : State) : u.sendAct n L = u := by
  simp only [State.sendAct, trk, sab, ↓reduceIte, ite_self]

/-- Nothing follows the law of RAD, SIQ and SID. -/
theorem afterLaw_of_plain (plain : L = 2 ∨ L = 5 ∨ L = 6) (u : State) : afterLaw u n L = u := by
  have sld : L ≠ 7 := by omega
  have spd : L ≠ 4 := by omega
  simp only [afterLaw, sld, spd, false_and, ↓reduceIte]
  exact sendAct_of_other (by omega) (by omega) u

end Motion

/-! ## FOC and TRK outside a defect, a jump and a sweep -/

section Optic

variable {s : State} {n : Nat}

theorem setServo_setServo (g g' : Servo → Servo) : (s.setServo n g).setServo n g' = s.setServo n (fun v => g' (g v)) := setStn_setStn s _ _ _

theorem jumpFoc_of_none (h : (s.servo n).jump = none) (prev fe : Int) (valid : Bool) : s.jumpFoc n prev fe valid = (s, none) := by
  simp only [State.jumpFoc, h]

theorem sweepFoc_of_none (h : (s.servo n).seek = none) (prev fe : Int) (valid : Bool) : s.sweepFoc n prev fe valid = (s, none) := by
  simp only [State.sweepFoc, h]

theorem jumpTrk_of_none (h : (s.servo n).jump = none) (prev te : Int) : s.jumpTrk n prev te = s := by
  simp only [State.jumpTrk, h]

theorem sweepTrk_of_none (h : (s.servo n).seek = none) (prev te : Int) : s.sweepTrk n prev te = s := by
  simp only [State.sweepTrk, h]

theorem loop_setServo {g : Servo → Servo} (h : ∀ v, (g v).loops = v.loops) (L : Nat) : (s.setServo n g).loop n L = s.loop n L :=
  congrArg (·[loopIx L]) ((congrArg Servo.loops (servo_setServo s n g)).trans (h _))

/-- R98: outside a defect, a sum that is high enough joins S_avg. -/
theorem defectStep_of_high {sm : Int} (none : (s.servo n).defect = false)
    (high : (s.fld (SV_SENSE n) SV_SENSE_DEF_FRAC : Int) * (s.servo n).sAvg ≤ sm * 2 ^ 37) :
    s.defectStep n sm = (s.setServo n (fun v => { v with sAvg := v.sAvg + rnd (sm * 2 ^ 29 - v.sAvg) 256 }), false) := by
  have up : ¬ sm * 2 ^ 37 < (s.fld (SV_SENSE n) SV_SENSE_DEF_FRAC : Int) * (s.servo n).sAvg := by omega
  simp only [State.defectStep, none, up, decide_false, Bool.false_eq_true, ↓reduceIte]

theorem loopSample_of_foc (changed : s.changes n 0 = (s, false)) (free : (s.servo n).taking = false) (whole : (s.servo n).defect = false)
    (idle : (s.servo n).jump = none) (closed : (s.servo n).seek = none) (run : (s.loop n 0).held = false) {half : Bool} {sm : Int}
    (sum : sm = sumS (sumChannels (((s.station (toStn n)).port.instants.drop (if half then 8 else 0)).take 8)))
    (high : (s.fld (SV_SENSE n) SV_SENSE_DEF_FRAC : Int) * (s.servo n).sAvg ≤ sm * 2 ^ 37) :
    let v := s.setServo n (fun x => { x with sum := sm, fe := s.measured n 0 half, sAvg := x.sAvg + rnd (sm * 2 ^ 29 - x.sAvg) 256 })
    s.loopSample n 0 half = v.modeSample n 0 (s.measured n 0 half) (v.target n 0) (v.lockCond n 0) false none := by
  intro v
  have whole' : (s.station (toStn n)).servo.defect = false := whole
  simp only [State.loopSample, changed, taskTakes_of_free free, whole', ← sum, Bool.false_and, Bool.false_eq_true, ↓reduceIte]
  rw [defectStep_of_high (by rw [servo_setServo]; exact whole) (by rw [servo_setServo]; exact high), setServo_setServo]
  have idle' : (v.servo n).jump = none := (congrArg Servo.jump (servo_setServo s n _)).trans idle
  have closed' : (v.servo n).seek = none := (congrArg Servo.seek (servo_setServo s n _)).trans closed
  have run' : (v.loop n 0).held = false := (congrArg Loop.held (loop_setServo (by exact fun _ => rfl) 0)).trans run
  rw [jumpFoc_of_none idle']
  simp only [sweepFoc_of_none closed', run', Bool.false_and, Bool.false_eq_true, ↓reduceIte]

theorem loopSample_of_trk (changed : s.changes n 1 = (s, false)) (free : (s.servo n).taking = false) (whole : (s.servo n).defect = false)
    (idle : (s.servo n).jump = none) (closed : (s.servo n).seek = none) (run : (s.loop n 1).held = false) (half : Bool) :
    let v := s.setServo n (fun x => { x with te := s.measured n 1 half })
    let u := v.modeSample n 1 (s.measured n 1 half) (v.target n 1) (v.lockCond n 1) false none
    s.loopSample n 1 half =
      (u.setServo n (fun x => { x with trkSum := x.trkSum + driveWord (u.loop n 1).y, trkN := x.trkN + 1 })).sendAct n 1 := by
  intro v
  have servo : v.servo n = { s.servo n with te := s.measured n 1 half } := servo_setServo s n _
  have idle' : (v.servo n).jump = none := by rw [servo, idle]
  have closed' : (v.servo n).seek = none := by rw [servo, closed]
  have run' : (v.loop n 1).held = false := (congrArg Loop.held (loop_setServo (by exact fun _ => rfl) 1)).trans run
  have free' : (v.servo n).taking = false := by rw [servo, free]
  have whole' : (v.servo n).defect = false := by rw [servo, whole]
  have still : ((v.modeSample n 1 (s.measured n 1 half) (v.target n 1) (v.lockCond n 1) false none).servo n).defect = false :=
    (congrArg Prod.snd (marks_modeSample free' 1 _ (v.target n 1) (v.lockCond n 1) false none)).trans whole'
  simp only [State.loopSample, changed, taskTakes_of_free free, Nat.one_ne_zero, ↓reduceIte]
  rw [jumpTrk_of_none idle', sweepTrk_of_none closed']
  simp only [run', still, Bool.false_and, Bool.false_eq_true, ↓reduceIte]

end Optic

/-- Settles O11, loop by loop: where nothing is due the sample is its mode's law and what follows it; a change of mode lets no task claim the
loops (`marks_modeChange`), and TRK's law begins no defect (`marks_modeSample`). -/
theorem loopSampleInEachMode : Obligations.LoopSampleInEachMode := by
  unfold Obligations.LoopSampleInEachMode
  have plainly {L : Fin 8} (plain : L = 2 ∨ L = 5 ∨ L = 6) : L.val = 2 ∨ L.val = 5 ∨ L.val = 6 := by omega
  have lawful {s : State} {n : Stn} {L : Fin 8} (plain : L = 2 ∨ L = 5 ∨ L = 6) (due : (s.servo n).taking = false ∧ (s.loop n L).newMode = none
      ∧ (s.loop n L).sel = s.fld (LP_CTL n L) LP_CTL_CSEL) (half : Bool) :
      s.loopSample n L half = s.modeSample n L (s.measured n L half) (s.target n L) (s.lockCond n L) false none := by
    obtain ⟨free, mode, sel⟩ := due
    rw [loopSample_of_motion (by omega) (changes_of_settled mode sel (by omega)) free, afterLaw_of_plain (plainly plain)]
  refine ⟨?manual, ?rest, ?auto, ?change, ?motion, ?foc, ?trk⟩
  case manual =>
    intro n L half s plain mode due
    exact exec_of_loopSample ((lawful plain due half).trans (modeSample_of_manual _ _ _ _ mode))
  case rest =>
    intro n L half s plain mode due
    exact exec_of_loopSample ((lawful plain due half).trans (modeSample_of_rest _ _ _ _ _ mode))
  case auto =>
    intro n L half s plain mode due
    exact exec_of_loopSample ((lawful plain due half).trans (modeSample_of_auto _ _ _ _ _ mode))
  case change =>
    rintro n L half k s plain ⟨free, mode, sel⟩ untuned -
    have changed := changes_of_steady sel (by omega)
    rw [modeTaken_of_mode mode untuned] at changed
    have kept : (((s.modeChange n L k (s.loop n L).newHw).setLoop n L (fun l => { l with newMode := none })).servo n).taking = false := by
      refine (taking_of_marks ?_).trans free
      rw [marks_setLoop, marks_modeChange free]
    refine exec_of_loopSample ?_
    rw [loopSample_of_motion (by omega) changed kept, afterLaw_of_plain (plainly plain)]
  case motion =>
    rintro n L half s ⟨motion, src⟩ ⟨free, mode, sel⟩
    exact exec_of_loopSample (loopSample_of_motion motion (changes_of_settled mode sel (by rw [toStn_val]; exact src)) free half)
  case foc =>
    rintro n half sm s ⟨free, mode, sel⟩ ⟨whole, idle, closed, run⟩ sum high
    have changed := changes_of_settled mode sel (fun spd => absurd spd (by decide))
    exact exec_of_loopSample (loopSample_of_foc changed free whole idle closed run (by rw [toStn_val]; exact sum) high)
  case trk =>
    rintro n half s ⟨free, mode, sel⟩ ⟨whole, idle, closed, run⟩
    have changed := changes_of_settled mode sel (fun spd => absurd spd (by decide))
    exact exec_of_loopSample (loopSample_of_trk changed free whole idle closed run half)

end Sys2Proof
end

section
/-!
The statement about starts of tunes and injections (R113, R117).
-/

namespace Sys2Proof

open Machine

/-! ## A register is written field by field (R11) -/

/-- `v` is `s` but for the register map, in which `r` and every register elsewhere read the same. -/
structure Kept (s v : State) (r : Reg) : Prop where
  rest : v = { s with regs := v.regs }
  here : v.reg r = s.reg r
  others : ∀ q : Reg, q.key ≠ r.key → v.reg q = s.reg q

section Written

variable {s v : State} {r : Reg} {f : Fld} {x : Nat}

theorem Kept.refl (s : State) (r : Reg) : Kept s s r := ⟨rfl, rfl, fun _ _ => rfl⟩

theorem Kept.wrote (kept : Kept s v r) (f : Fld) (x : Nat) : Wrote s (v.setFld r f x) r f x := by
  obtain ⟨rest, here, others⟩ := kept
  refine ⟨?_, ?_, fun q apart => ?_⟩
  · rw [rest]
    rfl
  · rw [State.setFld, State.reg_setReg_same, here]
  · rw [v.reg_setFld_other f x apart.symm, others q apart]

/-- A field takes what it holds. -/
theorem Kept.setFld (kept : Kept s v r) (f : Fld) : Kept s (v.setFld r f (s.fld r f)) r := by
  obtain ⟨rest, here, others⟩ := kept.wrote f (s.fld r f)
  exact ⟨rest, here.trans (fldSet_fldGet f (s.reg r)), others⟩

theorem Wrote.stn (h : Wrote s v r f x) : v.stn = s.stn := by rw [h.rest]

theorem Wrote.servo (h : Wrote s v r f x) (n : Nat) : v.servo n = s.servo n := congrArg (servoIn · n) h.stn

theorem Wrote.loop (h : Wrote s v r f x) (n L : Nat) : v.loop n L = s.loop n L := congrArg (fun w : Servo => w.loops[loopIx L]) (h.servo n)

theorem Wrote.mode (h : Wrote s v r f x) {n L : Nat} (apart : r.key % 64 ≠ 4) : v.mode n L = s.mode n L := by
  refine congrArg (fldGet LP_STAT_MODE_NOW) (h.others _ fun same => apart ?_)
  rw [← same]
  simp only [LP_STAT, stnKey]
  omega

end Written

/-! ## The registers of a tune and of an injection -/

section Station

variable (s : State) (n : Nat) (w : Word)

theorem stnRow_tuneCtl : stnRow n 0xA14 = some ⟨0xA14, 4, 1, fun _ => SV_TUNE_CTL n, 0xFFFF0700#32, 0x0#32, 0x1#32, 0x0#32⟩ := by
  simp [stnRow, rowAt, stnRowsServo]

theorem stnRow_injCtl : stnRow n 0xA24 = some ⟨0xA24, 4, 1, fun _ => SV_INJ_CTL n, 0xFFFFFF70#32, 0x0#32, 0x1#32, 0x0#32⟩ := by
  simp [stnRow, rowAt, stnRowsServo]

theorem stnWrite_tuneCtl : (s.stnWrite n 0xA14 w false).1 = s.writeTune n w := by
  rw [State.stnWrite, stnRow_tuneCtl]
  simp

theorem stnWrite_injCtl : (s.stnWrite n 0xA24 w false).1 = s.writeInj n w := by
  rw [State.stnWrite, stnRow_injCtl]
  simp

end Station

/-! ## A start is asked for -/

section Start

variable {s : State} {n : Stn} {L : Fin 8}

theorem exec_of_tuneStart (reaches : Reaches s 0 (SV_TUNE_CTL n).key) : ∃ v, Wrote s v (SV_TUNE_CTL n) SV_TUNE_CTL_LOOP L
    ∧ exec (.tuneStart n L) s = .next (s.close (v.tuneStart n L)) := by
  have tmo : fldGet SV_TUNE_CTL_TMO (fldSet SV_TUNE_CTL_START (fldSet SV_TUNE_CTL_LOOP (s.reg (SV_TUNE_CTL n)) L) 1)
      = s.fld (SV_TUNE_CTL n) SV_TUNE_CTL_TMO := by
    rw [fldGet_fldSet_other _ _ _ _ (by decide) (by decide), fldGet_fldSet_other _ _ _ _ (by decide) (by decide), State.fld]
  have loop : fldGet SV_TUNE_CTL_LOOP (fldSet SV_TUNE_CTL_START (fldSet SV_TUNE_CTL_LOOP (s.reg (SV_TUNE_CTL n)) L) 1) = L := by
    rw [fldGet_fldSet_other _ _ _ _ (by decide) (by decide), fldGet_fldSet_same _ _ _ (by decide)]
    exact Nat.mod_eq_of_lt L.isLt
  have start : fldGet SV_TUNE_CTL_START (fldSet SV_TUNE_CTL_START (fldSet SV_TUNE_CTL_LOOP (s.reg (SV_TUNE_CTL n)) L) 1) = 1 :=
    fldGet_fldSet_same _ _ _ (by decide)
  refine ⟨_, ((Kept.refl s _).setFld SV_TUNE_CTL_TMO).wrote SV_TUNE_CTL_LOOP L, congrArg (fun u => Host.Outcome.next (s.close u)) ?_⟩
  rw [writeField_station n.isLt (by decide) rfl (stnRow_tuneCtl n) reaches, stnWrite_tuneCtl, State.writeTune]
  simp only [List.foldl_cons, List.foldl_nil, tmo, loop, start, Nat.one_ne_zero, ↓reduceIte]

theorem exec_of_injectionStart (reaches : Reaches s 0 (SV_INJ_CTL n).key) : ∃ v, Wrote s v (SV_INJ_CTL n) SV_INJ_CTL_LOOP L
    ∧ exec (.injectionStart n L) s = .next (s.close (v.injStart n L)) := by
  have kept {f : Fld} (inside : f.hi < 32) (above : 6 < f.lo) :
      fldGet f (fldSet SV_INJ_CTL_START (fldSet SV_INJ_CTL_LOOP (s.reg (SV_INJ_CTL n)) L) 1) = s.fld (SV_INJ_CTL n) f := by
    rw [fldGet_fldSet_other _ _ _ _ inside (.inr (show 0 < f.lo by omega)), fldGet_fldSet_other _ _ _ _ inside (.inr above), State.fld]
  have loop : fldGet SV_INJ_CTL_LOOP (fldSet SV_INJ_CTL_START (fldSet SV_INJ_CTL_LOOP (s.reg (SV_INJ_CTL n)) L) 1) = L := by
    rw [fldGet_fldSet_other _ _ _ _ (by decide) (by decide), fldGet_fldSet_same _ _ _ (by decide)]
    exact Nat.mod_eq_of_lt L.isLt
  have start : fldGet SV_INJ_CTL_START (fldSet SV_INJ_CTL_START (fldSet SV_INJ_CTL_LOOP (s.reg (SV_INJ_CTL n)) L) 1) = 1 :=
    fldGet_fldSet_same _ _ _ (by decide)
  refine ⟨_, (((Kept.refl s _).setFld SV_INJ_CTL_AMP).setFld SV_INJ_CTL_NCYC).wrote SV_INJ_CTL_LOOP L,
    congrArg (fun u => Host.Outcome.next (s.close u)) ?_⟩
  rw [writeField_station n.isLt (by decide) rfl (stnRow_injCtl n) reaches, stnWrite_injCtl, State.writeInj]
  simp only [List.foldl_cons, List.foldl_nil, kept (f := SV_INJ_CTL_AMP) (by decide) (by decide), kept (f := SV_INJ_CTL_NCYC) (by decide) (by decide),
    loop, start, Nat.one_ne_zero, ↓reduceIte]

theorem tuneCtl_apart (n : Nat) : (SV_TUNE_CTL n).key % 64 ≠ 4 := (tuneKeys n).1

theorem injCtl_apart (n : Nat) : (SV_INJ_CTL n).key % 64 ≠ 4 := by
  simp only [SV_INJ_CTL, stnKey]
  omega

theorem tuneStart_of_begun (mode : s.mode n L = 1 ∨ s.mode n L = 2) (untuned : (s.servo n).tune = none) (still : (s.servo n).inj = none) :
    s.tuneStart n L =
      ((s.setServo n (fun p => { p with tune := some ⟨L, s.mode n L, (s.loop n L).y, true, false, 0, 0, 0, 0, 0, 0⟩ })).setFld (SV_TUNE_CTL n)
        SV_TUNE_CTL_STATUS 1).setLoop n L (fun l => { l with newMode := some 3, newHw := false }) := by
  refine if_neg ?_
  rw [untuned, still]
  rintro (other | tuned | injected)
  · omega
  · exact Bool.false_ne_true tuned
  · exact Bool.false_ne_true injected

theorem tuneStart_of_refused (h : (s.mode n L ≠ 1 ∧ s.mode n L ≠ 2) ∨ (s.servo n).tune.isSome ∨ (s.servo n).inj.isSome) :
    s.tuneStart n L = s.setFld (SV_TUNE_CTL n) SV_TUNE_CTL_STATUS 6 := if_pos h

theorem injStart_of_begun (mode : s.mode n L = 2) (untuned : (s.servo n).tune = none) (still : (s.servo n).inj = none) :
    s.injStart n L =
      ((s.setServo n (fun p => { p with inj := some ⟨L, 0, 0, 0, 0, 0, 0⟩ })).setFld (SV_INJ_CTL n) SV_INJ_CTL_STATUS 1).checkWrite n := by
  refine if_neg ?_
  rw [untuned, still]
  rintro (other | tuned | injected)
  · exact other mode
  · exact Bool.false_ne_true tuned
  · exact Bool.false_ne_true injected

theorem injStart_of_refused (h : s.mode n L ≠ 2 ∨ (s.servo n).tune.isSome ∨ (s.servo n).inj.isSome) :
    s.injStart n L = s.setFld (SV_INJ_CTL n) SV_INJ_CTL_STATUS 6 := if_pos h

end Start

/-- Settles O8: the write changes nothing that the start is judged by. -/
theorem measurementStarts : Obligations.MeasurementStarts := by
  unfold Obligations.MeasurementStarts
  refine ⟨?tune, ?tuneRefused, ?inject, ?injectRefused⟩
  case tune =>
    intro n L s reaches mode untuned still
    obtain ⟨v, wrote, run⟩ := exec_of_tuneStart (L := L) reaches
    rw [← wrote.mode (tuneCtl_apart n)] at mode
    rw [← wrote.servo] at untuned still
    rw [tuneStart_of_begun mode untuned still, wrote.mode (tuneCtl_apart n), wrote.loop] at run
    exact ⟨v, wrote, run⟩
  case tuneRefused =>
    intro n L s reaches refused
    obtain ⟨v, wrote, run⟩ := exec_of_tuneStart (L := L) reaches
    rw [← wrote.mode (tuneCtl_apart n), ← wrote.servo] at refused
    exact ⟨v, wrote, by rw [run, tuneStart_of_refused refused]⟩
  case inject =>
    intro n L s reaches mode untuned still
    obtain ⟨v, wrote, run⟩ := exec_of_injectionStart (L := L) reaches
    rw [← wrote.mode (injCtl_apart n)] at mode
    rw [← wrote.servo] at untuned still
    exact ⟨v, wrote, by rw [run, injStart_of_begun mode untuned still]⟩
  case injectRefused =>
    intro n L s reaches refused
    obtain ⟨v, wrote, run⟩ := exec_of_injectionStart (L := L) reaches
    rw [← wrote.mode (injCtl_apart n), ← wrote.servo] at refused
    exact ⟨v, wrote, by rw [run, injStart_of_refused refused]⟩

end Sys2Proof
end

section
/-!
The refutation of the statement about writes of the loops' control (R104 to R107).
-/

namespace Sys2Proof

open Machine

/-! ## A control word that the map holds at its reset value -/

/-- Station 0 with its spindle on its way up, but that the register map holds the reset value of SIQ's control word, which a write of that
value takes out. -/
def loopCtlHeld : State :=
  { State.reset with regs := [((LP_CTL 0 5).key, (LP_CTL 0 5).rst), ((MOT_SPST 0).key, fldSet MOT_SPST_STATE (MOT_SPST 0).rst 1)] }

/-- The register at SIQ's control word's place, were its reset value 1: it tells a held value from one that is not. -/
def loopCtlProbe : Reg := ⟨(LP_CTL 0 5).key, 1#32⟩

theorem loopCtlHeld_reaches : Reaches loopCtlHeld 0 (LP_CTL 0 5).key := ⟨rfl, rfl, rfl, by decide +kernel⟩

theorem loopCtlHeld_spins : loopCtlHeld.spinState 0 ≠ 0 := by decide +kernel

/-- The refused write of MANUAL writes the other fields with what they hold, and so takes the word out of the map. -/
theorem loopCtlHeld_refused : (loopCtlHeld.close (loopCtlHeld.writeField (LP_CTL 0 5) [(LP_CTL_MODE, 1)] [])).reg loopCtlProbe = 1#32 := by
  decide +kernel

/-- Where only REFUSED is written, nothing waits. -/
theorem quiet_of_loopCtlHeld {v : State} (h : Wrote loopCtlHeld v (LP_STAT 0 5) LP_STAT_REFUSED 1) : Quiet v := by
  obtain ⟨rest, -, others⟩ := h
  have unlocked : v.bit MEM_CTL MEM_CTL_LOCK = false := by
    rw [State.bit, State.fld, others MEM_CTL (by decide)]
    decide +kernel
  rw [rest] at unlocked ⊢
  exact ⟨rfl, rfl, rfl, rfl, rfl, rfl, unlocked, rfl, rfl, rfl⟩

/-- Refutes O7: its clause for a refused MODE lets no register but LP_STAT change, whatever its reset value is taken to be, where the model
writes the other fields of LP_CTL with what they hold; on the state above that takes the word out of the map. (Every write leaves a map without
reset values; the statement speaks of every state.) -/
theorem not_loopControlWrites : ¬ Obligations.LoopControlWrites := by
  rintro ⟨-, refused, -⟩
  obtain ⟨v, wrote, stated⟩ := refused 0 5 loopCtlHeld (.lpModeManual 0 5) 1 (by simp) loopCtlHeld_reaches
    (.inr ⟨by decide, by decide, loopCtlHeld_spins⟩)
  have same : loopCtlHeld.close (loopCtlHeld.writeField (LP_CTL 0 5) [(LP_CTL_MODE, 1)] []) = loopCtlHeld.close v := Host.Outcome.next.inj stated
  have part : v.part = loopCtlHeld.part := by rw [wrote.rest]
  have pending : v.pending = loopCtlHeld.pending := by rw [wrote.rest]
  have held : (loopCtlHeld.close v).reg loopCtlProbe = 0#32 := by
    rw [close_of_quiet (quiet_of_loopCtlHeld wrote) part pending]
    exact (wrote.others loopCtlProbe (by decide)).trans (by decide +kernel)
  rw [← same, loopCtlHeld_refused] at held
  exact absurd held (by decide)

end Sys2Proof
end

section
/-!
The refutation of the statement about writes of the spindle's and the sled's control (R125, R129, R143 to R147, R217).
-/

namespace Sys2Proof

open Machine

/-- Where nothing waits and no ring exists, a register that no write has touched reads the same after the step. -/
theorem reg_close_of_wrote {s v : State} {r q : Reg} {f : Fld} {x : Nat} (quiet : Quiet s) (rings : s.rings.sqs = []) (wrote : Wrote s v r f x)
    (lock : MEM_CTL.key ≠ r.key) (apart : q.key ≠ r.key) : (s.close v).reg q = s.reg q := by
  have part : v.part = s.part := by rw [wrote.rest]
  have pending : v.pending = s.pending := by rw [wrote.rest]
  have locked : v.bit MEM_CTL MEM_CTL_LOCK = s.bit MEM_CTL MEM_CTL_LOCK := by rw [State.bit, State.bit, State.fld, State.fld, wrote.others MEM_CTL lock]
  have still : Quiet v := by
    obtain ⟨cmds, toFree, entry, queue, mounting, released, layout, invals, due, -⟩ := quiet
    rw [← locked] at layout
    rw [wrote.rest] at layout ⊢
    exact ⟨cmds, toFree, entry, queue, mounting, released, layout, invals, due, by simp [rings]⟩
  rw [close_of_quiet still part pending]
  exact wrote.others q apart

/-! ## A control word that the map holds at its reset value -/

/-- Station 0 with a task in hand, but that the register map holds the reset value of MOT_CTL, which a write of that value takes out. -/
def motCtlHeld : State := { State.reset with regs := [((TASK_STATUS 0).key, 1#32), ((MOT_CTL 0).key, (MOT_CTL 0).rst)] }

/-- The register at MOT_CTL's place, were its reset value 1: it tells a held value from one that is not. -/
def motCtlProbe : Reg := ⟨(MOT_CTL 0).key, 1#32⟩

theorem motCtlHeld_reaches : Reaches motCtlHeld 0 (MOT_CTL 0).key := ⟨rfl, rfl, rfl, by decide +kernel⟩

theorem motCtlHeld_quiet : Quiet motCtlHeld := ⟨rfl, rfl, rfl, rfl, rfl, rfl, by decide +kernel, rfl, rfl, rfl⟩

/-- The discarded write of SRC writes the reactions with what they hold, and so takes the word out of the map. -/
theorem motCtlHeld_discards : (motCtlHeld.close (motCtlHeld.writeField (MOT_CTL 0) [(MOT_CTL_SRC, 1)] [])).reg motCtlProbe = 1#32 := by
  decide +kernel

/-- Refutes O9: its clause for a discarded SRC lets no register but MOT_SPST change, whatever its reset value is taken to be, where the model
writes the other fields of MOT_CTL with what they hold; on the state above that takes the word out of the map. Its clauses for STOP ask the
same of SLD_CTL's MODE. (Every write leaves a map without reset values; the statement speaks of every state.) -/
theorem not_motionAndSledWrites : ¬ Obligations.MotionAndSledWrites := by
  rintro ⟨-, -, -, discarded, -⟩
  obtain ⟨v, wrote, stated⟩ := discarded 0 1 motCtlHeld motCtlHeld_reaches (by decide +kernel)
  have same : motCtlHeld.close (motCtlHeld.writeField (MOT_CTL 0) [(MOT_CTL_SRC, 1)] []) = motCtlHeld.close v := Host.Outcome.next.inj stated
  have held : (motCtlHeld.close v).reg motCtlProbe = 0#32 :=
    (reg_close_of_wrote motCtlHeld_quiet rfl wrote (by decide) (by decide)).trans (by decide +kernel)
  rw [← same, motCtlHeld_discards] at held
  exact absurd held (by decide)

end Sys2Proof
end

section
/-!
The statement about the spindle's changes of state, and its loss (R125, R131 to R135, R138, R139).
-/

namespace Sys2Proof

open Machine

/-! ## Each event is its function -/

section Exec

variable {s v : State} {n : Stn}

theorem exec_of_wobbleAddress {q : Fin 8} {w : BitVec 48} {cw : BitVec 36} (h : s.wobbleAddress n q w.toNat cw.toNat = v) :
    exec (.wobbleAddress n q w cw) s = .next (s.close v) := by rw [← h]; rfl

theorem exec_of_catchMeasured (h : s.catchMeasured n = v) : exec (.catchMeasured n) s = .next (s.close v) := by rw [← h]; rfl

theorem exec_of_alignDone (h : s.alignDone n = v) : exec (.alignDone n) s = .next (s.close v) := by rw [← h]; rfl

theorem exec_of_brakeDone (h : s.brakeDone n = v) : exec (.brakeDone n) s = .next (s.close v) := by rw [← h]; rfl

theorem exec_of_rotorLost (h : s.rotorLost n = v) : exec (.rotorLost n) s = .next (s.close v) := by rw [← h]; rfl

theorem exec_of_lossTimeout (h : s.lossTimeout n = v) : exec (.spindleLossTimeout n) s = .next (s.close v) := by rw [← h]; rfl

end Exec

/-! ## Wobble addresses (R125, R163) -/

section Wobble

variable {s : State} {n : Stn} {w : BitVec 48} {cw : BitVec 36}

/-- What an address whose CRC passes brings about, once its sync is noted. -/
def addressTaken (v : State) (n w : Nat) : State :=
  ((((v.setRd n (fun r => { r with wobble := some w, wobbles := r.wobbles + 1 })).jumpWobble n (wobbleLayer w)).showValid n).followRadius n w).checkWrite n

/-- A station's motion controller and RC_WOB take lead spot 4's sync. -/
def syncTaken (s : State) (n : Nat) (cw : BitVec 36) : State := (s.wobbleSync n cw.toNat).setReg (RC_WOB n) (cw.setWidth 32)

theorem wobbleAddress_of_lead : s.wobbleAddress n 4 w.toNat cw.toNat =
    if wobbleOk w.toNat then addressTaken ((syncTaken s n cw).noteWobble n 4 w.toNat cw.toNat) n w.toNat
    else (syncTaken s n cw).noteWobble n 4 w.toNat cw.toNat := by
  have low : BitVec.ofNat 32 (cw.toNat % 2 ^ 32) = cw.setWidth 32 := by
    apply BitVec.eq_of_toNat_eq
    simp
  rw [syncTaken, ← low]
  cases ok : wobbleOk w.toNat <;> simp [State.wobbleAddress, addressTaken, ok]

theorem wobbleAddress_of_other {q : Nat} (other : q ≠ 4) : s.wobbleAddress n q w.toNat cw.toNat =
    if wobbleOk w.toNat then addressTaken (s.noteWobble n q w.toNat cw.toNat) n w.toNat else s.noteWobble n q w.toNat cw.toNat := by
  cases ok : wobbleOk w.toNat <;> simp [State.wobbleAddress, addressTaken, ok, other]

end Wobble

/-! ## The catch (R132) -/

section Catch

variable {s : State} {n : Nat}

/-- The 80 frames have been measured. -/
def catchTaken (s : State) (n : Nat) : State :=
  s.setSpindle n (fun p => { p with inCatch := p.inCatch + 2, catchN := 0, catchMag := 0, catchTurn := 0 })

/-- The electrical speed of a rotor that turns by `turn` over 79 intervals. -/
theorem rnd_turn_nonpos {turn : Int} (h : turn ≤ 0) : rnd (turn * 2 ^ 32) 79 ≤ 0 := by
  unfold rnd
  split <;> omega

theorem rnd_turn_pos {turn : Int} (h : 0 < turn) : 0 < rnd (turn * 2 ^ 32) 79 := by
  unfold rnd
  split <;> omega

theorem inCatch_catchTaken : ((catchTaken s n).spin n).inCatch = (s.spin n).inCatch + 2 := by rw [catchTaken, spin_setSpindle]

theorem catchMeasured_of_early (early : (s.spin n).catchN < 80) : s.catchMeasured n = s := if_pos (.inr early)

variable (state : s.spinState n = 1) (measured : 80 ≤ (s.spin n).catchN)
include state measured

theorem catchMeasured_of_rest (rest : (rnd (s.spin n).catchMag (80 * 2 ^ 20)).toNat < s.fld (MOT_CATCH n) MOT_CATCH_VTH) :
    s.catchMeasured n = (catchTaken s n).setSpin n 2 := by
  have ready : ¬ (s.spinState n ≠ 1 ∨ (s.spin n).catchN < 80) := by omega
  rw [State.catchMeasured, if_neg ready]
  exact if_pos rest

variable (turns : s.fld (MOT_CATCH n) MOT_CATCH_VTH ≤ (rnd (s.spin n).catchMag (80 * 2 ^ 20)).toNat)
include turns

theorem catchMeasured_of_backward (backward : (s.spin n).catchTurn ≤ 0) :
    s.catchMeasured n =
      if s.fld (MOT_CATCH n) MOT_CATCH_WAIT ≤ (s.spin n).inCatch + 2 then (catchTaken s n).startFails n else catchTaken s n := by
  have ready : ¬ (s.spinState n ≠ 1 ∨ (s.spin n).catchN < 80) := by omega
  rw [State.catchMeasured, if_neg ready, ← inCatch_catchTaken]
  exact (if_neg turns.not_gt).trans (if_pos (rnd_turn_nonpos backward))

/-- A rotor with electrical speed `u` is caught: angle and speed are those measured, and SIQ starts from `uq`. -/
def caught (s : State) (n : Nat) (u uq : Int) : State :=
  let v := s.setSpindle n (fun p => { p with
    theta := p.catchAngle * 2 ^ 32, speedE := u, pll := u, omega := rpm512 u, tries := 0, resBad := 0, resGood := 0 })
  (((v.showSpeed n).setLoop n 6 (fun l => { l with y := 0 })).setLoop n 5 (fun l => { l with y := uq })).setLoop n 4 (fun l => { l with y := 0 })

theorem catchMeasured_of_forward (forward : 0 < (s.spin n).catchTurn) (bus : 0 < s.vMeas n) :
    s.catchMeasured n =
      (caught (catchTaken s n) n (rnd ((s.spin n).catchTurn * 2 ^ 32) 79)
        (satS 48 (rnd (((rnd (s.spin n).catchMag (80 * 2 ^ 20)).toNat : Int) * sqrt3Q) ((s.vMeas n).natAbs * 2 ^ 20)))).setSpin n 4 := by
  have ready : ¬ (s.spinState n ≠ 1 ∨ (s.spin n).catchN < 80) := by omega
  have powered : ¬ (catchTaken s n).vMeas n ≤ 0 := bus.not_ge
  rw [State.catchMeasured, if_neg ready]
  refine ((if_neg turns.not_gt).trans (if_neg (rnd_turn_pos forward).not_ge)).trans ?_
  exact congrArg (fun uq => (caught (catchTaken s n) n (rnd ((s.spin n).catchTurn * 2 ^ 32) 79) uq).setSpin n 4) (if_neg powered)

end Catch

/-! ## The ends of ALIGN and BRAKE, and the loss of the rotor (R133, R135, R138, R139) -/

section Loss

variable {s : State} {n : Nat}

theorem alignDone_of_align (state : s.spinState n = 2) :
    s.alignDone n = (s.setSpindle n (fun p => { p with thetaF := 0, speedF := 0, resBad := 0, resGood := 0 })).setSpin n 3 :=
  if_neg (not_not.mpr state)

theorem brakeDone_of_brake (state : s.spinState n = 5) : s.brakeDone n = s.setSpin n 0 := if_neg (not_not.mpr state)

/-- The loss of station n's rotor is declared. -/
def lossDeclared (s : State) (n : Nat) : State :=
  ((((s.setSpindle n (fun p => { p with lossDecel := s.decelerating n })).setSpin n 6).setBit (MOT_SPST n) MOT_SPST_LOST true).raiseStn n 6 []).trapSpindle n

/-- The armed reaction `r` to it: coast, brake or catch. -/
def lossReaction (s : State) (n r : Nat) : State :=
  let w := s.setSpindle n (fun p => { p with on := if r = 1 ∨ r = 2 then false else p.on, tries := 0 })
  if r = 1 then w.setSpin n 0 else if r = 2 then w.setSpin n 5 else w.toCatch n

theorem rotorLost_of_idle (state : s.spinState n = 4) (residual : 16 ≤ (s.spin n).resBad)
    (idle : (lossDeclared s n).bit (TASK_STATUS n) TASK_STATUS_BUSY = false) :
    s.rotorLost n = lossReaction (lossDeclared s n) n ((lossDeclared s n).fld (MOT_CTL n) MOT_CTL_LOSS_REACT) := by
  have lost : ¬ (s.spinState n ≠ 4 ∨ (s.spin n).resBad < 16) := by omega
  have untimed : ¬ ((lossDeclared s n).bit (TASK_STATUS n) TASK_STATUS_BUSY && !(lossDeclared s n).inTask n .bandWrite) = true := by
    rw [idle]
    exact Bool.false_ne_true
  rw [State.rotorLost, if_neg lost]
  exact congrArg (fun v : State => lossReaction v n (v.fld (MOT_CTL n) MOT_CTL_LOSS_REACT)) (if_neg untimed)

theorem lossTimeout_of_invalid {t : Nat} (waits : (s.spin n).lostAt = some t) (invalid : s.bit (MOT_SPST n) MOT_SPST_SPD_VALID = false) :
    s.lossTimeout n = (s.setSpindle n (fun p => { p with lostAt := none })).stopTask n := by
  have waiting : ¬ (s.spin n).lostAt.isNone = true := by rw [waits]; exact Bool.false_ne_true
  have unshown : ¬ (s.setSpindle n (fun p => { p with lostAt := none })).bit (MOT_SPST n) MOT_SPST_SPD_VALID = true :=
    fun valid => Bool.false_ne_true (invalid.symm.trans valid)
  exact (if_neg waiting).trans (if_neg unshown)

end Loss

/-- Settles O17: a wobble address by its spot and its CRC, a catch by what its 80 frames measured, and the other events by the spindle's state. -/
theorem spindleStates : Obligations.SpindleStates := by
  unfold Obligations.SpindleStates
  refine ⟨?lead, ?leadFails, ?other, ?early, ?rest, ?backward, ?caught, ?align, ?brake, ?lost, ?timeout⟩
  case lead =>
    intro n w cw s passes
    exact exec_of_wobbleAddress (wobbleAddress_of_lead.trans (if_pos passes))
  case leadFails =>
    intro n w cw s fails
    exact exec_of_wobbleAddress (wobbleAddress_of_lead.trans (if_neg (Bool.eq_false_iff.mp fails)))
  case other =>
    intro n q w cw s other
    exact exec_of_wobbleAddress (wobbleAddress_of_other (Fin.val_ne_of_ne other))
  case early => exact fun n s early => exec_of_catchMeasured (catchMeasured_of_early early)
  case rest => exact fun n s state measured rest => exec_of_catchMeasured (catchMeasured_of_rest state measured rest)
  case backward =>
    exact fun n s state measured turns backward => exec_of_catchMeasured (catchMeasured_of_backward state measured turns backward)
  case caught =>
    exact fun n s state measured turns forward bus => exec_of_catchMeasured (catchMeasured_of_forward state measured turns forward bus)
  case align => exact fun n s state => exec_of_alignDone (alignDone_of_align state)
  case brake => exact fun n s state => exec_of_brakeDone (brakeDone_of_brake state)
  case lost => exact fun n s state residual idle => exec_of_rotorLost (rotorLost_of_idle state residual idle)
  case timeout => exact fun n t s waits invalid => exec_of_lossTimeout (lossTimeout_of_invalid waits invalid)

end Sys2Proof
end

section
/-!
The statement about the sled's tick, VIN samples, regeneration faults and self-protection (R142 to R154).
-/

namespace Sys2Proof

open Machine

/-! ## Each event is its function -/

section Exec

variable {s v : State} {n : Stn}

theorem exec_of_sledTick (h : s.sledTick n = v) : exec (.sledTick n) s = .next (s.close v) := by rw [← h]; rfl

theorem exec_of_vinSample {mv : Nat} (h : s.vinSample mv = v) : exec (.vinSample mv) s = .next (s.close v) := by rw [← h]; rfl

theorem exec_of_selfProtection (h : s.protect = v) : exec .selfProtection s = .next (s.close v) := by rw [← h]; rfl

theorem exec_of_protectionRelease (h : s.protectRelease = v) : exec .protectionRelease s = .next (s.close v) := by rw [← h]; rfl

theorem exec_of_regenFaultClear (h : s.regenClear n = v) : exec (.regenFaultClear n) s = .next (s.close v) := by rw [← h]; rfl

end Exec

/-! ## The sled's tick (R142, R143, R145, R146) -/

section Tick

variable {s : State} {n : Nat}

/-- The acceleration of a tick that stops the sled. -/
def sledBrake (s : State) (n : Nat) : Int := brakeAcc (s.sledLimits n).2.1 (s.sledLimits n).2.2 (s.sled n).v (s.sled n).acc

/-- A tick of a snowplough stop, which ends where the sled has come to rest. -/
def snowTick (s : State) (n : Nat) : State :=
  let v := s.sledStep n (sledBrake s n)
  let w := ((v.setSled n (fun d => { d with snow := false, frac := 0 })).setBit (SLD_STAT n) SLD_STAT_SNOW true).showSled n
  if (v.sled n).v = 0 then (w.raiseStn n 10 []).trapSled n else v

/-- A tick of a sled with neither a stop nor a move to make. -/
def freeTick (s : State) (n : Nat) : State :=
  if (s.sled n).follow = true then s.followTick n else if (s.sled n).v = 0 then s else s.sledStep n (sledBrake s n)

theorem sledTick_of_protected (shut : s.bit (BUS_STAT n) BUS_STAT_PROTECT = true) : s.sledTick n = s := if_pos shut

variable (free : s.bit (BUS_STAT n) BUS_STAT_PROTECT = false)
include free

theorem sledTick_of_free : s.sledTick n =
    (if (s.sled n).snow then snowTick s n else match (s.sled n).target with
      | some t => s.moveTick n t
      | none => freeTick s n).showSled n := by
  refine (if_neg (Bool.eq_false_iff.mp free)).trans ?_
  rfl

theorem sledTick_of_snow (snow : (s.sled n).snow = true) : s.sledTick n = (snowTick s n).showSled n := by
  rw [sledTick_of_free free, if_pos snow]

theorem sledTick_of_move {t : Int} (still : (s.sled n).snow = false) (move : (s.sled n).target = some t) :
    s.sledTick n = (s.moveTick n t).showSled n := by
  rw [sledTick_of_free free, if_neg (Bool.eq_false_iff.mp still), move]

theorem sledTick_of_no_move (still : (s.sled n).snow = false) (none_to_make : (s.sled n).target = none) :
    s.sledTick n = (freeTick s n).showSled n := by
  rw [sledTick_of_free free, if_neg (Bool.eq_false_iff.mp still), none_to_make]

end Tick

/-! ## The motor bus (R151, R154) -/

section Bus

variable {s : State}

theorem protect_of_high (high : s.busAt 44000 = true) (unprotected : s.power.protect = false) :
    s.protect = (({ s with power.protect := true } : State).raise 36 []).eachStn (fun v n => if v.isOn (domSTN n) then v.protectStn n else v) := by
  refine if_neg ?_
  rw [high, unprotected]
  decide

/-- Station n leaves the protection, if it is under it. -/
def releaseStn (v : State) (n : Nat) : State :=
  if v.bit (BUS_STAT n) BUS_STAT_PROTECT = false then v else
  let v := (v.setFld (BUS_STAT n) BUS_STAT_STATE 0).setBit (BUS_STAT n) BUS_STAT_PROTECT false
  let v := v.setStn (toStn n) (fun t => { t with port.laserOff := v.fatal n })
  let v := v.setSpindle n (fun p => { p with on := false })
  (if v.spinState n = 7 then v.setSpin n 0 else v).supervise n

theorem protectRelease_of_low (low : s.busAt 43000 = false) (shut : s.power.protect = true) :
    s.protectRelease = ({ s with power.protect := false } : State).eachStn releaseStn := by
  have released : ¬ (s.busAt 43000 || !s.power.protect) = true := by
    rw [low, shut]
    decide
  refine (if_neg released).trans (congrArg (State.eachStn _) ?_)
  funext v n
  cases under : v.bit (BUS_STAT n) BUS_STAT_PROTECT with
  | false => exact (if_pos rfl).trans (if_pos under).symm
  | true => exact (if_neg Bool.false_ne_true).trans (if_neg (by simp [under])).symm

theorem regenClear_of_low {n : Nat} (fault : s.fld (BUS_STAT n) BUS_STAT_STATE = 2) (bus : s.fld (BUS_STAT n) BUS_STAT_VLOC < s.chOff n)
    (vin : s.fld (BUS_VIN n) BUS_VIN_VIN < s.chOff n) :
    s.regenClear n = (s.setFld (BUS_STAT n) BUS_STAT_STATE 0).setBit (BUS_STAT n) BUS_STAT_CHON false := if_pos ⟨fault, bus, vin⟩

end Bus

/-- Settles O18: a tick by what the sled has in hand, and each event of the bus station by station. -/
theorem sledAndBus : Obligations.SledAndBus := by
  unfold Obligations.SledAndBus
  refine ⟨?move, ?snow, ?free, ?shut, ?vin, ?protect, ?release, ?clear⟩
  case move => exact fun n t s free still move => exec_of_sledTick (sledTick_of_move free still move)
  case snow => exact fun n s free snow => exec_of_sledTick (sledTick_of_snow free snow)
  case free => exact fun n s free still none_to_make => exec_of_sledTick (sledTick_of_no_move free still none_to_make)
  case shut => exact fun n s shut => exec_of_sledTick (sledTick_of_protected shut)
  case vin => exact fun mv s => exec_of_vinSample rfl
  case protect => exact fun s high unprotected => exec_of_selfProtection (protect_of_high high unprotected)
  case release => exact fun s low shut => exec_of_protectionRelease (protectRelease_of_low low shut)
  case clear => exact fun n s fault bus vin => exec_of_regenFaultClear (regenClear_of_low fault bus vin)

end Sys2Proof
end

section
/-!
The statement about the tasks of a station (R130, R137, R231, R233, R244 to R246).
-/

namespace Sys2Proof

open Machine

/-! ## Each task is its function -/

section Exec

variable {s v : State} {n : Stn}

theorem exec_of_load {frames : List Bytes} (h : s.load n frames = v) : exec (.load n frames) s = .next (s.close v) := by rw [← h]; rfl

theorem exec_of_park (h : s.park n = v) : exec (.park n) s = .next (s.close v) := by rw [← h]; rfl

theorem exec_of_seek (h : s.seek n = v) : exec (.seek n) s = .next (s.close v) := by rw [← h]; rfl

theorem exec_of_spin (h : s.spinTask n = v) : exec (.spin n) s = .next (s.close v) := by rw [← h]; rfl

theorem exec_of_stow {bist : List BistFind} (task : s.inTask n .stow = true) (h : s.stowHead n bist false = v) :
    exec (.stow n bist) s = .next (s.close v) := by
  rw [← h]
  exact congrArg (fun u => Host.Outcome.next (s.close u)) (if_pos task)

theorem exec_of_retire {bist : List BistFind} (task : s.inTask n .retire = true) (h : s.stowHead n bist true = v) :
    exec (.retire n bist) s = .next (s.close v) := by
  rw [← h]
  exact congrArg (fun u => Host.Outcome.next (s.close u)) (if_pos task)

/-- What STOW and RETIRE do alike. -/
theorem exec_of_stowing {bist : List BistFind} {c : Instr}
    (task : (c = .stow n bist ∧ s.inTask n .stow = true) ∨ (c = .retire n bist ∧ s.inTask n .retire = true))
    (h : ∀ retire, s.stowHead n bist retire = v) : exec c s = .next (s.close v) := by
  obtain ⟨rfl, stow⟩ | ⟨rfl, retire⟩ := task
  · exact exec_of_stow stow (h false)
  · exact exec_of_retire retire (h true)

end Exec

/-! ## The way to a location (R130, R137, R246) -/

section Way

variable {s : State} {n : Nat} {w : Way}

/-- A way that has come to its end goes no further. -/
theorem goOn_of_ended (way : s.way n = some w) (ended : w.step = .there ∨ w.step = .lost) (k : Nat) : s.goOn n k = s := by
  have stays : s.wayPoll n w = s := by
    obtain there | lost := ended
    · simp only [State.wayPoll, there]
    · simp only [State.wayPoll, lost]
  cases k with
  | zero => rfl
  | succ k => simp [State.goOn, way, stays]

theorem approach_of_own {loc : Nat} (way : s.way n = some w) (own : w.loc = loc) (direct : w.first = false) (ended : w.step = .there ∨ w.step = .lost) :
    s.approach n loc = (s, some (decide (w.step = .there))) := by
  have kept : s.goOn n 12 = s := goOn_of_ended way ended 12
  obtain there | lost := ended
  · simp [State.approach, way, own, direct, kept, there]
  · simp [State.approach, way, own, direct, kept, lost]

theorem wayPoll_of_jump_failed (jumping : w.step = .jumping) (failed : s.fld (SV_JUMP n) SV_JUMP_STATUS ≠ 1 ∧ s.fld (SV_JUMP n) SV_JUMP_STATUS ≠ 2) :
    s.wayPoll n w =
      if w.again < 2 then (s.acquire n (some (s.loop n 0).y)).wayNext n { w with again := w.again + 1 } .focus else s.wayNext n w .lost := by
  obtain ⟨running, done⟩ := failed
  simp only [State.wayPoll, jumping, running, done, ↓reduceIte]
  by_cases early : w.again < 2
  · rw [if_pos early, if_neg (by omega)]
  · rw [if_neg early, if_pos (by omega)]

/-- The spindle is sent to the outer radius of the zone of `loc`, by the curve. -/
def seekSpeed (v : State) (n loc : Nat) : State :=
  let v := v.setSpindle n (fun p => { p with zone := some (locZone loc) })
  let v := ((v.setFld (LP_SP n 4) LP_SP_SLOPE 8192).writeSrc n 0 true).1
  (v.writeDemand n ((zoneROut (locZone loc) + 500) / 1000) true).1

theorem setOut_of_elsewhere {loc : Nat} (unplanned : (s.station (toStn n)).slotRun = none)
    (elsewhere : (s.setStn (toStn n) (fun t => { t with slotSpeed := none })).atPlace n loc = false) :
    ∃ w, s.setOut n loc false =
        (((seekSpeed (s.setStn (toStn n) (fun t => { t with slotSpeed := none })) n loc).showValid n).checkWrite n).wayNext n w .spin
      ∧ w.loc = loc ∧ w.first = false := by
  refine ⟨⟨loc, false, .spin, s.now, ((s.setStn (toStn n) (fun t => { t with slotSpeed := none })).rd n).wobbles, false, 0⟩, ?_, rfl, rfl⟩
  simp [State.setOut, unplanned, elsewhere, seekSpeed]

end Way

/-! ## LOAD (R233, R244, R245, R330) -/

section Load

variable {s : State} {n : Nat} {frames : List Bytes}
variable (task : s.inTask n .load = true)
include task

theorem load_of_begun (unset : s.way n = none) (unmoved : (s.station (toStn n)).loader = none) : s.load n frames = s.loaderStep n 2 := by
  simp only [State.load, task, unset, unmoved, Bool.not_true, Bool.false_eq_true, ↓reduceIte]

theorem load_of_done {c since : Nat} (unset : s.way n = none) (moved : (s.station (toStn n)).loader = some (c, since))
    (done : s.loaderStands n c since = some true) :
    s.load n frames = if c ≠ 2 then (s.setOut n 0 true).goOn n 12
      else if (s.fld (STN_AXSTAT n) STN_AXSTAT_STATUS).testBit 1 then s.loaderStep n 4 else s.stationFails n true := by
  simp only [State.load, task, unset, moved, done, Bool.not_true, Bool.false_eq_true, ↓reduceIte]

theorem load_of_failed {c since : Nat} (unset : s.way n = none) (moved : (s.station (toStn n)).loader = some (c, since))
    (failed : s.loaderStands n c since = some false) : s.load n frames = s.stationFails n true := by
  simp only [State.load, task, unset, moved, failed, Bool.not_true, Bool.false_eq_true, ↓reduceIte]

variable {w : Way} (way : s.way n = some w)
include way

theorem load_of_lost (lost : w.step = .lost) : s.load n frames = s.stationFails n false := by
  have kept : s.goOn n 12 = s := goOn_of_ended way (.inr lost) 12
  simp only [State.load, task, kept, way, lost, Bool.not_true, Bool.false_eq_true, ↓reduceIte]

theorem load_of_there (direct : w.first = false) (there : w.step = .there) : s.load n frames = s.loadEnd n frames := by
  have kept : s.goOn n 12 = s := goOn_of_ended way (.inl there) 12
  simp [State.load, task, kept, way, direct, there]

end Load

theorem loadEnd_of_record {s : State} {n : Nat} {frames : List Bytes} {r : Bytes} (record : leadRecord frames = some r) :
    s.loadEnd n frames =
      let v := s.setStn (toStn n) (fun t => { t with loaded := true, ident := r.take 32 })
      if identityOk r then (v.memWrite ((s.reg (TASK_ARG n 0)).toNat + 2 ^ 32 * (s.reg (TASK_ARG n 1)).toNat) (r.take 32)).endTask n .ok
      else v.endTask n .mediumReadError := by
  simp only [State.loadEnd, record]

theorem loadEnd_of_none {s : State} {n : Nat} {frames : List Bytes} (unread : leadRecord frames = none) :
    s.loadEnd n frames = (s.setStn (toStn n) (fun t => { t with loaded := true, ident := [] })).endTask n .mediumReadError := by
  simp only [State.loadEnd, unread]

/-! ## PARK, and how STOW and RETIRE go on (R231, R233) -/

section Park

variable {s : State} {n : Nat}

/-- PARK's first acts: DEMAND 0, the optical loops and SLD OFF, a sled that moves stopped. -/
def parkBegun (s : State) (n : Nat) : State :=
  let v := [0, 1, 2, 3, 7].foldl (fun (s : State) L => s.forceMode n L 0) (s.writeDemand n 0 true).1
  (if (v.sled n).v = 0 then v else (v.writeSldCtl n 1 true false).1).wayNext n ⟨0, false, .homing, 0, 0, false, 0⟩ .homing

/-- How PARK goes on, as far as spindle and sled have come. -/
def parkOn (v : State) (n : Nat) : State × Bool :=
  if !v.sledRests n then (v, false)
  else if v.fldInt (SLD_POS n) SLD_POS_POS ≠ v.fldInt (SLD_PMIN n) SLD_PMIN_PMIN then (v.sendSled n (v.fldInt (SLD_PMIN n) SLD_PMIN_PMIN), false)
  else if v.spinState n ≠ 0 then (v, false)
  else ((v.writeSldCtl n 0 false false).1.checkWrite n, true)

theorem parkOn_eq (v : State) (n : Nat) : parkOn v n =
    if v.sledRests n = false then (v, false)
    else if v.fldInt (SLD_POS n) SLD_POS_POS ≠ v.fldInt (SLD_PMIN n) SLD_PMIN_PMIN then (v.sendSled n (v.fldInt (SLD_PMIN n) SLD_PMIN_PMIN), false)
    else if v.spinState n ≠ 0 then (v, false)
    else ((v.writeSldCtl n 0 false false).1.checkWrite n, true) := by
  simp only [parkOn, Bool.not_eq_true']

theorem parkHead_of_way {w : Way} (way : s.way n = some w) : s.parkHead n = parkOn s n := by
  rw [State.parkHead, way]
  rfl

theorem parkHead_of_none (unset : s.way n = none) : s.parkHead n = parkOn (parkBegun s n) n := by
  rw [State.parkHead, unset]
  rfl

theorem parkOn_of_rest (rests : s.sledRests n = true) (home : s.fldInt (SLD_POS n) SLD_POS_POS = s.fldInt (SLD_PMIN n) SLD_PMIN_PMIN)
    (off : s.spinState n = 0) : parkOn s n = ((s.writeSldCtl n 0 false false).1.checkWrite n, true) := by
  simp only [parkOn, rests, home, off, ne_eq, not_true_eq_false, Bool.not_true, Bool.false_eq_true, ↓reduceIte]

theorem park_of_task (task : s.inTask n .park = true) :
    s.park n = if (s.parkHead n).2 = true then (s.parkHead n).1.endTask n .ok else (s.parkHead n).1 := by
  simp only [State.park, task, Bool.not_true, Bool.false_eq_true, ↓reduceIte]

variable {bist : List BistFind} {retire : Bool} {c since : Nat}

theorem stowHead_of_parking (unmoved : (s.station (toStn n)).loader = none) :
    s.stowHead n bist retire = if (s.parkHead n).2 = true then (s.parkHead n).1.loaderStep n 5 else (s.parkHead n).1 := by
  simp only [State.stowHead, unmoved]

theorem stowHead_of_failed (moved : (s.station (toStn n)).loader = some (c, since)) (failed : s.loaderStands n c since = some false) :
    s.stowHead n bist retire = s.stationFails n true := by
  simp only [State.stowHead, moved, failed]

theorem stowHead_of_unlocked (moved : (s.station (toStn n)).loader = some (5, since)) (done : s.loaderStands n 5 since = some true) :
    s.stowHead n bist retire = s.loaderStep n 3 := by
  simp only [State.stowHead, moved, done, ↓reduceIte]

/-- The disc has left the station, whose self-test runs. -/
def stowed (s : State) (n : Nat) (bist : List BistFind) : State :=
  ((s.setStn (toStn n) (fun t => { t with loaded := false, ident := [] })).discAbsent n).stationBist n bist

variable (moved : (s.station (toStn n)).loader = some (3, since)) (opened : s.loaderStands n 3 since = some true)
include moved opened

theorem stowHead_of_open : s.stowHead n bist false = (stowed s n bist).endTask n .ok := by
  simp [State.stowHead, moved, opened, stowed]

theorem stowHead_of_open_retired : s.stowHead n bist true =
    (((stowed s n bist).setStn (toStn n) (fun t => { t with retired := true })).endTask n .ok).failQueued n .stationUnavailable := by
  simp [State.stowHead, moved, opened, stowed]

end Park

/-! ## SEEK and SPIN (R130, R231) -/

section SeekSpin

variable {s : State} {n : Nat} {w : Way}

theorem seek_of_own (task : s.inTask n .seek = true) (way : s.way n = some w) (own : w.loc = (s.reg (TASK_ARG n 0)).toNat)
    (direct : w.first = false) (ended : w.step = .there ∨ w.step = .lost) :
    s.seek n = if w.step = .there then s.endTask n .ok else s.stationFails n false := by
  have came := approach_of_own way own direct ended
  obtain there | lost := ended
  · simp [State.seek, task, came, there]
  · simp [State.seek, task, came, lost]

/-- SPIN ends when the spindle stands as commanded. -/
def spinOnward (v : State) (n : Nat) : State :=
  if v.inTask n .spin = true ∧ v.spinState n = (if (v.spin n).on then 4 else 0) then v.endTask n .ok else v

theorem spinTask_of_none (task : s.inTask n .spin = true) (unset : s.way n = none) :
    s.spinTask n = spinOnward
      ((s.writeDemand n ((s.reg (TASK_ARG n 0)).toNat % 65536) true).1.wayNext n ⟨0, false, .spin, 0, 0, false, 0⟩ .spin) n := by
  simp only [State.spinTask, task, unset, spinOnward, Bool.not_true, Bool.false_eq_true, ↓reduceIte, Bool.and_eq_true, decide_eq_true_eq]

theorem spinTask_of_way (task : s.inTask n .spin = true) (way : s.way n = some w) : s.spinTask n = spinOnward s n := by
  simp only [State.spinTask, task, way, spinOnward, Bool.not_true, Bool.false_eq_true, ↓reduceIte, Bool.and_eq_true, decide_eq_true_eq]

end SeekSpin

/-- Settles O24: each task by the loader's step, the way and the state of spindle and sled that it has in hand. -/
theorem stationTasks : Obligations.StationTasks := by
  unfold Obligations.StationTasks
  refine ⟨?begun, ?closed, ?locked, ?fault, ?record, ?unread, ?lost, ?jump, ?setOut, ?park, ?parked, ?parking, ?stow, ?unlocked, ?stowOpen, ?retireOpen,
    ?stowFails, ?seek, ?spin, ?spinLater⟩
  case begun => exact fun n frames s task unset unmoved => exec_of_load (load_of_begun task unset unmoved)
  case closed =>
    intro n frames since s task unset moved done
    exact exec_of_load ((load_of_done task unset moved done).trans (if_neg (by decide)))
  case locked =>
    intro n frames since s task unset moved done
    exact exec_of_load ((load_of_done task unset moved done).trans (if_pos (by decide)))
  case fault => exact fun n frames c since s task unset moved failed => exec_of_load (load_of_failed task unset moved failed)
  case record =>
    intro n frames w r s task way there direct record
    exact exec_of_load ((load_of_there task way direct there).trans (loadEnd_of_record record))
  case unread =>
    intro n frames w s task way there direct unread
    exact exec_of_load ((load_of_there task way direct there).trans (loadEnd_of_none unread))
  case lost =>
    rintro n frames w s c (⟨rfl, task⟩ | ⟨rfl, task, own, direct⟩) way lost
    · exact exec_of_load (load_of_lost task way lost)
    · exact exec_of_seek ((seek_of_own task way own direct (.inr lost)).trans (if_neg (by rw [lost]; decide)))
  case jump => exact fun n w s jumping failed => wayPoll_of_jump_failed jumping failed
  case setOut => exact fun n loc s unplanned elsewhere => setOut_of_elsewhere unplanned elsewhere
  case park => exact fun n s task => exec_of_park (park_of_task task)
  case parked => exact fun n w s way rests home off => (parkHead_of_way way).trans (parkOn_of_rest rests home off)
  case parking => exact fun n s unset => (parkHead_of_none unset).trans (parkOn_eq (parkBegun s n) n)
  case stow => exact fun n bist s c task unmoved => exec_of_stowing task (fun _ => stowHead_of_parking unmoved)
  case unlocked => exact fun n bist since s c task moved done => exec_of_stowing task (fun _ => stowHead_of_unlocked moved done)
  case stowOpen => exact fun n bist since s task moved opened => exec_of_stow task (stowHead_of_open moved opened)
  case retireOpen => exact fun n bist since s task moved opened => exec_of_retire task (stowHead_of_open_retired moved opened)
  case stowFails => exact fun n bist k since s c task moved failed => exec_of_stowing task (fun _ => stowHead_of_failed moved failed)
  case seek =>
    intro n w s task way own direct there
    exact exec_of_seek ((seek_of_own task way own direct (.inl there)).trans (if_pos there))
  case spin => exact fun n s task unset => exec_of_spin (spinTask_of_none task unset)
  case spinLater => exact fun n w s task way stands => exec_of_spin ((spinTask_of_way task way).trans (if_pos ⟨task, stands⟩))

end Sys2Proof
end

section
/-!
The refutation of the statement about the tasks BAND_WRITE, BAND_READ, CAPTURE and CAL_STEP (R441 to R443).
-/

namespace Sys2Proof

open Machine

theorem exec_calStep (n : Stn) (m : Option CalMeas) (s : State) : exec (.calStep n m) s = .next (s.close (s.calStep n m)) := rfl

/-- R442, R443 (log entry 236): HF_GAIN whose pass has not brought every stream to gain 1.0 and offset 0 goes on measuring. -/
theorem calStep_of_unconverged {s : State} {n : Nat} {m : CalMeas} (task : s.inTask n .calStep = true)
    (gain : (s.reg (TASK_ARG n 0)).toNat = stepGAIN) (held : m.ready = true) (apart : m.gainDone = false) :
    s.calStep n (some m) = s.setCal n (fun c => { c with measuring := true }) := by
  have measures : ¬ (stepGAIN = stepLiveOn ∨ stepGAIN = stepLiveOff) := by decide
  simp only [State.calStep, task, gain, held, apart, measures, and_self, Bool.not_true, Bool.false_eq_true, ↓reduceIte]

/-- Station 1 holds a disc and has HF_GAIN in hand. -/
def gainState : State :=
  ((ready.withTask 1 .calStep []).setStn 1 (fun t => { t with loaded := true })).setReg (TASK_ARG 1 0) (BitVec.ofNat 32 stepGAIN)

/-- A pass of HF_GAIN that leaves stream 0 at gain 0. -/
def gainApart : CalMeas := ⟨true, 2500000, [], false, [], [], (0, 0), (0, 0), [⟨0, [(0, 0, 0)], []⟩], [], false, 0⟩

theorem gainState_measures :
    ((gainState.close (gainState.setCal 1 (fun c => { c with measuring := true }))).scal 1).measuring = true := by decide +kernel

/-- Taking the findings of that pass would end the step. -/
theorem gainState_ended : ((gainState.close (gainState.stnStep 1 gainApart)).scal 1).measuring = false := by decide +kernel

/-- Refutes O25: its clause for CAL_STEP has every measurement give its findings, where HF_GAIN whose pass has not converged goes on until its
budget is used up (R442, R443, log entry 236), as on the state above. -/
theorem not_bandAndCalibrationTasks : ¬ Obligations.BandAndCalibrationTasks := by
  rintro ⟨-, -, -, -, -, -, findings, -⟩
  obtain ⟨-, stated⟩ := findings 1 gainApart gainState (by decide +kernel) ⟨by decide +kernel, by decide +kernel⟩
  have goesOn : gainState.calStep 1 (some gainApart) = gainState.setCal 1 (fun c => { c with measuring := true }) :=
    calStep_of_unconverged (by decide +kernel) (by decide +kernel) rfl (by decide +kernel)
  have same : gainState.close (gainState.calStep 1 (some gainApart)) = gainState.close (gainState.stnStep 1 gainApart) :=
    Host.Outcome.next.inj ((exec_calStep 1 (some gainApart) gainState).symm.trans stated)
  have measuring := gainState_measures
  rw [← goesOn, same, gainState_ended] at measuring
  exact Bool.false_ne_true measuring

end Sys2Proof
end

section
/-!
The statement about a frame's decode attempt, outer recovery and the ladder (R156, R165, R167, R176 to R188).
-/

namespace Sys2Proof

open Machine

/-! ## Each command is its function -/

section Exec

variable {s v : State} {n : Stn}

theorem exec_of_frameDecode {t : Fin 72} {k : Fin 8} (h : s.frameDecode n t k = v) : exec (.frameDecode n t k) s = .next (s.close v) := by
  rw [← h]; rfl

theorem exec_of_outerRecovery (h : s.outerRecovery n = v) : exec (.outerRecovery n) s = .next (s.close v) := by rw [← h]; rfl

theorem exec_of_ladderPass (h : s.ladderPass n = v) : exec (.ladderPass n) s = .next (s.close v) := by rw [← h]; rfl

end Exec

/-! ## The streams at a slot, and the attempts at its frames (R156, R165, R167, R178) -/

section Attempts

variable {s : State} {n : Nat} {p : Pass} {t k : Nat}

theorem lookSlot_of_looked (looked : (s.rd n).lookSlot = some t) : s.lookSlot n p t = s := by
  simp only [State.lookSlot, looked, ↓reduceIte]

/-- The offsets tried are those of the attempts, in order. -/
theorem attempts_of_predicted (predicted : (s.look n k).pred.isNone = false) :
    s.attempts n p t k = (s.tryAt n k).map (fun o => (o.1, s.attemptAt n p t k o.1)) := by
  simp only [State.attempts, predicted, Bool.false_eq_true, ↓reduceIte]

theorem decodeFrame_of_unpredicted (unpredicted : (s.look n k).pred = none) : s.decodeFrame n p t k = none := by
  simp only [State.decodeFrame, unpredicted, Option.isNone_none, ↓reduceIte]

theorem decodeFrame_of_all_failed (failed : ∀ x ∈ s.attempts n p t k, x.2.conv = false ∨ p.checks t k x.2.info = false) :
    s.decodeFrame n p t k = none := by
  cases predicted : (s.look n k).pred.isNone with
  | true => exact decodeFrame_of_unpredicted (Option.isNone_iff_eq_none.mp predicted)
  | false =>
    rw [attempts_of_predicted predicted] at failed
    simp only [State.decodeFrame, predicted, Bool.false_eq_true, ↓reduceIte]
    refine List.findSome?_eq_none_iff.mpr fun o tried => if_neg (ne_true_of_eq_false ?_)
    exact Bool.and_eq_false_iff.mpr (failed _ (List.mem_map_of_mem tried))

theorem predict_of_ref {q u : Nat} {r : Int} {lead : Option Look} (leads : q < 8) (ref : (s.stream n q).ref = some (u, r)) :
    s.predict n q t lead =
      if u + 1 = t then some (s.stream n q, r + 40144)
      else (SMap.get? (s.rd n).syncs (8 * t + q)).map (fun c => (s.stream n q).towards (c + 288 * 16)) := by
  simp only [State.predict, leads, ref, ↓reduceIte, Int.reduceMul]

end Attempts

/-! ## A frame's result (R178, R179, R185, R188) -/

section Frame

variable (s : State) (n : Nat) (p : Pass) (t k : Nat)

/-- The pass, with the result of the frame at (t, k) no longer to come. -/
def passWithout : Pass := { p with left := p.left.filter (fun x => x != (t, k)) }

/-- The bits of FLOCK that stand for a frame of spiral `k`: those of its two streams, of its lead stream alone under single-look reading. -/
def flockMask : Nat := 2 ^ k + (if s.singleLook n then 0 else 2 ^ (k + 8))

/-- The slot has been looked at; FLOCK shows `f`. -/
def flockShown (f : Nat) : State :=
  ((s.lookSlot n p t).setFld (RC_STAT n) RC_STAT_FLOCK f).setBit (RC_STAT n) RC_STAT_SL (s.singleLook n)

/-- The frame has passed: what it leaves of class `c`, at offset `o`, from attempt `a`. -/
def framePassed (c : Nat) (o : Int) (a : Attempt) : State :=
  let w := flockShown s n p t ((s.lookSlot n p t).fld (RC_STAT n) RC_STAT_FLOCK ||| flockMask s n k)
  (((w.refineNeighbours n (passWithout p t k) t k o).setStream n k (fun x => { x with ref := (w.look n k).pred.map (fun i => (t, i + o)) })).bump
    (RC_CNT n c) RC_CNT_COUNT 1).setRd n (fun r => { r with
    pass := some { passWithout p t k with got := p.got ++ [(⟨t, k, c, some a.info, (s.lookSlot n p t).single n k, p.step, a.raw⟩ : FrameRes)] } })

/-- The frame has failed: its summed LLRs stay. -/
def frameFailed : State :=
  let w := flockShown s n p t ((s.lookSlot n p t).fld (RC_STAT n) RC_STAT_FLOCK &&& (65535 - flockMask s n k))
  let best := bestAttempt (w.attempts n (passWithout p t k) t k)
  let x : SoftRes := ⟨t, k, (match p.soft.find? (fun (x : SoftRes) => x.slot == t && x.spiral == k) with | some o => o.passes + 1 | none => 1),
    (if (s.lookSlot n p t).single n k then 1 else 0) + 2,
    (match best with | some b => b.1 | none => 0), (match best with | some b => b.2.synd | none => 0),
    (match best with | some b => b.2.soft | none => p.sums t k)⟩
  (w.setStream n k (fun x => { x with ref := none })).setRd n (fun r => { r with
    pass := some { passWithout p t k with soft := p.soft.filter (fun (x : SoftRes) => !(x.slot == t && x.spiral == k)) ++ [x] } })

/-- What a frame's result leaves. -/
def frameResult : Option (Nat × Int × Attempt) → State
  | some (c, o, a) => framePassed s n p t k c o a
  | none => frameFailed s n p t k

variable {s n p t k}

theorem frameDecode_of_due (pass : (s.rd n).pass = some p) (decoding : p.phase = 0) (due : p.left.contains (t, k) = true) :
    s.frameDecode n t k =
      ((frameResult s n p t k ((s.lookSlot n p t).decodeFrame n (passWithout p t k) t k)).passKnown n).preemptPoint n := by
  rw [State.frameDecode, pass]
  refine (if_neg (by simpa [decoding] using due)).trans (congrArg (fun v : State => (v.passKnown n).preemptPoint n) ?_)
  unfold passWithout
  generalize (s.lookSlot n p t).decodeFrame n _ t k = result
  cases result with
  | none => rfl
  | some r => rfl

end Frame

/-! ## Outer recovery (R182, R185) -/

section Outer

variable (s : State) (n : Nat) (p : Pass)

/-- The pass holds what the outer codewords gave. -/
def passRecovered : Pass := { p with got := p.got ++ (p.recover).map (fun f => { f with single := s.singleLook n }), phase := 2 }

/-- Those frames count as class 3, and OUTER shows that the recovery is over. -/
def recoveryShown : State :=
  (s.bump (RC_CNT n 3) RC_CNT_COUNT ((p.recover).map (fun f => { f with single := s.singleLook n })).length).setBit (RC_STAT n) RC_STAT_OUTER false

variable {s n p} (pass : (s.rd n).pass = some p) (known : p.phase = 1)
include pass known

theorem outerRecovery_of_phase : s.outerRecovery n =
    if (passRecovered s n p).missing.isEmpty || decide (p.steps ≤ p.step) then (recoveryShown s n p).endPass n (passRecovered s n p)
    else (recoveryShown s n p).setRd n (fun r => { r with pass := some (passRecovered s n p) }) := by
  rw [State.outerRecovery, pass]
  exact if_neg (not_not_intro known)

theorem outerRecovery_of_ended (ended : (passRecovered s n p).missing = [] ∨ p.steps ≤ p.step) :
    s.outerRecovery n = (recoveryShown s n p).endPass n (passRecovered s n p) :=
  (outerRecovery_of_phase pass known).trans (if_pos (by simpa using ended))

theorem outerRecovery_of_missing (missing : (passRecovered s n p).missing ≠ []) (climbs : p.step < p.steps) :
    s.outerRecovery n = (recoveryShown s n p).setRd n (fun r => { r with pass := some (passRecovered s n p) }) :=
  (outerRecovery_of_phase pass known).trans (if_neg (by simpa using And.intro missing climbs))

end Outer

/-! ## The ladder (R183, R184, Table 6.5) -/

section Ladder

variable (s : State) (n k : Nat)

/-- The loop whose target step `k` moves: FOC at steps 3 and 4, TRK at steps 5 and 6. -/
def ladderLoop : Nat := if k ≤ 4 then 0 else 1

/-- The offset of step `k`. -/
def ladderOffset : Int :=
  if k = 3 then s.fld (RC_RETRY n) RC_RETRY_FOFS else if k = 4 then -(s.fld (RC_RETRY n) RC_RETRY_FOFS : Int)
  else if k = 5 then s.fld (RC_RETRY n) RC_RETRY_TOFS else if k = 6 then -(s.fld (RC_RETRY n) RC_RETRY_TOFS : Int) else 0

theorem ladderShift_of_offset (h : 3 ≤ k ∧ k ≤ 6) : s.ladderShift n k = some (ladderLoop k, 32 * ladderOffset s n k) := by
  obtain ⟨lo, hi⟩ := h
  obtain rfl | rfl | rfl | rfl : k = 3 ∨ k = 4 ∨ k = 5 ∨ k = 6 := by omega
  all_goals simp [State.ladderShift, ladderLoop, ladderOffset]

theorem ladderShift_of_plain (h : ¬ (3 ≤ k ∧ k ≤ 6)) : s.ladderShift n k = none := by
  have three : k ≠ 3 := by omega
  have four : k ≠ 4 := by omega
  have five : k ≠ 5 := by omega
  have six : k ≠ 6 := by omega
  simp only [State.ladderShift, three, four, five, six, ↓reduceIte]

/-- The target that step `k` finds. -/
def ladderBase : Int := s.fldInt (LP_SP n (ladderLoop k)) LP_SP_TARGET

/-- The target of the step's loop moves by its offset. -/
def ladderMoved : State :=
  if 3 ≤ k ∧ k ≤ 6 then s.moveTarget n (ladderLoop k) (satS 16 (ladderBase s n k + 32 * ladderOffset s n k)) else s

theorem ladderMove_eq (p : Pass) : s.ladderMove n p =
    (ladderMoved s n p.step, { p with moved := if 3 ≤ p.step ∧ p.step ≤ 6 then some (ladderLoop p.step, ladderBase s n p.step) else none }) := by
  by_cases offset : 3 ≤ p.step ∧ p.step ≤ 6
  · simp only [State.ladderMove, ladderShift_of_offset s n p.step offset, ladderMoved, ladderBase, if_pos offset]
  · simp only [State.ladderMove, ladderShift_of_plain s n p.step offset, ladderMoved, if_neg offset]

/-- The pass at its next step, with the positions that failed to be read again. -/
def passAtNextStep (p : Pass) : Pass :=
  { p with
    step := p.step + 1, phase := 0, ztab := s.ztabReg n, zvalid := s.bit (RC_ZTAB_LO n) RC_ZTAB_LO_VALID,
    moved := if 3 ≤ p.step + 1 ∧ p.step + 1 ≤ 6 then some (ladderLoop (p.step + 1), ladderBase s n (p.step + 1)) else none,
    left := p.positions.filter (fun x => (p.at? x.1 x.2).isNone) }

variable {s n}

theorem ladderPass_of_phase {p : Pass} (pass : (s.rd n).pass = some p) (recovered : p.phase = 2) :
    s.ladderPass n =
      (((ladderMoved s n (p.step + 1)).setRd n (fun r => { r.fresh with pass := some (passAtNextStep s n p) })).setFld (RC_STAT n) RC_STAT_STEP
        (p.step + 1)).showSl n := by
  rw [State.ladderPass, pass]
  refine (if_neg (not_not_intro recovered)).trans ?_
  rw [ladderMove_eq]
  rfl

end Ladder

/-- Settles O26: a frame by its result, outer recovery by what is still missing, a ladder step by its offset. -/
theorem frameResults : Obligations.FrameResults := by
  unfold Obligations.FrameResults
  refine ⟨?decode, ?looked, ?fails, ?predicts, ?ended, ?due, ?ladder⟩
  case decode =>
    rintro n t k p s pass ⟨decoding, due⟩
    exact exec_of_frameDecode (frameDecode_of_due pass decoding due)
  case looked => exact fun n p t s looked => lookSlot_of_looked looked
  case fails =>
    rintro n t k p s (unpredicted | failed)
    · exact decodeFrame_of_unpredicted unpredicted
    · exact decodeFrame_of_all_failed failed
  case predicts => exact fun n q t u r s ref => predict_of_ref q.isLt ref
  case ended => exact fun n p s pass known ended => exec_of_outerRecovery (outerRecovery_of_ended pass known ended)
  case due => exact fun n p s pass known missing climbs => exec_of_outerRecovery (outerRecovery_of_missing pass known missing climbs)
  case ladder => exact fun n p s pass recovered => exec_of_ladderPass (ladderPass_of_phase pass recovered)

end Sys2Proof
end

section
/-!
The statement about BAND, TASK and EVT microwords (R202, R220, R226, R232, R234).
-/

namespace Sys2Proof

open Machine

/-! ## Each microword is its function -/

section Exec

variable {s v : State} {n : Stn}

theorem exec_of_bandStartWrite (h : s.bandStartWrite n = v) : exec (.bandStartWrite n) s = .next (s.close v) := by rw [← h]; rfl

theorem exec_of_bandStartPass (h : s.bandStartPass n = v) : exec (.bandStartPass n) s = .next (s.close v) := by rw [← h]; rfl

theorem exec_of_bandStartCapture (h : s.bandStartCapture n = v) : exec (.bandStartCapture n) s = .next (s.close v) := by rw [← h]; rfl

theorem exec_of_bandTestWrite (h : s.bandTestWrite n = v) : exec (.bandTestWrite n) s = .next (s.close v) := by rw [← h]; rfl

theorem exec_of_taskEnd (h : s.taskEnd n = v) : exec (.taskEnd n) s = .next (s.close v) := by rw [← h]; rfl

theorem exec_of_taskStep (h : s.taskStep n = v) : exec (.taskStep n) s = .next (s.close v) := by rw [← h]; rfl

theorem exec_of_taskSuspend (h : s.taskSuspend n = v) : exec (.taskSuspend n) s = .next (s.close v) := by rw [← h]; rfl

theorem exec_of_evt (h : s.evtWord n = v) : exec (.evt n) s = .next (s.close v) := by rw [← h]; rfl

end Exec

/-! ## A microword that runs changes no register, nor what its station reads and writes -/

section Running

variable (s : State) (n : Nat)

@[simp] theorem m_running (k : Nat) : (running s n).m n k = s.m n k := by simp only [State.m, running, gaf_setGaf]

@[simp] theorem bw?_running : (running s n).bw? n = s.bw? n := by
  simp only [State.bw?, running, State.setGaf, State.station_setStn_same]

@[simp] theorem rd_running : (running s n).rd n = s.rd n := by
  simp only [State.rd, running, State.setGaf, State.station_setStn_same]

@[simp] theorem ledger_running : (running s n).ledger = s.ledger := rfl

@[simp] theorem reg_running (r : Reg) : (running s n).reg r = s.reg r := rfl

@[simp] theorem bit_running (r : Reg) (f : Fld) : (running s n).bit r f = s.bit r f := rfl

@[simp] theorem inTask_running (k : TaskKind) : (running s n).inTask n k = s.inTask n k := rfl

@[simp] theorem pc_running : (running s n).pc n = s.pc n := rfl

end Running

/-! ## The set sent for a test write leaves the gaffer alone (R200, R201) -/

section Gaf

variable {s : State} {n : Nat}

theorem gaf_clPut (s : State) (n : Nat) (data : Bool) (payload : Nat) : (s.clPut n data payload).gaf n = s.gaf n := by
  simp only [State.gaf, State.clPut, State.station_setStn_same]

theorem gaf_foldl_clPut (blocks : List Nat) (s : State) (n : Nat) :
    (blocks.foldl (fun s b => s.clPut n false b) s).gaf n = s.gaf n := by
  induction blocks generalizing s with
  | nil => rfl
  | cons b blocks ih => exact (ih _).trans (gaf_clPut s n false b)

theorem gaf_setReg (s : State) (n : Nat) (r : Reg) (w : Word) : (s.setReg r w).gaf n = s.gaf n := by
  simp only [State.gaf, State.station, State.setReg_stn]

theorem gaf_raise (s : State) (n e : Nat) (detail : List Nat) : (s.raise e detail).gaf n = s.gaf n := by
  simp only [State.gaf, State.station, raise_stn]

theorem gaf_sendSet (s : State) (n layer zone stab : Nat) : (s.sendSet n layer zone stab).gaf n = s.gaf n := by
  unfold State.sendSet
  extract_lets z sent
  have marked : (sent.setStn (toStn n) (fun t => { t with setSent := some (stab, layer, z) })).gaf n = sent.gaf n := by
    simp only [State.gaf, State.station_setStn_same]
  split_ifs
  · rfl
  · exact gaf_raise s n _ _
  · rfl
  · exact marked.trans (gaf_foldl_clPut _ s n)

theorem gaf_of_testPlace {v : State} {param : Nat} (place : s.testPlace n param = some v) : v.gaf n = s.gaf n := by
  obtain ⟨k, -, placed⟩ := Option.bind_eq_some_iff.mp place
  obtain ⟨-, sent⟩ := Option.ite_none_right_eq_some.mp placed
  obtain rfl := Option.some.inj sent
  exact (gaf_sendSet _ n _ _ _).trans (gaf_setReg s n _ _)

/-- The micro-registers at the place of a test write. -/
theorem m_of_testPlace {v : State} {param : Nat} (place : (running s n).testPlace n param = some v) (k : Nat) : v.m n k = s.m n k := by
  rw [← m_running s n k, State.m, gaf_of_testPlace place, ← State.m]

end Gaf

/-! ## BAND (R202, R220, R226) -/

section Band

variable {s : State} {n : Nat} {m : Micro} {o : Nano} (h : Fetches s n m o) (hc : m.cls = 10)
include h hc

theorem bandStartWrite_of_parison {p : Parison} (ho : o.subop = 0) (named : s.ledger.parisons.find? (fun p => p.id == s.m n 1) = some p)
    (free : s.bw? n = none) : s.bandStartWrite n = ((running s n).startBand n (s.m n 0) p 0).nextPc n := by
  rw [State.bandStartWrite, micro_of_fetches h (by simp [hc]) (by simp [hc, ho]), if_neg (by omega)]
  simp only [ledger_running, m_running, bw?_running, named, free, Option.isSome_none, Bool.false_eq_true, ↓reduceIte]

/-- DESIGN CHOICE of the model (log entry 58): a BAND that names no parison only moves on. -/
theorem bandStartWrite_of_no_parison (ho : o.subop = 0) (unnamed : s.ledger.parisons.find? (fun p => p.id == s.m n 1) = none) :
    s.bandStartWrite n = (running s n).nextPc n := by
  rw [State.bandStartWrite, micro_of_fetches h (by simp [hc]) (by simp [hc, ho]), if_neg (by omega)]
  simp only [ledger_running, m_running, unnamed]

theorem bandStartPass_of_fetches (ho : o.subop = 1) :
    s.bandStartPass n = ((running s n).startPass n (s.m n 0) (s.m n 1) (s.m n 2) (s.m n 3)).nextPc n := by
  rw [State.bandStartPass, micro_of_fetches h (by simp [hc]) (by simp [hc, ho])]
  simp only [m_running]

theorem bandStartCapture_of_fetches (ho : o.subop = 2) :
    s.bandStartCapture n = ((running s n).startCapture n (s.m n 0) (s.m n 1) ((s.m n 2).testBit 0)).nextPc n := by
  rw [State.bandStartCapture, micro_of_fetches h (by simp [hc]) (by simp [hc, ho])]
  simp only [m_running]

/-- R220: the TEST_WRITE step writes where the preconditions hold, once its lasers stay within their range. -/
theorem bandTestWrite_of_step {v : State} (ho : o.subop = 3) (within : (running s n).testRange n (s.m n 0) = false)
    (task : s.inTask n .calStep = true) (step : (s.reg (TASK_ARG n 0)).toNat = stepTEST)
    (place : (running s n).testPlace n (s.m n 0) = some v) : s.bandTestWrite n = (v.testWrite n (s.m n 0) (s.m n 1)).nextPc n := by
  rw [State.bandTestWrite, micro_of_fetches h (by simp [hc]) (by simp [hc, ho])]
  simp only [m_running, inTask_running, reg_running, within, task, step, place, m_of_testPlace place, bne_self_eq_false, Bool.not_true, Bool.or_self,
    Bool.false_eq_true, ↓reduceIte]

/-- R220: no other task and no other step writes a calibration area. -/
theorem bandTestWrite_of_other (ho : o.subop = 3) (other : s.inTask n .calStep = false ∨ (s.reg (TASK_ARG n 0)).toNat ≠ stepTEST) :
    s.bandTestWrite n = (running s n).nextPc n := by
  rw [State.bandTestWrite, micro_of_fetches h (by simp [hc]) (by simp [hc, ho]), if_pos]
  obtain task | step := other
  · simp [task]
  · simp [step]

end Band

/-! ## TASK and EVT (R226, R232, R234) -/

section Task

variable {s : State} {n : Nat} {m : Micro} {o : Nano} {st : Status}

theorem taskEnd_of_fetches (h : Fetches s n m o) (hc : m.cls = 11) (ho : o.subop = 0) :
    s.taskEnd n = ((running s n).endHand n (codeStatus m.imm)).setFld (TASK_STATUS n) TASK_STATUS_RESULT m.imm := by
  rw [State.taskEnd, micro_of_fetches h (by simp [hc]) (by simp [hc, ho]), if_neg (by omega)]

theorem endWrite_of_other (other : s.inTask n .bandWrite = false) : s.endWrite n st = s := if_pos (by simp [other])

/-- Log entry 203: the band of a BAND_WRITE is abandoned by a failure; another status reaches the WRITEs whose blocks it holds. -/
theorem endWrite_of_band {b : BandWrite} (task : s.inTask n .bandWrite = true) (hb : s.bw? n = some b) :
    s.endWrite n st =
      if isFailure st then s.abandon n st else (s.cmdsIn b.par.id).foldl (fun (u : State) i => u.note i st) s := by
  simp only [State.endWrite, task, hb, Bool.not_true, Bool.false_eq_true, ↓reduceIte]

theorem endHand_of_other (other : s.inTask n .bandWrite = false) : s.endHand n st = s.endTask n st := by
  rw [State.endHand, endWrite_of_other other, if_pos rfl]

theorem taskStep_of_fetches (h : Fetches s n m o) (hc : m.cls = 11) (ho : o.subop = 1) :
    s.taskStep n = ((running s n).setFld (TASK_STATUS n) TASK_STATUS_STEP (m.imm % 16)).nextPc n := by
  rw [State.taskStep, micro_of_fetches h (by simp [hc]) (by simp [hc, ho])]

/-- R234: outside a band pass no frames are left to be read again. -/
theorem taskSuspend_of_no_pass (h : Fetches s n m o) (hc : m.cls = 11) (ho : o.subop = 2)
    (first : s.bit (TASK_STATUS n) TASK_STATUS_SUSP = false) (no_pass : (s.rd n).pass = none) :
    s.taskSuspend n = (running s n).suspend n ((s.pc n + 1) % 2 ^ 14) [] := by
  rw [State.taskSuspend, micro_of_fetches h (by simp [hc]) (by simp [hc, ho])]
  simp only [bit_running, rd_running, pc_running, first, no_pass, Bool.false_eq_true, ↓reduceIte]

theorem evtWord_of_fetches (h : Fetches s n m o) (hc : m.cls = 12) (known : m.imm < 24) :
    s.evtWord n = ((running s n).raiseStn n m.imm []).nextPc n := by
  rw [State.evtWord, micro_of_fetches h (by simp [hc]) (by simp [hc]), if_pos known]

end Task

/-- Settles O23: each microword once it is fetched, and a task's end by what it has in hand. -/
theorem bandTaskAndEventMicrowords : Obligations.BandTaskAndEventMicrowords := by
  refine ⟨?write, ?noParison, ?pass, ?capture, ?test, ?noTest, ?ends, ?endOther, ?endBand, ?step, ?suspend, ?evt⟩
  case write => exact fun n m o p s h hc ho named free => exec_of_bandStartWrite (bandStartWrite_of_parison h hc ho named free)
  case noParison => exact fun n m o s h hc ho unnamed => exec_of_bandStartWrite (bandStartWrite_of_no_parison h hc ho unnamed)
  case pass => exact fun n m o s h hc ho => exec_of_bandStartPass (bandStartPass_of_fetches h hc ho)
  case capture => exact fun n m o s h hc ho => exec_of_bandStartCapture (bandStartCapture_of_fetches h hc ho)
  case test =>
    intro n m o v s h hc ho within task step place
    exact exec_of_bandTestWrite (bandTestWrite_of_step h hc ho within task step place)
  case noTest => exact fun n m o s h hc ho other => exec_of_bandTestWrite (bandTestWrite_of_other h hc ho other)
  case ends => exact fun n m o s h hc ho => exec_of_taskEnd (taskEnd_of_fetches h hc ho)
  case endOther => exact fun n st s other => endHand_of_other other
  case endBand =>
    intro n st b s task hb
    rw [State.endHand, endWrite_of_band task hb]
  case step => exact fun n m o s h hc ho => exec_of_taskStep (taskStep_of_fetches h hc ho)
  case suspend =>
    intro n m o s h hc ho first no_pass
    exact exec_of_taskSuspend (taskSuspend_of_no_pass h hc ho first no_pass)
  case evt => exact fun n m o s h hc known => exec_of_evt (evtWord_of_fetches h hc known)

end Sys2Proof
end

section
/-!
The statement about the trail-look verification of a written frame (R203 to R207, R211, R219).
-/

namespace Sys2Proof

open Machine

theorem exec_of_verifyResult {s v : State} {n : Stn} {t : Fin 72} {k : Fin 8} (h : s.verifyFrame n t k = v) :
    exec (.verifyResult n t k) s = .next (s.close v) := by
  rw [← h]
  rfl

/-! ## The band that a station writes -/

section Band

variable (s : State) (n : Nat)

theorem bw?_of_stn {s u : State} (h : u.stn = s.stn) (n : Nat) : u.bw? n = s.bw? n := by simp only [State.bw?, State.station, h]

@[simp] theorem bw?_setBw (g : BandWrite → BandWrite) : (s.setBw n g).bw? n = (s.bw? n).map g := by
  simp only [State.bw?, State.setBw, State.station_setStn_same]

@[simp] theorem bw?_bump (r : Reg) (f : Fld) (x : Nat) : (s.bump r f x).bw? n = s.bw? n := bw?_of_stn (bump_stn s r f x) n

end Band

/-! ## The look (R203) -/

/-- The trail look of a slot whose first bit was meant to land at count `c`. -/
theorem verifyLook_of_start {s : State} {n t k c : Nat} {b : BandWrite} (start : b.starts.find? (fun e => e.1 == t) = some (t, c)) :
    s.verifyLook n b t k = s.lookAt n (locLayer b.loc) (locZone b.loc) (k + 8) t 0
      (some ((s.stream n (k + 8)).towards (s.instant n (16 * (c + 288 + s.fld (WR_LAT n) WR_LAT_LAG))))) none := by
  rw [State.verifyLook, start, Option.map_some]

/-! ## What a failed data frame means (R205 to R207) -/

section Failed

variable {s : State} {n d t k : Nat} {b : BandWrite} (hb : s.bw? n = some b)
include hb

theorem dataFailed_of_spare {z : Nat} (early : t ≤ 58) (free : b.freeSpare k = some z) :
    s.dataFailed n d t k =
      (((s.bump (WR_CNT n 2) WR_CNT_COUNT 1).setBw n (fun b => { b with
        spares := b.spares ++ [⟨d, t, k, z, false⟩] })).showSpares n).refreeze n := by
  simp only [State.dataFailed, hb, early, free, ↓reduceIte]

theorem dataFailed_of_no_spare (early : t ≤ 58) (none_free : b.freeSpare k = none) :
    s.dataFailed n d t k = (s.setBw n (fun b => { b with lost := b.lost ++ [d] })).closeEarly n (8 * (t + 3)) [d] := by
  simp only [State.dataFailed, hb, early, none_free, ↓reduceIte]

/-- R207: from slot 59 on a spare would come too late. -/
theorem dataFailed_of_late (late : ¬ t ≤ 58) :
    s.dataFailed n d t k = (s.setBw n (fun b => { b with lost := b.lost ++ [d] })).unplaceIdx n b 0 [d] [d] := by
  simp only [State.dataFailed, hb, late, ↓reduceIte]

end Failed

/-! ## A result (R203, R204, R219) -/

section Result

/-- The band awaits the result of the frame at (t, k) no longer. -/
def withoutResult (b : BandWrite) (t k : Nat) : BandWrite := { b with awaited := b.awaited.filter (fun x => x != (t, k)) }

/-- R219: the mean of the offsets takes one more. -/
def withOffset (b : BandWrite) (off : Int) : BandWrite := { b with offSum := b.offSum + off, offCnt := b.offCnt + 1 }

variable (s : State) (n t k : Nat)

/-- The result of the frame at (t, k) has come; WR_CNT0 or WR_CNT1 counts it. -/
def resultCounted (pass : Bool) : State :=
  (s.setBw n (fun b => withoutResult b t k)).bump (WR_CNT n (if pass then 0 else 1)) WR_CNT_COUNT 1

/-- The frame at (t, k) has passed, `off` from its predicted point. -/
def passCounted (off : Int) : State := (resultCounted s n t k true).setBw n (fun b => withOffset b off)

variable {s n t k} {conv equal : Bool} {raw : Nat} {off : Int} {b : BandWrite}

/-- R203: what fails a frame. -/
theorem fails_iff : (conv && decide (raw ≤ 900) && equal) = false ↔ conv = false ∨ 900 < raw ∨ equal = false := by
  simp only [Bool.and_eq_false_iff, decide_eq_false_iff_not, not_le, or_assoc]

theorem resultCounted_bw? (hb : s.bw? n = some b) (pass : Bool) : (resultCounted s n t k pass).bw? n = some (withoutResult b t k) := by
  rw [resultCounted, bw?_bump, bw?_setBw, hb, Option.map_some]

theorem spare_range (spare : t = 68 ∨ t = 69) : ¬ t ≤ 63 ∧ ¬ t ≤ 67 ∧ t ≤ 69 := by omega

variable (hb : s.bw? n = some b) (waits : b.awaited.contains (t, k) = true)
include hb waits

theorem verified_of_data_passes (few : raw ≤ 900) (data : t ≤ 63) (has : b.has (homeIndex t k) = true) :
    s.verified n t k true raw true off =
      ((passCounted s n t k off).setBw n (fun b => { b with verified := b.verified ++ [homeIndex t k] })).settleBand n := by
  simp only [State.verified, hb, waits, few, data, has, decide_true, Bool.and_self, Bool.not_true, Bool.false_eq_true, ↓reduceIte]
  rfl

theorem verified_of_data_fails (fails : conv = false ∨ 900 < raw ∨ equal = false) (data : t ≤ 63) (has : b.has (homeIndex t k) = true) :
    s.verified n t k conv raw equal off = ((resultCounted s n t k false).dataFailed n (homeIndex t k) t k).settleBand n := by
  simp only [State.verified, hb, waits, fails_iff.mpr fails, data, has, Bool.not_true, Bool.false_eq_true, ↓reduceIte]
  rfl

section Copy

variable {c : Spare} (spare : t = 68 ∨ t = 69) (copy : b.copies.find? (fun x => x.spare == t && x.spiral == k) = some c)
include spare copy

theorem verified_of_copy_passes (few : raw ≤ 900) :
    s.verified n t k true raw true off =
      ((passCounted s n t k off).setBw n (fun b => { b with verified := b.verified ++ [c.d] })).settleBand n := by
  obtain ⟨no_data, no_parity, in_spare⟩ := spare_range spare
  simp only [State.verified, hb, waits, few, spare, copy, no_data, no_parity, in_spare, decide_true, Bool.and_self, Bool.not_true,
    Bool.false_eq_true, ↓reduceIte]
  rfl

theorem verified_of_copy_fails (fails : conv = false ∨ 900 < raw ∨ equal = false) :
    s.verified n t k conv raw equal off =
      (((resultCounted s n t k false).setBw n (fun b => { b with lost := b.lost ++ [c.d] })).unplaceIdx n b 0 [c.d] [c.d]).settleBand n := by
  obtain ⟨no_data, no_parity, in_spare⟩ := spare_range spare
  simp only [State.verified, hb, waits, fails_iff.mpr fails, spare, copy, no_data, no_parity, in_spare, Bool.not_true,
    Bool.false_eq_true, ↓reduceIte]
  rfl

end Copy

theorem verified_of_seal_passes (few : raw ≤ 900) (part : 70 ≤ t) :
    s.verified n t k true raw true off = ((passCounted s n t k off).setBw n (fun b => { b with sealOk := b.sealOk ++ [k] })).settleBand n := by
  have no_data : ¬ t ≤ 63 := by omega
  have no_parity : ¬ t ≤ 67 := by omega
  have no_spare : ¬ t ≤ 69 := by omega
  simp only [State.verified, hb, waits, few, no_data, no_parity, no_spare, decide_true, Bool.and_self, Bool.not_true,
    Bool.false_eq_true, ↓reduceIte]
  rfl

end Result

/-- Settles O29: the look, then each kind of frame by its result. -/
theorem verifiedFrames : Obligations.VerifiedFrames := by
  refine ⟨?result, ?look, ?passes, ?spare, ?noSpare, ?copy, ?sealed⟩
  case result =>
    intro n t k b s hb v none' zero a wrote
    refine exec_of_verifyResult ?_
    simp only [State.verifyFrame, hb]
    rfl
  case look => exact fun n t k b c s start => verifyLook_of_start start
  case passes =>
    rintro n t k raw off b s hb waits ⟨few, data, has⟩
    exact verified_of_data_passes hb waits few data has
  case spare =>
    rintro n t k conv raw equal off b z s hb waits fails ⟨early, has⟩ free
    dsimp only
    rw [verified_of_data_fails hb waits fails (by omega) has, dataFailed_of_spare (resultCounted_bw? hb false) early free]
    rfl
  case noSpare =>
    rintro n t k conv raw equal off b s hb waits fails ⟨data, has⟩ none_free
    dsimp only
    rw [verified_of_data_fails hb waits fails data has]
    have counted := resultCounted_bw? (t := t.val) (k := k.val) hb false
    by_cases early : t.val ≤ 58
    · rw [dataFailed_of_no_spare counted early (none_free early), if_pos early]
      rfl
    · rw [dataFailed_of_late counted early, if_neg early]
      rfl
  case copy =>
    intro n t k pass b c s hb waits spare copy
    cases pass with
    | true => exact verified_of_copy_passes hb waits spare copy (Nat.zero_le 900)
    | false => exact verified_of_copy_fails hb waits spare copy (.inl rfl)
  case sealed =>
    rintro n t k raw off b s hb waits ⟨few, part⟩
    exact verified_of_seal_passes hb waits few part

end Sys2Proof
end

section
/-!
The statement about a write hold (R214 to R218).
-/

namespace Sys2Proof

open Machine

/-! ## Each event is its function -/

section Exec

variable {s v : State} {n : Stn}

theorem exec_of_holdPointFixed (h : s.fixHold n false = v) : exec (.holdPointFixed n) s = .next (s.close v) := by rw [← h]; rfl

theorem exec_of_holdAdjustDone (h : s.holdAdjusted n = v) : exec (.holdAdjustDone n) s = .next (s.close v) := by rw [← h]; rfl

theorem exec_of_longHold (h : s.holdLong n = v) : exec (.longHold n) s = .next (s.close v) := by rw [← h]; rfl

theorem exec_of_holdTimeout (h : s.holdTimeout n = v) : exec (.holdTimeout n) s = .next (s.close v) := by rw [← h]; rfl

end Exec

/-- Only what a change does to the band as it stands counts. -/
theorem setBw_congr {s : State} {n : Nat} {b : BandWrite} {g g' : BandWrite → BandWrite} (hb : s.bw? n = some b) (same : g b = g' b) :
    s.setBw n g = s.setBw n g' := by
  refine setStn_congr ?_
  rw [State.bw?] at hb
  rw [hb, Option.map_some, Option.map_some, same]

/-! ## Write power goes off: the band is still the same -/

section PowerOff

variable (s : State) (n : Nat)

@[simp] theorem bw?_clPut (data : Bool) (payload : Nat) : (s.clPut n data payload).bw? n = s.bw? n := by
  simp only [State.bw?, State.clPut, State.station_setStn_same]

@[simp] theorem bw?_powerOff : (s.powerOff n).bw? n = s.bw? n := by
  unfold State.powerOff
  extract_lets ended
  have same : ended.bw? n = s.bw? n := by
    subst ended
    split
    · exact bw?_clPut s n _ _
    · rfl
  rw [← same]
  simp only [State.bw?, State.station_setStn_same]

@[simp] theorem bw?_powerOffNow : (s.powerOffNow n).bw? n = s.bw? n := by
  rw [State.powerOffNow, bw?_powerOff]
  simp only [State.bw?, State.station_setStn_same]

end PowerOff

/-! ## The hold point (R215, R216) -/

section HoldPoint

/-- The hold point stands, and HPT shows the last slot written. -/
def pointFixed (s : State) (n cut : Nat) : State :=
  (s.setBw n (fun b => { b with hold := b.hold.map (fun h => { h with cut := some cut }) })).setFld (WR_HOLD n) WR_HOLD_HPT ((cut + 127) % 128)

variable {s : State} {n cut : Nat} {b : BandWrite} (hb : s.bw? n = some b)
include hb

/-- The hold point at the slot that is next to start, read off the band as it stands. -/
theorem pointFixed_slot : pointFixed s n b.slot =
    (s.setBw n (fun b => { b with hold := b.hold.map (fun h => { h with cut := some b.slot }) })).setFld (WR_HOLD n) WR_HOLD_HPT
      ((b.slot + 127) % 128) :=
  congrArg (fun v => State.setFld v (WR_HOLD n) WR_HOLD_HPT ((b.slot + 127) % 128)) (setBw_congr hb rfl)

theorem holdPoint_of_first (first : b.holds < 2) :
    s.holdPoint n cut = (((pointFixed s n cut).skipSlots n cut).resendSet n).stepBack n := by
  have single : ¬ 2 ≤ b.holds := by omega
  simp only [State.holdPoint, hb, ge_iff_le, single, false_and, ↓reduceIte, pointFixed]

/-- Log entry 41: a second hold counts as a long one. -/
theorem holdPoint_of_second (second : 2 ≤ b.holds) (early : cut < 63) :
    s.holdPoint n cut = (((pointFixed s n cut).longHold n cut).resendSet n).stepBack n := by
  have in_time : ¬ 63 ≤ cut := by omega
  simp only [State.holdPoint, hb, ge_iff_le, second, in_time, and_false, ↓reduceIte, pointFixed]

theorem holdPoint_of_second_late (second : 2 ≤ b.holds) (late : 63 ≤ cut) :
    s.holdPoint n cut = (pointFixed s n cut).abandon n .writeHeldTimeout := by
  simp only [State.holdPoint, hb, ge_iff_le, second, late, and_self, ↓reduceIte, pointFixed]

end HoldPoint

section FixHold

variable {s : State} {n : Nat} {b : BandWrite} {h : Hold} (hb : s.bw? n = some b) (hold : b.hold = some h) (moving : h.cut = none)
include hb hold moving

/-- R218: at the end of the frame; the slot that is next to start is the first not written. -/
theorem fixHold_of_frame_end (more : b.slot ≠ 71) : s.fixHold n false = (s.powerOff n).holdPoint n b.slot := by
  simp only [State.fixHold, hb, hold, moving, more, Option.isSome_none, Bool.false_eq_true, ↓reduceIte]

/-- R81, R218: at once; the slot being written is lost. -/
theorem fixHold_of_at_once (more : b.slot ≠ 71) :
    s.fixHold n true =
      ((s.powerOffNow n).setBw n (fun b => { b with awaited := b.awaited.filter (fun f => f.1 != b.slot - 1) })).holdPoint n (b.slot - 1) := by
  simp only [State.fixHold, hb, hold, moving, more, Option.isSome_none, Bool.false_eq_true, ↓reduceIte]
  exact congrArg (fun v => State.holdPoint v n (b.slot - 1)) (setBw_congr ((bw?_powerOffNow s n).trans hb) rfl)

/-- The last slot was being written: nothing is left to resume. -/
theorem fixHold_of_last (last : b.slot = 71) :
    s.fixHold n false =
      ((((s.powerOff n).setFld (WR_HOLD n) WR_HOLD_HPT 70).setBit (WR_STAT n) WR_STAT_HOLD false).setBw n (fun b => { b with
        hold := none, slot := 72 })).settleBand n := by
  simp only [State.fixHold, hb, hold, moving, last, Option.isSome_none, Bool.false_eq_true, ↓reduceIte, Nat.reduceAdd, Nat.reduceMod]

end FixHold

/-! ## The hold goes on, resumes its band or runs out (R210, R215 to R217) -/

section Hold

variable {s : State} {n : Nat} {b : BandWrite} {h : Hold} (hb : s.bw? n = some b) (hold : b.hold = some h)
include hb hold

theorem holdAdjusted_of_fixed (fixed : h.cut.isSome = true) (unadjusted : h.adjusted = false) :
    s.holdAdjusted n =
      let v := s.setBw n (fun b => { b with hold := b.hold.map (fun h => { h with adjusted := true }) })
      if b.frozen.isSome = true ∨ 60 < h.resumeAt then v.freeze n else v := by
  simp only [State.holdAdjusted, hb, hold, Option.isNone_eq_false_iff.mpr fixed, unadjusted, Bool.or_self, Bool.or_eq_true,
    decide_eq_true_eq, Bool.false_eq_true, ↓reduceIte]

theorem holdLong_of_fixed {c : Nat} (fixed : h.cut = some c) (failing : h.recovered = false) (short : h.long = false) :
    s.holdLong n =
      if c ≤ 62 then s.longHold n c
      else ((s.setBit (WR_HOLD n) WR_HOLD_LONG true).trapCause n 11 2).setBw n (fun b => { b with
        hold := b.hold.map (fun h => { h with long := true }) }) := by
  simp only [State.holdLong, hb, hold, fixed, failing, short, Bool.or_self, Bool.false_eq_true, ↓reduceIte]

section Passage

variable {first : Nat} {refused : List (Nat × Nat)} (begun : b.seq.isSome = true) (fixed : h.cut.isSome = true)
include begun fixed

/-- Log entry 175: while a precondition fails, the band's position comes round again one octo-turn back. -/
theorem passage_of_failing (failing : h.recovered = false) :
    s.passage n first refused = (s.refuse n (readBound (h.resumeAt - 1)) refused).stepBack n := by
  simp only [State.passage, freshLoc_of_begun hb begun, hb, BandWrite.begun, begun, hold, Option.isNone_eq_false_iff.mpr fixed, failing,
    Bool.not_true, Bool.false_and, Bool.false_eq_true, ↓reduceIte]

/-- R195, R215: the band resumes at slot `r`; where that is slot 70 the seal is committed if it was signed in time. -/
def resumed (v : State) (n r : Nat) : State :=
  v.setBw n (fun b => { b with
    hold := none, slot := r,
    sealReady := if r = 70 then (match b.signed with | some t => decide (t * 100 + 10036 ≤ v.now * 100) | none => false) else b.sealReady })

theorem passage_of_ready {c : BandWrite} (recovered : h.recovered = true) (adjusted : h.adjusted = true)
    (read : (s.refuse n (readBound (h.resumeAt - 1)) refused).bw? n = some c)
    (frozen : freezeOk (s.refuse n (readBound (h.resumeAt - 1)) refused).now h.resumeAt c.frozen = true) :
    s.passage n first refused =
      ((resumed (s.refuse n (readBound (h.resumeAt - 1)) refused) n h.resumeAt).writeSlot n first).refuse n (readBound h.resumeAt) refused := by
  simp only [State.passage, freshLoc_of_begun hb begun, hb, BandWrite.begun, begun, hold, Option.isNone_eq_false_iff.mpr fixed,
    recovered, adjusted, read, frozen, Bool.not_true, Bool.and_self, Bool.false_eq_true, ↓reduceIte]
  rfl

end Passage

end Hold

/-- R217: a hold that has not recovered, or a wait before slot 0, has lasted HTMO. -/
theorem holdTimeout_of_expired {s : State} {n : Nat} {b : BandWrite} (hb : s.bw? n = some b)
    (expired : (b.hold.isSome = true ∧ b.hold.all (fun h => !h.recovered) = true) ∨ (b.waitSince.isSome = true ∧ b.seq = none)) :
    s.holdTimeout n = s.abandon n .writeHeldTimeout := by
  simp only [State.holdTimeout, hb]
  refine if_pos ?_
  obtain ⟨held, failing⟩ | ⟨waiting, unbegun⟩ := expired
  · obtain ⟨h, hold⟩ := Option.isSome_iff_exists.mp held
    rw [hold, Option.all_some] at failing
    simp only [hold, failing, Bool.true_or]
  · simp only [waiting, BandWrite.begun, unbegun, Option.isSome_none, Bool.not_false, Bool.and_self, Bool.or_true]

/-- Settles O30: the hold point by the holds so far and the slot, then each event of a hold by how far the hold has come. -/
theorem theWriteHold : Obligations.TheWriteHold := by
  refine ⟨?first, ?second, ?secondLate, ?last, ?atOnce, ?adjusted, ?long, ?resumes, ?failing, ?timeout⟩
  case first =>
    rintro n b h s hb ⟨hold, moving⟩ ⟨more, one⟩
    refine exec_of_holdPointFixed ?_
    rw [fixHold_of_frame_end hb hold moving more, holdPoint_of_first ((bw?_powerOff s n).trans hb) (by omega),
      pointFixed_slot ((bw?_powerOff s n).trans hb)]
  case second =>
    rintro n b h s hb ⟨hold, moving⟩ ⟨early, second⟩
    refine exec_of_holdPointFixed ?_
    rw [fixHold_of_frame_end hb hold moving (by omega), holdPoint_of_second ((bw?_powerOff s n).trans hb) second early,
      pointFixed_slot ((bw?_powerOff s n).trans hb)]
  case secondLate =>
    rintro n b h s hb ⟨hold, moving⟩ ⟨late, more, second⟩
    refine exec_of_holdPointFixed ?_
    rw [fixHold_of_frame_end hb hold moving more, holdPoint_of_second_late ((bw?_powerOff s n).trans hb) second late,
      pointFixed_slot ((bw?_powerOff s n).trans hb)]
  case last =>
    rintro n b h s hb ⟨hold, moving⟩ last
    exact exec_of_holdPointFixed (fixHold_of_last hb hold moving last)
  case atOnce =>
    rintro n b h s hb ⟨hold, moving⟩ more
    exact fixHold_of_at_once hb hold moving more
  case adjusted =>
    rintro n b h s hb ⟨hold, fixed, unadjusted⟩
    exact exec_of_holdAdjustDone (holdAdjusted_of_fixed hb hold fixed unadjusted)
  case long =>
    rintro n b h c s hb ⟨hold, fixed, failing, short⟩
    exact exec_of_longHold (holdLong_of_fixed hb hold fixed failing short)
  case resumes =>
    rintro n first refused b c h s hb ⟨begun, hold, fixed, recovered, adjusted⟩ read frozen
    exact exec_of_passage (passage_of_ready hb hold begun fixed recovered adjusted read frozen)
  case failing =>
    rintro n first refused b h s hb ⟨begun, hold, fixed, failing⟩
    exact exec_of_passage (passage_of_failing hb hold begun fixed failing)
  case timeout => exact fun n b s hb expired => exec_of_holdTimeout (holdTimeout_of_expired hb expired)

end Sys2Proof
end

section
/-!
SUPPORT. What the statements about ALU, flow, WAIT, TMR and TRAP microwords share: synchronous causes (R226, R235, R238) and what a
microword that runs, or a WAIT, leaves as it was.
-/

namespace Sys2Proof

open Machine

/-! ## What a microword reads of its station is as before it runs -/

section Running

variable (s : State) (n : Nat)

@[simp] theorem fld_running (r : Reg) (f : Fld) : (running s n).fld r f = s.fld r f := rfl

@[simp] theorem stack_running : ((running s n).gaf n).stack = (s.gaf n).stack := by simp only [running, gaf_setGaf]

@[simp] theorem lc_running : ((running s n).gaf n).lc = (s.gaf n).lc := by simp only [running, gaf_setGaf]

/-- Of the gaffer's own state the condition word shows only whether a pre-emption is asked for (Table 8.5). -/
theorem condWord_congr {u v : State} (regs : u.regs = v.regs) (preempt : (u.gaf n).preempt = (v.gaf n).preempt) :
    u.condWord n = v.condWord n := by
  simp only [State.condWord, State.flag, State.bit, State.fld, State.reg, regs, preempt]
  rfl

@[simp] theorem condWord_running : (running s n).condWord n = s.condWord n :=
  condWord_congr n rfl (by simp only [running, gaf_setGaf])

end Running

/-! ## Synchronous causes -/

section Cause

/-- A cause that becomes pending leaves the PC. -/
@[simp] theorem pc_trapCause (s : State) (n c info : Nat) : (s.trapCause n c info).pc n = s.pc n :=
  s.fld_setFld_other _ _ _ (by simp [SEQ_TRAP, SEQ_STAT, stnKey])

/-- R226, R238: a microword that raises a synchronous cause; inside a trap routine it is a double fault. -/
theorem syncCause_running (s : State) (n c info : Nat) :
    (running s n).syncCause n c info =
      if (s.gaf n).inTrap then (running s n).gafferCheck n 1 0 0 (s.pc n) else ((running s n).trapCause n c info).nextPc n := by
  rw [State.syncCause, running_inTrap, pc_running]

/-- The same with the next PC written out. -/
theorem syncCause_running_setPc (s : State) (n c info : Nat) :
    (running s n).syncCause n c info =
      if (s.gaf n).inTrap then (running s n).gafferCheck n 1 0 0 (s.pc n)
      else ((running s n).trapCause n c info).setPc n (s.pc n + 1) := by
  rw [syncCause_running, State.nextPc, pc_trapCause, pc_running]

end Cause

end Sys2Proof
end

section
/-!
The statement about ALU microwords (R222, R224 to R226).
-/

namespace Sys2Proof

open Machine

theorem exec_of_alu {s v : State} {n : Stn} (h : s.alu n = v) : exec (.alu n) s = .next (s.close v) := by rw [← h]; rfl

/-! ## Operands and results (Table 8.4) -/

/-- Operand B: SRCB, CONST, or IMM without or with its sign, as SUBOP selects; none for a reserved code. -/
def aluB (s : State) (n : Nat) (m : Micro) (o : Nano) : Option Word :=
  if o.subop / 16 = 0 then s.mreg n o.srcb else if o.subop / 16 = 1 then some (BitVec.ofNat 32 o.const)
  else if o.subop / 16 = 2 then some (BitVec.ofNat 32 m.imm) else if o.subop / 16 = 3 then some (BitVec.ofInt 32 (signed8 m.imm)) else none

/-- Operand A; MOV has none. -/
def aluA (s : State) (n : Nat) (o : Nano) : Option Word := if o.subop % 16 = 0 then some 0 else s.mreg n o.srca

section Operands

variable {s : State} {n : Nat} {m : Micro} {o : Nano} {a b : Word}

/-- Where SUBOP is not reserved, what is neither SRCB nor CONST nor the plain IMM is the signed one. -/
theorem aluB_of_lt (h : o.subop < 64) :
    aluB s n m o = if o.subop / 16 = 0 then s.mreg n o.srcb else if o.subop / 16 = 1 then some (BitVec.ofNat 32 o.const)
      else if o.subop / 16 = 2 then some (BitVec.ofNat 32 m.imm) else some (BitVec.ofInt 32 (signed8 m.imm)) := by
  refine ite_congr rfl (fun _ => rfl) fun noSrcb => ite_congr rfl (fun _ => rfl) fun noConst => ite_congr rfl (fun _ => rfl) fun noImm => ?_
  exact if_pos (by omega)

theorem mreg_of_reserved {k : Nat} (h : 12 ≤ k) : s.mreg n k = none := by
  rw [State.mreg, if_neg (by omega), if_neg (by omega)]

theorem aluA_of_reserved (h : o.subop % 16 ≠ 0 ∧ 12 ≤ o.srca) : aluA s n o = none := by
  rw [aluA, if_neg h.1, mreg_of_reserved h.2]

theorem aluB_of_reserved (h : 64 ≤ o.subop ∨ o.subop < 16 ∧ 12 ≤ o.srcb) : aluB s n m o = none := by
  obtain large | ⟨register, srcb⟩ := h
  · rw [aluB, if_neg (by omega), if_neg (by omega), if_neg (by omega), if_neg (by omega)]
  · rw [aluB, if_pos (by omega), mreg_of_reserved srcb]

end Operands

/-- The results of the operations, in the order of their codes. -/
def aluTable (a b : Word) : List Word :=
  let less := if Config.minMaxSigned then a.slt b else a.ult b
  [b, a + b, a - b, a &&& b, a ||| b, a ^^^ b, a <<< b.toNat, a >>> b.toNat, a.sshiftRight b.toNat, a * b, a - b,
    if less then a else b, if less then b else a]

section Result

variable {op : Nat} {a b : Word}

theorem aluResult_of_table (known : op ≤ 12) (amount : 6 ≤ op ∧ op ≤ 8 → b.toNat < 32) :
    aluResult op a b = some ((aluTable a b).getD op 0) := by
  by_cases shift : 6 ≤ op ∧ op ≤ 8
  · have small : ¬ 32 ≤ b.toNat := Nat.not_le.mpr (amount shift)
    obtain ⟨lo, hi⟩ := shift
    interval_cases op <;> exact if_neg small
  · obtain below | above : op ≤ 5 ∨ 9 ≤ op := by omega
    · interval_cases op <;> rfl
    · interval_cases op <;> rfl

theorem aluResult_of_long_shift (shift : 6 ≤ op ∧ op ≤ 8) (amount : 32 ≤ b.toNat) : aluResult op a b = none := by
  obtain ⟨lo, hi⟩ := shift
  interval_cases op <;> exact if_pos amount

/-- The spec states C and V for ADD, SUB and CMP alone. -/
theorem aluCV_of_shift (shift : 6 ≤ op ∧ op ≤ 8) : aluCV op a b = none := by
  rw [aluCV, if_neg (by omega), if_neg (by omega)]

end Result

/-! ## What an ALU microword does once it is fetched -/

/-- The end of an ALU microword: the result in DST unless it is CMP, the flags and the next PC. -/
def aluEnd (s : State) (n : Nat) (o : Nano) (r : Word) (cv : Bool × Bool) : State :=
  let v := if o.subop % 16 = 10 then s else s.setMreg n o.dst r
  ((((v.setFlag n 0 (r == 0)).setFlag n 1 r.msb).setFlag n 2 cv.1).setFlag n 3 cv.2).nextPc n

section Alu

variable {s : State} {n : Nat} {m : Micro} {o : Nano} {a b : Word} (h : Fetches s n m o) (hc : m.cls = 0)
include h hc

theorem alu_of_fetches : s.alu n = match aluA s n o, aluB s n m o with
    | some a, some b =>
      if 13 ≤ o.subop % 16 ∨ (o.subop % 16 ≠ 10 ∧ 12 ≤ o.dst) then (running s n).illegal n m
      else
        let k := s.fresh + if (aluResult (o.subop % 16) a b).isSome then 0 else 1
        let cv := aluCV (o.subop % 16) a b
        aluEnd { running s n with fresh := k + if cv.isSome then 0 else 2 } n o
          ((aluResult (o.subop % 16) a b).getD (Config.freeWord s.fresh)) (cv.getD (Config.freeBool k, Config.freeBool (k + 1)))
    | _, _ => (running s n).illegal n m := by
  rw [State.alu, micro_of_fetches h (by simp [hc]) (by simp [hc])]
  simp only [mreg_running]
  change (match aluA s n o, aluB s n m o with | some a, some b => _ | _, _ => _) = _
  cases aluA s n o with
  | none => rfl
  | some a =>
    cases aluB s n m o with
    | none => rfl
    | some b =>
      dsimp only
      cases aluResult (o.subop % 16) a b <;> cases aluCV (o.subop % 16) a b <;> rfl

/-- A reserved operation or register code. -/
theorem alu_of_reserved (reserved : 13 ≤ o.subop % 16 ∨ 64 ≤ o.subop ∨ (o.subop % 16 ≠ 10 ∧ 12 ≤ o.dst) ∨ (o.subop % 16 ≠ 0 ∧ 12 ≤ o.srca)
      ∨ (o.subop < 16 ∧ 12 ≤ o.srcb)) : s.alu n = (running s n).illegal n m := by
  have why : (13 ≤ o.subop % 16 ∨ (o.subop % 16 ≠ 10 ∧ 12 ≤ o.dst)) ∨ aluA s n o = none ∨ aluB s n m o = none := by
    obtain op | large | dst | srca | srcb := reserved
    · exact .inl (.inl op)
    · exact .inr (.inr (aluB_of_reserved (.inl large)))
    · exact .inl (.inr dst)
    · exact .inr (.inl (aluA_of_reserved srca))
    · exact .inr (.inr (aluB_of_reserved (.inr srcb)))
  rw [alu_of_fetches h hc]
  split
  next a b ha hb => exact if_pos (why.resolve_right (by simp [ha, hb]))
  next => rfl

variable (legal : o.subop % 16 ≤ 12 ∧ (o.subop % 16 = 10 ∨ o.dst < 12)) (hb : aluB s n m o = some b)
include legal hb

/-- A result that the spec states; the C and V that it leaves open are free. -/
theorem alu_of_result (ha : o.subop % 16 = 0 ∨ s.mreg n o.srca = some a) (amount : 6 ≤ o.subop % 16 ∧ o.subop % 16 ≤ 8 → b.toNat < 32) :
    s.alu n =
      let cv := aluCV (o.subop % 16) a b
      aluEnd { running s n with fresh := s.fresh + if cv.isSome then 0 else 2 } n o ((aluTable a b).getD (o.subop % 16) 0)
        (cv.getD (Config.freeBool s.fresh, Config.freeBool (s.fresh + 1))) := by
  obtain ⟨known, dst⟩ := legal
  have result := fun x : Word => aluResult_of_table (a := x) known amount
  by_cases mov : o.subop % 16 = 0
  · rw [alu_of_fetches h hc, aluA, if_pos mov, hb]
    simp only [mov]
    exact if_neg (by omega)
  · rw [alu_of_fetches h hc, aluA, if_neg mov, ha.resolve_left mov, hb]
    simp only [result]
    exact if_neg (by omega)

/-- Log entry 80: a shift by 32 or more leaves the result open too. -/
theorem alu_of_long_shift (ha : s.mreg n o.srca = some a) (shift : 6 ≤ o.subop % 16 ∧ o.subop % 16 ≤ 8) (amount : 32 ≤ b.toNat) :
    s.alu n = aluEnd { running s n with fresh := s.fresh + 3 } n o (Config.freeWord s.fresh)
      (Config.freeBool (s.fresh + 1), Config.freeBool (s.fresh + 2)) := by
  rw [alu_of_fetches h hc, aluA, if_neg (by omega), ha, hb]
  simp only [aluResult_of_long_shift shift amount, aluCV_of_shift shift]
  exact if_neg (by omega)

end Alu

/-- Settles O19: an ALU microword by its operands, and one that is reserved. -/
theorem aluMicrowords : Obligations.AluMicrowords := by
  refine ⟨?stated, ?long, ?reserved⟩
  case stated =>
    rintro n m o a b s h hc ⟨known, sources, dst⟩ ha hb amount
    exact exec_of_alu (alu_of_result h hc ⟨known, dst⟩ ((aluB_of_lt sources).trans hb) ha amount)
  case long =>
    rintro n m o a b s h hc ⟨lo, hi, sources, dst⟩ ha hb amount
    refine exec_of_alu ?_
    rw [alu_of_long_shift h hc ⟨by omega, .inr dst⟩ ((aluB_of_lt sources).trans hb) ha ⟨lo, hi⟩ amount, aluEnd, if_neg (by omega)]
  case reserved =>
    intro n m o s h hc reserved
    exact exec_of_alu ((alu_of_reserved h hc reserved).trans (syncCause_running s n 2 _))

end Sys2Proof
end

section
/-!
The statement about BR, JMP, CALL, RET, RTT and LOOP microwords (R226, R227, R237).
-/

namespace Sys2Proof

open Machine

/-! ## Each microword is its function -/

section Exec

variable {s v : State} {n : Stn}

theorem exec_of_br (h : s.br n = v) : exec (.br n) s = .next (s.close v) := by rw [← h]; rfl

theorem exec_of_jmp (h : s.jmp n = v) : exec (.jmp n) s = .next (s.close v) := by rw [← h]; rfl

theorem exec_of_call (h : s.call n = v) : exec (.call n) s = .next (s.close v) := by rw [← h]; rfl

theorem exec_of_ret (h : s.ret n = v) : exec (.ret n) s = .next (s.close v) := by rw [← h]; rfl

theorem exec_of_rtt (h : s.rtt n = v) : exec (.rtt n) s = .next (s.close v) := by rw [← h]; rfl

theorem exec_of_loop (h : s.loopWord n = v) : exec (.loop n) s = .next (s.close v) := by rw [← h]; rfl

end Exec

/-! ## What they do once fetched -/

section Flow

variable {s : State} {n : Nat} {m : Micro} {o : Nano} (h : Fetches s n m o)
include h

theorem br_of_fetches (hc : m.cls = 3) :
    s.br n = if (s.condWord n &&& o.mask) = (o.const % 65536 &&& o.mask) then
        (running s n).setPc n (((s.pc n : Int) + 1 + signed8 m.imm) % 2 ^ 14).toNat
      else (running s n).setPc n (s.pc n + 1) := by
  rw [State.br, micro_of_fetches h (by simp [hc]) (by simp [hc])]
  simp only [State.condHolds, condWord_running, beq_iff_eq]
  rfl

theorem jmp_of_plain (hc : m.cls = 4) (ho : o.subop = 0) : s.jmp n = (running s n).setPc n o.target := by
  rw [State.jmp, micro_of_fetches h (by simp [hc]) (by simp [hc, ho]), if_neg (by omega)]

theorem jmp_of_reserved (hc : m.cls = 4) (ho : 2 ≤ o.subop) : s.jmp n = (running s n).syncCause n 2 m.word := by
  have other : (o.subop != 1) = true := bne_iff_ne.mpr (by omega)
  rw [State.jmp, micro_of_fetches h (by simp [hc]) (by simp [hc, other]), if_pos ho]
  rfl

theorem call_of_room (hc : m.cls = 4) (ho : o.subop = 1) (room : s.fld (SEQ_STAT n) SEQ_STAT_SP < 8) :
    s.call n =
      let sp := s.fld (SEQ_STAT n) SEQ_STAT_SP
      let v := (running s n).setGaf n (fun g => { g with stack := g.stack.set sp ((s.pc n + 1) % 2 ^ 14) })
      (v.setFld (SEQ_STAT n) SEQ_STAT_SP (sp + 1)).setPc n o.target := by
  rw [State.call, micro_of_fetches h (by simp [hc]) (by simp [hc, ho])]
  exact if_neg (Nat.not_le.mpr room)

theorem call_of_full (hc : m.cls = 4) (ho : o.subop = 1) (full : 8 ≤ s.fld (SEQ_STAT n) SEQ_STAT_SP) :
    s.call n = (running s n).syncCause n 1 (s.pc n) := by
  rw [State.call, micro_of_fetches h (by simp [hc]) (by simp [hc, ho])]
  exact if_pos full

theorem ret_of_filled (hc : m.cls = 5) (ho : o.subop = 0) (filled : 0 < s.fld (SEQ_STAT n) SEQ_STAT_SP) :
    s.ret n =
      let sp := s.fld (SEQ_STAT n) SEQ_STAT_SP
      ((running s n).setFld (SEQ_STAT n) SEQ_STAT_SP (sp - 1)).setPc n ((s.gaf n).stack.getD (sp - 1) 0) := by
  have plain : ¬ 2 ≤ o.subop := by omega
  rw [State.ret, micro_of_fetches h (by simp [hc]) (by simp [hc, ho])]
  simp only [plain, fld_running, filled.ne', stack_running, ↓reduceIte]

theorem ret_of_empty (hc : m.cls = 5) (ho : o.subop = 0) (empty : s.fld (SEQ_STAT n) SEQ_STAT_SP = 0) :
    s.ret n = (running s n).syncCause n 1 (s.pc n) := by
  have plain : ¬ 2 ≤ o.subop := by omega
  rw [State.ret, micro_of_fetches h (by simp [hc]) (by simp [hc, ho])]
  simp only [plain, fld_running, empty, pc_running, ↓reduceIte]

theorem ret_of_reserved (hc : m.cls = 5) (ho : 2 ≤ o.subop) : s.ret n = (running s n).syncCause n 2 m.word := by
  have other : (o.subop != 1) = true := bne_iff_ne.mpr (by omega)
  rw [State.ret, micro_of_fetches h (by simp [hc]) (by simp [hc, other])]
  exact if_pos ho

theorem rtt_of_inside (hc : m.cls = 5) (ho : o.subop = 1) (inside : (s.gaf n).inTrap = true) :
    s.rtt n =
      let v := (running s n).restore0 n ((running s n).readFrame n 0)
      (v.setGaf n (fun g => { g with inTrap := false, afterRtt := true })).setFld (SEQ_STAT n) SEQ_STAT_STATE 1 := by
  rw [State.rtt, micro_of_fetches h (by simp [hc]) (by simp [hc, ho]), running_inTrap, inside]
  rfl

theorem rtt_of_outside (hc : m.cls = 5) (ho : o.subop = 1) (outside : (s.gaf n).inTrap = false) :
    s.rtt n = (running s n).syncCause n 1 (s.pc n) := by
  rw [State.rtt, micro_of_fetches h (by simp [hc]) (by simp [hc, ho]), running_inTrap, outside]
  rfl

theorem loopWord_of_counter (hc : m.cls = 6) (counter : 8 ≤ o.dst ∧ o.dst < 12) :
    s.loopWord n =
      let k := ((s.gaf n).lc.getD (o.dst - 8) 0 + 65535) % 65536
      let v := (running s n).setGaf n (fun g => { g with lc := g.lc.set (o.dst - 8) k })
      if k = 0 then v.setPc n (s.pc n + 1) else v.setPc n (((s.pc n : Int) + 1 + signed8 m.imm) % 2 ^ 14).toNat := by
  rw [State.loopWord, micro_of_fetches h (by simp [hc]) (by simp [hc]), if_neg (by omega)]
  simp only [lc_running]
  exact ite_not _ _ _

theorem loopWord_of_no_counter (hc : m.cls = 6) (other : o.dst < 8 ∨ 12 ≤ o.dst) : s.loopWord n = (running s n).syncCause n 2 m.word := by
  rw [State.loopWord, micro_of_fetches h (by simp [hc]) (by simp [hc]), if_pos other]
  rfl

end Flow

/-- Settles O21: each microword once it is fetched; the causes by the microword that raises them. -/
theorem flowMicrowords : Obligations.FlowMicrowords := by
  refine ⟨?br, ?jmp, ?call, ?causes, ?ret, ?rtt, ?loop⟩
  case br => exact fun n m o s h hc => exec_of_br (br_of_fetches h hc)
  case jmp => exact fun n m o s h hc ho => exec_of_jmp (jmp_of_plain h hc ho)
  case call => exact fun n m o s h hc ho room => exec_of_call (call_of_room h hc ho room)
  case causes =>
    rintro n m o c k s h (⟨rfl, stack⟩ | ⟨rfl, illegal⟩)
    · rw [if_pos (rfl : 1 = 1), ← syncCause_running_setPc]
      obtain ⟨rfl, hc, ho, full⟩ | ⟨rfl, hc, ho, empty⟩ | ⟨rfl, hc, ho, outside⟩ := stack
      · exact exec_of_call (call_of_full h hc ho full)
      · exact exec_of_ret (ret_of_empty h hc ho empty)
      · exact exec_of_rtt (rtt_of_outside h hc ho outside)
    · rw [if_neg (by decide : ¬ 2 = 1), ← syncCause_running_setPc]
      obtain ⟨rfl, hc, ho⟩ | ⟨rfl, hc, ho⟩ | ⟨rfl, hc, other⟩ := illegal
      · exact exec_of_jmp (jmp_of_reserved h hc ho)
      · exact exec_of_ret (ret_of_reserved h hc ho)
      · exact exec_of_loop (loopWord_of_no_counter h hc other)
  case ret => exact fun n m o s h hc ho filled => exec_of_ret (ret_of_filled h hc ho filled)
  case rtt => exact fun n m o s h hc ho inside => exec_of_rtt (rtt_of_inside h hc ho inside)
  case loop => exact fun n m o s h hc counter => exec_of_loop (loopWord_of_counter h hc counter)

end Sys2Proof
end

section
/-!
The statement about WAIT, TMR and TRAP microwords, the micro-timer and taking a trap (R226, R228, R235, R236).
-/

namespace Sys2Proof

open Machine

/-! ## Each command is its function -/

section Exec

variable {s v : State} {n : Stn}

theorem exec_of_wait (h : s.waitWord n = v) : exec (.wait n) s = .next (s.close v) := by rw [← h]; rfl

theorem exec_of_waitSatisfied (h : s.waitSatisfied n = v) : exec (.waitSatisfied n) s = .next (s.close v) := by rw [← h]; rfl

theorem exec_of_waitTimeout (h : s.waitTimeout n = v) : exec (.waitTimeout n) s = .next (s.close v) := by rw [← h]; rfl

theorem exec_of_tmrArm (h : s.tmrArm n = v) : exec (.tmrArm n) s = .next (s.close v) := by rw [← h]; rfl

theorem exec_of_tmrDisarm (h : s.tmrDisarm n = v) : exec (.tmrDisarm n) s = .next (s.close v) := by rw [← h]; rfl

theorem exec_of_tmrMask (h : s.tmrMask n = v) : exec (.tmrMask n) s = .next (s.close v) := by rw [← h]; rfl

theorem exec_of_trap (h : s.trapWord n = v) : exec (.trap n) s = .next (s.close v) := by rw [← h]; rfl

theorem exec_of_microTimerExpiry (h : s.timerExpiry n = v) : exec (.microTimerExpiry n) s = .next (s.close v) := by rw [← h]; rfl

theorem exec_of_trapTaken (h : s.trapTaken n = v) : exec (.trapTaken n) s = .next (s.close v) := by rw [← h]; rfl

end Exec

/-! ## WAIT (R228) -/

section Wait

variable {s : State} {n : Nat} {m : Micro} {o : Nano}

/-- A WAIT keeps the time that a trap left it. -/
theorem micro_of_wait {mine : Micro → Nano → Bool} {run : State → Micro → Nano → State} (h : Fetches s n m o) (hc : m.cls = 7)
    (hm : mine m o = true) : s.micro n mine run = run (atWait s n) m o := by
  have defined : m.cls ≠ 15 := by omega
  have wait : (m.cls == 7) = true := beq_iff_eq.mpr hc
  simp only [State.micro, h.can, h.word, defined, hm, wait, Bool.not_true, Bool.or_true, Bool.false_eq_true, ↓reduceIte]
  rfl

/-- The time that a trap left a WAIT stands while T clears. -/
theorem waitLeft_atWait (s : State) (n : Nat) : (((atWait s n).setFlag n 4 false).gaf n).waitLeft = (s.gaf n).waitLeft := by
  rw [State.setFlag, State.setFld, gaf_setReg, atWait, gaf_setGaf]

theorem waitWord_of_holds (h : Fetches s n m o) (hc : m.cls = 7) (holds : ((atWait s n).setFlag n 4 false).condHolds n o = true) :
    s.waitWord n = ((atWait s n).setFlag n 4 false).endWait n := by
  rw [State.waitWord, micro_of_wait h hc (by simp [hc])]
  exact if_pos holds

/-- A WAIT that no trap has interrupted stalls with the whole of its time limit. -/
theorem waitWord_of_stalls (h : Fetches s n m o) (hc : m.cls = 7) (fails : ((atWait s n).setFlag n 4 false).condHolds n o = false)
    (whole : (s.gaf n).waitLeft = none) :
    s.waitWord n =
      let limit : Option Nat := if o.tmo = 0 then none else some (s.now + tmoUs o)
      (((atWait s n).setFlag n 4 false).setGaf n (fun g => { g with wait := some limit, waitLeft := if g.inTrap then g.waitLeft else none })).setFld
        (SEQ_STAT n) SEQ_STAT_STATE 3 := by
  have limit : (if o.tmo = 0 then none else some (tmoUs o)).map (s.now + ·) = if o.tmo = 0 then none else some (s.now + tmoUs o) := by
    split_ifs <;> rfl
  rw [← limit, State.waitWord, micro_of_wait h hc (by simp [hc])]
  simp only [fails, waitLeft_atWait, whole, Bool.false_eq_true, ↓reduceIte]
  rfl

theorem waitSatisfied_of_holds (stalled : s.waiting n = some o) (holds : s.condHolds n o = true) : s.waitSatisfied n = s.endWait n := by
  simp only [State.waitSatisfied, stalled, holds, ↓reduceIte]

theorem waitTimeout_of_fails {t : Nat} (stalled : s.waiting n = some o) (limit : (s.gaf n).wait = some (some t))
    (fails : s.condHolds n o = false) : s.waitTimeout n = (s.setFlag n 4 true).endWait n := by
  simp only [State.waitTimeout, stalled, limit, fails, Bool.false_eq_true, ↓reduceIte]

end Wait

/-! ## TMR, TRAP and the micro-timer (R226, R235) -/

section Timer

variable {s : State} {n : Nat} {m : Micro} {o : Nano}

theorem tmrArm_of_fetches (h : Fetches s n m o) (hc : m.cls = 13) (ho : o.subop = 0) :
    s.tmrArm n = ((running s n).setGaf n (fun g => { g with timer := some (s.now + tmoUs o) })).nextPc n := by
  rw [State.tmrArm, micro_of_fetches h (by simp [hc]) (by simp [hc, ho]), if_neg (by omega)]
  rfl

theorem tmrDisarm_of_fetches (h : Fetches s n m o) (hc : m.cls = 13) (ho : o.subop = 1) :
    s.tmrDisarm n = ((running s n).setGaf n (fun g => { g with timer := none })).nextPc n := by
  rw [State.tmrDisarm, micro_of_fetches h (by simp [hc]) (by simp [hc, ho])]

theorem tmrMask_of_fetches (h : Fetches s n m o) (hc : m.cls = 13) (ho : o.subop = 2) :
    s.tmrMask n = ((running s n).setGaf n (fun g => { g with mask := o.mask })).nextPc n := by
  rw [State.tmrMask, micro_of_fetches h (by simp [hc]) (by simp [hc, ho])]

theorem trapWord_of_outside (h : Fetches s n m o) (hc : m.cls = 14) (outside : (s.gaf n).inTrap = false) :
    s.trapWord n = ((running s n).trapCause n 15 m.imm).nextPc n := by
  rw [State.trapWord, micro_of_fetches h (by simp [hc]) (by simp [hc]), syncCause_of_outside (by rw [running_inTrap, outside])]

theorem timerExpiry_of_armed {t : Nat} (armed : (s.gaf n).timer = some t) :
    s.timerExpiry n = (s.setGaf n (fun g => { g with timer := none })).trapCause n 14 0 := by
  rw [State.timerExpiry, armed]
  rfl

end Timer

/-! ## A trap is taken (R235, R236) -/

/-- The lowest takeable cause is taken. -/
theorem trapTaken_of_running {s : State} {n c : Nat} (task : s.bit (TASK_STATUS n) TASK_STATUS_BUSY = true) (alive : s.fatal n = false)
    (runs : s.fld (SEQ_STAT n) SEQ_STAT_STATE = 1) (no_wait : (s.gaf n).wait = none)
    (lowest : (List.range 16).find? (fun i => (s.takeable n).testBit i) = some c) :
    s.trapTaken n =
      let v := (s.writeFrame n 0 (s.frame0 n (s.pc n) c (SMap.getD (s.gaf n).info 0 c))).clearCause n c
      let v := v.setGaf n (fun g => { g with
        inTrap := true, afterRtt := false, wait := none, waitLeft := (s.gaf n).waitLeft, info := SMap.del c g.info })
      let v := (v.setFld (SEQ_TRAP n) SEQ_TRAP_LAST c).bump (SEQ_TRAP n) SEQ_TRAP_COUNT 1
      (v.setFld (SEQ_STAT n) SEQ_STAT_STATE 2).setPc n (16 * c) := by
  have pending : (s.takeable n == 0) = false := by
    refine beq_false_of_ne fun none_pending => ?_
    have taken := List.find?_some lowest
    rw [none_pending, Nat.zero_testBit] at taken
    exact Bool.false_ne_true taken
  simp only [State.trapTaken, task, alive, runs, pending, no_wait, lowest, Option.getD_some, beq_self_eq_true, Bool.true_or, Bool.not_true,
    Bool.or_self, Bool.false_eq_true, ↓reduceIte]

/-- Settles O22: each microword once it is fetched, the two ends of a stalled WAIT, the micro-timer, and the trap that is taken. -/
theorem waitsTimersAndTraps : Obligations.WaitsTimersAndTraps := by
  refine ⟨?atOnce, ?stalls, ?satisfied, ?timeout, ?arm, ?disarm, ?mask, ?trap, ?expiry, ?taken⟩
  case atOnce => exact fun n m o s h hc holds => exec_of_wait (waitWord_of_holds h hc holds)
  case stalls => exact fun n m o s h hc fails whole => exec_of_wait (waitWord_of_stalls h hc fails whole)
  case satisfied => exact fun n o s stalled holds => exec_of_waitSatisfied (waitSatisfied_of_holds stalled holds)
  case timeout => exact fun n o t s stalled limit fails => exec_of_waitTimeout (waitTimeout_of_fails stalled limit fails)
  case arm => exact fun n m o s h hc ho => exec_of_tmrArm (tmrArm_of_fetches h hc ho)
  case disarm => exact fun n m o s h hc ho => exec_of_tmrDisarm (tmrDisarm_of_fetches h hc ho)
  case mask => exact fun n m o s h hc ho => exec_of_tmrMask (tmrMask_of_fetches h hc ho)
  case trap => exact fun n m o s h hc outside => exec_of_trap (trapWord_of_outside h hc outside)
  case expiry => exact fun n t s armed => exec_of_microTimerExpiry (timerExpiry_of_armed armed)
  case taken =>
    exact fun n c s task alive runs no_wait lowest => exec_of_trapTaken (trapTaken_of_running task alive runs no_wait lowest)

end Sys2Proof
end

section
/-!
The statement about dispatch, ageing, reservation and the gather age (R229, R242, R317, R319 to R321).
-/

namespace Sys2Proof

open Machine

/-! ## Each event is its function -/

section Exec

variable {s v : State}

theorem exec_of_dispatch {n : Stn} (h : s.dispatch n = v) : exec (.dispatch n) s = .next (s.close v) := by rw [← h]; rfl

theorem exec_of_commandAged {id : Nat} (h : s.commandAged id = v) : exec (.commandAged id) s = .next (s.close v) := by rw [← h]; rfl

theorem exec_of_bufferReserved {id : Nat} (h : s.bufferReserved id = v) : exec (.bufferReserved id) s = .next (s.close v) := by rw [← h]; rfl

theorem exec_of_gatherAgeExpiry {id : Nat} (h : s.beginParison id = v) : exec (.gatherAgeExpiry id) s = .next (s.close v) := by rw [← h]; rfl

end Exec

/-! ## DISPATCH (R229, R242, R319) -/

/-- R319: the count of STANDARD tasks handed over in a row while BULK ones wait, after a task in that turn or outside it. -/
def turnTaken (s : State) (n : Nat) (turn : Option Bool) : State :=
  let run := SMap.getD s.work.stdRun 0 n
  { s with work.stdRun := SMap.put s.work.stdRun 0 n (match turn with | some true => run + 1 | some false => 0 | none => run) }

section Dispatch

variable {s : State} {n : Nat} (work : s.work.tasks.any (fun t => t.stn == n) = true)
include work

theorem dispatch_of_off (off : s.isOn (domSTN n) = false) : s.dispatch n = s.wake (domSTN n) := by
  simp only [State.dispatch, work, off, Bool.not_true, Bool.not_false, Bool.false_and, Bool.false_eq_true, ↓reduceIte]

variable (on : s.isOn (domSTN n) = true)
include on

theorem dispatch_of_hold (hold : s.work.hold = true ∧ s.bit (SEQ_BANK n) SEQ_BANK_PEND = true) : s.dispatch n = s := by
  obtain ⟨holds, pending⟩ := hold
  simp only [State.dispatch, work, on, holds, pending, Bool.not_true, Bool.false_and, Bool.and_self, Bool.false_eq_true, ↓reduceIte]

variable (free : (s.work.hold && s.bit (SEQ_BANK n) SEQ_BANK_PEND) = false)
include free

theorem dispatch_of_busy (busy : s.bit (TASK_STATUS n) TASK_STATUS_BUSY = true) : s.dispatch n = s.askPreempt n := by
  simp only [State.dispatch, work, on, free, busy, Bool.not_true, Bool.false_and, Bool.false_eq_true, ↓reduceIte]

/-- The task that is next is handed over, and the turn of STANDARD and BULK kept. -/
theorem dispatch_of_idle (idle : s.bit (TASK_STATUS n) TASK_STATUS_BUSY = false ∧ s.bit (TASK_STATUS n) TASK_STATUS_SUSP = false) {t : Task}
    {turn : Option Bool} (next : s.nextTask n = some (t, turn)) :
    s.dispatch n = (turnTaken s n turn).giveTask n t := by
  obtain ⟨no_task, none_suspended⟩ := idle
  simp only [State.dispatch, work, on, free, no_task, none_suspended, next, Bool.not_true, Bool.false_and, Bool.false_eq_true, ↓reduceIte]
  rfl

end Dispatch

/-! ## Ageing, reservation and the gather age (R317, R320, R321) -/

section Command

variable {s : State} {id : Nat} {c : Cmd} (hc : s.cmd? id = some c)
include hc

theorem commandAged_of_due (due : c.started = false ∧ c.ended = false ∧ s.cmdCls c ≠ 1 ∧ c.admitted + 500000 ≤ s.now) :
    s.commandAged id = s.setCmd id (fun c => { c with aged := true }) := by
  obtain ⟨unstarted, live, cls, late⟩ := due
  simp only [State.commandAged, hc, unstarted, live, beq_false_of_ne cls, Nat.not_lt.mpr late, decide_false, Bool.or_self, Bool.false_eq_true,
    ↓reduceIte]

/-- R320: a command that waits for its buffers tries again. -/
theorem bufferReserved_of_waiting (waits : c.phase = 7 ∧ c.ended = false ∧ c.held = false) : s.bufferReserved id = s.tryReserve id := by
  obtain ⟨phase, live, here⟩ := waits
  simp only [State.bufferReserved, hc, phase, live, here, decide_true, Bool.not_false, Bool.and_self, ↓reduceIte]

/-- R320: a command first of its class that finds its buffers holds them, whatever it held. -/
theorem tryReserve_of_first {hs : List Nat} {v : State} (live : c.ended = false ∧ c.held = false ∧ c.reserved = false)
    (need : bufNeed c.caps ≠ []) (first : queuesBehind s id (s.cmdCls c) = false)
    (got : s.allocAll (bufNeed c.caps) (s.cmdCls c == 1) = (some hs, v)) : s.tryReserve id = (reservedFor v id hs).reserved' id := by
  obtain ⟨running, here, unreserved⟩ := live
  unfold queuesBehind at first
  simp only [State.tryReserve, hc, running, here, unreserved, List.isEmpty_iff, need, first, got, Bool.or_self, Bool.false_eq_true, ↓reduceIte]
  rfl

end Command

theorem beginParison_of_open {s : State} {id : Nat} {p : Parison} (hp : s.ledger.parisons.find? (fun p => p.id == id) = some p)
    (gathers : p.due = false ∧ p.blocks ≠ []) : s.beginParison id = s.placeParison p := by
  obtain ⟨undue, filled⟩ := gathers
  simp only [State.beginParison, hp, undue, filled, Bool.false_eq_true, or_self, ↓reduceIte]

/-- Settles O35: a dispatch by the station's state, and the events that bring a command or a parison forward. -/
theorem theDispatcher : Obligations.TheDispatcher := by
  refine ⟨?handed, ?woken, ?held, ?busy, ?holdEnds, ?aged, ?reserved, ?gathered⟩
  case handed =>
    rintro n t turn s ⟨work, on⟩ free idle next
    exact exec_of_dispatch (dispatch_of_idle work on free idle next)
  case woken => exact fun n s work off => exec_of_dispatch (dispatch_of_off work off)
  case held =>
    rintro n s ⟨work, on⟩ hold
    exact exec_of_dispatch (dispatch_of_hold work on hold)
  case busy =>
    rintro n s ⟨work, on⟩ free busy
    exact exec_of_dispatch (dispatch_of_busy work on free busy)
  case holdEnds => exact fun s => rfl
  case aged => exact fun id c s hc due => exec_of_commandAged (commandAged_of_due hc due)
  case reserved =>
    rintro id c hs v s hc ⟨phase, live, here, unreserved⟩ ⟨need, first⟩ got
    refine exec_of_bufferReserved ?_
    rw [bufferReserved_of_waiting hc ⟨phase, live, here⟩, tryReserve_of_first hc ⟨live, here, unreserved⟩ need first got]
    rfl
  case gathered => exact fun id p s hp gathers => exec_of_gatherAgeExpiry (beginParison_of_open hp gathers)

end Sys2Proof
end

section
/-!
The statement about VAULT_CREATE, VAULT_UNMOUNT, FLUSH, FENCE, DOMAIN_SET, QUEUE_RESET, FW_ACTIVATE and NOP (R310, R315, R316, R328, R342,
R369, R422).
-/

namespace Sys2Proof

open Machine

/-! ## What the rows of one opcode say of their capsules (R303) -/

section Rows

variable {r : CapRow} {caps : Capsule}

theorem rebind_of_rowOf (h : rowOf caps = some r) (ho : capOPC caps = 0x08) : (cap caps 26 2).testBit 0 = decide (r = .vaultRebind) := by
  simp only [rowOf, ho] at h
  grind

theorem discard_of_rowOf (h : rowOf caps = some r) (ho : capOPC caps = 0x30) : cap caps 26 1 = 1 ↔ r = .resetDiscard := by
  simp only [rowOf, ho] at h
  grind

/-- The target of an FW_ACTIVATE that passes the checks is the firmware or the microcode. -/
theorem firmware_of_rowOf {s : State} {fn : Nat} (h : rowOf caps = some r) (ho : capOPC caps = 0x39) (fields : s.fieldsOk fn caps = true) :
    cap caps 24 1 = 0 ↔ r = .activateFirmware := by
  simp only [State.fieldsOk, ho, decide_eq_true_eq] at fields
  simp only [rowOf, ho] at h
  grind

end Rows

/-! ## A command that does its work at once (R300) -/

/-- The opcodes whose commands are started once they are admitted, and those that their engine operation starts. -/
def startsAtOnce (opcode : Nat) : Bool := [0x04, 0x05, 0x30].contains opcode || [0x08, 0x39].contains opcode

section Work

variable {i : Instr} {s u : State} {r : CapRow} {fn : Fn} {sq : RingNo} {caps : Capsule} {x : CapIn} {q : Sq} {hs : List Nat}

theorem setCmd_begun_started (a : Admitted s r fn sq caps x q hs u) :
    (reservedFor u s.freshId hs).setCmd s.freshId (begun (plainSegs caps)) = atWork u s.freshId hs caps (startsAtOnce (rowOpcode r)) := by
  obtain ⟨bs, ls, hcmds⟩ := a.cmds
  have admitted : (holding s fn sq caps x hs bs ls).started = [0x04, 0x05, 0x30].contains (rowOpcode r) := by
    rw [← opcode_of_rowOf a.row]
    rfl
  have same : (reservedFor u s.freshId hs).setCmd s.freshId (begun (plainSegs caps))
      = (reservedFor u s.freshId hs).setCmd s.freshId (fun c => { c with
        segsOut := plainSegs caps, phase := 3, started := c.started || startsAtOnce (rowOpcode r) }) :=
    setCmd_congr fun c hc hi => by
      rw [eq_of_last hcmds hc hi, begun, holding_caps, opcode_of_rowOf a.row, admitted, startsAtOnce, ← Bool.or_assoc, Bool.or_self]
  rw [same, reservedFor, setCmd_setCmd _ _ (fun _ => by rfl)]
  rfl

/-- A command whose opcode's work is `f` does it on the state in which the command holds its buffers. -/
theorem exec_of_work {f : State → Cmd → State} (h : i.capsule = some (r, fn, sq, caps, x)) (b : Begins s r fn sq caps x q hs u)
    (hl : capLIST caps = false) (pulls : [0x02, 0x09, 0x11, 0x12, 0x19, 0x38].contains (rowOpcode r) = false)
    (work : ∀ {v : State} {c : Cmd}, v.cmd? s.freshId = some c → capOPC c.caps = rowOpcode r →
      v.work' s.freshId (plainSegs caps) = f (v.setCmd s.freshId (begun (plainSegs caps))) c) :
    ∃ c : Cmd, (c.caps = caps ∧ c.fn = fn ∧ c.sq = sq)
      ∧ exec i s = .next (s.close (f (atWork u s.freshId hs caps (startsAtOnce (rowOpcode r))) c)) := by
  obtain ⟨bs, ls, hc⟩ := b.toAdmitted.cmd?
  refine ⟨holding s fn sq caps x hs bs ls, ⟨rfl, rfl, rfl⟩, ?_⟩
  rw [exec_of_begins_work h b hl pulls, work hc (opcode_of_rowOf b.row), setCmd_begun_started b.toAdmitted]

end Work

section WorkOf

variable {v : State} {id : Nat} {c : Cmd} (hc : v.cmd? id = some c) (segs : List (Nat × Nat))
include hc

theorem work'_of_order (ho : capOPC c.caps = 0x04 ∨ capOPC c.caps = 0x05) :
    v.work' id segs = ((v.setCmd id (begun segs)).flushBefore id none).releaseWaits := by
  obtain ho | ho := ho
  all_goals simp only [State.work', hc, ho]; rfl

theorem work'_of_vaultCreate (ho : capOPC c.caps = 0x08) : v.work' id segs =
    if (cap c.caps 26 2).testBit 0 then (v.setCmd id (begun segs)).vaultRebind id else (v.setCmd id (begun segs)).vaultCreate id := by
  simp only [State.work', hc, ho]
  rfl

theorem work'_of_vaultUnmount (ho : capOPC c.caps = 0x0A) : v.work' id segs = (v.setCmd id (begun segs)).vaultUnmount id := by
  simp only [State.work', hc, ho]
  rfl

theorem work'_of_domainSet (ho : capOPC c.caps = 0x28) : v.work' id segs = (v.setCmd id (begun segs)).domainSet id := by
  simp only [State.work', hc, ho]
  rfl

theorem work'_of_queueReset (ho : capOPC c.caps = 0x30) : v.work' id segs = (v.setCmd id (begun segs)).queueReset id c := by
  simp only [State.work', hc, ho]
  rfl

theorem work'_of_activate (ho : capOPC c.caps = 0x39) : v.work' id segs =
    if cap c.caps 24 1 = 0 then (v.setCmd id (begun segs)).activateFirmware id else (v.setCmd id (begun segs)).activateMicrocode id := by
  simp only [State.work', hc, ho]
  rfl

theorem work'_of_nop (ho : capOPC c.caps = 0x3F) : v.work' id segs = (v.setCmd id (begun segs)).finishWith id .ok := by
  simp only [State.work', hc, ho]
  rfl

end WorkOf

/-! ## The binding of a vault (R328) -/

theorem vaultRebind_of_bound {s : State} {id : Nat} {c : Cmd} (hc : s.cmd? id = some c) (bound : (s.boundTo (capVAULT c.caps)).isSome = true)
    (away : (s.vault? (capVAULT c.caps)).isNone = true ∧ s.ledger.mounting.contains (capVAULT c.caps) = false) (key : s.kek.isSome = true) :
    s.vaultRebind id =
      let dir := if cap c.caps 24 2 = 0xFFFF then s.sec.dir.filter (fun e => e.1 != capVAULT c.caps)
        else s.sec.dir.map (fun e => if e.1 = capVAULT c.caps then (capVAULT c.caps, cap c.caps 24 2) else e)
      ({ s with sec.dir := dir } : State).finishWith id .ok := by
  obtain ⟨unmounted, free⟩ := away
  rw [← Option.not_isSome, Bool.not_eq_true'] at unmounted
  simp only [State.vaultRebind, hc, ← Option.not_isSome, bound, unmounted, free, key, Bool.not_true, Bool.or_self, Bool.false_eq_true,
    ↓reduceIte]

/-! ## QUEUE_RESET (R310) -/

/-- The commands of SQ (fn, k) that have not started. -/
def unstarted (v : State) (fn k : Nat) : List Nat := ((v.ofSq fn k).filter (fun y => !y.started && !y.ended)).map (·.id)

/-- They end, by the reset or because their SQ is frozen. -/
def unstartedEnded (v : State) (fn k : Nat) : State :=
  (unstarted v fn k).foldl (fun (w : State) j =>
    w.finish j (if v.fld (SQ_STAT fn k) SQ_STAT_STATE = 3 then .queueFrozen else .abortedByReset)) v

/-- The unread capsules of the SQ that DISCARD skips. -/
def unreadSkipped (v : State) (fn k : Nat) (t : Sq) (discard : Bool) : Nat :=
  if discard then (t.tail + t.size - (unstartedEnded v fn k).fld (SQ_STAT fn k) SQ_STAT_HEAD) % t.size else 0

/-- The reset of SQ (fn, k), `t`, by command `id`: one capsule whose read is in flight ends by itself. -/
def resetSq (v : State) (id fn k : Nat) (t : Sq) (discard : Bool) : State :=
  let ids := unstarted v fn k
  let ended := unstartedEnded v fn k
  let skipped := unreadSkipped v fn k t discard
  let moved := if discard && skipped != 0 then (ended.setFld (SQ_STAT fn k) SQ_STAT_HEAD t.tail).putSq fn k { t with
      shadowDue := true, found := [], fetch := if t.fetch = 0 then 0 else 3 } else ended
  let cut := if discard && skipped != 0 && t.fetch != 0 then 1 else 0
  ((moved.setFld (SQ_STAT fn k) SQ_STAT_STATE 1).setCmd id (fun c => { c with
    waits := ids, res0 := ids.length + cut, res1 := skipped - cut })).releaseWaits

section QueueReset

variable {v : State} {id : Nat} {c : Cmd}

theorem queueReset_of_refused (refused : cap c.caps 24 2 = c.sq ∨ v.sq? c.fn (cap c.caps 24 2) = none
      ∨ v.fld (SQ_STAT c.fn (cap c.caps 24 2)) SQ_STAT_STATE = 2) : v.queueReset id c = v.finishWith id .invalidField := by
  by_cases own : cap c.caps 24 2 = c.sq
  · exact if_pos own
  · rw [State.queueReset, if_neg own]
    cases ring : v.sq? c.fn (cap c.caps 24 2) with
    | none => rfl
    | some t => exact if_pos ((refused.resolve_left own).resolve_left (by simp [ring]))

theorem queueReset_of_other {t : Sq} {discard : Bool} (other : cap c.caps 24 2 ≠ c.sq) (ring : v.sq? c.fn (cap c.caps 24 2) = some t)
    (state : v.fld (SQ_STAT c.fn (cap c.caps 24 2)) SQ_STAT_STATE ≠ 2) (hd : cap c.caps 26 1 = 1 ↔ discard = true) :
    v.queueReset id c = resetSq v id c.fn (cap c.caps 24 2) t discard := by
  simp only [State.queueReset, other, ring, state, hd, Bool.decide_eq_true, ↓reduceIte]
  rfl

end QueueReset

/-! ## FW_ACTIVATE (R242, R369) -/

section Activate

variable (v : State) (id : Nat)

theorem activateFirmware_eq : v.activateFirmware id =
    if v.sec.staged.getD 0 false then { v.takeSlot 0 with sec.benchUp := false } else v.finishWith id .invalidField := by
  rw [State.activateFirmware]
  cases v.sec.staged.getD 0 false <;> rfl

theorem activateMicrocode_eq : v.activateMicrocode id =
    if v.sec.staged.getD 1 false then (v.takeSlot 1).activateMicro id else v.finishWith id .invalidField := by
  rw [State.activateMicrocode]
  cases v.sec.staged.getD 1 false <;> rfl

end Activate

/-! ## The commands, once they begin -/

section Begun

variable {i : Instr} {s u : State} {r : CapRow} {fn : Fn} {sq : RingNo} {caps : Capsule} {q : Sq} {hs : List Nat}
  (h : i.capsule = some (r, fn, sq, caps, {})) (b : Begins s r fn sq caps {} q hs u) (hl : capLIST caps = false)
include h b hl

theorem exec_of_order (ho : rowOpcode r = 0x04 ∨ rowOpcode r = 0x05) :
    exec i s = .next (s.close (((atWork u s.freshId hs caps true).flushBefore s.freshId none).releaseWaits)) := by
  have row : startsAtOnce (rowOpcode r) = true ∧ [0x02, 0x09, 0x11, 0x12, 0x19, 0x38].contains (rowOpcode r) = false := by
    obtain ho | ho := ho
    all_goals rw [ho]; decide
  obtain ⟨started, pulls⟩ := row
  obtain ⟨c, -, he⟩ := exec_of_work (f := fun v _ => (v.flushBefore s.freshId none).releaseWaits) h b hl pulls
    fun hc opc => work'_of_order hc _ (opc ▸ ho)
  rw [he, started]

theorem exec_of_vaultCreate (ho : rowOpcode r = 0x08) :
    exec i s = .next (s.close (if r = .vaultRebind then (atWork u s.freshId hs caps true).vaultRebind s.freshId
      else (atWork u s.freshId hs caps true).vaultCreate s.freshId)) := by
  obtain ⟨c, ⟨hcaps, -⟩, he⟩ := exec_of_work
    (f := fun v c => if (cap c.caps 26 2).testBit 0 then v.vaultRebind s.freshId else v.vaultCreate s.freshId) h b hl (by rw [ho]; decide)
    fun hc opc => work'_of_vaultCreate hc _ (opc.trans ho)
  rw [he, hcaps, rebind_of_rowOf b.row ((opcode_of_rowOf b.row).trans ho), ho]
  simp only [decide_eq_true_eq]
  rfl

theorem exec_of_vaultUnmount (ho : rowOpcode r = 0x0A) :
    exec i s = .next (s.close ((atWork u s.freshId hs caps false).vaultUnmount s.freshId)) := by
  obtain ⟨c, -, he⟩ := exec_of_work (f := fun v _ => v.vaultUnmount s.freshId) h b hl (by rw [ho]; decide)
    fun hc opc => work'_of_vaultUnmount hc _ (opc.trans ho)
  rw [he, ho]
  rfl

theorem exec_of_domainSet (ho : rowOpcode r = 0x28) :
    exec i s = .next (s.close ((atWork u s.freshId hs caps false).domainSet s.freshId)) := by
  obtain ⟨c, -, he⟩ := exec_of_work (f := fun v _ => v.domainSet s.freshId) h b hl (by rw [ho]; decide)
    fun hc opc => work'_of_domainSet hc _ (opc.trans ho)
  rw [he, ho]
  rfl

theorem exec_of_queueReset (ho : rowOpcode r = 0x30) : ∃ c : Cmd, (c.caps = caps ∧ c.fn = fn ∧ c.sq = sq)
    ∧ exec i s = .next (s.close ((atWork u s.freshId hs caps true).queueReset s.freshId c)) := by
  obtain ⟨c, hcmd, he⟩ := exec_of_work (f := fun v c => v.queueReset s.freshId c) h b hl (by rw [ho]; decide)
    fun hc opc => work'_of_queueReset hc _ (opc.trans ho)
  refine ⟨c, hcmd, ?_⟩
  rw [he, ho]
  rfl

/-- R310: its own SQ, and one that is neither active nor frozen, is not reset. -/
theorem exec_of_queueReset_refused (ho : rowOpcode r = 0x30) (refused : cap caps 24 2 = sq ∨ u.sq? fn (cap caps 24 2) = none
      ∨ u.fld (SQ_STAT fn (cap caps 24 2)) SQ_STAT_STATE = 2) :
    exec i s = .next (s.close ((atWork u s.freshId hs caps true).finishWith s.freshId .invalidField)) := by
  obtain ⟨c, ⟨hcaps, hfn, hsq⟩, he⟩ := exec_of_queueReset h b hl ho
  rw [← hcaps, ← hfn, ← hsq] at refused
  rw [he, queueReset_of_refused (v := atWork u s.freshId hs caps true) refused]

/-- R310: another SQ that is active or frozen is reset. -/
theorem exec_of_queueReset_other {t : Sq} {discard : Bool} (ho : rowOpcode r = 0x30) (hd : r = .resetDiscard ↔ discard = true)
    (other : cap caps 24 2 ≠ sq) (ring : u.sq? fn (cap caps 24 2) = some t) (state : u.fld (SQ_STAT fn (cap caps 24 2)) SQ_STAT_STATE ≠ 2) :
    exec i s = .next (s.close (resetSq (atWork u s.freshId hs caps true) s.freshId fn (cap caps 24 2) t discard)) := by
  obtain ⟨c, ⟨hcaps, hfn, hsq⟩, he⟩ := exec_of_queueReset h b hl ho
  have discards : cap caps 26 1 = 1 ↔ discard = true := (discard_of_rowOf b.row ((opcode_of_rowOf b.row).trans ho)).trans hd
  rw [← hcaps] at discards
  rw [← hcaps, ← hsq] at other
  rw [← hcaps, ← hfn] at ring state
  rw [he, queueReset_of_other (v := atWork u s.freshId hs caps true) other ring state discards, hcaps, hfn]

theorem exec_of_activate (ho : rowOpcode r = 0x39) :
    exec i s = .next (s.close (if r = .activateFirmware then (atWork u s.freshId hs caps true).activateFirmware s.freshId
      else (atWork u s.freshId hs caps true).activateMicrocode s.freshId)) := by
  obtain ⟨c, ⟨hcaps, -⟩, he⟩ := exec_of_work
    (f := fun v c => if cap c.caps 24 1 = 0 then v.activateFirmware s.freshId else v.activateMicrocode s.freshId) h b hl (by rw [ho]; decide)
    fun hc opc => work'_of_activate hc _ (opc.trans ho)
  rw [he, hcaps, ho]
  simp only [firmware_of_rowOf b.row ((opcode_of_rowOf b.row).trans ho) b.fields]
  rfl

theorem exec_of_nop (ho : rowOpcode r = 0x3F) :
    exec i s = .next (s.close ((atWork u s.freshId hs caps false).finishWith s.freshId .ok)) := by
  obtain ⟨c, -, he⟩ := exec_of_work (f := fun v _ => v.finishWith s.freshId .ok) h b hl (by rw [ho]; decide)
    fun hc opc => work'_of_nop hc _ (opc.trans ho)
  rw [he, ho]
  rfl

end Begun

/-- Settles O59: each command by its row, and what it does by the part of the state that decides it. -/
theorem vaultOrderAndDeviceCommands : Obligations.VaultOrderAndDeviceCommands := by
  refine ⟨?vaults, ?rebind, ?order, ?domains, ?refused, ?reset, ?firmware, ?microcode, ?nop⟩
  case vaults =>
    rintro i r fn sq caps q hs u s ⟨h, hr⟩ b hl
    simp only [List.mem_cons, List.not_mem_nil, or_false] at hr
    obtain rfl | rfl | rfl := hr
    · rw [exec_of_vaultCreate h b hl rfl, if_neg (by decide : ¬ CapRow.vaultCreate = .vaultRebind)]
      rfl
    · rw [exec_of_vaultCreate h b hl rfl, if_pos (rfl : CapRow.vaultRebind = .vaultRebind)]
      rfl
    · exact exec_of_vaultUnmount h b hl rfl
  case rebind =>
    rintro id c s hc ⟨bound, unmounted, free, key⟩
    exact vaultRebind_of_bound hc bound ⟨unmounted, free⟩ key
  case order =>
    intro i r fn sq caps q hs u s h b hl
    simp only [Prod.mk.injEq] at h
    obtain ⟨rfl, rfl⟩ | ⟨rfl, rfl⟩ := h
    · exact exec_of_order rfl b hl (.inl rfl)
    · exact exec_of_order rfl b hl (.inr rfl)
  case domains => exact fun fn sq caps q hs u s b hl => exec_of_domainSet rfl b hl rfl
  case refused =>
    intro i r fn sq caps q hs u s h b hl refused
    simp only [Prod.mk.injEq] at h
    obtain ⟨rfl, rfl⟩ | ⟨rfl, rfl⟩ := h
    all_goals exact exec_of_queueReset_refused rfl b hl rfl refused
  case reset =>
    rintro i r discard fn sq caps q t hs u s h b hl ⟨other, ring, state⟩
    simp only [Prod.mk.injEq] at h
    obtain ⟨rfl, rfl, rfl⟩ | ⟨rfl, rfl, rfl⟩ := h
    all_goals exact exec_of_queueReset_other rfl b hl rfl (by decide) other ring state
  case firmware =>
    intro fn sq caps q hs u s b hl
    rw [exec_of_activate (i := .fwActivateFirmware fn sq caps) rfl b hl rfl, if_pos rfl, activateFirmware_eq]
  case microcode =>
    intro fn sq caps q hs u s b hl
    rw [exec_of_activate (i := .fwActivateMicrocode fn sq caps) rfl b hl rfl, if_neg (by decide), activateMicrocode_eq]
  case nop => exact fun fn sq caps q hs u s b hl => exec_of_nop rfl b hl rfl

end Sys2Proof
end

section
/-!
The statement about PERST#, hot reset and RESET# (R249, R250, R416, R417, R475, R477), and what every event's meaning ends in.
-/

namespace Sys2Proof

open Machine

/-- A command whose meaning ends in `u` leaves `v` behind where `u` is `v`. -/
theorem exec_of_ends {i : Instr} {s u v : State} (ends : exec i s = finishStep s u) (h : u = v) : exec i s = .next (s.close v) := by
  rw [ends, h]
  rfl

section Resets

variable {s : State}

theorem perstDeassert_of_asserted (h : s.pins.perst = true) :
    s.perstDeassert = ({ s with pins.perst := false, pins.wakeLow := false } : State).resetPower.beginStart :=
  if_neg (by rw [h]; decide)

theorem resetDeassert_of_asserted (h : s.pins.rst = true) :
    s.resetDeassert = ({ s with pins.rst := false } : State).resetPower.beginStart :=
  if_neg (by rw [h]; decide)

/-- R475: what RESET# brings about while it is low: all but the link. -/
def heldInReset (s : State) : State :=
  { s.resetBlock.setReg LNK_STAT (s.reg LNK_STAT &&& 0x1FF#32) with
    pins.rst := true, pcie.linkUp := s.pcie.linkUp, pcie.recov := s.pcie.recov, pcie.recovRaised := s.pcie.recovRaised }

theorem resetAssert_of_short {ns : Nat} (h : ns ≤ 1000) : s.resetAssert ns = s := if_pos h

theorem resetAssert_of_long {ns : Nat} (h : 10000 ≤ ns) : s.resetAssert ns = heldInReset s := by
  rw [State.resetAssert, if_neg (by omega), if_pos h]
  rfl

/-- R475: a pulse of another length is either ignored or not. -/
theorem resetAssert_of_between {ns : Nat} (h : 1000 < ns ∧ ns < 10000) :
    s.resetAssert ns = if s.drawBool.1 then heldInReset s.drawBool.2 else s.drawBool.2 := by
  rw [State.resetAssert, if_neg (by omega), if_neg (by omega)]
  rfl

theorem mayStart_of_supplied
    (h : s.aon.powered = true ∧ 5500 ≤ s.aon.vin ∧ s.pins.perst = false ∧ s.pins.rst = false ∧ s.aon.lockout = false) :
    s.mayStart = true := by
  obtain ⟨powered, supplied, perst, rst, cool⟩ := h
  simp [State.mayStart, powered, supplied, perst, rst, cool]

end Resets

/-- Settles O47: each reset by its pin or the length of its pulse. -/
theorem resetsOfTheBlock : Obligations.ResetsOfTheBlock := by
  refine ⟨?assert, ?perst, ?long, ?short, ?between, ?reset, ?start⟩
  case assert => exact fun s => ⟨rfl, rfl⟩
  case perst => exact fun s asserted => exec_of_ends rfl (perstDeassert_of_asserted asserted)
  case long => exact fun ns s h => exec_of_ends rfl (resetAssert_of_long h)
  case short => exact fun ns s h => exec_of_ends rfl (resetAssert_of_short h)
  case between => exact fun ns s h => exec_of_ends rfl (resetAssert_of_between h)
  case reset => exact fun s asserted => exec_of_ends rfl (resetDeassert_of_asserted asserted)
  case start => exact fun s h => if_pos (mayStart_of_supplied h)

end Sys2Proof
end

section
/-!
The statement about the start, the data link, readiness and the lift bus (R249, R427, R448, R462, R477, R478).
-/

namespace Sys2Proof

open Machine

/-! ## The start (R249, R477) -/

section Start

variable {s : State}

theorem start_of_locked {t7 : Int} (h : s.aon.lockout = true ∧ 100 < t7) (found : List (Option Nat)) (savedOk : List Bool) :
    s.start t7 found savedOk = s := by
  obtain ⟨locked, hot⟩ := h
  simp only [State.start, locked, hot, decide_true, Bool.and_self, ↓reduceIte]

/-- Where nothing locks the start out it runs through its steps. -/
theorem start_of_cool (cool : s.aon.lockout = false) (may : s.mayStart = true) (idle : s.pcie.trainReady = false) (t7 : Int)
    (found : List (Option Nat)) (savedOk : List Bool) :
    s.start t7 found savedOk =
      let v := ((if s.dom domHOST = 3 then s.beginStart else s).setPwrGood true).applyBist.showOtp.renewNonce
      let v := v.setBit LC_STAT LC_STAT_CERT v.certOk
      let v := ((v.boot).trainAtStart found savedOk).loadFrames
      let v := if v.aon.tsdDue then ({ v with aon.tsdDue := false } : State).raise 8 [v.fld HLTH_STAT HLTH_STAT_TSENS] else v
      { v.compareVin with pcie.trainReady := true } := by
  simp only [State.start, cool, may, idle, Bool.false_and, Bool.not_true, Bool.or_self, Bool.false_eq_true, ↓reduceIte]

theorem dataLinkUp_of_ready {width speed : Nat} {flit : Bool}
    (h : s.pcie.trainReady = true ∧ [1, 2, 4, 8].contains width = true ∧ 1 ≤ speed ∧ speed ≤ 6) :
    s.dataLinkUp width speed flit =
      { ((s.setFld LNK_STAT LNK_STAT_WIDTH width).setFld LNK_STAT LNK_STAT_SPEED speed).setBit LNK_STAT LNK_STAT_FLIT flit with
        pcie.linkUp := true } := by
  obtain ⟨ready, known, low, high⟩ := h
  rw [State.dataLinkUp, if_neg]
  rw [ready, known]
  simp only [Bool.not_true, Bool.or_self, Bool.false_or, Bool.or_eq_true, decide_eq_true_eq]
  omega

theorem deviceReady_of_usable (h : s.pcie.trainReady = true ∧ s.bit ID_DEV ID_DEV_READY = false ∧ s.bit MEM_STAT MEM_STAT_READY = true
      ∧ s.evt.coreSramBad = false) : s.deviceReady = (s.setBit ID_DEV ID_DEV_READY true).lateMatches.releaseMsgs := by
  obtain ⟨trained, unready, memory, sram⟩ := h
  simp only [State.deviceReady, trained, unready, memory, sram, Bool.not_true, Bool.or_self, Bool.false_eq_true, ↓reduceIte]

end Start

/-! ## Lift-bus frames (R426, R427) -/

section Lift

variable {s : State} {a check : BitVec 8}

theorem toNat_mod_byte (x : BitVec 8) : x.toNat % 256 = x.toNat := Nat.mod_eq_of_lt x.isLt

/-- R427: a frame that no stop condition ends, or whose check byte does not fit, counts as bad; its address may still be acknowledged. -/
theorem liftFrame_of_bad {stop : Bool} (on : s.aon.powered = true)
    (bad : a.toNat + check.toNat ≠ 255 ∨ (stop = false ∧ a.toNat ≠ 0xB0 + s.fld PM_LIFT PM_LIFT_ADDR ∧ a.toNat ≠ 0xBF)) :
    s.liftFrame a.toNat check.toNat stop = s.bump PM_LIFT PM_LIFT_BAD 1 := by
  obtain unsound | ⟨unstopped, other, noCall⟩ := bad
  · simp [State.liftFrame, toNat_mod_byte, on, unsound]
  · simp [State.liftFrame, toNat_mod_byte, on, unstopped, other, noCall]

theorem liftFrame_of_unstopped (on : s.aon.powered = true) (sound : a.toNat + check.toNat = 255)
    (ours : a.toNat = 0xB0 + s.fld PM_LIFT PM_LIFT_ADDR ∨ a.toNat = 0xBF) :
    s.liftFrame a.toNat check.toNat false = (s.emit .liftAck).bump PM_LIFT PM_LIFT_BAD 1 := by
  simp [State.liftFrame, toNat_mod_byte, on, sound, ours]

theorem liftFrame_of_other (on : s.aon.powered = true) (sound : a.toNat + check.toNat = 255)
    (other : a.toNat ≠ 0xB0 + s.fld PM_LIFT PM_LIFT_ADDR ∧ a.toNat ≠ 0xBF) : s.liftFrame a.toNat check.toNat true = s := by
  simp [State.liftFrame, toNat_mod_byte, on, sound, other]

/-- A match is acknowledged and counted. -/
def liftMatched (s : State) : State := (s.emit .liftAck).bump PM_LIFT PM_LIFT_MATCHES 1

theorem reg_liftMatched {r : Reg} (h : PM_LIFT.key ≠ r.key) : (liftMatched s).reg r = s.reg r := (s.emit .liftAck).reg_setFld_other _ _ h

/-- Before READY the match is kept for the start (R478). -/
def liftKept (s : State) : State :=
  { s.setPending 12 with aon.e012Due := s.aon.e012Due + 1, aon.e012Msg := s.aon.e012Msg || !(s.pending? 12) }

theorem liftFrame_of_match (on : s.aon.powered = true) (sound : a.toNat + check.toNat = 255)
    (ours : a.toNat = 0xB0 + s.fld PM_LIFT PM_LIFT_ADDR ∨ a.toNat = 0xBF) :
    s.liftFrame a.toNat check.toNat true =
      let v := if s.bit ID_DEV ID_DEV_READY then (liftMatched s).raise 12 [] else liftKept (liftMatched s)
      if v.dom domHOST = 3 then (if v.pins.perst then { v with pins.wakeLow := true } else v)
      else ((domains.drop 1).filter (fun d => (v.reg PM_LWAKE).getLsbD d)).foldl (fun (s : State) d => s.wake d) v := by
  have ready : (liftMatched s).bit ID_DEV ID_DEV_READY = s.bit ID_DEV ID_DEV_READY := by
    rw [State.bit, State.fld, reg_liftMatched (by decide)]
    rfl
  have addressed : (a.toNat % 256 == 0xB0 + s.fld PM_LIFT PM_LIFT_ADDR || a.toNat % 256 == 0xBF) = true := by
    simpa [toNat_mod_byte] using ours
  have fits : (a.toNat % 256 + check.toNat % 256 == 255) = true := by simpa [toNat_mod_byte] using sound
  rw [← ready]
  simp only [State.liftFrame, addressed, fits, on, Bool.and_self, Bool.not_true, Bool.or_self, Bool.false_eq_true, ↓reduceIte]
  rfl

/-- R427: under READY with HOST not OFF a match wakes the domains of PM_LWAKE. -/
theorem liftFrame_of_awake (on : s.aon.powered = true) (sound : a.toNat + check.toNat = 255)
    (ours : a.toNat = 0xB0 + s.fld PM_LIFT PM_LIFT_ADDR ∨ a.toNat = 0xBF)
    (awake : s.bit ID_DEV ID_DEV_READY = true ∧ ((liftMatched s).raise 12 []).dom domHOST ≠ 3) :
    s.liftFrame a.toNat check.toNat true =
      ((domains.drop 1).filter (fun d => (((liftMatched s).raise 12 []).reg PM_LWAKE).getLsbD d)).foldl
        (fun (s : State) d => s.wake d) ((liftMatched s).raise 12 []) := by
  obtain ⟨ready, host⟩ := awake
  rw [liftFrame_of_match on sound ours, if_pos ready]
  exact if_neg host

/-- What a match keeps for the start leaves HOST as it is. -/
theorem dom_liftKept : (liftKept (liftMatched s)).dom domHOST = s.dom domHOST := by
  have kept : (liftKept (liftMatched s)).reg PM_DSTAT_LO = s.reg PM_DSTAT_LO :=
    ((liftMatched s).reg_setReg_other _ (by decide)).trans (reg_liftMatched (by decide))
  simp only [State.dom, kept]
  rfl

/-- R427, R478: before READY, with HOST OFF under PERST#, a match is kept and asserts WAKE#. -/
theorem liftFrame_of_asleep (on : s.aon.powered = true) (sound : a.toNat + check.toNat = 255)
    (ours : a.toNat = 0xB0 + s.fld PM_LIFT PM_LIFT_ADDR ∨ a.toNat = 0xBF)
    (asleep : s.bit ID_DEV ID_DEV_READY = false ∧ s.dom domHOST = 3 ∧ s.pins.perst = true) :
    s.liftFrame a.toNat check.toNat true = { liftKept (liftMatched s) with pins.wakeLow := true } := by
  obtain ⟨unready, off, perst⟩ := asleep
  rw [liftFrame_of_match on sound ours, if_neg (Bool.eq_false_iff.mp unready), if_pos (dom_liftKept.trans off)]
  exact if_pos perst

end Lift

/-- Settles O46: the start step by step, and a lift-bus frame by its check, its address and how far the start has come. -/
theorem startAndLift : Obligations.StartAndLift := by
  refine ⟨?start, ?locked, ?link, ?ready, ?bad, ?unstopped, ?other, ?awake, ?asleep⟩
  case start =>
    rintro t7 found savedOk s ⟨cool, powered, supplied, perst, rst⟩ idle
    exact exec_of_ends rfl (start_of_cool cool (mayStart_of_supplied ⟨powered, supplied, perst, rst, cool⟩) idle t7 _ _)
  case locked => exact fun t7 found savedOk s h => exec_of_ends rfl (start_of_locked h _ _)
  case link => exact fun width speed flit s h => exec_of_ends rfl (dataLinkUp_of_ready h)
  case ready => exact fun s h => exec_of_ends rfl (deviceReady_of_usable h)
  case bad => exact fun a check stop s on bad => exec_of_ends rfl (liftFrame_of_bad on bad)
  case unstopped => exact fun a check s ⟨on, sound⟩ ours => exec_of_ends rfl (liftFrame_of_unstopped on sound ours)
  case other => exact fun a check s ⟨on, sound⟩ other => exec_of_ends rfl (liftFrame_of_other on sound other)
  case awake => exact fun a check s ⟨on, sound⟩ ours awake => exec_of_ends rfl (liftFrame_of_awake on sound ours awake)
  case asleep => exact fun a check s ⟨on, sound⟩ ours asleep => exec_of_ends rfl (liftFrame_of_asleep on sound ours asleep)

end Sys2Proof
end

section
/-!
The statement about the DOE mailbox, SPDM, KEK_INSTALL and link IDE (R263 to R265, R364, R366).
-/

namespace Sys2Proof

open Machine

/-! ## The DOE mailbox (R263) -/

section Mailbox

variable {s : State} {type index len : Nat}

/-- The mailbox and the responder can take a data object. -/
theorem doeRequest_of_free (free : s.dom domHOST ≠ 3 ∧ s.pcie.doe ≠ .busy ∧ s.spdmDown = false) (fits : len ≤ 16384 ∧ type ≤ 2) :
    s.doeRequest type index len =
      if type = 0 then (if index ≤ 2 then s.answer (.discovery index ((index + 1) % 3)) else s.answer .error)
      else { s with pcie.doe := .busy } := by
  obtain ⟨host, idle, up⟩ := free
  have taken : (s.dom domHOST == 3 || s.pcie.doe == .busy) = false := by
    rw [beq_false_of_ne host, beq_false_of_ne idle]
    rfl
  have sound : (decide (16384 < len) || decide (2 < type)) = false := by simp [fits]
  simp only [State.doeRequest, taken, sound, up, Bool.false_eq_true, ↓reduceIte]

theorem doeRequest_of_dropped (h : s.dom domHOST = 3 ∨ s.pcie.doe = .busy ∨ 16384 < len ∨ 2 < type) : s.doeRequest type index len = s := by
  rw [State.doeRequest]
  by_cases taken : s.dom domHOST = 3 ∨ s.pcie.doe = .busy
  · exact if_pos (by simpa using taken)
  · rw [if_neg (by simpa using taken), if_pos]
    simp only [Bool.or_eq_true, decide_eq_true_eq]
    tauto

end Mailbox

/-! ## SPDM requests and sessions (R264, R364) -/

section Spdm

variable {s : State} {x : Nat}

theorem spdmRequest_of_down (h : s.pcie.doe = .busy ∧ s.spdmDown = true) (q : SpdmReq) : s.spdmRequest q = s.answer .error := by
  simp only [State.spdmRequest, State.spdmRuns, h, beq_self_eq_true, Bool.true_or, Bool.and_self, Bool.not_true, Bool.false_eq_true,
    ↓reduceIte]

section Served

variable (busy : s.pcie.doe = .busy) (up : s.spdmDown = false) (bench : s.sec.benchUp = true ∧ s.sec.benchHalt = false)

include busy bench

/-- A request is in progress and the bench core serves it. -/
theorem spdmRuns_of_served : s.spdmRuns = true := by
  obtain ⟨runs, unhalted⟩ := bench
  simp [State.spdmRuns, busy, runs, unhalted]

include up

theorem spdmRequest_of_served (q : SpdmReq) : s.spdmRequest q = (s.spdmAnswer q).2.answer (s.spdmAnswer q).1 := by
  simp only [State.spdmRequest, spdmRuns_of_served busy bench, up, Bool.not_true, Bool.false_eq_true, ↓reduceIte]

theorem keyUpdate_of_open (hx : s.session x = true) :
    s.keyUpdate x = ({ s with pcie.sessions := s.pcie.sessions.map (fun e => if e.1 = x then (x, e.2 + 1) else e) } : State).answer .done := by
  simp only [State.keyUpdate, spdmRuns_of_served busy bench, up, hx, Bool.not_true, Bool.or_self, Bool.false_eq_true, ↓reduceIte]

theorem keyUpdate_of_closed (hx : s.session x = false) : s.keyUpdate x = s.answer .error := by
  simp only [State.keyUpdate, spdmRuns_of_served busy bench, up, hx, Bool.not_true, Bool.not_false, Bool.or_true, Bool.false_eq_true, ↓reduceIte]

theorem endSession_of_open (hx : s.session x = true) : s.endSession x = (s.dropSession x).answer .done := by
  simp only [State.endSession, spdmRuns_of_served busy bench, up, hx, Bool.not_true, Bool.or_self, Bool.false_eq_true, ↓reduceIte]

theorem endSession_of_closed (hx : s.session x = false) : s.endSession x = s.answer .error := by
  simp only [State.endSession, spdmRuns_of_served busy bench, up, hx, Bool.not_true, Bool.not_false, Bool.or_true, Bool.false_eq_true, ↓reduceIte]

/-- R366: the owner KEK is wrapped under the device KEK, which the OTP seed gives. -/
theorem kekInstall_of_served {payload signer seed : Bytes} (hs : s.sec.seed = some seed) :
    s.kekInstall x payload signer =
      let k := hkdf32 seed (ascii "VK1640 kek" ++ [BitVec.ofNat 8 s.sec.kekGen])
      let v := (({ s with sec.okek := some (keyWrap k (slice payload 8 32)) } : State).setBit LC_STAT LC_STAT_OKEK true).renewNonce
      if s.kekOk x payload signer then v.answer .done else s.answer .error := by
  have kek : s.deviceKek = some (hkdf32 seed (ascii "VK1640 kek" ++ [BitVec.ofNat 8 s.sec.kekGen])) := by rw [State.deviceKek, hs]; rfl
  simp only [State.kekInstall, spdmRuns_of_served busy bench, up, kek, Bool.not_true, Bool.false_or, Bool.false_eq_true, ↓reduceIte]
  cases s.kekOk x payload signer
  · rfl
  · rfl

end Served

/-- R265: a key of a set that is in use is not taken. -/
theorem spdmAnswer_ideKey (hx : s.session x = true) (set sub dir : Nat) (key : Bytes) :
    s.spdmAnswer (.ideKey x set sub dir key) =
      if (set < 2 ∧ sub < 3 ∧ dir < 2 ∧ key.length = 32) ∧ ¬ (s.pcie.ideSecure = true ∧ (set == 1) = s.pcie.ideKeySet)
      then (.done, { s with pcie.ideKeys := SMap.ins (6 * set + 2 * sub + dir) key s.pcie.ideKeys }) else (.error, s) := by
  have is_open : s.pcie.sessions.any (fun e => e.1 == x) = true := hx
  simp only [State.spdmAnswer, is_open, Bool.true_and, Bool.and_eq_true, decide_eq_true_eq, Bool.not_eq_true', Bool.and_eq_false_iff,
    beq_eq_false_iff_ne, not_and_or, Bool.not_eq_true, ne_eq]

end Spdm

/-! ## Link IDE (R265) -/

section Ide

variable {s : State}

theorem ideLeave_of_secure (h : s.pcie.ideSecure = true) :
    s.ideLeave =
      let v : State := { s with pcie.ideSecure := false }
      if v.accepted 0 featIde && (!s.rings.sqs.isEmpty || !s.rings.cqs.isEmpty) then v.raise 14 [] else v := by
  simp only [State.ideLeave, h, Bool.not_true, Bool.false_eq_true, ↓reduceIte]

theorem ideEnter_of_enabled (h : (s.reg (FEAT_DRV 0 0)).getLsbD 8 = true ∧ s.pcie.ideSecure = false ∧ (s.cfgKept 0 0x30C).getLsbD 0 = true) :
    s.ideEnter =
      let k := if s.pcie.ideKeySet then 1 else 0
      if s.ideKeyed k then ({ s with pcie.ideSecure := true } : State).release'
      else if s.ideKeyed (1 - k) then ({ s with pcie.ideSecure := true, pcie.ideKeySet := !s.pcie.ideKeySet } : State).release'
      else s := by
  obtain ⟨feature, unsecured, enabled⟩ := h
  simp only [State.ideEnter, feature, unsecured, enabled, Bool.not_true, Bool.or_self, Bool.false_eq_true, ↓reduceIte]

theorem ideEnter_of_disabled
    (h : (s.reg (FEAT_DRV 0 0)).getLsbD 8 = false ∨ s.pcie.ideSecure = true ∨ (s.cfgKept 0 0x30C).getLsbD 0 = false) : s.ideEnter = s := by
  rw [State.ideEnter, if_pos]
  obtain feature | secure | enabled := h
  · rw [feature]; rfl
  · rw [secure, Bool.or_true]; rfl
  · rw [enabled, Bool.not_false, Bool.or_true]

theorem ideRefresh_of_secure (h : s.pcie.ideSecure = true) :
    s.ideRefresh = if s.ideKeyed (if s.pcie.ideKeySet then 0 else 1) then { s with pcie.ideKeySet := !s.pcie.ideKeySet } else s := by
  rw [State.ideRefresh, h, Bool.true_and]

end Ide

/-- Settles O50: the mailbox by what it holds, each request by whether the responder serves it, and the IDE stream by its keys. -/
theorem doeSpdmAndIde : Obligations.DoeSpdmAndIde := by
  refine ⟨?object, ?discovery, ?dropped, ?ends, ?down, ?answered, ?opened, ?closed, ?kek, ?leave, ?key, ?enter, ?out, ?refresh⟩
  case object =>
    intro type index len s free ⟨fits, known, most⟩
    exact exec_of_ends rfl ((doeRequest_of_free free ⟨fits, most⟩).trans (if_neg (by omega)))
  case discovery =>
    intro index len s free ⟨fits, protocol⟩
    exact exec_of_ends rfl (((doeRequest_of_free free ⟨fits, by decide⟩).trans (if_pos rfl)).trans (if_pos protocol))
  case dropped => exact fun type index len s h => exec_of_ends rfl (doeRequest_of_dropped h)
  case ends => exact fun x s => ⟨rfl, rfl⟩
  case down => exact fun q s h => exec_of_ends rfl (spdmRequest_of_down h q)
  case answered => exact fun q s ⟨busy, up, bench⟩ => exec_of_ends rfl (spdmRequest_of_served busy up bench q)
  case opened =>
    exact fun x s ⟨busy, up, bench⟩ hx =>
      ⟨exec_of_ends rfl (keyUpdate_of_open busy up bench hx), exec_of_ends rfl (endSession_of_open busy up bench hx)⟩
  case closed =>
    exact fun x s ⟨busy, up, bench⟩ hx =>
      ⟨exec_of_ends rfl (keyUpdate_of_closed busy up bench hx), exec_of_ends rfl (endSession_of_closed busy up bench hx)⟩
  case kek => exact fun x payload signer seed s ⟨busy, up, bench⟩ hs => exec_of_ends rfl (kekInstall_of_served busy up bench hs)
  case leave => exact fun s h => exec_of_ends rfl (ideLeave_of_secure h)
  case key => exact fun x set sub dir key s hx => spdmAnswer_ideKey hx set sub dir key
  case enter => exact fun s h => exec_of_ends rfl (ideEnter_of_enabled h)
  case out => exact fun s h => exec_of_ends rfl (ideEnter_of_disabled h)
  case refresh => exact fun s h => exec_of_ends rfl (ideRefresh_of_secure h)

end Sys2Proof
end

section
/-!
The statement about the device's own reads of host memory (R252, R260, R262, R291, R293, R296).
-/

namespace Sys2Proof

open Machine

/-! ## What AER logs leaves the reads as they are (R252) -/

/-- `v` is `s` but for what configuration space keeps and the free values drawn, as far as reads go. -/
structure SameReads (s v : State) : Prop where
  work : v.work = s.work
  rings : v.rings = s.rings
  pcie : v.pcie = s.pcie
  ats : ∀ f, (v.func f).ats = (s.func f).ats

namespace SameReads

variable {s v : State}

theorem keepCfg (h : SameReads s v) (f : Fn) (off : Nat) (w : Word) : SameReads s (v.keepCfg f off w) := by
  rw [State.keepCfg]
  split
  · exact h
  · refine ⟨h.work, h.rings, h.pcie, fun k => (?_ : _ = (v.func k).ats).trans (h.ats k)⟩
    by_cases hk : f = k
    · rw [hk, State.func_setFunc_same]
    · rw [State.func_setFunc_other _ _ hk]

theorem draw (h : SameReads s v) : SameReads s { v with fresh := v.fresh + 1 } := ⟨h.work, h.rings, h.pcie, h.ats⟩

theorem foldl {α : Type} {g : State → α → State} (step : ∀ u a, SameReads s u → SameReads s (g u a)) (l : List α) (h : SameReads s v) :
    SameReads s (l.foldl g v) := by
  induction l generalizing v with
  | nil => exact h
  | cons a l ih => exact ih (step v a h)

theorem cmd? (h : SameReads s v) (id : Nat) : v.cmd? id = s.cmd? id := by rw [State.cmd?, h.work, State.cmd?]

theorem sq? (h : SameReads s v) (f k : Nat) : v.sq? f k = s.sq? f k := by rw [State.sq?, h.rings, State.sq?]

theorem cmdPasid (h : SameReads s v) (c : Cmd) : v.cmdPasid c = s.cmdPasid c := by rw [State.cmdPasid, h.sq?, State.cmdPasid]

theorem reading (h : SameReads s v) (c : Cmd) : v.reading c = s.reading c := by
  simp only [State.reading, State.holds, State.stillOut, h.cmdPasid, h.pcie, h.ats]

end SameReads

theorem sameReads_aerLog (s : State) (f : Fn) (k : Nat) (header : Bool) : SameReads s (s.aerLog f k header) := by
  have start : SameReads s s := ⟨rfl, rfl, rfl, fun _ => rfl⟩
  unfold State.aerLog
  extract_lets st masked first logged shown pointed free
  have counted : SameReads s shown := (start.keepCfg _ _ _).keepCfg _ _ _
  split_ifs
  · exact counted
  · refine .foldl (fun u o h => ?_) _ ?_
    · exact h.draw.keepCfg _ _ _
    · exact (counted.keepCfg _ _ _).draw.keepCfg _ _ _
  · exact counted.keepCfg _ _ _

/-! ## Reads that are answered (R252, R293, R296) -/

section Answered

variable {s : State} {id : Nat} {c : Cmd}

theorem readCompletion_of_data (hc : s.cmd? id = some c) (out : s.reading c = true) (bs : Bytes) :
    s.readCompletion (.command id) (.data bs) = (s.takeIn id bs).arrived id := by
  simp only [State.readCompletion, hc, out, ↓reduceIte]

/-- R252, R293: the read of a command fails at its next byte. -/
theorem readFails_of_reading {a l : Nat} (hc : s.cmd? id = some c) (out : s.reading c = true) (next : nextChunk c.segsIn = some (a, l))
    (st : Status) : s.readFails id st = (s.setCmd id (fun c => { c with errAddr := a })).fail id st := by
  simp only [State.readFails, hc, out, next, Bool.not_true, Bool.false_eq_true, ↓reduceIte]

theorem readTimeout_of_reading {a l : Nat} (hc : s.cmd? id = some c) (out : s.reading c = true) (next : nextChunk c.segsIn = some (a, l)) :
    s.readTimeout (.command id) =
      ((((s.aerLog (toFn c.fn) 14 false).emit (.aer 1)).setCmd id (fun c => { c with errAddr := a })).fail id .dmaFault) := by
  have same := sameReads_aerLog s (toFn c.fn) 14 false
  have maker : s.readFn (.command id) = toFn c.fn := by simp only [State.readFn, hc]
  rw [State.readTimeout, maker]
  exact readFails_of_reading (s := (s.aerLog (toFn c.fn) 14 false).emit (.aer 1)) ((same.cmd? id).trans hc) ((same.reading c).trans out) next _

theorem readCompletion_of_capsule_fails {r : ReadBack} (fails : ∀ bs, r ≠ .data bs) (f : Fn) (k : RingNo) :
    s.readCompletion (.capsule f k) r = s.sqReadFault f k := by
  cases r with
  | data bs => exact absurd rfl (fails bs)
  | poisoned | unsupported | abort => rfl

theorem readCompletion_of_doorbell_fails {r : ReadBack} (fails : ∀ bs, r ≠ .data bs) (f : Fn) :
    s.readCompletion (.doorbell f) r = s.pollFault f := by
  cases r with
  | data bs => exact absurd rfl (fails bs)
  | poisoned | unsupported | abort => rfl

theorem sqReadFault_of_ring {f : Fn} {k : RingNo} {q : Sq} (hq : s.sq? f k = some q) :
    s.sqReadFault f k =
      let v := (s.putSq f k { q with fetch := 0 }).freeDeleted
      if (v.sq? f k).isNone || v.bit (SQ_STAT f k) SQ_STAT_FAULT then v else (v.setBit (SQ_STAT f k) SQ_STAT_FAULT true).ringFault f [k.val] := by
  simp only [State.sqReadFault, hq]

theorem pollFault_of_unfaulted {f : Fn}
    (h : s.fnExists f = true ∧ (s.setFunc f (fun g => { g with pollLeft := 0, pollOwed := false })).bit (QS_FLT f) QS_FLT_POLL_FAULT = false) :
    s.pollFault f =
      ((s.setFunc f (fun g => { g with pollLeft := 0, pollOwed := false })).setBit (QS_FLT f) QS_FLT_POLL_FAULT true).ringFault f [] := by
  obtain ⟨there, unfaulted⟩ := h
  simp only [State.pollFault, there, unfaulted, Bool.not_true, Bool.false_eq_true, ↓reduceIte]

theorem poisonedWrite_of_exists {f : Fn} (h : s.fnExists f = true) : s.poisonedWrite f = (s.aerLog f 12 true).emit (.aer 0) := if_pos h

end Answered

/-! ## Translations (R260, R291) -/

section Translations

variable {s : State} {f : Fn} {pasid : Option Nat} {page : Nat}

/-- R260: the poll that waited begins, then shadows are written and entries posted. -/
theorem ringsTranslated_of_poll (h : s.qsPasid f = pasid ∧ s.dbBase f / 4096 = page ∧ (s.func f).pollOwed = true ∧ (s.func f).pollLeft = 0) :
    s.ringsTranslated f pasid page true =
      let due (v : State) := (v.rings.sqs.filter (fun e => e.1 / 256 == f.val && e.2.shadowDue
        && v.shPage f (e.1 % 256) == page)).map (fun e => e.1 % 256)
      let posts (v : State) := (v.rings.cqs.filter (fun e => e.1 / 256 == f.val && !e.2.waiting.isEmpty && e.2.pasid == pasid
        && v.cqPage f (e.1 % 256) e.2 == page)).map (fun e => e.1 % 256)
      let a := s.poll f
      let b := (due a).foldl (fun (v : State) k => v.writeShadow f k) a
      (posts b).foldl (fun (v : State) k => v.postEntry f k true) b := by
  obtain ⟨own, base, owed, idle⟩ := h
  simp only [State.ringsTranslated, own, base, owed, idle, beq_self_eq_true, Bool.and_self, Bool.and_true, Bool.not_true, Bool.false_eq_true,
    ↓reduceIte]

theorem ringsTranslated_of_none (ok : Bool) (sqs : ∀ e ∈ s.rings.sqs, e.1 / 256 ≠ f.val) (cqs : ∀ e ∈ s.rings.cqs, e.1 / 256 ≠ f.val)
    (unowed : (s.func f).pollOwed = false) : s.ringsTranslated f pasid page ok = s := by
  have no_sq (p : Nat × Sq → Bool) : s.rings.sqs.filter (fun e => e.1 / 256 == f.val && p e) = [] :=
    List.filter_eq_nil_iff.mpr fun e he => by simp [sqs e he]
  have no_cq (p : Nat × Cq → Bool) : s.rings.cqs.filter (fun e => e.1 / 256 == f.val && p e) = [] :=
    List.filter_eq_nil_iff.mpr fun e he => by simp [cqs e he]
  simp only [State.ringsTranslated, unowed, Bool.and_assoc, Bool.and_false, Bool.false_and, Bool.not_false, ↓reduceIte, no_sq, no_cq,
    List.map_nil, List.foldl_nil, ite_self]

end Translations

/-! ## Page responses (R293) -/

section Response

variable {s : State} {id : Nat} {c : Cmd}

/-- The answer to the page request of command `id` has come. -/
def pageAnswered (s : State) (id : Nat) : State :=
  ({ s with pcie.prLost := s.pcie.prLost.filter (fun x => x.1 != id) } : State).setCmd id (fun c => { c with pr := .none, parked := false })

theorem pageResponse_of_success (hc : s.cmd? id = some c) (out : c.pr = .outstanding) :
    s.pageResponse id 0 = (((pageAnswered s id).setCmd id (fun c => { c with fails := max 1 c.fails })).pump id).servePr := by
  have found : ({ s with pcie.prLost := s.pcie.prLost.filter (fun x => x.1 != id) } : State).cmd? id = some c := hc
  simp only [State.pageResponse, found, out, ne_eq, not_true_eq_false, ↓reduceIte]
  rfl

/-- R293: a failure but Invalid Request also stops the function's page requests. -/
theorem pageResponse_of_failure {code a l : Nat} (hc : s.cmd? id = some c) (out : c.pr = .outstanding) (failed : code ≠ 0)
    (next : nextChunk c.segs = some (a, l)) :
    s.pageResponse id code =
      (((if code = 1 then pageAnswered s id else (pageAnswered s id).setBit (QS_FLT c.fn) QS_FLT_PRI_STOP true).setCmd id
        (fun c => { c with errAddr := a })).fail id .dmaFault).servePr := by
  have found : ({ s with pcie.prLost := s.pcie.prLost.filter (fun x => x.1 != id) } : State).cmd? id = some c := hc
  simp only [State.pageResponse, found, out, failed, next, ne_eq, not_true_eq_false, ↓reduceIte]
  rfl

end Response

/-! ## Invalidations (R260) -/

section Invalidation

variable {s : State} {f : Fn} {pasid : Option Nat} {page : Nat}

/-- The reads in flight of a function that uses translations. -/
theorem mem_readsInto (ats : (s.func f).ats = true) (r : HostRead) :
    r ∈ s.readsInto f pasid page ↔
      (∃ c ∈ s.work.cmds, (c.fn = f.val ∧ s.cmdPasid c = pasid ∧ c.page = page ∧ s.reading c = true) ∧ .command c.id = r)
      ∨ (∃ e ∈ s.rings.sqs, (e.1 / 256 = f.val ∧ e.2.fetch ≠ 0 ∧ e.2.pasid = pasid ∧ s.capPage f (e.1 % 256) e.2 = page)
          ∧ .capsule f (Fin.ofNat 256 (e.1 % 256)) = r)
      ∨ ((0 < (s.func f).pollLeft ∧ s.qsPasid f = pasid ∧ s.dbBase f / 4096 = page) ∧ r = .doorbell f) := by
  simp [State.readsInto, ats, and_assoc]

theorem command_mem_readsInto (ats : (s.func f).ats = true) (i : Nat) :
    HostRead.command i ∈ s.readsInto f pasid page ↔
      ∃ c ∈ s.work.cmds, c.id = i ∧ c.fn = f.val ∧ s.cmdPasid c = pasid ∧ c.page = page ∧ s.reading c = true := by
  simp only [mem_readsInto ats, HostRead.command.injEq, reduceCtorEq, and_false, exists_false, or_false]
  exact exists_congr fun c => and_congr_right fun _ => and_comm

theorem capsule_mem_readsInto (ats : (s.func f).ats = true) (g : Fn) (k : RingNo) :
    HostRead.capsule g k ∈ s.readsInto f pasid page ↔
      g = f ∧ ∃ e ∈ s.rings.sqs, e.1 / 256 = f.val ∧ e.1 % 256 = k.val ∧ e.2.fetch ≠ 0 ∧ e.2.pasid = pasid
        ∧ s.capPage f (e.1 % 256) e.2 = page := by
  have index (x : Nat) : Fin.ofNat 256 (x % 256) = k ↔ x % 256 = k.val := by
    rw [Fin.ext_iff]
    simp
  simp only [mem_readsInto ats, HostRead.capsule.injEq, reduceCtorEq, and_false, exists_false, or_false, false_or, index]
  constructor
  · rintro ⟨e, he, ⟨fn, out, own, at_page⟩, rfl, ring⟩
    exact ⟨rfl, e, he, fn, ring, out, own, at_page⟩
  · rintro ⟨rfl, e, he, fn, ring, out, own, at_page⟩
    exact ⟨e, he, ⟨fn, out, own, at_page⟩, rfl, ring⟩

theorem doorbell_mem_readsInto (ats : (s.func f).ats = true) (g : Fn) :
    HostRead.doorbell g ∈ s.readsInto f pasid page ↔
      g = f ∧ 0 < (s.func f).pollLeft ∧ s.qsPasid f = pasid ∧ s.dbBase f / 4096 = page := by
  simp only [mem_readsInto ats, HostRead.doorbell.injEq, reduceCtorEq, and_false, exists_false, false_or]
  exact and_comm

theorem settleInvals_of_answered {f : Nat} (h : s.pcie.invals = [((f, pasid, page), [])]) :
    s.settleInvals = ({ s with pcie.invals := [] } : State).emit (.atsDone f page) := by
  simp [State.settleInvals, h]

end Invalidation

/-- Settles O49: each completion by the read that it answers, translations by what waits for them, and an invalidation by the reads in
flight. -/
theorem readsOfHostMemory : Obligations.ReadsOfHostMemory := by
  refine ⟨?data, ?fails, ?capsule, ?taken, ?doorbell, ?timeout, ?write, ?translation, ?turn, ?rings, ?noRing, ?success, ?failure, ?invalidation,
    ?reads, ?settled⟩
  case data => exact fun id bs c s hc out => exec_of_ends rfl (readCompletion_of_data hc out bs)
  case fails =>
    intro id c a l s hc ⟨out, next⟩
    exact ⟨exec_of_ends rfl (readFails_of_reading hc out next _), exec_of_ends rfl (readFails_of_reading hc out next _),
      exec_of_ends rfl (readFails_of_reading hc out next _), exec_of_ends rfl (readTimeout_of_reading hc out next)⟩
  case capsule =>
    intro f k q r s hq fails
    have not_data : ∀ bs, r ≠ .data bs := fun bs e => by subst e; exact Bool.false_ne_true fails
    exact exec_of_ends rfl ((readCompletion_of_capsule_fails not_data f k).trans (sqReadFault_of_ring hq))
  case taken => exact fun f k bs s => ⟨rfl, rfl⟩
  case doorbell =>
    intro f r s h fails
    have not_data : ∀ bs, r ≠ .data bs := fun bs e => by subst e; exact Bool.false_ne_true fails
    exact exec_of_ends rfl ((readCompletion_of_doorbell_fails not_data f).trans (pollFault_of_unfaulted h))
  case timeout => exact fun f k s => ⟨rfl, rfl⟩
  case write => exact fun f s h => exec_of_ends rfl (poisonedWrite_of_exists h)
  case translation => exact fun f pasid page s => ⟨rfl, rfl⟩
  case turn => exact fun l s => rfl
  case rings => exact fun f pasid page s h => ringsTranslated_of_poll h
  case noRing => exact fun f pasid page ok s ⟨sqs, cqs, unowed⟩ => ringsTranslated_of_none ok sqs cqs unowed
  case success => exact fun id c s hc out => exec_of_ends rfl (pageResponse_of_success hc out)
  case failure =>
    intro id code c a l s hc ⟨out, failed, next⟩
    have invalid : (code = 1) = (code.val = 1) := propext Fin.ext_iff
    simp only [invalid]
    exact exec_of_ends rfl (pageResponse_of_failure hc out (fun none => failed none) next)
  case invalidation => exact fun f pasid page s => rfl
  case reads =>
    exact fun f pasid page s ats => ⟨command_mem_readsInto ats, capsule_mem_readsInto ats, doorbell_mem_readsInto ats⟩
  case settled => exact fun f page pasid s h => settleInvals_of_answered h

end Sys2Proof
end

section
/-!
The statement about the four operations of QS_CMD (R258, R261, R271 to R275).
-/

namespace Sys2Proof

open Machine

/-! ## The doorbell word as bytes -/

theorem leNat_leBytes (k n : Nat) : leNat (leBytes k n) = n % 256 ^ k := by
  induction k generalizing n with
  | zero => exact (Nat.mod_one n).symm
  | succ k ih =>
    rw [leBytes, leNat, ih, Nat.pow_succ', Nat.mod_mul]
    rfl

theorem length_leBytes (k n : Nat) : (leBytes k n).length = k := by
  induction k generalizing n with
  | zero => rfl
  | succ k ih => rw [leBytes, List.length_cons, ih]

/-- The bytes of a doorbell word are read as that word. -/
theorem wordOf_wordBytes (word : Option (BitVec 64)) : wordOf (wordBytes word) = word := by
  cases word with
  | none => rfl
  | some w =>
    have fits : leNat (leBytes 8 w.toNat) = w.toNat := (leNat_leBytes 8 w.toNat).trans (Nat.mod_eq_of_lt w.isLt)
    rw [wordBytes, wordOf, if_pos (length_leBytes 8 w.toNat), fits, BitVec.ofNat_toNat, BitVec.setWidth_eq]

/-! ## A write of QS_CMD (R271) -/

section Command

variable {s : State} {f : Fn} {op : Nat} {k : RingNo}

theorem qsWord_toNat (h : op < 256) : (qsWord op k).toNat = 2 ^ 31 + k.val * 2 ^ 16 + op := by
  have ring := k.isLt
  rw [qsWord, BitVec.toNat_ofNat]
  omega

/-- The fields of the word: GO, the ring and the operation. -/
theorem qsWord_fields (h : op < 256) :
    fldGet QS_CMD_GO (qsWord op k) = 1 ∧ fldGet QS_CMD_RING (qsWord op k) = k ∧ fldGet QS_CMD_OP (qsWord op k) = op := by
  have ring := k.isLt
  simp only [fldGet, qsWord_toNat h, Nat.shiftRight_eq_div_pow]
  omega

/-- The operation begins: its word stands in QS_CMD without GO, and BUSY is 1. -/
def qsBegun (s : State) (f : Fn) (op : Nat) (k : RingNo) : State :=
  (s.setReg (QS_CMD f) (qsWord op k &&& 0x00FF00FF#32)).setBit (QS_STAT f) QS_STAT_BUSY true

/-- The operation of a number. -/
def qsRuns (v : State) (f : Fn) (op : Nat) (k : RingNo) (word : Option (BitVec 64)) : State :=
  if op = 1 then v.createCq f k word else if op = 2 then v.createSq f k word else if op = 3 then v.deleteSq f k
  else if op = 4 then v.deleteCq f k else v.qsDone f .invalidOpcode

theorem qsCmd_of_free (h : op < 256) (free : s.bit (QS_STAT f) QS_STAT_BUSY = false) (word : Option (BitVec 64)) :
    s.qsCmd f (qsWord op k) word = qsRuns (qsBegun s f op k) f op k word := by
  obtain ⟨go, ring, which⟩ := qsWord_fields (k := k) h
  simp only [State.qsCmd, free, go, ring, which, Bool.false_eq_true, Nat.one_ne_zero, ↓reduceIte]
  rfl

theorem qsCmd_of_busy (busy : s.bit (QS_STAT f) QS_STAT_BUSY = true) (w : Word) (word : Option (BitVec 64)) :
    s.qsCmd f w word = s.setBit (QS_STAT f) QS_STAT_REFUSED true := if_pos busy

/-- Where QS_CMD of a function lies. -/
theorem qsCmd_offset (f : Fn) : qsKey f 0x18 % 2 ^ 24 = if f.val = 0 then 0x10018 else 0x58 := by
  unfold qsKey
  split_ifs
  · rfl
  · omega

theorem rowAt_qsCmd (f : Nat) :
    rowAt (qsRows f) 0x18 = some ⟨0x18, 4, 1, fun _ => QS_CMD f, 0xFF00FF#32, 0x0#32, 0x80000000#32, 0x0#32⟩ := by
  simp [rowAt, qsRows]

theorem regRow_qsCmd (f : Fn) :
    regRow f (qsKey f 0x18 % 2 ^ 24) = some (⟨0x18, 4, 1, fun _ => QS_CMD f, 0xFF00FF#32, 0x0#32, 0x80000000#32, 0x0#32⟩, QS_CMD f, 0) := by
  rw [qsCmd_offset]
  by_cases pf : f.val = 0
  · rw [if_pos pf, pf]
    rfl
  · have row : vfRow f 0x58 = rowAt (qsRows f) 0x18 := rfl
    simp only [regRow, if_neg pf, row, rowAt_qsCmd]
    rfl

/-- A write of QS_CMD that goes through is a command. -/
theorem access_qsCmd (h : Reaches s f (qsKey f 0x18 % 2 ^ 24)) (w : Word) (data : Bytes) :
    s.access f (qsKey f 0x18 % 2 ^ 24) w data = s.qsCmd f w (wordOf data) := by
  rw [access_of_reaches h, State.applyWrite, regRow_qsCmd, qsCmd_offset]
  by_cases pf : f.val = 0
  · rw [if_pos pf, pf]
    rfl
  · simp only [ne_eq, pf, not_false_eq_true, ↓reduceIte]
    rfl

/-- An operation, once GO has reached QS_CMD. -/
theorem exec_of_go {i : Instr} {word : Option (BitVec 64)} {v : State}
    (ends : exec i s = finishStep s (s.access f (qsKey f 0x18 % 2 ^ 24) (qsWord op k) (wordBytes word))) (h : op < 256)
    (reach : Reaches s f (qsKey f 0x18 % 2 ^ 24)) (free : s.bit (QS_STAT f) QS_STAT_BUSY = false)
    (runs : qsRuns (qsBegun s f op k) f op k word = v) : exec i s = .next (s.close v) :=
  exec_of_ends ends (by rw [access_qsCmd reach, wordOf_wordBytes, qsCmd_of_free h free, runs])

theorem exec_of_go_busy {i : Instr} {word : Option (BitVec 64)}
    (ends : exec i s = finishStep s (s.access f (qsKey f 0x18 % 2 ^ 24) (qsWord op k) (wordBytes word)))
    (reach : Reaches s f (qsKey f 0x18 % 2 ^ 24)) (busy : s.bit (QS_STAT f) QS_STAT_BUSY = true) :
    exec i s = .next (s.close (s.setBit (QS_STAT f) QS_STAT_REFUSED true)) :=
  exec_of_ends ends (by rw [access_qsCmd reach, qsCmd_of_busy busy])

section Go

variable (reach : Reaches s f (qsKey f 0x18 % 2 ^ 24)) (free : s.bit (QS_STAT f) QS_STAT_BUSY = false)

include reach free

theorem exec_createCq {word : Option (BitVec 64)} {v : State} (h : (qsBegun s f 1 k).createCq f k word = v) :
    exec (.createCq f k word) s = .next (s.close v) := exec_of_go rfl (by decide) reach free (by simp [qsRuns, h])

theorem exec_createSq {word : Option (BitVec 64)} {v : State} (h : (qsBegun s f 2 k).createSq f k word = v) :
    exec (.createSq f k word) s = .next (s.close v) := exec_of_go rfl (by decide) reach free (by simp [qsRuns, h])

theorem exec_deleteSq {v : State} (h : (qsBegun s f 3 k).deleteSq f k = v) : exec (.deleteSq f k) s = .next (s.close v) :=
  exec_of_go (word := none) rfl (by decide) reach free (by simp [qsRuns, h])

theorem exec_deleteCq {v : State} (h : (qsBegun s f 4 k).deleteCq f k = v) : exec (.deleteCq f k) s = .next (s.close v) :=
  exec_of_go (word := none) rfl (by decide) reach free (by simp [qsRuns, h])

end Go

end Command

/-! ## Creating a ring (R272, R273) -/

section Create

variable {v u : State} {f k : Nat} (word : Option (BitVec 64))

theorem createCq_of_admitted (hu : u = v.lockFeatures f)
    (room : u.createOk f = true ∧ u.cq? f k = none ∧ u.cqUsed f < u.fld (QS_LIM f) QS_LIM_CQ_MAX ∧ u.rings.cqs.length < 1024)
    (args : u.qsArg f 3 &&& 0x7F00FF00 = 0 ∧ u.qsArg f 4 < 65536 ∧ u.qsArg f 3 % 256 < u.vecCount f) :
    v.createCq f k word =
      let ep := Machine.nextEpoch (SMap.getD u.rings.cqEpoch 0 (ringKey f k))
      let q : Cq := ⟨u.qsArg f 0 + 2 ^ 32 * u.qsArg f 1, u.qsArg f 2, decide (2 ^ 31 ≤ u.qsArg f 3), u.qsArg f 3 / 65536 % 256, u.qsArg f 3 % 256,
        u.qsArg f 4, u.argPasid f, 0, some (word.getD 0), [], 0, false⟩
      let v : State := { u with rings.cqEpoch := SMap.put u.rings.cqEpoch 0 (ringKey f k) ep }
      ((((v.putCq f k q).setReg (CQ_STAT f k) 0x5#32).qsDone f .ok).setFld (QS_STAT f) QS_STAT_EPOCH ep).ringCount f := by
  obtain ⟨ok, new, share, few⟩ := room
  obtain ⟨reserved, time, vector⟩ := args
  have admitted : (!u.createOk f || (u.cq? f k).isSome || decide (u.fld (QS_LIM f) QS_LIM_CQ_MAX < u.cqUsed f + 1)
      || decide (u.qsArg f 3 &&& 0x7F00FF00 ≠ 0 ∨ 65536 ≤ u.qsArg f 4 ∨ u.vecCount f ≤ u.qsArg f 3 % 256)) = false := by
    simp [ok, new, reserved, time, vector, share]
  subst hu
  exact (if_neg (Bool.eq_false_iff.mp admitted)).trans (if_neg (Nat.not_le.mpr few))

theorem createSq_of_admitted (hu : u = v.lockFeatures f)
    (room : u.createOk f = true ∧ u.sq? f k = none ∧ u.sqUsed f < u.fld (QS_LIM f) QS_LIM_SQ_MAX ∧ u.rings.sqs.length < 1024)
    (args : u.bit (QS_SH_LO f) QS_SH_LO_VALID = true ∧ u.qsArg f 3 < 2048 ∧ u.qsArg f 4 = 0 ∧ u.qsArg f 3 / 256 % 4 ≠ 3)
    (posts : (u.cq? f (u.qsArg f 3 % 256)).isSome = true)
    (features : (u.qsArg f 3 / 256 % 4 = 1 → u.accepted f featSchuss = true) ∧ (u.qsArg f 3 / 1024 % 2 = 1 → u.accepted f featChained = true)) :
    v.createSq f k word =
      let ep := Machine.nextEpoch (SMap.getD u.rings.sqEpoch 0 (ringKey f k))
      let q : Sq := ⟨u.qsArg f 0 + 2 ^ 32 * u.qsArg f 1, u.qsArg f 2, u.qsArg f 3 % 256, u.qsArg f 3 / 256 % 4, decide (u.qsArg f 3 / 1024 % 2 = 1),
        u.argPasid f, 0, some (word.getD 0), false, false, 0, []⟩
      let v : State := { u with rings.sqEpoch := SMap.put u.rings.sqEpoch 0 (ringKey f k) ep }
      ((((v.putSq f k q).setReg (SQ_STAT f k) 0x1#32).qsDone f .ok).setFld (QS_STAT f) QS_STAT_EPOCH ep).ringCount f := by
  obtain ⟨ok, new, share, few⟩ := room
  obtain ⟨shadows, reserved, unused, known⟩ := args
  obtain ⟨schuss, chained⟩ := features
  have admitted : (!u.createOk f || (u.sq? f k).isSome || decide (u.fld (QS_LIM f) QS_LIM_SQ_MAX < u.sqUsed f + 1)
      || !u.bit (QS_SH_LO f) QS_SH_LO_VALID
      || decide (2048 ≤ u.qsArg f 3 ∨ u.qsArg f 4 ≠ 0 ∨ u.qsArg f 3 / 256 % 4 = 3) || (u.cq? f (u.qsArg f 3 % 256)).isNone
      || (decide (u.qsArg f 3 / 256 % 4 = 1) && !u.accepted f featSchuss)
      || (decide (u.qsArg f 3 / 1024 % 2 = 1) && !u.accepted f featChained)) = false := by
    have ring : (u.cq? f (u.qsArg f 3 % 256)).isNone = false := by rw [← Option.not_isSome, posts]; rfl
    simpa [ok, new, share, shadows, reserved, unused, known, ring] using ⟨schuss, chained⟩
  subst hu
  exact (if_neg (Bool.eq_false_iff.mp admitted)).trans (if_neg (Nat.not_le.mpr few))

end Create

/-! ## Deleting a ring (R275) -/

section Delete

variable {u : State} {f k : Nat}

/-- The commands of a ring that have not started. -/
theorem unstarted_ofSq (v : State) (f k : Nat) :
    (v.ofSq f k).filter (fun c => !c.started && !c.ended) =
      v.work.cmds.filter (fun c => c.fn == f && c.sq == k && !c.mute && !c.started && !c.ended) := by
  rw [State.ofSq, List.filter_filter]
  refine List.filter_congr fun c _ => ?_
  rw [Bool.and_comm, Bool.and_assoc _ (!c.started)]

theorem deleteSq_of_ring {q : Sq} (hq : u.sq? f k = some q) :
    u.deleteSq f k =
      let v := (if q.fetch = 0 then u else u.putSq f k { q with fetch := 2 }).setFld (SQ_STAT f k) SQ_STAT_STATE 2
      let ids := (v.work.cmds.filter (fun c => c.fn == f && c.sq == k && !c.mute && !c.started && !c.ended)).map (·.id)
      let w := ids.foldl (fun (s : State) i => s.finish i .abortedByHost) v
      ({ w with rings.deleting := w.rings.deleting ++ [(f, k)] } : State).freeDeleted := by
  simp only [State.deleteSq, hq, unstarted_ofSq]

/-- A ring of which nothing is left is freed. -/
theorem freeDeleted_of_left {v : State} {q : Sq} (one : v.rings.deleting = [(f, k)]) (hq : v.sq? f k = some q) (read : q.fetch = 0)
    (ended : v.work.cmds.any (fun c => c.fn == f && c.sq == k && !c.mute) = false)
    (posted : v.rings.cqs.any (fun e => e.1 / 256 == f && e.2.waiting.any (fun w => w.sq == k)) = false) :
    v.freeDeleted =
      let v : State := { v with
        rings.sqs := SMap.del (ringKey f k) v.rings.sqs, rings.deleting := [],
        work.written := v.work.written.filter (fun e => !(e.1.1 == f && e.1.2.1 == k)) }
      ((v.setFld (SQ_STAT f k) SQ_STAT_STATE 0).qsDone f .ok).ringCount f := by
  simp only [State.freeDeleted, one, List.foldl_cons, List.foldl_nil, hq, read, ended, posted, bne_self_eq_false, Bool.or_self,
    Bool.false_eq_true, ↓reduceIte, List.filter_cons, List.filter_nil]

theorem deleteSq_of_left {q : Sq} (hq : u.sq? f k = some q ∧ q.fetch = 0 ∧ u.rings.deleting = [])
    (ended : u.work.cmds.any (fun c => c.fn == f && c.sq == k && !c.mute) = false)
    (posted : u.rings.cqs.any (fun e => e.1 / 256 == f && e.2.waiting.any (fun w => w.sq == k)) = false) :
    u.deleteSq f k =
      let v := u.setFld (SQ_STAT f k) SQ_STAT_STATE 2
      let v : State := { v with
        rings.sqs := SMap.del (ringKey f k) v.rings.sqs, rings.deleting := [],
        work.written := v.work.written.filter (fun e => !(e.1.1 == f && e.1.2.1 == k)) }
      ((v.setFld (SQ_STAT f k) SQ_STAT_STATE 0).qsDone f .ok).ringCount f := by
  obtain ⟨ring, read, none_deleted⟩ := hq
  have none_left : u.work.cmds.filter (fun c => c.fn == f && c.sq == k && !c.mute && !c.started && !c.ended) = [] := by
    refine List.filter_eq_nil_iff.mpr fun c hc => ?_
    rw [Bool.and_eq_true, Bool.and_eq_true]
    exact fun ⟨⟨mine, _⟩, _⟩ => List.any_eq_false.mp ended c hc mine
  rw [deleteSq_of_ring ring]
  simp only [read, ↓reduceIte, State.setFld_work, State.setFld_rings, none_left, none_deleted, List.map_nil, List.foldl_nil, List.nil_append]
  exact freeDeleted_of_left (v := { u.setFld (SQ_STAT f k) SQ_STAT_STATE 2 with rings.deleting := [(f, k)] }) rfl ring read ended posted

theorem deleteCq_of_unused (ring : (u.cq? f k).isSome = true) (unused : u.rings.sqs.any (fun e => e.1 / 256 == f && e.2.cq == k) = false) :
    u.deleteCq f k =
      let v : State := { u with rings.cqs := SMap.del (ringKey f k) u.rings.cqs }
      ((v.setFld (CQ_STAT f k) CQ_STAT_STATE 0).qsDone f .ok).ringCount f := by
  have there : (u.cq? f k).isNone = false := by rw [← Option.not_isSome, ring]; rfl
  simp only [State.deleteCq, there, unused, Bool.or_self, Bool.false_eq_true, ↓reduceIte]

theorem deleteCq_of_used (h : u.cq? f k = none ∨ u.rings.sqs.any (fun e => e.1 / 256 == f && e.2.cq == k) = true) :
    u.deleteCq f k = u.qsDone f .invalidField := by
  rw [State.deleteCq, if_pos]
  obtain absent | used := h
  · rw [absent]; rfl
  · rw [used, Bool.or_true]

end Delete

/-- Settles O32: each operation once GO has reached QS_CMD, by its arguments and what is left of the ring. -/
theorem queueSetUp : Obligations.QueueSetUp := by
  refine ⟨?go, ?busy, ?createCq, ?createSq, ?deleteSq, ?emptySq, ?deleteCq, ?usedCq⟩
  case go =>
    exact fun f k word s reach free => ⟨exec_createCq reach free rfl, exec_createSq reach free rfl, exec_deleteSq reach free rfl,
      exec_deleteCq reach free rfl⟩
  case busy =>
    intro f k word s c reach busy hc
    simp only [List.mem_cons, List.not_mem_nil, or_false] at hc
    obtain rfl | rfl | rfl | rfl := hc
    · exact exec_of_go_busy (op := 1) rfl reach busy
    · exact exec_of_go_busy (op := 2) rfl reach busy
    · exact exec_of_go_busy (op := 3) (word := none) rfl reach busy
    · exact exec_of_go_busy (op := 4) (word := none) rfl reach busy
  case createCq =>
    exact fun f k word u s reach free hu room args => exec_createCq reach free (createCq_of_admitted word hu room args)
  case createSq =>
    exact fun f k word u s reach free hu room args posts features =>
      exec_createSq reach free (createSq_of_admitted word hu room args posts features)
  case deleteSq =>
    rintro f k q u s reach free rfl hq
    exact exec_deleteSq reach free (deleteSq_of_ring hq)
  case emptySq =>
    rintro f k q u s reach free rfl hq ended posted
    exact exec_deleteSq reach free (deleteSq_of_left hq ended posted)
  case deleteCq =>
    rintro f k u s reach free rfl ring unused
    exact exec_deleteCq reach free (deleteCq_of_unused ring unused)
  case usedCq => exact fun f k s h => deleteCq_of_used h

end Sys2Proof
end

section
/-!
The refutation of the statement about the events of a function (R248, R253).
-/

namespace Sys2Proof

open Machine

/-! ## A control word of configuration space that holds more than its kept bits -/

/-- VFs are enabled, and configuration space holds the VF Enable bit of SR-IOV Control, which the block reads elsewhere, among its kept bits. -/
def vfEnableHeld : State :=
  { State.reset with
    pcie := { linkUp := true, vfEnable := true }
    fns := State.reset.fns.set 0 { cfg := [(0x168, 1#32)] } }

theorem vfEnableHeld_reaches : vfEnableHeld.pcie.vfEnable = true ∧ vfEnableHeld.pcie.linkUp = true ∧ vfEnableHeld.power.entry = none :=
  ⟨rfl, rfl, rfl⟩

/-- The write of VF Enable 0 carries the word that is held, and so VF Enable 1. -/
theorem vfEnableHeld_written : (vfEnableHeld.close (vfEnableHeld.vfControl false 0)).pcie.vfEnable = true := by decide +kernel

theorem vfEnableHeld_disabled : (vfEnableHeld.close vfEnableHeld.vfDisable).pcie.vfEnable = false := by decide +kernel

/-- Refutes O48: its clause for VF Enable cleared lets the VFs end whatever configuration space holds for the control word, where the model
writes that word back with the bit; on the state above VF Enable stays 1. (A write of the word keeps its writable bits only; the statement
speaks of every state.) -/
theorem not_functionEvents : ¬ Obligations.FunctionEvents := by
  rintro ⟨-, -, -, -, -, -, cleared, -⟩
  have stated := cleared 0 vfEnableHeld vfEnableHeld_reaches (by decide +kernel) rfl
  have same : vfEnableHeld.close (vfEnableHeld.vfControl false 0) = vfEnableHeld.close vfEnableHeld.vfDisable := Host.Outcome.next.inj stated
  have shown := vfEnableHeld_written
  rw [same, vfEnableHeld_disabled] at shown
  exact Bool.false_ne_true shown

end Sys2Proof
end

section
/-!
The refutation of the statement about the device's registers (R248, R453).
-/

namespace Sys2Proof

open Machine

/-! ## A dword of configuration space that is held at its reset value -/

/-- The block right after reset with its link up, but that configuration space holds the reset value of MSI-X Control, which a write of that
value takes out. -/
def msixCtlHeld : State :=
  { State.reset with
    pcie := { linkUp := true }
    fns := State.reset.fns.set 0 { cfg := [(0xA0, 0#32)] } }

theorem msixCtlHeld_reaches : msixCtlHeld.linkReaches 0 .config = true ∧ msixCtlHeld.power.entry = none := by decide +kernel

/-- The write of Function Mask writes the kept bits with what they hold, and so takes the dword out. -/
theorem msixCtlHeld_written : ((msixCtlHeld.close (msixCtlHeld.unmask 0 none)).func 0).cfg = [] := by decide +kernel

/-- The state that the statement names for that write. -/
def msixCtlUnmasked : State := (msixCtlHeld.setFunc 0 (fun g => { g with funcMask := false })).msixRelease 0

theorem msixCtlHeld_stated : ((msixCtlHeld.close msixCtlUnmasked).func 0).cfg = [(0xA0, 0#32)] := by decide +kernel

/-- Refutes O53: its clause for the Function Mask lets nothing of configuration space change, where the model writes the kept bits of the dword
with what they hold; on the state above that takes the dword out of what is held. (Every write leaves no dword held at its reset value; the
statement speaks of every state.) -/
theorem not_deviceRegisters : ¬ Obligations.DeviceRegisters := by
  rintro ⟨-, -, -, -, -, -, -, -, -, -, -, -, unmasked⟩
  have stated := unmasked 0 msixCtlHeld msixCtlHeld_reaches (by decide +kernel) rfl
  have same : msixCtlHeld.close (msixCtlHeld.unmask 0 none) = msixCtlHeld.close msixCtlUnmasked := Host.Outcome.next.inj stated
  have shown := msixCtlHeld_written
  rw [same, msixCtlHeld_stated] at shown
  exact List.cons_ne_nil _ _ shown

end Sys2Proof
end

section
/-!
The statement about polls, doorbell words, head shadows and idle functions (R257, R260, R277 to R281, R296).
-/

namespace Sys2Proof

open Machine

/-! ## A poll (R280) -/

/-- The doorbell words that a poll of function `f` reads: those of its SQs, then those of its CQs; the polls in schuss of an IDLE function read
those of its SCHUSS SQs only. -/
def polledWords (s : State) (f : Fn) (sch : Bool) : List Nat :=
  let few := sch && (s.func f).idle
  (s.rings.sqs.filter (fun e => e.1 / 256 == f.val && (!few || e.2.cls == 1))).map (fun e => s.dbBase f.val + 0 + 8 * (e.1 % 256))
    ++ (s.rings.cqs.filter (fun e => e.1 / 256 == f.val && !few)).map (fun e => s.dbBase f.val + 0x800 + 8 * (e.1 % 256))

/-- R300: the round of a poll of function `f`: that of the polls in flight, else the next. -/
def roundOfPoll (s : State) (f : Fn) : Nat :=
  if (List.range 64).any (fun g => g != f.val && decide (0 < (s.func (toFn g)).pollLeft)) then s.rings.round else s.rings.round + 1

section Poll

variable {s : State} {f : Fn}

theorem poll_of_barred (barred : s.mayPoll f = false) (sch : Bool) : s.poll f sch = s := if_pos (by rw [barred]; rfl)

variable (may : s.mayPoll f = true)
include may

theorem poll_of_untranslated (missing : s.holds f (s.qsPasid f) (s.dbBase f / 4096) = false) (sch : Bool) :
    s.poll f sch = (s.setFunc f (fun g => { g with pollOwed := true })).emit (.atsReq f (s.qsPasid f) (s.dbBase f / 4096)) := by
  simp only [State.poll, may, missing, Bool.not_true, Bool.not_false, Bool.false_eq_true, ↓reduceIte]

theorem poll_of_translated (held : s.holds f (s.qsPasid f) (s.dbBase f / 4096) = true) (sch : Bool) :
    s.poll f sch = (polledWords s f sch).foldl (fun v a => v.emit (.hostRead f.val (v.qsPasid f.val) a 8))
      (({ s with rings.round := roundOfPoll s f } : State).setFunc f
        (fun g => { g with pollLeft := (polledWords s f sch).length, pollOwed := false, pollRound := roundOfPoll s f })) := by
  simp only [State.poll, may, held, Bool.not_true, Bool.false_eq_true, ↓reduceIte]
  rfl

end Poll

/-! ## Doorbell words (R278) -/

theorem sqTakes_iff {q : Sq} {ep hd : Nat} {w : BitVec 64} :
    sqTakes q ep hd w = true ↔ w.toNat / 65536 = ep ∧ w.toNat % 65536 < q.size
      ∧ (q.tail + q.size - hd) % q.size ≤ (w.toNat % 65536 + q.size - hd) % q.size := decide_eq_true_iff

theorem cqTakes_iff {q : Cq} {ep tl : Nat} {w : BitVec 64} :
    cqTakes q ep tl w = true ↔ w.toNat / 65536 = ep ∧ w.toNat % 65536 < q.size
      ∧ (w.toNat % 65536 + q.size - q.head) % q.size ≤ (tl + q.size - q.head) % q.size := decide_eq_true_iff

/-- A word is judged where it has changed, or was ignored when it was read before. -/
theorem judged_iff {last : Option (BitVec 64)} {w : BitVec 64} {ignored : Bool} :
    last ≠ some w ∨ ignored = true ↔ ¬ (last = some w ∧ ignored = false) := by
  rw [not_and_or, Bool.not_eq_false]

/-- R280: function `f` is ACTIVE once a doorbell word of it has changed. -/
def activeOn (v : State) (f : Fn) (last : Option (BitVec 64)) (w : BitVec 64) : State :=
  if last = some w then v else v.setFunc f (fun g => { g with idle := false })

/-- The commands whose XFER_READY entries lie in the slots of CQ (f, k) that its head passes on its way to `hd` (R289). -/
def xrdyPassedIds (s : State) (f k : Nat) (q : Cq) (hd : Nat) : List Nat :=
  (s.work.cmds.filter (fun c => c.fn == f && c.xrdyPosted && !c.xrdyTaken &&
    (match s.sq? c.fn c.sq with | some sq => sq.cq == k | none => false) &&
    decide ((c.xrdySlot + q.size - q.head) % q.size < (hd + q.size - q.head) % q.size))).map (·.id)

/-- Neither a CQ's new head nor the function's activity changes the commands and their SQs. -/
theorem xrdyPassedIds_activeOn (s : State) (f : Fn) (k : Nat) (q q' : Cq) (hd : Nat) (last : Option (BitVec 64)) (w : BitVec 64) :
    xrdyPassedIds (activeOn (s.putCq f k q') f last w) f k q hd = xrdyPassedIds s f k q hd := by
  unfold activeOn
  split <;> rfl

section SqDoorbell

variable {s : State} {f : Fn} {k : Nat} {w : BitVec 64} {q : Sq} (hq : s.sq? f k = some q)
include hq

theorem sqDoorbell_of_known (known : q.lastWord = some w ∧ q.ignored = false) : s.sqDoorbell f k w = s := by
  simp only [State.sqDoorbell, hq, known, and_self, ↓reduceIte]

variable (judged : q.lastWord ≠ some w ∨ q.ignored = true)
include judged

theorem sqDoorbell_of_taken (takes : sqTakes q (SMap.getD s.rings.sqEpoch 0 (ringKey f k)) (s.fld (SQ_STAT f k) SQ_STAT_HEAD) w = true) :
    s.sqDoorbell f k w =
      let x := w.toNat % 65536
      activeOn (s.putSq f k { q with tail := x, lastWord := some w, ignored := false,
                                     found := if x = q.tail then q.found else q.found ++ [((s.func f).pollRound, x)] }) f q.lastWord w := by
  simp only [State.sqDoorbell, hq, judged_iff.mp judged, takes, activeOn, ↓reduceIte]

theorem sqDoorbell_of_bad (bad : sqTakes q (SMap.getD s.rings.sqEpoch 0 (ringKey f k)) (s.fld (SQ_STAT f k) SQ_STAT_HEAD) w = false) :
    s.sqDoorbell f k w =
      (if q.lastWord = some w then s
       else (s.bump (SQ_STAT f k) SQ_STAT_BADDB 1).setFunc f (fun g => { g with idle := false })).putSq f k
        { q with lastWord := some w, ignored := true } := by
  simp only [State.sqDoorbell, hq, judged_iff.mp judged, bad, Bool.false_eq_true, ↓reduceIte]

end SqDoorbell

section CqDoorbell

variable {s : State} {f : Fn} {k : Nat} {w : BitVec 64} {q : Cq} (hq : s.cq? f k = some q)
include hq

theorem cqDoorbell_of_known (known : q.lastWord = some w ∧ q.ignored = false) : s.cqDoorbell f k w = s := by
  simp only [State.cqDoorbell, hq, known, and_self, ↓reduceIte]

variable (judged : q.lastWord ≠ some w ∨ q.ignored = true)
include judged

theorem cqDoorbell_of_bad (bad : cqTakes q (SMap.getD s.rings.cqEpoch 0 (ringKey f k)) (s.fld (CQ_STAT f k) CQ_STAT_TAIL) w = false) :
    s.cqDoorbell f k w =
      (if q.lastWord = some w then s
       else (s.bump (CQ_STAT f k) CQ_STAT_BADDB 1).setFunc f (fun g => { g with idle := false })).putCq f k
        { q with lastWord := some w, ignored := true } := by
  simp only [State.cqDoorbell, hq, judged_iff.mp judged, bad, Bool.false_eq_true, ↓reduceIte]

/-- The head moves, and passes the XFER_READY entries that lay before it. -/
theorem cqDoorbell_of_taken (takes : cqTakes q (SMap.getD s.rings.cqEpoch 0 (ringKey f k)) (s.fld (CQ_STAT f k) CQ_STAT_TAIL) w = true) :
    s.cqDoorbell f k w =
      let hd := w.toNat % 65536
      ((activeOn (s.putCq f k { q with head := hd, lastWord := some w, ignored := false }) f q.lastWord w).xrdyPassed
        (xrdyPassedIds s f k q hd)).setFull f k := by
  simp only [State.cqDoorbell, hq, judged_iff.mp judged, takes, ↓reduceIte]
  rw [← xrdyPassedIds_activeOn]
  rfl

end CqDoorbell

/-! ## Head shadows and idle functions (R279, R280) -/

section HeadShadow

variable {s : State} {f : Fn} {k : Nat}

theorem writeShadow_of_held_back (held : s.mayPost f = false ∨ s.bit (QS_FLT f) QS_FLT_SH_FAULT = true) : s.writeShadow f k = s := by
  unfold State.writeShadow
  split
  · rfl
  · refine if_pos ?_
    rw [toFn_val]
    obtain barred | fault := held
    · rw [barred, Bool.not_false, Bool.or_true, Bool.true_or]
    · rw [fault, Bool.or_true]

theorem writeShadow_of_due {q : Sq} (hq : s.sq? f k = some q) (due : q.shadowDue = true)
    (may : s.mayPost f = true ∧ s.bit (QS_FLT f) QS_FLT_SH_FAULT = false ∧ s.holds f (s.qsPasid f) (s.shPage f k) = true) :
    s.writeShadow f k =
      let w := SMap.getD s.rings.sqEpoch 0 (ringKey f k) * 65536 + s.fld (SQ_STAT f k) SQ_STAT_HEAD
      ((s.putSq f k { q with shadowDue := false }).emit (.hostWrite f (s.qsPasid f) (s.shBase f + 8 * k) (leBytes 8 w))).shadowsDone f := by
  obtain ⟨posts, unfaulted, held⟩ := may
  simp only [State.writeShadow, hq, due, toFn_val, posts, unfaulted, held, Bool.not_true, Bool.or_self, Bool.false_eq_true, ↓reduceIte]

theorem goIdle_of_none_full (h : ∀ e ∈ s.rings.cqs, e.1 / 256 = f.val → s.bit (CQ_STAT f (e.1 % 256)) CQ_STAT_FULL = false) :
    s.goIdle f = s.setFunc f (fun g => { g with idle := true }) := by
  refine if_pos (List.all_eq_true.mpr fun e he => ?_)
  obtain ⟨ring, mine⟩ := List.mem_filter.mp he
  rw [h e ring (beq_iff_eq.mp mine), Bool.not_false]

end HeadShadow

/-- Settles O33: a poll by what the function may do and holds, a doorbell word by whether its ring takes it, and the shadows and idleness by the
function's state. -/
theorem pollsAndDoorbells : Obligations.PollsAndDoorbells := by
  refine ⟨?polled, ?untranslated, ?barred, ?sqTaken, ?sqBad, ?sqKnown, ?cqKnown, ?takes, ?cqBad, ?cqTaken, ?shadow, ?heldBack, ?idle⟩
  case polled => exact fun f sch s may held => exec_of_ends rfl (poll_of_translated may held sch)
  case untranslated => exact fun f sch s may missing => exec_of_ends rfl (poll_of_untranslated may missing sch)
  case barred => exact fun f sch s barred => exec_of_ends rfl (poll_of_barred barred sch)
  case sqTaken =>
    rintro f k w q s hq judged ⟨epoch, inside⟩ forward
    exact exec_of_ends rfl (congrArg (State.pollAnswered · f) (sqDoorbell_of_taken hq judged (sqTakes_iff.mpr ⟨epoch, inside, forward⟩)))
  case sqBad =>
    exact fun f k w q s hq judged bad => exec_of_ends rfl (congrArg (State.pollAnswered · f) (sqDoorbell_of_bad hq judged bad))
  case sqKnown => exact fun f k w q s ⟨hq, known⟩ => exec_of_ends rfl (congrArg (State.pollAnswered · f) (sqDoorbell_of_known hq known))
  case cqKnown => exact fun f k w q s ⟨hq, known⟩ => exec_of_ends rfl (congrArg (State.pollAnswered · f) (cqDoorbell_of_known hq known))
  case takes => exact fun q ep hd w => sqTakes_iff
  case cqBad =>
    exact fun f k w q s hq judged bad => exec_of_ends rfl (congrArg (State.pollAnswered · f) (cqDoorbell_of_bad hq judged bad))
  case cqTaken =>
    rintro f k w q s hq judged ⟨epoch, inside⟩ forward
    exact exec_of_ends rfl (congrArg (State.pollAnswered · f) (cqDoorbell_of_taken hq judged (cqTakes_iff.mpr ⟨epoch, inside, forward⟩)))
  case shadow => exact fun f k q s hq due may => exec_of_ends rfl (writeShadow_of_due hq due may)
  case heldBack => exact fun f k s held => exec_of_ends rfl (writeShadow_of_held_back held)
  case idle => exact fun f s h => exec_of_ends rfl (goIdle_of_none_full h)

end Sys2Proof
end

section
/-!
The statement about completion entries and their messages (R260, R279, R285 to R288, R296).
-/

namespace Sys2Proof

open Machine

/-! ## An entry on its way to the host (R286, R287) -/

/-- R296: the head that an entry of SQ (f, sq) carries has a shadow that could not be written. -/
def shadowFaulted (s : State) (f sq : Nat) : Bool :=
  s.bit (QS_FLT f) QS_FLT_SH_FAULT && (match s.sq? f sq with | some x => x.shadowDue | none => false)

theorem shadowFaulted_of_due {s : State} {f sq : Nat} {x : Sq} (fault : s.bit (QS_FLT f) QS_FLT_SH_FAULT = true) (hx : s.sq? f sq = some x)
    (due : x.shadowDue = true) : shadowFaulted s f sq = true := by
  simp only [shadowFaulted, fault, hx, due, Bool.and_self]

theorem not_shadowFaulted {s : State} {f sq : Nat}
    (clear : s.bit (QS_FLT f) QS_FLT_SH_FAULT = false ∨ ∀ x, s.sq? f sq = some x → x.shadowDue = false) : shadowFaulted s f sq = false := by
  obtain unfaulted | undue := clear
  · rw [shadowFaulted, unfaulted, Bool.false_and]
  · cases hx : s.sq? f sq with
    | none => simp only [shadowFaulted, hx, Bool.and_false]
    | some x => simp only [shadowFaulted, hx, undue x hx, Bool.and_false]

/-- A final entry is written at the tail of CQ (f, k), whose other entries are `rest`; the tail and the phase go on, and the message leaves as
coalescing allows. -/
def entryWritten (s : State) (f : Fn) (k : Nat) (q : Cq) (e : Entry) (rest : List Entry) : State :=
  let tl := s.fld (CQ_STAT f k) CQ_STAT_TAIL
  let ph := s.fld (CQ_STAT f k) CQ_STAT_PHASE
  let v := s.emit (.hostWrite f q.pasid (q.base + 32 * tl) (entryBytes e (s.fld (SQ_STAT f e.sq) SQ_STAT_HEAD) ph))
  let v := v.setFld (CQ_STAT f k) CQ_STAT_TAIL ((tl + 1) % q.size)
  let v := if (tl + 1) % q.size = 0 then v.setFld (CQ_STAT f k) CQ_STAT_PHASE (1 - ph) else v
  ((v.putCq f k { q with waiting := rest }).signal f k 0).setFull f k

/-- The command of a final entry is done, and what waited on it goes on. -/
def commandDone (v : State) (e : Entry) : State :=
  let v := v.countFlush e (match v.cmd? e.cmd with | some c => capOPC c.caps | none => 0)
  let v := match v.cmd? e.cmd with | some c => v.told c | none => v
  let v : State := { v with work.cmds := v.work.cmds.filter (fun c => c.id != e.cmd) }
  v.releaseWaits.freeDeleted

section Post

variable {s : State} {f : Fn} {k : Nat} {q : Cq} {e : Entry} {rest : List Entry}

section Waiting

variable (hq : s.cq? f k = some q) (waits : q.waiting = e :: rest) (on : s.isOn domHOST = true ∧ s.isOn domCORE = true)
include hq waits on

theorem postEntry_of_no_room (full : s.cqRoom f k q = false) (ok : Bool) : s.postEntry f k ok = s.setFull f k := by
  obtain ⟨host, core⟩ := on
  simp only [State.postEntry, hq, waits, host, core, full, Bool.not_true, Bool.not_false, Bool.or_self, Bool.or_true, Bool.false_eq_true,
    ↓reduceIte]

/-- R296: whether or not the CQ has room. -/
theorem postEntry_of_shadow_fault (faulted : shadowFaulted s f e.sq = true) (ok : Bool) : s.postEntry f k ok = s.setFull f k := by
  obtain ⟨host, core⟩ := on
  simp only [State.postEntry, hq, waits, host, core, Bool.not_true, Bool.or_self, Bool.false_eq_true, ↓reduceIte]
  exact ite_eq_left_iff.mpr fun _ => if_pos faulted

section Room

variable (room : s.mayPost f = true ∧ s.cqRoom f k q = true) (clear : shadowFaulted s f e.sq = false)
include room clear

theorem postEntry_of_failure : s.postEntry f k false = ((s.setBit (CQ_STAT f k) CQ_STAT_FAULT true).setFull f k).ringFault f [k] := by
  obtain ⟨host, core⟩ := on
  obtain ⟨may, free⟩ := room
  simp only [State.postEntry, hq, waits, host, core, may, free, Bool.not_true, Bool.not_false, Bool.or_self, Bool.false_eq_true, ↓reduceIte]
  exact if_neg (Bool.eq_false_iff.mp clear)

variable (ready : s.shadowWaits f e.sq = false)
include ready

theorem postEntry_of_untranslated (missing : s.holds f q.pasid (s.cqPage f k q) = false) :
    s.postEntry f k true = s.emit (.atsReq f q.pasid (s.cqPage f k q)) := by
  obtain ⟨host, core⟩ := on
  obtain ⟨may, free⟩ := room
  simp only [State.postEntry, hq, waits, host, core, may, free, ready, missing, Bool.not_true, Bool.not_false, Bool.or_self,
    Bool.false_eq_true, ↓reduceIte]
  exact if_neg (Bool.eq_false_iff.mp clear)

theorem postEntry_of_final (final : e.kind = 0 ∧ e.log = none) (held : s.holds f q.pasid (s.cqPage f k q) = true) :
    s.postEntry f k true = commandDone (entryWritten (s.writeShadow f e.sq) f k q e rest) e := by
  obtain ⟨host, core⟩ := on
  obtain ⟨may, free⟩ := room
  obtain ⟨kind, unlogged⟩ := final
  simp -zeta only [State.postEntry, hq, waits, host, core, may, free, ready, held, kind, unlogged, Bool.not_true, Bool.or_self,
    Bool.false_eq_true, Nat.zero_ne_one, ↓reduceIte]
  refine (if_neg (Bool.eq_false_iff.mp clear)).trans ?_
  extract_lets _ _ _ _ _ _ _ _ _ written
  have same : entryWritten (s.writeShadow f e.sq) f k q e rest = written := rfl
  rw [same]
  clear_value written
  rfl

end Room

end Waiting

/-! ## What FULL shows, and CTIME (R280, R287, R288, R296) -/

/-- An entry that waits for a shadow shows in FULL and keeps the function ACTIVE. -/
theorem setFull_of_blocked (hq : s.cq? f k = some q) (waits : q.waiting = e :: rest) (blocks : s.shBlocks f e = true) :
    s.setFull f k = (s.setBit (CQ_STAT f k) CQ_STAT_FULL true).setFunc f (fun g => { g with idle := false }) := by
  simp only [State.setFull, hq, waits, blocks, Bool.or_true, toFn_val, ↓reduceIte]

theorem shBlocks_of_due {x : Sq} (waits : (s.func f).shWait = true) (hx : s.sq? f e.sq = some x) (due : x.shadowDue = true) :
    s.shBlocks f e = true := by
  simp only [State.shBlocks, toFn_val, waits, hx, due, Bool.and_self]

theorem coalesce_of_unsignalled (hq : s.cq? f k = some q) (owed : q.ien = true ∧ 0 < q.unsignalled) :
    s.coalesce f k = (s.putCq f k { q with unsignalled := 0 }).ringMsg f q.vec := by
  obtain ⟨enabled, some_owed⟩ := owed
  simp only [State.coalesce, hq, enabled, some_owed, decide_true, Bool.and_self, ↓reduceIte]

end Post

theorem bit_setBit_full (s : State) (f k : Nat) : (s.setBit (CQ_STAT f k) CQ_STAT_FULL true).bit (CQ_STAT f k) CQ_STAT_FULL = true := by
  rw [State.bit, State.setBit, State.fld_setFld_same _ _ _ _ (by decide)]
  rfl

/-- Settles O34: the entry by what stands before it: room, its SQ's shadow, the outcome of its write, and its translation. -/
theorem completionEntries : Obligations.CompletionEntries := by
  refine ⟨?posted, ?untranslated, ?noRoom, ?shadowFault, ?failed, ?coalesced⟩
  case posted =>
    rintro f k q e rest s hq ⟨waits, final⟩ ⟨host, core, room⟩ clear ⟨ready, held⟩
    intro _ _ _ _ _ _ written
    have posts : s.postEntry f k true = commandDone written e :=
      postEntry_of_final hq waits ⟨host, core⟩ room (not_shadowFaulted clear) ready final held
    clear_value written
    exact exec_of_ends rfl posts
  case untranslated =>
    rintro f k q e rest s hq waits ⟨host, core, room⟩ clear ⟨ready, missing⟩
    exact exec_of_ends rfl (postEntry_of_untranslated hq waits ⟨host, core⟩ room (not_shadowFaulted clear) ready missing)
  case noRoom =>
    intro f k ok q s hq waits on full
    obtain ⟨e, rest, waits⟩ := List.exists_cons_of_ne_nil waits
    exact exec_of_ends rfl (postEntry_of_no_room hq waits on full ok)
  case shadowFault =>
    rintro f k ok q e rest x s hq waits on ⟨fault, waiting, hx, due⟩
    refine ⟨exec_of_ends rfl (postEntry_of_shadow_fault hq waits on (shadowFaulted_of_due fault hx due) ok), ?_⟩
    rw [setFull_of_blocked hq waits (shBlocks_of_due waiting hx due), State.func_setFunc_same]
    exact ⟨bit_setBit_full s f k, rfl⟩
  case failed =>
    rintro f k q e rest s hq waits ⟨host, core, room⟩ clear
    exact exec_of_ends rfl (postEntry_of_failure hq waits ⟨host, core⟩ room (not_shadowFaulted clear))
  case coalesced => exact fun f k q s hq owed => exec_of_ends rfl (coalesce_of_unsignalled hq owed)

end Sys2Proof
end

section
/-!
The statement about what every command ends in (R299, R381, R459): which commands answer a next state, and the lock of the layout.
-/

namespace Sys2Proof

open Machine

/-! ## A command is refused exactly where its capsule spells another row (log entry 4) -/

/-- A capsule is well formed where it fits its row, every other command always. -/
theorem wf_eq (i : Instr) : i.wf = i.capsule.all (fun (r, _, _, caps, _) => rowFits r caps) := by
  cases i <;> rfl

section Meaning

variable {i : Instr}

theorem exec_of_no_capsule (h : i.capsule = none) (s : State) : ∃ u, exec i s = .next (s.close u) := by
  cases i <;> cases h <;> exact ⟨_, rfl⟩

theorem exec_of_wf (wf : i.wf = true) (s : State) : ∃ u, exec i s = .next (s.close u) := by
  rw [wf_eq] at wf
  cases h : i.capsule with
  | none => exact exec_of_no_capsule h s
  | some c =>
    rw [h] at wf
    exact ⟨_, exec_of_fits h wf⟩

theorem exec_of_not_wf (wf : i.wf = false) (s : State) : exec i s = .refused .illFormed := by
  rw [wf_eq] at wf
  cases h : i.capsule with
  | none =>
    rw [h] at wf
    cases wf
  | some c =>
    rw [h] at wf
    exact exec_of_not_fits h wf

end Meaning

/-! ## The layout is locked while a ring exists (R381) -/

/-- A one-bit field reads as what was written to it. -/
theorem bit_setBit_same (s : State) (r : Reg) {g : Fld} (one : g.hi = g.lo ∧ g.hi < 32) (b : Bool) : (s.setBit r g b).bit r g = b := by
  obtain ⟨width, fits⟩ := one
  rw [State.bit, State.setBit, State.fld_setFld_same _ _ _ _ fits, width, Nat.add_sub_cancel_left]
  cases b <;> rfl

theorem layoutLock_rings (s : State) : s.layoutLock.rings = s.rings := by
  simp only [State.layoutLock]
  split
  · exact List.foldlRecOn (motive := fun v : State => v.rings = s.rings) _ _ rfl fun _ kept _ _ => kept
  · split <;> rfl

theorem layoutLocked_layoutLock (s : State) : LayoutLocked s.layoutLock := by
  intro ring
  rw [layoutLock_rings] at ring
  have some_ring : (!s.rings.sqs.isEmpty || !s.rings.cqs.isEmpty) = true := by
    simpa only [Bool.or_eq_true, Bool.not_eq_true', List.isEmpty_eq_false_iff] using ring
  cases locked : s.bit MEM_CTL MEM_CTL_LOCK with
  | false =>
    simp only [State.layoutLock, some_ring, locked, Bool.not_false, Bool.and_self, ↓reduceIte]
    exact bit_setBit_same _ MEM_CTL (by decide) true
  | true => simp only [State.layoutLock, some_ring, locked, Bool.not_true, Bool.and_false, Bool.false_and, Bool.false_eq_true, ↓reduceIte]

theorem close_layout (s u : State) : LayoutLocked (s.close u) := by
  have locked : LayoutLocked u.tidy := layoutLocked_layoutLock _
  unfold State.close
  generalize u.tidy = v at locked
  exact locked

/-- Settles O4: the command by whether it is a capsule, and its end by what `close` does last. -/
theorem everyCommandEndsInItsClose : Obligations.EveryCommandEndsInItsClose := by
  refine ⟨?wellFormed, ?illFormed, ?ends, ?quiet⟩
  case wellFormed => exact fun c s wf => exec_of_wf wf s
  case illFormed => exact fun c s bad => exec_of_not_wf bad s
  case ends => exact fun s u => ⟨close_part s u, close_pending s u, close_fault s u, close_layout s u⟩
  case quiet => exact fun s u quiet ⟨part, pending⟩ => close_of_quiet quiet part pending

end Sys2Proof
end

section
/-!
The statement about the bench core's watch (R318, R346, R460 to R465).
-/

namespace Sys2Proof

open Machine

/-! ## Sensors (R460 to R462) -/

section Sensors

variable {s : State}

/-- The sensors' registers, written with the readings `t`. -/
def showReadings (s : State) (t : List Int) : State :=
  (List.range 8).foldl (fun (v : State) i => v.setFldInt (CAL_TEMP i) CAL_TEMP_TEMP (t.getD i 0)) s

/-- The readings change no register but the sensors' own, and nothing beside the registers. -/
theorem showReadings_frame (s : State) (t : List Int) :
    (showReadings s t).reg HLTH_THERM = s.reg HLTH_THERM ∧ (showReadings s t).evt = s.evt :=
  List.foldlRecOn (motive := fun v : State => v.reg HLTH_THERM = s.reg HLTH_THERM ∧ v.evt = s.evt) _ _ ⟨rfl, rfl⟩
    fun v kept i hi => by
      obtain ⟨level, events⟩ := kept
      have other : (CAL_TEMP i).key ≠ HLTH_THERM.key := by
        have := List.mem_range.mp hi
        simp only [CAL_TEMP, HLTH_THERM]
        omega
      exact ⟨(v.reg_setFld_other _ _ other).trans level, events⟩

theorem setCool_frame (v : State) (n : Nat) :
    ({ v with evt.cool := n } : State).warnLevel = v.warnLevel ∧ ({ v with evt.cool := n } : State).evt.thermal = v.evt.thermal :=
  ⟨rfl, rfl⟩

/-- The reads of the last second, `v`'s included, that have found every sensor cool without a break. -/
def coolReads (v : State) : Nat := if v.allCool then min 10 (v.evt.cool + 1) else 0

/-- `s` after the readings `t` are shown and the cool reads counted. -/
def afterReadings (s : State) (t : List Int) : State :=
  let v := showReadings s t
  { v with evt.cool := coolReads v }

/-- R461: the level and the warning stand as before the read. -/
theorem afterReadings_frame (s : State) (t : List Int) :
    (afterReadings s t).warnLevel = s.warnLevel ∧ (afterReadings s t).evt.thermal = s.evt.thermal := by
  obtain ⟨level, events⟩ := showReadings_frame s t
  have warn : (showReadings s t).warnLevel = s.warnLevel := by simp only [State.warnLevel, State.fld, level]
  have thermal : (showReadings s t).evt.thermal = s.evt.thermal := by rw [events]
  obtain ⟨sameWarn, sameThermal⟩ := setCool_frame (showReadings s t) (coolReads (showReadings s t))
  exact ⟨sameWarn.trans warn, sameThermal.trans thermal⟩

theorem sensorRead_of_running (runs : s.benchRuns = true) (t : List Int) : s.sensorRead t =
    (if (List.range 8).any (fun i => decide (s.warnLevel ≤ t.getD i 0)) && !s.evt.thermal then
      ({ afterReadings s t with evt.thermal := true } : State).raise 7 [] else afterReadings s t).refresh := by
  obtain ⟨warn, thermal⟩ := afterReadings_frame s t
  rw [← warn, ← thermal]
  exact if_neg (by rw [runs]; decide)

theorem sensorRead_of_halted (halted : s.benchRuns = false) (t : List Int) : s.sensorRead t = s :=
  if_pos (by rw [halted]; decide)

theorem allCool_iff : s.allCool = true ↔ ∀ i ∈ List.range 8, s.tempOf i + 500 ≤ s.warnLevel := by
  simp only [State.allCool, List.all_eq_true, decide_eq_true_eq]

theorem thermalEnd_of_cool (cool : s.allCool = true) (second : s.evt.cool = 10) : s.thermalEnd = { s with evt.thermal := false } :=
  if_pos (by rw [cool, second]; decide)

theorem thermalEnd_of_warm (warm : s.evt.cool < 10 ∨ s.allCool = false) : s.thermalEnd = s := by
  refine if_neg fun both => ?_
  rw [Bool.and_eq_true, beq_iff_eq] at both
  obtain ⟨cool, second⟩ := both
  obtain few | warm := warm
  · exact absurd second few.ne
  · exact absurd cool (Bool.eq_false_iff.mp warm)

end Sensors

/-! ## The hour's values (R463) -/

section Wear

variable {s : State} {w sum k : Nat}

/-- The raw errors' mean. -/
theorem wearValue_of_errors (range : w < 16) (source : SMap.getD s.evt.wearSum (0, 0) w = (sum, k)) (ran : 0 < k) :
    s.wearValue w = some (rnd sum k).toNat := by
  simp only [State.wearValue, source]
  rw [if_neg (by omega), if_neg (by omega), if_neg (by omega), if_pos range]

/-- The spindle's current's mean. -/
theorem wearValue_of_effort (range : 16 ≤ w ∧ w < 32) (source : SMap.getD s.evt.wearSum (0, 0) w = (sum, k)) (ran : 0 < k) :
    s.wearValue w = some (rnd sum (k * 2 ^ 23)).toNat := by
  simp only [State.wearValue, source]
  rw [if_neg (by omega), if_neg (by omega), if_neg (by omega), if_neg (by omega), if_pos range.2]

theorem wearValue_of_idle (range : w < 48) (source : SMap.getD s.evt.wearSum (0, 0) w = (sum, 0)) : s.wearValue w = none := by
  simp only [State.wearValue, source]
  rw [if_neg (by omega), if_neg (by omega), if_pos trivial]

end Wear

/-! ## The restart of the bench core (R318) -/

theorem loadFirmware_work (s : State) : s.loadFirmware.work = s.work := by
  unfold State.loadFirmware
  split <;> rfl

/-- The FW_ACTIVATEs of firmware that have started are those that waited for the restart. -/
theorem benchRestarted_of_down {s : State} (down : s.sec.benchUp = false) : s.benchRestarted =
    (let ids := (s.work.cmds.filter (fun c => !c.ended && c.started && capOPC c.caps == 0x39 && cap c.caps 24 1 == 0)).map (·.id)
     ids.foldl (fun (s : State) i => s.finish i .ok) ({ s with sec.benchUp := true } : State).loadFirmware) := by
  rw [State.benchRestarted, if_neg (by rw [down]; decide)]
  simp only [loadFirmware_work]

/-- Settles O37: each event by whether the bench core runs and by what the state shows of its condition. -/
theorem sensorsHeatWearAndEntropy : Obligations.SensorsHeatWearAndEntropy := by
  refine ⟨?read, ?unread, ?ends, ?goesOn, ?shutdown, ?wear, ?hour, ?flash, ?entropy, ?restart⟩
  case read => exact fun t s runs => exec_of_ends rfl (sensorRead_of_running runs t.toList)
  case unread => exact fun t s halted => exec_of_ends rfl (sensorRead_of_halted halted t.toList)
  case ends => exact fun s cool second => exec_of_ends rfl (thermalEnd_of_cool (allCool_iff.mpr cool) second)
  case goesOn =>
    intro s warm
    have judged : s.evt.cool < 10 ∨ s.allCool = false := warm.imp_right fun ⟨i, hi, high⟩ =>
      Bool.eq_false_iff.mpr fun cool => absurd (allCool_iff.mp cool i hi) (not_le.mpr high)
    exact exec_of_ends rfl (thermalEnd_of_warm judged)
  case shutdown => exact fun k s powered => exec_of_ends rfl (if_neg (by rw [powered]; decide))
  case wear => exact fun l s runs => exec_of_ends rfl (if_neg (by rw [runs]; decide))
  case hour =>
    rintro n sum k s ran ⟨errors, effort, vibration⟩
    have range := n.isLt
    exact ⟨wearValue_of_errors range errors ran, wearValue_of_effort (by omega) effort ran, wearValue_of_idle (by omega) vibration⟩
  case flash => exact fun s runs => exec_of_ends rfl (if_pos runs)
  case entropy => exact fun s => ⟨exec_of_ends rfl rfl, exec_of_ends rfl rfl⟩
  case restart => exact fun s down => exec_of_ends rfl (benchRestarted_of_down down)

end Sys2Proof
end

section
/-!
The statement about the commands that bring data to the host (R311, R313, R334, R343, R357, R446, R455).
-/

namespace Sys2Proof

open Machine

/-! ## The work of each opcode (Table 11.1) -/

section WorkOf

variable {v : State} {id : Nat} {c : Cmd} (hc : v.cmd? id = some c) (segs : List (Nat × Nat))
include hc

theorem work'_of_read (ho : capOPC c.caps = 0x01 ∨ capOPC c.caps = 0x03) : v.work' id segs = (v.setCmd id (begun segs)).beginRead id := by
  obtain ho | ho := ho
  all_goals simp only [State.work', hc, ho]; rfl

theorem work'_of_vaultQuery (ho : capOPC c.caps = 0x0B) : v.work' id segs = (v.setCmd id (begun segs)).vaultQuery id := by
  simp only [State.work', hc, ho]
  rfl

theorem work'_of_sealExport (ho : capOPC c.caps = 0x10) : v.work' id segs = (v.setCmd id (begun segs)).sealExport id := by
  simp only [State.work', hc, ho]
  rfl

theorem work'_of_bistReport (ho : capOPC c.caps = 0x21) : v.work' id segs =
    (v.setCmd id (begun segs)).report id (cutRecord (capDLEN c.caps) 64 16 (v.setCmd id (begun segs)).bistRecord) := by
  simp only [State.work', hc, ho]
  rfl

theorem work'_of_logRead (ho : capOPC c.caps = 0x31) : v.work' id segs =
    if cap c.caps 24 2 = 0xFFFE then (v.setCmd id (begun segs)).eventLogRead id c else (v.setCmd id (begun segs)).logRead id c := by
  simp only [State.work', hc, ho]
  rfl

end WorkOf

/-- R311, R455: a LOG_READ reads the event log exactly where its SQ field says so. -/
theorem eventLog_of_rowOf {r : CapRow} {caps : Capsule} (h : rowOf caps = some r) (ho : capOPC caps = 0x31) :
    cap caps 24 2 = 0xFFFE ↔ r = .eventLogRead := by
  simp only [rowOf, ho] at h
  grind

/-- R343: the records that QSEL selects, of a mounted vault whose ledger serves. -/
theorem vaultQuery_of_mounted {s : State} {id : Nat} {c : Cmd} {v : Vault} (hc : s.cmd? id = some c)
    (mounted : s.vault? (capVAULT c.caps) = some v) (serves : s.fatal ctxLEDGER = false) : s.vaultQuery id = match cap c.caps 24 4 with
      | 0 => s.records id 64 [s.summary v]
      | 1 => s.records id 32 (v.sealed.map sinceBytes)
      | 2 => s.records id 32 (v.versions (cap c.caps 32 8))
      | _ => s.records id 32 ((v.discs.foldl (fun l d => insDisc d l) []).map discBytes) := by
  simp only [State.vaultQuery, hc, mounted, serves, Bool.false_eq_true, ↓reduceIte]
  generalize cap c.caps 24 4 = sel
  match sel with
  | 0 | 1 | 2 | _ + 3 => rfl

/-! ## The commands, once they begin -/

section Begun

variable {i : Instr} {s u : State} {r : CapRow} {fn : Fn} {sq : RingNo} {caps : Capsule} {q : Sq} {hs : List Nat}
  (h : i.capsule = some (r, fn, sq, caps, {})) (b : Begins s r fn sq caps {} q hs u) (hl : capLIST caps = false)
include h b hl

theorem exec_of_read (ho : rowOpcode r = 0x01 ∨ rowOpcode r = 0x03) :
    exec i s = .next (s.close ((atWork u s.freshId hs caps false).beginRead s.freshId)) := by
  have row : startsAtOnce (rowOpcode r) = false ∧ [0x02, 0x09, 0x11, 0x12, 0x19, 0x38].contains (rowOpcode r) = false := by
    obtain ho | ho := ho
    all_goals rw [ho]; decide
  obtain ⟨unstarted, pulls⟩ := row
  obtain ⟨c, -, he⟩ := exec_of_work (f := fun v _ => v.beginRead s.freshId) h b hl pulls fun hc opc => work'_of_read hc _ (opc ▸ ho)
  rw [he, unstarted]

theorem exec_of_vaultQuery (ho : rowOpcode r = 0x0B) :
    exec i s = .next (s.close ((atWork u s.freshId hs caps false).vaultQuery s.freshId)) := by
  obtain ⟨c, -, he⟩ := exec_of_work (f := fun v _ => v.vaultQuery s.freshId) h b hl (by rw [ho]; decide)
    fun hc opc => work'_of_vaultQuery hc _ (opc.trans ho)
  rw [he, ho]
  rfl

theorem exec_of_sealExport (ho : rowOpcode r = 0x10) :
    exec i s = .next (s.close ((atWork u s.freshId hs caps false).sealExport s.freshId)) := by
  obtain ⟨c, -, he⟩ := exec_of_work (f := fun v _ => v.sealExport s.freshId) h b hl (by rw [ho]; decide)
    fun hc opc => work'_of_sealExport hc _ (opc.trans ho)
  rw [he, ho]
  rfl

theorem exec_of_bistReport (ho : rowOpcode r = 0x21) : exec i s = .next (s.close ((atWork u s.freshId hs caps false).report s.freshId
    (cutRecord (capDLEN caps) 64 16 (atWork u s.freshId hs caps false).bistRecord))) := by
  obtain ⟨c, ⟨rfl, -⟩, he⟩ := exec_of_work (f := fun v c => v.report s.freshId (cutRecord (capDLEN c.caps) 64 16 v.bistRecord)) h b hl
    (by rw [ho]; decide) fun hc opc => work'_of_bistReport hc _ (opc.trans ho)
  rw [he, ho]
  rfl

theorem exec_of_logRead (ho : rowOpcode r = 0x31) : ∃ c : Cmd, (c.caps = caps ∧ c.fn = fn)
    ∧ exec i s = .next (s.close (if r = .eventLogRead then (atWork u s.freshId hs caps false).eventLogRead s.freshId c
      else (atWork u s.freshId hs caps false).logRead s.freshId c)) := by
  obtain ⟨c, ⟨hcaps, hfn, -⟩, he⟩ := exec_of_work
    (f := fun v c => if cap c.caps 24 2 = 0xFFFE then v.eventLogRead s.freshId c else v.logRead s.freshId c) h b hl
    (by rw [ho]; decide) fun hc opc => work'_of_logRead hc _ (opc.trans ho)
  refine ⟨c, ⟨hcaps, hfn⟩, ?_⟩
  rw [he, hcaps, ho]
  simp only [eventLog_of_rowOf b.row ((opcode_of_rowOf b.row).trans ho)]
  rfl

end Begun

/-- Settles O57: each command by its row, and a query by its selector. -/
theorem dataToTheHost : Obligations.DataToTheHost := by
  refine ⟨?reads, ?queries, ?selected, ?sealExport, ?bistReport, ?logRead, ?eventLog⟩
  case reads =>
    intro i r fn sq caps q hs u s h b hl
    simp only [Prod.mk.injEq] at h
    obtain ⟨rfl, rfl⟩ | ⟨rfl, rfl⟩ := h
    · exact exec_of_read rfl b hl (.inl rfl)
    · exact exec_of_read rfl b hl (.inr rfl)
  case queries =>
    intro i r fn sq caps q hs u s h b hl
    simp only [Prod.mk.injEq] at h
    obtain ⟨rfl, rfl⟩ | ⟨rfl, rfl⟩ | ⟨rfl, rfl⟩ | ⟨rfl, rfl⟩ := h
    all_goals exact exec_of_vaultQuery rfl b hl rfl
  case selected => exact fun id c v s hc ⟨mounted, serves⟩ => vaultQuery_of_mounted hc mounted serves
  case sealExport => exact fun fn sq caps q hs u s b hl => exec_of_sealExport rfl b hl rfl
  case bistReport => exact fun fn sq caps q hs u s b hl => exec_of_bistReport rfl b hl rfl
  case logRead =>
    intro fn sq caps q hs u s b hl
    obtain ⟨c, ⟨rfl, hfn⟩, he⟩ := exec_of_logRead (i := .logRead fn sq caps) rfl b hl rfl
    rw [he, if_neg (by decide), State.logRead, hfn]
  case eventLog =>
    intro fn sq caps q hs u s b hl
    obtain ⟨c, ⟨rfl, -⟩, he⟩ := exec_of_logRead (i := .eventLogRead fn sq caps) rfl b hl rfl
    rw [he, if_pos rfl, State.eventLogRead]

end Sys2Proof
end

section
/-!
SUPPORT. Every step keeps the invariants (R345, R381, R459): what comes after the keys have gone leaves them and the bands alone, and a microsecond touches
no cause of FAULT#.
-/

namespace Sys2Proof

open Machine

/-! ## What commands' ends, waking domains and events leave alone: the keys of released vaults (R345), the free values and the buffer memory -/

section Aside

variable (s : State)

@[simp] theorem reopen_aside (p : Cmd → Bool) :
    (s.reopen p).ledger.released = s.ledger.released ∧ (s.reopen p).fresh = s.fresh ∧ (s.reopen p).mem = s.mem := by
  simp only [State.reopen]
  split <;> simp

@[simp] theorem dropPr_aside (id : Nat) :
    (s.dropPr id).ledger = s.ledger ∧ (s.dropPr id).fresh = s.fresh ∧ (s.dropPr id).mem = s.mem := by
  simp only [State.dropPr, State.setCmd]
  repeat' split
  all_goals simp

@[simp] theorem noteWritten_aside (c : Cmd) :
    (s.noteWritten c).ledger = s.ledger ∧ (s.noteWritten c).fresh = s.fresh ∧ (s.noteWritten c).mem = s.mem := by
  simp only [State.noteWritten]
  repeat' split
  all_goals simp

@[simp] theorem setFull_aside (f k : Nat) :
    (s.setFull f k).ledger = s.ledger ∧ (s.setFull f k).fresh = s.fresh ∧ (s.setFull f k).mem = s.mem := by
  simp only [State.setFull, State.setBit]
  repeat' split
  all_goals simp

@[simp] theorem pushEntry_aside (f cq : Nat) (e : Entry) :
    (s.pushEntry f cq e).ledger = s.ledger ∧ (s.pushEntry f cq e).fresh = s.fresh ∧ (s.pushEntry f cq e).mem = s.mem := by
  unfold State.pushEntry
  split <;> simp [State.putCq]

@[simp] theorem freezeSq_aside (f k : Nat) :
    (s.freezeSq f k).ledger.released = s.ledger.released ∧ (s.freezeSq f k).fresh = s.fresh ∧ (s.freezeSq f k).mem = s.mem := by
  simp [State.freezeSq]

@[simp] theorem finish_aside (id : Nat) (st : Status) :
    (s.finish id st).ledger.released = s.ledger.released ∧ (s.finish id st).fresh = s.fresh ∧ (s.finish id st).mem = s.mem := by
  simp only [State.finish]
  repeat' split
  all_goals simp [State.dropTasks, State.setCmd]

@[simp] theorem bump_aside (r : Reg) (f : Fld) (k : Nat) :
    (s.bump r f k).ledger = s.ledger ∧ (s.bump r f k).fresh = s.fresh ∧ (s.bump r f k).mem = s.mem := ⟨rfl, rfl, rfl⟩

@[simp] theorem account_aside (e : PmEntry) (outcome refuser : Nat) :
    (s.account e outcome refuser).ledger = s.ledger ∧ (s.account e outcome refuser).fresh = s.fresh ∧ (s.account e outcome refuser).mem = s.mem := by
  unfold State.account
  refine List.foldlRecOn (motive := fun v : State => v.ledger = s.ledger ∧ v.fresh = s.fresh ∧ v.mem = s.mem) _ _ ?_ fun v kept dn _ => ?_
  · exact ⟨s.setReg_ledger _ _, s.setReg_fresh _ _, s.setReg_mem _ _⟩
  · dsimp only
    split_ifs <;> simpa using kept

@[simp] theorem abortEntry_aside (refuser : Nat) : (s.abortEntry refuser).ledger.released = s.ledger.released
    ∧ (s.abortEntry refuser).fresh = s.fresh ∧ (s.abortEntry refuser).mem = s.mem := by
  unfold State.abortEntry
  split <;> simp

@[simp] theorem demand_aside (d : Nat) :
    (s.demand d).ledger.released = s.ledger.released ∧ (s.demand d).fresh = s.fresh ∧ (s.demand d).mem = s.mem := by
  unfold State.demand
  repeat' split
  all_goals simp

@[simp] theorem setDom_aside (d v : Nat) :
    (s.setDom d v).ledger = s.ledger ∧ (s.setDom d v).fresh = s.fresh ∧ (s.setDom d v).mem = s.mem := by
  unfold State.setDom
  split <;> simp

@[simp] theorem wake_aside (d : Nat) :
    (s.wake d).ledger.released = s.ledger.released ∧ (s.wake d).fresh = s.fresh ∧ (s.wake d).mem = s.mem := by
  refine List.foldlRecOn (motive := fun v : State => v.ledger.released = s.ledger.released ∧ v.fresh = s.fresh ∧ v.mem = s.mem) _ _
    (demand_aside s d) fun v kept x _ => ?_
  simp only [State.wakeOne]
  repeat' split
  all_goals simpa using kept

@[simp] theorem eventMsg_aside (f : Fn) (v : Nat) :
    (s.eventMsg f v).ledger.released = s.ledger.released ∧ (s.eventMsg f v).fresh = s.fresh ∧ (s.eventMsg f v).mem = s.mem := by
  simp only [State.eventMsg, State.postMsg, State.msixOut]
  repeat' split
  all_goals simp

@[simp] theorem logEvent_aside (e ctx fn : Nat) (detail : List Nat) : (s.logEvent e ctx fn detail).ledger = s.ledger
    ∧ (s.logEvent e ctx fn detail).fresh = s.fresh ∧ (s.logEvent e ctx fn detail).mem = s.mem := by
  simp only [State.logEvent]
  repeat' split
  all_goals simp

@[simp] theorem raise_aside (e : Nat) (detail : List Nat) :
    (s.raise e detail).ledger.released = s.ledger.released ∧ (s.raise e detail).fresh = s.fresh ∧ (s.raise e detail).mem = s.mem := by
  have logged : ((s.setPending e).logEvent e 31 0xFF detail).ledger.released = s.ledger.released
      ∧ ((s.setPending e).logEvent e 31 0xFF detail).fresh = s.fresh ∧ ((s.setPending e).logEvent e 31 0xFF detail).mem = s.mem := by
    simp [State.setPending]
  simp only [State.raise, State.raiseIn]
  generalize (s.setPending e).logEvent e 31 0xFF detail = v at logged
  split_ifs <;> simp [logged]

/-! ## Buffers go back to their pools (R402, R403) -/

theorem poolStat_released (p : Nat) : (s.poolStat p).ledger.released = s.ledger.released := by
  simp only [State.poolStat, State.setBit]
  split <;> simp

theorem poolStat_stn (p : Nat) : (s.poolStat p).stn = s.stn := by
  simp only [State.poolStat]
  split <;> simp

theorem freeBuf_released (h who : Nat) : (s.freeBuf h who).ledger.released = s.ledger.released := by
  simp only [State.freeBuf, State.poolRefuse]
  repeat' split
  case' h_2.isFalse.isFalse => exact poolStat_released _ _
  all_goals simp

theorem freeBuf_stn (h who : Nat) : (s.freeBuf h who).stn = s.stn := by
  simp only [State.freeBuf, State.poolRefuse]
  repeat' split
  case' h_2.isFalse.isFalse => exact poolStat_stn _ _
  all_goals simp

end Aside

/-! ## What comes after the keys have gone -/

/-- `v` holds the keys that `s` holds, and the same bands are being written. -/
def SameKeys (s v : State) : Prop := v.ledger.released = s.ledger.released ∧ v.stn = s.stn

theorem SameKeys.trans {s u v : State} (h : SameKeys s u) (k : SameKeys u v) : SameKeys s v := ⟨k.1.trans h.1, k.2.trans h.2⟩

theorem SameKeys.foldl {α : Type} {f : State → α → State} {s v : State} (h : ∀ u a, SameKeys u (f u a)) (l : List α) (same : SameKeys s v) :
    SameKeys s (l.foldl f v) :=
  List.foldlRecOn l f same fun u kept a _ => kept.trans (h u a)

theorem SameKeys.keysReleased {s v : State} (same : SameKeys s v) (h : KeysReleased s) : KeysReleased v := by
  obtain ⟨released, stn⟩ := same
  intro x hx
  have writing := h x (released ▸ hx)
  simpa only [State.vaultWriting, State.bands, State.station, stn] using writing

theorem sameKeys_reap (s : State) : SameKeys s s.reap :=
  SameKeys.foldl (fun u h => ⟨freeBuf_released u h _, freeBuf_stn u h _⟩) _ ⟨rfl, rfl⟩

theorem sameKeys_startFetch (s : State) (fn : Fn) (sq : RingNo) : SameKeys s (s.startFetch fn sq) := by
  unfold State.startFetch
  repeat' split
  all_goals exact ⟨rfl, rfl⟩

theorem sameKeys_startFetches (s : State) : SameKeys s s.startFetches :=
  SameKeys.foldl (fun u _ => sameKeys_startFetch u _ _) _ ⟨rfl, rfl⟩

theorem sameKeys_settleInvals (s : State) : SameKeys s s.settleInvals := by
  unfold State.settleInvals
  refine SameKeys.foldl (fun u _ => ?_) _ ?_
  all_goals exact ⟨rfl, rfl⟩

theorem sameKeys_layoutLock (s : State) : SameKeys s s.layoutLock := by
  simp only [State.layoutLock]
  repeat' split
  · refine SameKeys.trans (SameKeys.foldl (fun u p => ?_) _ ?_) ⟨rfl, rfl⟩
    all_goals exact ⟨rfl, rfl⟩
  all_goals exact ⟨rfl, rfl⟩

theorem keysReleased_pruneReleased (s : State) : KeysReleased s.pruneReleased :=
  fun _ hv => (List.mem_filter.mp hv).2

theorem keysReleased_tidy (s : State) : KeysReleased s.tidy :=
  ((((sameKeys_reap _).trans (sameKeys_startFetches _)).trans (sameKeys_settleInvals _)).trans (sameKeys_layoutLock _)).keysReleased
    (keysReleased_pruneReleased _)

theorem close_keys (s u : State) : KeysReleased (s.close u) := by
  have kept : KeysReleased u.tidy := keysReleased_tidy u
  unfold State.close
  generalize u.tidy = v at kept
  exact kept

/-- The end of every meaning leaves the three invariants true. -/
theorem inv_close (s u : State) : Inv (s.close u) := ⟨close_fault s u, close_layout s u, close_keys s u⟩

/-! ## A microsecond (log entry 1) -/

theorem any_eq_of_mem {α : Type} {l : List α} {p q : α → Bool} (h : ∀ a ∈ l, p a = q a) : l.any p = l.any q := by
  rw [Bool.eq_iff_iff, List.any_eq_true, List.any_eq_true]
  exact exists_congr fun a => and_congr_right fun ha => by rw [h a ha]

/-- The registers that a microsecond may change: those of the stations (STN_AXSTAT among them), MEM_REF and MEM_LAP. -/
def tickKey (k : Nat) : Prop := 0x100000 ≤ k ∨ k = MEM_REF.key ∨ k = MEM_LAP.key

/-- `v` differs from `s` in nothing that an invariant speaks of. -/
structure SameCauses (s v : State) : Prop where
  pins : v.pins = s.pins
  evt : v.evt = s.evt
  rings : v.rings = s.rings
  ledger : v.ledger = s.ledger
  bands : ∀ n, v.bands n = s.bands n
  regs : ∀ r : Reg, ¬ tickKey r.key → v.reg r = s.reg r

namespace SameCauses

variable {s u v : State}

theorem refl (s : State) : SameCauses s s := ⟨rfl, rfl, rfl, rfl, fun _ => rfl, fun _ _ => rfl⟩

theorem trans (h : SameCauses s u) (k : SameCauses u v) : SameCauses s v :=
  ⟨k.pins.trans h.pins, k.evt.trans h.evt, k.rings.trans h.rings, k.ledger.trans h.ledger, fun n => (k.bands n).trans (h.bands n),
    fun r hr => (k.regs r hr).trans (h.regs r hr)⟩

theorem foldl {α : Type} {f : State → α → State} (h : ∀ u a, SameCauses u (f u a)) (l : List α) (same : SameCauses s v) :
    SameCauses s (l.foldl f v) :=
  List.foldlRecOn l f same fun u kept a _ => kept.trans (h u a)

theorem setFld {r : Reg} (hr : tickKey r.key) (f : Fld) (x : Nat) : SameCauses s (s.setFld r f x) where
  pins := rfl
  evt := rfl
  rings := rfl
  ledger := rfl
  bands _ := rfl
  regs _ hq := s.reg_setFld_other f x fun same => hq (same ▸ hr)

theorem faultCause (h : SameCauses s v) : v.faultCause = s.faultCause := by
  have pend : ∀ i ∈ List.range 16, v.reg (EVT_PEND i) = s.reg (EVT_PEND i) := fun i hi =>
    h.regs _ (by have := List.mem_range.mp hi; simp only [tickKey, EVT_PEND, MEM_REF, MEM_LAP]; omega)
  have steer : ∀ i ∈ List.range 16, ∀ j ∈ List.range 32, v.reg (EVT_STEER (32 * i + j)) = s.reg (EVT_STEER (32 * i + j)) := fun i hi j hj =>
    h.regs _ (by have := List.mem_range.mp hi; have := List.mem_range.mp hj; simp only [tickKey, EVT_STEER, MEM_REF, MEM_LAP]; omega)
  have hlth : v.reg HLTH_STAT = s.reg HLTH_STAT := h.regs _ (by simp only [tickKey, HLTH_STAT, MEM_REF, MEM_LAP]; omega)
  have events : ((List.range 16).any fun i => v.reg (EVT_PEND i) != 0 &&
      (List.range 32).any fun j => (v.reg (EVT_PEND i)).getLsbD j && v.bit (EVT_STEER (32 * i + j)) EVT_STEER_FAULT)
      = (List.range 16).any fun i => s.reg (EVT_PEND i) != 0 &&
        (List.range 32).any fun j => (s.reg (EVT_PEND i)).getLsbD j && s.bit (EVT_STEER (32 * i + j)) EVT_STEER_FAULT :=
    any_eq_of_mem fun i hi => by
      rw [pend i hi]
      exact congrArg _ (any_eq_of_mem fun j hj => by rw [State.bit, State.fld, steer i hi j hj]; rfl)
  rw [State.faultCause, events, h.evt, State.bit, State.fld, hlth]
  rfl

theorem inv (h : SameCauses s v) (kept : Inv s) : Inv v where
  fault := by rw [FaultPinAgrees, h.faultCause, h.pins]; exact kept.fault
  layout := by
    rw [LayoutLocked, h.rings, State.bit, State.fld, h.regs MEM_CTL (by simp only [tickKey, MEM_CTL, MEM_REF, MEM_LAP]; omega)]
    exact kept.layout
  keys := by
    intro x hx
    have writing := kept.keys x (h.ledger ▸ hx)
    simpa only [State.vaultWriting, h.bands] using writing

end SameCauses

theorem sameCauses_setPort (s : State) (n : Nat) (g : Port → Port) : SameCauses s (s.setPort n g) where
  pins := rfl
  evt := rfl
  rings := rfl
  ledger := rfl
  bands m := by
    by_cases same : toStn n = toStn m
    · simp only [State.bands, State.setPort, ← same, State.station_setStn_same]
    · simp only [State.bands, State.setPort, State.station_setStn_other _ _ same]
  regs _ _ := rfl

theorem sameCauses_axTick (s : State) (n : Nat) : SameCauses s (s.axTick n) := by
  simp only [State.axTick]
  split
  · exact sameCauses_setPort s n _
  · exact (sameCauses_setPort s n _).trans (SameCauses.setFld (.inl (Nat.le_add_right_of_le (Nat.le_add_right _ _))) _ _)

theorem sameCauses_lapTick (s : State) : SameCauses s s.lapTick := by
  simp only [State.lapTick]
  repeat' split
  · exact .refl s
  · exact SameCauses.trans (u := { s with mem.lapTime := s.mem.lapTime + 1 }) ⟨rfl, rfl, rfl, rfl, fun _ => rfl, fun _ _ => rfl⟩
      (SameCauses.setFld (.inr (.inr rfl)) _ _)
  · exact ⟨rfl, rfl, rfl, rfl, fun _ => rfl, fun _ _ => rfl⟩

theorem sameCauses_repayRefresh (s : State) : SameCauses s s.repayRefresh := by
  unfold State.repayRefresh
  split
  · exact .refl s
  · refine SameCauses.foldl (fun u c => ?_) _ (.refl s)
    split
    · exact .refl u
    · exact SameCauses.setFld (.inr (.inl rfl)) _ _

theorem sameCauses_tick (s : State) : SameCauses s s.tick := by
  have stations : SameCauses s ((List.range 16).foldl (fun (s : State) n => if s.isOn (domSTN n) then s.axTick n else s)
      ({ s with now := s.now + 1, aon.clock := if s.aon.powered then (s.aon.clock + 1) % 2 ^ 63 else s.aon.clock } : State)) := by
    refine SameCauses.foldl (fun u n => ?_) _ ⟨rfl, rfl, rfl, rfl, fun _ => rfl, fun _ _ => rfl⟩
    split
    · exact sameCauses_axTick u n
    · exact .refl u
  have rows (u : State) : SameCauses u u.closeRows := ⟨rfl, rfl, rfl, rfl, fun _ => rfl, fun _ _ => rfl⟩
  exact ((stations.trans (rows _)).trans (sameCauses_lapTick _)).trans (sameCauses_repayRefresh _)

/-- Settles O3: a command ends in `close`, which sets each invariant right, and a microsecond changes nothing that they speak of. -/
theorem everyStepKeepsTheInvariants : Obligations.EveryStepKeepsTheInvariants := by
  intro s s' inv next
  cases waits : s.pending with
  | nil =>
    simp only [step, waits, Host.Outcome.next.injEq] at next
    exact next ▸ (sameCauses_tick s).inv inv
  | cons c rest =>
    simp only [step, waits] at next
    cases wf : c.wf with
    | true =>
      obtain ⟨u, ends⟩ := exec_of_wf wf { s with pending := rest }
      rw [ends, Host.Outcome.next.injEq] at next
      exact next ▸ inv_close _ u
    | false =>
      rw [exec_of_not_wf wf] at next
      exact absurd next (by simp)

end Sys2Proof
end

section
/-!
The statement about the life cycle's commands (R362, R365, R372 to R377).
-/

namespace Sys2Proof

open Machine

/-! ## What each command of Table 13.9 does -/

/-- The command of a number, up to the event of a refusal. -/
def lcAct (s : State) (op len : Nat) (tok : Bytes) : State := match op with
  | 1 => s.enterMaker tok
  | 2 => s.enterField tok
  | 3 => s.enterReturn tok
  | 4 => s.enterScrap tok
  | 5 => s.debugUnlock tok
  | 6 => s.telemetry tok
  | 7 => s.debugLock
  | 8 => s.certStore len tok
  | 9 => s.ownerEnrol tok
  | _ => s.lcDone 1

theorem lcRun_eq (s : State) (op len : Nat) (tok : Bytes) : s.lcRun op len tok =
    if (lcAct s op len tok).fld LC_STAT LC_STAT_RESULT = 0 then lcAct s op len tok
    else (lcAct s op len tok).raise 38 [op, (lcAct s op len tok).fld LC_STAT LC_STAT_RESULT] := rfl

/-- The nonce's renewal leaves the RESULT that was just written. -/
theorem result_lcDone (s : State) {r : Nat} (small : r < 8) : (s.lcDone r).fld LC_STAT LC_STAT_RESULT = r := by
  have written : (s.setFld LC_STAT LC_STAT_RESULT r).fld LC_STAT LC_STAT_RESULT = r := by
    rw [State.fld_setFld_same _ _ _ _ (by decide)]
    exact Nat.mod_eq_of_lt small
  rw [State.lcDone]
  generalize s.setFld LC_STAT LC_STAT_RESULT r = v at written
  simp only [State.renewNonce]
  split
  · exact written
  · rw [State.fld_setReg_other _ _ _ (by decide), State.fld_setReg_other _ _ _ (by decide)]
    exact written

theorem lcRun_of_ok {s v : State} {op len : Nat} {tok : Bytes} (act : lcAct s op len tok = v.lcDone 0) : s.lcRun op len tok = v.lcDone 0 := by
  rw [lcRun_eq, act, if_pos (result_lcDone v (by decide))]

theorem lcRun_of_refused {s v : State} {op len : Nat} {tok : Bytes} {r : Nat} (act : lcAct s op len tok = v.lcDone r) (code : 0 < r ∧ r < 8) :
    s.lcRun op len tok = (v.lcDone r).raise 38 [op, r] := by
  rw [lcRun_eq, act, result_lcDone v code.2, if_neg (Nat.ne_of_gt code.1)]

/-- A command that a token decides. -/
theorem lcRun_of_token {s v : State} {op len : Nat} {tok : Bytes} {valid : Bool}
    (act : lcAct s op len tok = if valid then v.lcDone 0 else s.lcDone 2) :
    s.lcRun op len tok = if valid then v.lcDone 0 else (s.lcDone 2).raise 38 [op, 2] := by
  cases valid with
  | true => exact lcRun_of_ok act
  | false => exact lcRun_of_refused act (by decide)

/-! ## The tokens (Table 13.9) -/

/-- A read within one page that the function holds. -/
theorem pfRead_of_held {s : State} {a n : Nat} (within : a % 4096 + n ≤ 4096) (some_bytes : 0 < n) (held : s.holds 0 none (a / 4096) = true) :
    s.pfRead a n = s.emit (.hostRead 0 none a n) := by
  have whole : min n (4096 - a % 4096) = n := by omega
  simp only [State.pfRead, whole, Nat.sub_self, held, Nat.ne_of_gt some_bytes, ↓reduceIte]

/-- The tokens at `base`, in pages that the function holds. -/
theorem readTokens_of_held (s : State) {base : Nat} (tok : (s.reg LC_TOK_LO).toNat + 2 ^ 32 * (s.reg LC_TOK_HI).toNat = base)
    (within : base % 4096 + 256 ≤ 4096) (held : s.holds 0 none (base / 4096) = true) (heldNext : s.holds 0 none ((base + 128) / 4096) = true)
    (len : Nat) :
    s.readTokens 3 len = (s.emit (.hostRead 0 none base 128)).emit (.hostRead 0 none (base + 128) 128)
      ∧ s.readTokens 2 len = s.emit (.hostRead 0 none base 128) ∧ s.readTokens 9 len = s.emit (.hostRead 0 none base 32) := by
  have two : s.tokenParts 3 len = [(0, 128), (128, 128)] := rfl
  have one : s.tokenParts 2 len = [(0, 128)] := rfl
  have digest : s.tokenParts 9 len = [(0, 32)] := rfl
  have first {n : Nat} (small : 0 < n ∧ n ≤ 128) : s.pfRead base n = s.emit (.hostRead 0 none base n) :=
    pfRead_of_held (by omega) small.1 held
  have second : (s.emit (.hostRead 0 none base 128)).pfRead (base + 128) 128 =
      (s.emit (.hostRead 0 none base 128)).emit (.hostRead 0 none (base + 128) 128) := pfRead_of_held (by omega) (by decide) heldNext
  refine ⟨?_, ?_, ?_⟩
  · rw [State.readTokens, tok, two, List.foldl_cons, List.foldl_cons, List.foldl_nil, Nat.add_zero, first (by decide), second]
  · rw [State.readTokens, tok, one, List.foldl_cons, List.foldl_nil, Nat.add_zero, first (by decide)]
  · rw [State.readTokens, tok, digest, List.foldl_cons, List.foldl_nil, Nat.add_zero, first (by decide)]

/-! ## A write of LC_CMD -/

theorem applyWrite_lcCmd (s : State) (w : Word) (data : Bytes) : s.applyWrite 0 LC_CMD.key w data = s.writeLc w data := rfl

/-- The word of a command with GO, as software writes it. -/
abbrev lcWord (w : Word) (op len : Nat) : Word := fldSet LC_CMD_GO (fldSet LC_CMD_LEN (fldSet LC_CMD_OP w op) len) 1

theorem lcWord_fields (w : Word) {op len : Nat} (known : op < 256) (fits : len < 8192) :
    fldGet LC_CMD_GO (lcWord w op len) = 1 ∧ fldGet LC_CMD_OP (lcWord w op len) = op ∧ fldGet LC_CMD_LEN (lcWord w op len) = len := by
  refine ⟨fldGet_fldSet_same _ _ _ (by decide), ?_, ?_⟩
  · rw [lcWord, fldGet_fldSet_other _ _ _ _ (by decide) (by decide), fldGet_fldSet_other _ _ _ _ (by decide) (by decide),
      fldGet_fldSet_same _ _ _ (by decide)]
    exact Nat.mod_eq_of_lt known
  · rw [lcWord, fldGet_fldSet_other _ _ _ _ (by decide) (by decide), fldGet_fldSet_same _ _ _ (by decide)]
    exact Nat.mod_eq_of_lt fits

/-- GO that goes through runs the command on its tokens. -/
theorem writeField_lcCmd {s : State} (reach : Reaches s 0 LC_CMD.key) {op len : Nat} (known : op < 256) (fits : len < 8192) (tok : Bytes) :
    s.writeField LC_CMD [(LC_CMD_OP, op), (LC_CMD_LEN, len), (LC_CMD_GO, 1)] tok =
      ((s.setReg LC_CMD (lcWord (s.reg LC_CMD) op len &&& 0x1FFF00FF#32)).readTokens op len).lcRun op len tok := by
  obtain ⟨go, which, length⟩ := lcWord_fields (s.reg LC_CMD) known fits
  have written : s.writeField LC_CMD [(LC_CMD_OP, op), (LC_CMD_LEN, len), (LC_CMD_GO, 1)] tok = s.writeLc (lcWord (s.reg LC_CMD) op len) tok :=
    (access_of_reaches reach _ tok).trans (applyWrite_lcCmd s _ tok)
  rw [written, State.writeLc, go, which, length, if_neg Nat.one_ne_zero]

theorem exec_of_lcGo {s : State} (reach : Reaches s 0 LC_CMD.key) {op len : Nat} (known : op < 256) (fits : len < 8192) {i : Instr} {tok : Bytes}
    (ends : exec i s = finishStep s (s.writeField LC_CMD [(LC_CMD_OP, op), (LC_CMD_LEN, len), (LC_CMD_GO, 1)] tok)) :
    exec i s = .next (s.close (((s.setReg LC_CMD (lcWord (s.reg LC_CMD) op len &&& 0x1FFF00FF#32)).readTokens op len).lcRun op len tok)) := by
  rw [ends, writeField_lcCmd reach known fits, finishStep]

/-- A command that the state does not allow. -/
theorem lcAct_of_disallowed {s : State} {op len : Nat} {tok : Bytes}
    (h : (op = 1 ∧ s.sec.lc ≠ 0) ∨ (op = 2 ∧ (s.sec.lc ≠ 1 ∨ s.bit LC_STAT LC_STAT_CERT = false)) ∨ (op = 3 ∧ s.sec.lc ≠ 2) ∨ (op = 4 ∧ s.sec.lc = 4)
      ∨ (op = 5 ∧ s.sec.lc ≠ 1 ∧ s.sec.lc ≠ 3) ∨ (op = 6 ∧ s.sec.lc ≠ 2) ∨ (op = 8 ∧ (s.sec.lc ≠ 1 ∨ len = 0 ∨ 4096 < len))
      ∨ (op = 9 ∧ (s.sec.lc ≠ 2 ∨ s.sec.ownerDig ≠ none)) ∨ op = 0 ∨ 9 < op) : lcAct s op len tok = s.lcDone 1 := by
  rcases h with ⟨rfl, lc⟩ | ⟨rfl, lc⟩ | ⟨rfl, lc⟩ | ⟨rfl, lc⟩ | ⟨rfl, lc⟩ | ⟨rfl, lc⟩ | ⟨rfl, lc⟩ | ⟨rfl, lc⟩ | rfl | high
  · exact if_pos lc
  · exact if_pos (by simpa using lc)
  · exact if_pos lc
  · exact if_pos lc
  · exact if_pos lc
  · exact if_pos lc
  · exact if_pos lc
  · exact if_pos (by simpa [Option.isSome_iff_ne_none] using lc)
  · rfl
  · unfold lcAct
    split
    case h_10 => rfl
    all_goals omega

/-- Settles O36: the write of LC_CMD, its tokens, and each command by the life-cycle state and its token. -/
theorem lifeCycleCommands : Obligations.LifeCycleCommands := by
  refine ⟨?go, ?tokens, ?state, ?mounted, ?maker, ?field, ?return', ?unlock, ?telemetry, ?lock, ?scrap, ?scrapOwned, ?cert, ?owner⟩
  case go =>
    intro len token s reach
    have small : len.toNat < 8192 := len.isLt
    dsimp only
    exact ⟨exec_of_lcGo reach (by decide) small rfl, exec_of_lcGo reach (by decide) small rfl, exec_of_lcGo reach (by decide) small rfl,
      exec_of_lcGo reach (by decide) small rfl, exec_of_lcGo reach (by decide) small rfl, exec_of_lcGo reach (by decide) small rfl,
      exec_of_lcGo reach (by decide) (by decide) rfl, exec_of_lcGo reach (by decide) small rfl, exec_of_lcGo reach (by decide) small rfl⟩
  case tokens =>
    intro len s within ⟨held, heldNext⟩
    exact readTokens_of_held s rfl within held heldNext len
  case state => exact fun op len tok s h => lcRun_of_refused (lcAct_of_disallowed h) (by decide)
  case mounted =>
    intro op len tok s h mounted
    refine lcRun_of_refused ?_ (by decide)
    rcases h with ⟨rfl, lc, owned⟩ | ⟨rfl, lc⟩
    · simp only [lcAct, State.enterReturn, lc, mounted, Option.isNone_iff_eq_none, owned, ne_eq, not_true_eq_false, ↓reduceIte]
    · simp only [lcAct, State.enterScrap, lc, mounted, ↓reduceIte]
  case maker =>
    intro len tok s ⟨lc, source⟩
    have healthy : ¬ (!s.sec.entropyOk) = true := by rw [source]; exact Bool.false_ne_true
    exact lcRun_of_ok ((if_neg (not_not_intro lc)).trans (if_neg healthy))
  case field =>
    intro len tok s ⟨lc, cert⟩
    refine lcRun_of_token ?_
    simp only [lcAct, State.enterField, lc, cert, ne_eq, not_true_eq_false, or_self, Bool.not_eq_true', ↓reduceIte]
    cases s.tokenOk 6 (tok.take 128) <;> rfl
  case return' =>
    intro len tok s ⟨lc, owned, free⟩
    refine lcRun_of_token ?_
    simp only [lcAct, State.enterReturn, lc, free, Option.isNone_iff_eq_none, owned, ne_eq, not_true_eq_false, Bool.false_eq_true, ↓reduceIte]
    cases s.tokenOk 3 (tok.take 128) <;> cases s.tokenOk 4 (slice tok 128 128) <;> rfl
  case unlock =>
    intro len tok s lc
    refine lcRun_of_token ?_
    have allowed : ¬ (s.sec.lc ≠ 1 ∧ s.sec.lc ≠ 3) := by omega
    simp only [lcAct, State.debugUnlock, allowed, ↓reduceIte]
    cases s.tokenOk 1 (tok.take 128) <;> rfl
  case telemetry =>
    intro len tok s lc
    refine lcRun_of_token ?_
    simp only [lcAct, State.telemetry, lc, ne_eq, not_true_eq_false, ↓reduceIte]
    cases s.tokenOk 2 (tok.take 128) <;> rfl
  case lock => exact fun len tok s => lcRun_of_ok rfl
  case scrap =>
    intro len tok s ⟨lc, unowned, free⟩
    refine lcRun_of_ok ?_
    have unasked : ¬ (s.sec.lc = 2 ∧ s.sec.ownerDig.isSome = true ∧ ¬ s.tokenOk 5 (tok.take 128) = true) :=
      fun ⟨field, owned, _⟩ => by simp [unowned field] at owned
    simp only [lcAct, State.enterScrap, lc, free, unasked, Bool.false_eq_true, ↓reduceIte]
  case scrapOwned =>
    intro len tok s ⟨lc, owned, free⟩
    refine lcRun_of_token ?_
    simp only [lcAct, State.enterScrap, lc, free, Option.isSome_iff_ne_none.mpr owned, Bool.false_eq_true, true_and, ↓reduceIte]
    cases s.tokenOk 5 (tok.take 128) <;> rfl
  case cert =>
    intro len tok s ⟨lc, some_bytes, fits⟩
    exact lcRun_of_ok (if_neg (by omega))
  case owner =>
    intro len tok s ⟨lc, unowned⟩
    exact lcRun_of_ok (if_neg (by simp [lc, unowned]))

end Sys2Proof
end

section
/-!
The statement about JTAG (R374, R375).
-/

namespace Sys2Proof

open Machine

theorem exec_of_jtagAccess {s v : State} {j : Jtag} (h : s.jtagAccess j = v) : exec (.jtagAccess j) s = .next (s.close v) := exec_of_ends rfl h

section Jtag

variable {s : State}

/-- An access that debug opens. -/
theorem jtagRegRead_of_open {off : Nat} (on : s.isOn (regDom 0 off) = true)
    (opened : s.jtagOpen = true ∨ (s.jtagTelem = true ∧ 0x70000 ≤ off ∧ off < 0x80000)) :
    s.jtagAccess (.regRead off) = s.emit (.jtag (s.regBytes off)) :=
  if_pos (by simpa only [on, Bool.true_and, Bool.or_eq_true, Bool.and_eq_true, decide_eq_true_eq] using opened)

theorem jtagEventLog_of_open (opened : s.jtagOpen = true ∨ s.jtagTelem = true) :
    s.jtagAccess .eventLog = s.emit (.jtag (s.evt.log.flatMap evtBytes)) := if_pos (by simpa only [Bool.or_eq_true] using opened)

end Jtag

/-- Settles O39: each access by what the life-cycle state opens. -/
theorem jtagAccess : Obligations.JtagAccess := by
  refine ⟨?boundary, ?core, ?memory, ?registers, ?log, ?health, ?closed⟩
  case boundary => exact fun s => exec_of_jtagAccess rfl
  case core =>
    intro b s opened
    refine ⟨exec_of_jtagAccess (if_pos opened), exec_of_jtagAccess ?_, exec_of_jtagAccess (if_pos opened),
      exec_of_jtagAccess (jtagEventLog_of_open (.inl opened))⟩
    simp only [State.jtagAccess, opened, Bool.true_and]
  case memory =>
    intro a n bs s ⟨opened, on⟩ ⟨readable, writable⟩
    exact ⟨exec_of_jtagAccess (if_pos (by simp [opened, on, readable])), exec_of_jtagAccess (if_pos (by simp [opened, on, writable]))⟩
  case registers =>
    intro off w s ⟨opened, on⟩
    exact ⟨exec_of_jtagAccess (jtagRegRead_of_open on (.inl opened)), exec_of_jtagAccess (if_pos (by simp [opened, on]))⟩
  case log => exact fun s ⟨_, telem⟩ => exec_of_jtagAccess (jtagEventLog_of_open (.inr telem))
  case health =>
    intro off s ⟨_, telem⟩ ⟨low, high, on⟩
    exact exec_of_jtagAccess (jtagRegRead_of_open on (.inr ⟨telem, low, high⟩))
  case closed =>
    intro j s shut unopened
    refine exec_of_jtagAccess ?_
    cases j with
    | boundary => exact absurd unopened Bool.false_ne_true
    | regRead off =>
      have barred : (s.jtagTelem && decide (0x70000 ≤ off ∧ off < 0x80000)) = false := Bool.not_eq_eq_eq_not.mp unopened
      exact if_neg (by rw [shut, barred]; simp)
    | eventLog =>
      have barred : s.jtagTelem = false := Bool.not_eq_eq_eq_not.mp unopened
      exact if_neg (by simp [shut, barred])
    | _ => exact if_neg (by simp [shut])

end Sys2Proof
end

section
/-!
The statement about the pools (R399 to R403).
-/

namespace Sys2Proof

open Machine

section Pools

variable {s : State}

/-! ## ALLOC -/

/-- A request that comes alone is never contended for (R403). -/
theorem not_contended_alone (x : Nat × Nat) (schuss : Bool) : s.contended [x] schuss x = false := by
  unfold State.contended
  cases poolFor x.2 with
  | none => rfl
  | some p =>
    have few : ([x].filter fun y => poolFor y.2 == some p).length ≤ 1 := List.length_filter_le _ _
    exact decide_eq_false fun h => absurd h.1 (by omega)

theorem rotate_nil (g : Nat) : rotate g [] = [] := by simp [rotate]

/-- A request that comes alone is served at once. -/
theorem exec_alloc_alone (on : s.isOn domMEM = true) (who : Fin 32) (size : Nat) (schuss : Bool) :
    exec (.alloc [(who, size)] schuss) s = .next (s.close ((s.alloc size (who.val % 32) schuss).2.emit (.pool (who.val % 32) (s.alloc size (who.val % 32) schuss).1))) := by
  refine exec_of_ends rfl ?_
  simp only [State.allocRow, on, List.map_cons, List.map_nil, List.filter_cons, List.filter_nil, not_contended_alone, rotate_nil, Bool.not_true,
    Bool.not_false, Bool.false_eq_true, ↓reduceIte, List.foldl_cons, List.foldl_nil, State.serveAlloc, Bool.false_and]

theorem alloc_of_unfit {size : Nat} (large : 2097152 < size) (who : Nat) (schuss : Bool) : s.alloc size who schuss = (none, s.poolRefuse who 0 6) := by
  have unfit : poolFor size = none := by
    unfold poolFor
    repeat rw [if_neg (by omega)]
  rw [State.alloc, unfit]

theorem alloc_of_empty {size p who : Nat} {schuss : Bool} (fits : poolFor size = some p)
    (none_left : s.poolFree p ≤ (if p = 3 ∧ schuss = false then 64 else 0)) : s.alloc size who schuss = (none, s) := by
  simp only [State.alloc, fits, Bool.not_eq_true]
  exact if_pos none_left

/-- The head of the cullet list is a buffer that was never taken before (log entry 120). -/
theorem alloc_of_new {size p who : Nat} {schuss : Bool} (fits : poolFor size = some p)
    (left : (if p = 3 ∧ schuss = false then 64 else 0) < s.poolFree p)
    (new : (s.mem.pools.getD p {}).next < s.mem.layout.getD (3 + p) 0) :
    s.alloc size who schuss = (some (mkHandle p (s.mem.pools.getD p {}).next (SMap.getD (s.mem.pools.getD p {}).gens 0 (s.mem.pools.getD p {}).next)),
      (s.setPool p { s.mem.pools.getD p {} with
        next := (s.mem.pools.getD p {}).next + 1,
        holders := SMap.ins (s.mem.pools.getD p {}).next ([who], who) (s.mem.pools.getD p {}).holders }).poolStat p) := by
  simp only [State.alloc, fits, Bool.not_eq_true, Nat.not_le.mpr left, new, ↓reduceIte]

/-! ## SHARE, RELEASE and FREE -/

variable {h who off len : Nat}

theorem handle_of_bad {why : Nat} (bad : s.checkHandle h off len = some why) (new owner : Nat) :
    s.share h who new owner off len = s.poolRefuse who 1 why ∧ s.release h who off len = s.poolRefuse who 2 why
      ∧ s.freeBuf h who off len = s.poolRefuse who 3 why := by
  simp only [State.share, State.release, State.freeBuf, bad, and_self]

variable (good : s.checkHandle h off len = none)

include good

theorem share_of_good (new owner : Nat) : s.share h who new owner off len =
    if (s.holdersOf h).1.contains who = false then s.poolRefuse who 1 3
    else if owner ≠ who ∧ owner ≠ new then s.poolRefuse who 1 4
    else s.setHolders h (if (s.holdersOf h).1.contains new then (s.holdersOf h).1 else (s.holdersOf h).1 ++ [new], owner) := by
  simp only [State.share, good, Bool.not_eq_true']

theorem release_of_good : s.release h who off len =
    if (s.holdersOf h).1.contains who = false then s.poolRefuse who 2 3
    else if (s.holdersOf h).2 = who then s.poolRefuse who 2 4
    else s.setHolders h ((s.holdersOf h).1.filter (fun x => x != who), (s.holdersOf h).2) := by
  simp only [State.release, good, Bool.not_eq_true']

theorem freeBuf_of_other (other : (s.holdersOf h).2 ≠ who) : s.freeBuf h who off len = s.poolRefuse who 3 4 := by
  simp only [State.freeBuf, good, ne_eq, other, not_false_eq_true, ↓reduceIte]

theorem freeBuf_of_shared (owns : (s.holdersOf h).2 = who) (shared : (s.holdersOf h).1 ≠ [who]) (holds : (s.holdersOf h).1.contains who = true) :
    s.freeBuf h who off len = s.poolRefuse who 3 5 := by
  simp only [State.freeBuf, good, owns, ne_eq, not_true_eq_false, shared, not_false_eq_true, holds, ↓reduceIte]

theorem freeBuf_of_last (last : s.holdersOf h = ([who], who)) : s.freeBuf h who off len =
    (s.setPool (hPool h) { s.mem.pools.getD (hPool h) {} with
      freed := (s.mem.pools.getD (hPool h) {}).freed ++ [hIndex h],
      holders := SMap.del (hIndex h) (s.mem.pools.getD (hPool h) {}).holders,
      gens := SMap.put (s.mem.pools.getD (hPool h) {}).gens 0 (hIndex h) ((hGen h + 1) % 256) }).poolStat (hPool h) := by
  simp only [State.freeBuf, good, last, ne_eq, not_true_eq_false, ↓reduceIte]

end Pools

/-- Settles O42: ALLOC by what the smallest fitting pool has left, the other operations by the handle and its holders. -/
theorem poolOperations : Obligations.PoolOperations := by
  refine ⟨?alloc, ?new, ?empty, ?unfit, ?share, ?release, ?free, ?bad, ?unheld, ?stranger, ?owner, ?other, ?shared⟩
  case alloc =>
    intro l schuss s
    refine exec_of_ends rfl ?_
    cases on : s.isOn domMEM <;> simp [State.allocRow, on]
  case new =>
    intro who size p schuss s ⟨on, fits⟩ left new
    rw [exec_alloc_alone on, alloc_of_new fits left new]
  case empty =>
    intro who size p schuss s ⟨on, fits⟩ none_left
    rw [exec_alloc_alone on, alloc_of_empty fits none_left]
  case unfit =>
    intro who size schuss s ⟨on, large⟩
    rw [exec_alloc_alone on, alloc_of_unfit large]
  case share =>
    intro h who new owner off len s good ⟨holds, named⟩
    refine exec_of_ends rfl ?_
    have known : ¬ (owner.val ≠ who.val ∧ owner.val ≠ new.val) := fun ⟨a, b⟩ => named.elim (fun e => a (congrArg _ e)) fun e => b (congrArg _ e)
    rw [share_of_good good, holds, if_neg (by decide), if_neg known]
  case release =>
    intro h who off len s good ⟨holds, other⟩
    refine exec_of_ends rfl ?_
    rw [release_of_good good, holds, if_neg (by decide), if_neg other]
  case free => exact fun h who off len s good last => exec_of_ends rfl (freeBuf_of_last good last)
  case bad =>
    intro h why who new owner off len s bad
    obtain ⟨share, release, free⟩ := handle_of_bad (who := who.val) bad new.val owner.val
    exact ⟨exec_of_ends rfl share, exec_of_ends rfl release, exec_of_ends rfl free⟩
  case unheld =>
    intro h who new owner off len s good unheld
    exact ⟨exec_of_ends rfl ((share_of_good good _ _).trans (if_pos unheld)), exec_of_ends rfl ((release_of_good good).trans (if_pos unheld))⟩
  case stranger =>
    intro h who new owner off len s good ⟨holds, notSelf, notNew⟩
    refine exec_of_ends rfl ?_
    rw [share_of_good good, holds, if_neg (by decide), if_pos ⟨Fin.val_ne_of_ne notSelf, Fin.val_ne_of_ne notNew⟩]
  case owner =>
    intro h who off len s good ⟨holds, owns⟩
    refine exec_of_ends rfl ?_
    rw [release_of_good good, holds, if_neg (by decide), if_pos owns]
  case other => exact fun h who off len s good other => exec_of_ends rfl (freeBuf_of_other good other)
  case shared => exact fun h who off len s good ⟨owns, shared, holds⟩ => exec_of_ends rfl (freeBuf_of_shared good owns shared holds)

end Sys2Proof
end

section
/-!
The statement about the supply (R412 to R417).
-/

namespace Sys2Proof

open Machine

section Supply

variable {s : State} {mv : Nat}

/-- VIN is found below VWARN. -/
theorem supplyWarning_of_low (low : mv < s.vwarn) : s.supplyWarning mv = ({ s with aon.vin := mv } : State).supplyFall := if_pos low

/-- VIN is found at VWARN or above it. -/
theorem supplyWarning_of_high (high : s.vwarn ≤ mv) : s.supplyWarning mv = ({ s with aon.vin := mv } : State).setBit PM_SUPPLY PM_SUPPLY_RECOV
    (s.bit PM_SUPPLY PM_SUPPLY_WARN && decide (s.vwarn + 500 < mv)) := if_neg (Nat.not_lt.mpr high)

theorem supplyFall_of_first (first : s.bit PM_SUPPLY PM_SUPPLY_WARN = false) : s.supplyFall =
    ((((s.setBit PM_SUPPLY PM_SUPPLY_WARN true).bump PM_SUPPLY PM_SUPPLY_DIPS 1).raise 10 []).vinStepFails).checkWrites :=
  if_neg (by rw [first]; exact Bool.false_ne_true)

theorem supplyRecovery_of_high (warned : s.bit PM_SUPPLY PM_SUPPLY_WARN = true) (high : s.vwarn + 500 < mv) : s.supplyRecovery mv =
    (((({ s with aon.vin := mv } : State).setBit PM_SUPPLY PM_SUPPLY_WARN false).setBit PM_SUPPLY PM_SUPPLY_RECOV false).raise 11 []).checkWrites := by
  have judged : ({ s with aon.vin := mv } : State).bit PM_SUPPLY PM_SUPPLY_WARN = true := warned
  have recovered : ¬ mv ≤ ({ s with aon.vin := mv } : State).vwarn + 500 := Nat.not_le.mpr high
  simp only [State.supplyRecovery, judged, recovered, decide_false, Bool.not_true, Bool.or_self, Bool.false_eq_true, ↓reduceIte]

theorem vrstRise_of_dropped (high : 5800 ≤ mv) (dropped : s.pins.pwrGood = false) :
    s.vrstRise mv = ({ s with aon.vin := mv } : State).beginStart := if_neg (by simp [dropped, high])

end Supply

/-- Settles O44: VIN against each threshold, and what the monitor has shown before. -/
theorem supplyMonitor : Obligations.SupplyMonitor := by
  refine ⟨?first, ?further, ?above, ?recovery, ?fall, ?rise, ?rail, ?loss, ?powerUp⟩
  case first => exact fun mv s ⟨low, first⟩ => exec_of_ends rfl ((supplyWarning_of_low low).trans (supplyFall_of_first first))
  case further => exact fun mv s ⟨low, warned⟩ => exec_of_ends rfl ((supplyWarning_of_low low).trans (if_pos warned))
  case above => exact fun mv s high => exec_of_ends rfl (supplyWarning_of_high high)
  case recovery => exact fun mv s ⟨warned, high⟩ => exec_of_ends rfl (supplyRecovery_of_high warned high)
  case fall => exact fun mv s low => exec_of_ends rfl (if_neg (Nat.not_le.mpr low))
  case rise => exact fun mv s ⟨high, dropped⟩ => exec_of_ends rfl (vrstRise_of_dropped high dropped)
  case rail => exact fun s => rfl
  case loss => exact fun mv s low => exec_of_ends rfl (if_neg (Nat.not_le.mpr low))
  case powerUp => exact fun straps s unpowered => exec_of_ends rfl (if_neg (by rw [unpowered]; exact Bool.false_ne_true))

end Sys2Proof
end

section
/-!
The statement about the control cache (R380, R395, R404 to R409).
-/

namespace Sys2Proof

open Machine

section Cache

variable {s : State} {a ctx : Nat}

/-- R395: what a read of the cache hands to its context: the bytes, and the poison that stops it. -/
def cacheDelivered (s : State) (a n ctx : Nat) : State :=
  let g := s.cacheGet (a / 64) ctx
  let c := g.2.lineAt (a / 64) g.1
  let v := g.2.emit (.memData 7 (slice c.data (a % 64) n) c.poison)
  if c.poison then v.consumed ctx a else v

/-- R407: what a write of the cache leaves. -/
def cacheWritten (s : State) (a ctx : Nat) (d : Bytes) : State :=
  let g := s.cacheGet (a / 64) ctx
  let c := g.2.lineAt (a / 64) g.1
  g.2.setLine g.1 { c with
    data := patch c.data (a % 64) d, dirty := true, owner := if ctx = ctxBENCH then ctxBENCH else c.owner, poison := c.poison && decide (d.length < 64) }

/-- The bytes of an access. -/
def accessLength (data : Option Bytes) (n : Nat) : Nat := match data with | some d => d.length | none => n

/-- An access that CACHE can serve: inside the space, cached and within one line (R380, R404). -/
structure Cached (s : State) (a len : Nat) : Prop where
  on : s.isOn domCACHE = true
  inside : a < memEnd
  region : s.cacheable a = true
  line : a % 64 + len ≤ 64

@[simp] theorem lineFlips_nil (s : State) (line : Nat) : s.lineFlips line [] = s := by
  unfold State.lineFlips
  split <;> rfl

theorem parityFails_nil : parityFails [] = false := by decide

/-- R408: the line of an access as its failed bits leave it, and whether the access goes on. -/
def lineChecked (s : State) (line : Nat) (wrong : List CacheBit) : State × Bool :=
  if parityFails wrong then s.lineParity line else (s.lineFlips line wrong, true)

theorem lineChecked_nil (line : Nat) : lineChecked s line [] = (s, true) := by
  rw [lineChecked, parityFails_nil, lineFlips_nil]
  rfl

theorem lineChecked_of_fails {wrong : List CacheBit} (fails : parityFails wrong = true) (line : Nat) :
    lineChecked s line wrong = s.lineParity line := if_pos fails

variable {n : Nat} {wrong : List CacheBit}

theorem cacheRead_eq (u : State) : cacheDelivered u a n ctx =
    let (b, p, v) := u.cacheRead a n ctx
    let v := v.emit (.memData 7 b p)
    if p then v.consumed ctx a else v := rfl

theorem cacheWrite_eq (u : State) (d : Bytes) : cacheWritten u a ctx d = u.cacheWrite a ctx d := rfl

/-- A read that CACHE serves, once its line has been checked. -/
theorem cacheAccess_of_read {u : State} {go : Bool} (h : Cached s a n) (line : lineChecked s (a / 64) wrong = (u, go)) :
    s.cacheAccess a n ctx none wrong = if !go then u.tablesJudged s else cacheDelivered u a n ctx := by
  obtain ⟨on, inside, region, within⟩ := h
  have served : ¬ (!s.cacheable a || decide (64 < a % 64 + n)) = true := by simpa [region] using within
  rw [lineChecked] at line
  unfold State.cacheAccess
  simp only [on, Bool.not_true, Bool.false_eq_true, Nat.not_le.mpr inside, served, line, cacheRead_eq, ↓reduceIte]

/-- A write that CACHE serves, once its line has been checked. -/
theorem cacheAccess_of_write {u : State} {go : Bool} {d : Bytes} (h : Cached s a d.length) (line : lineChecked s (a / 64) wrong = (u, go)) :
    s.cacheAccess a n ctx (some d) wrong = if !go then u.tablesJudged s else (cacheWritten u a ctx d).tablesJudged s := by
  obtain ⟨on, inside, region, within⟩ := h
  have served : ¬ (!s.cacheable a || decide (64 < a % 64 + d.length)) = true := by simpa [region] using within
  rw [lineChecked] at line
  unfold State.cacheAccess
  simp only [on, Bool.not_true, Bool.false_eq_true, Nat.not_le.mpr inside, served, line, cacheWrite_eq, ↓reduceIte]

/-- An access that a dirty line's parity error stops. -/
theorem cacheAccess_of_stopped {u : State} {data : Option Bytes} (h : Cached s a (accessLength data n))
    (line : lineChecked s (a / 64) wrong = (u, false)) : s.cacheAccess a n ctx data wrong = u.tablesJudged s := by
  cases data with
  | none => exact cacheAccess_of_read h line
  | some d => exact cacheAccess_of_write h line

/-- A parity error in a clean line that is not locked: the line is dropped, and the access goes on. -/
theorem lineParity_of_clean {w line : Nat} (hit : s.cacheWay line = some w) (clean : (s.lineAt line w).dirty = false)
    (unlocked : s.wayLocked w = false) : s.lineParity line = ((s.bump CC_STAT CC_STAT_PCLEAN 1).dropLine line w, true) := by
  have unusable : (s.bump CC_STAT CC_STAT_PCLEAN 1).reg BIST_UNUS = s.reg BIST_UNUS := s.reg_setFld_other _ _ (by decide)
  have locks : (s.bump CC_STAT CC_STAT_PCLEAN 1).reg CC_CTL = s.reg CC_CTL := s.reg_setFld_other _ _ (by decide)
  have still : (s.bump CC_STAT CC_STAT_PCLEAN 1).wayLocked w = false := by
    rw [← unlocked]
    simp only [State.wayLocked, State.frameWay, unusable, locks]
  simp only [State.lineParity, hit, clean, Bool.not_false, still, Bool.false_eq_true, ↓reduceIte]

/-- A parity error in a dirty line: it is poisoned in memory and dropped, and its owner meets a machine check. -/
theorem lineParity_of_dirty {w line : Nat} (hit : s.cacheWay line = some w) (dirty : (s.lineAt line w).dirty = true) :
    let c := s.lineAt line w
    let v := (s.bump CC_STAT CC_STAT_PDIRTY 1).setFld CC_STAT CC_STAT_CTX c.owner
    let v := ((v.writeBack c).setPoison line true).dropLine line w
    s.lineParity line = (if c.owner < 16 then v.gafferCheck c.owner 2 0 (v.fld (SEQ_BANK c.owner) SEQ_BANK_CUR) (64 * line)
      else v.machineCheck c.owner none, false) := by
  simp only [State.lineParity, hit, dirty, Bool.not_true, Bool.false_eq_true, ↓reduceIte]

/-! ## Accesses that the cache does not serve -/

theorem cacheAccess_of_uncached {data : Option Bytes} (on : s.isOn domCACHE = true) (inside : a < memEnd)
    (h : s.cacheable a = false ∨ 64 < a % 64 + accessLength data n) : s.cacheAccess a n ctx data wrong = s := by
  have unserved : (!s.cacheable a || decide (64 < a % 64 + accessLength data n)) = true := by simpa using h
  unfold State.cacheAccess
  rw [if_neg (by simp [on]), if_neg (Nat.not_le.mpr inside)]
  exact if_pos unserved

theorem cacheRead_of_beyond (on : s.isOn domCACHE = true) (outside : memEnd ≤ a) :
    let v := (s.raise 16 [7]).emit (.memData 7 ((List.range n).map (Config.freeByte s.fresh)) true)
    s.cacheAccess a n ctx none wrong = ({ v with fresh := s.fresh + 1 } : State).consumed ctx a := by
  have same : (s.raise 16 [7]).fresh = s.fresh := (raise_aside s 16 [7]).2.1
  unfold State.cacheAccess
  simp only [on, Bool.not_true, Bool.false_eq_true, outside, Option.isSome_none, same, State.emit_fresh, ↓reduceIte]

theorem cacheWrite_of_beyond {d : Bytes} (on : s.isOn domCACHE = true) (outside : memEnd ≤ a) :
    s.cacheAccess a n ctx (some d) wrong = s.raise 16 [7] := by
  unfold State.cacheAccess
  rw [if_neg (by simp [on]), if_pos outside]
  rfl

end Cache

/-- Settles O43: an access by where it lies and what its line shows, and a maintenance operation's end. -/
theorem theControlCache : Obligations.TheControlCache := by
  refine ⟨?read, ?consumed, ?write, ?off, ?uncached, ?beyond, ?clean, ?dirty, ?maint⟩
  case read =>
    intro a len ctx s ⟨on, inside, region, line⟩
    exact exec_of_ends rfl (cacheAccess_of_read ⟨on, inside, region, line⟩ (lineChecked_nil _))
  case consumed =>
    intro ctx a s
    refine ⟨fun gaffer busy => ?_, fun core => ?_⟩
    · rw [State.consumed, if_pos gaffer, if_pos busy]
    · have high : ¬ ctx.val < 16 := by
        have : ctxBENCH = 17 ∧ ctxLEDGER = 16 := ⟨rfl, rfl⟩
        omega
      rw [State.consumed, if_neg high, if_pos core]
  case write =>
    intro a len ctx d s ⟨on, inside, region, line⟩
    exact exec_of_ends rfl (cacheAccess_of_write ⟨on, inside, region, line⟩ (lineChecked_nil _))
  case off => exact fun a len ctx data wrong s off => exec_of_ends rfl (if_pos (by rw [off]; rfl))
  case uncached =>
    intro a len ctx data wrong s ⟨on, inside⟩ h
    exact exec_of_ends rfl (cacheAccess_of_uncached on inside h)
  case beyond =>
    intro a len ctx d wrong s ⟨on, outside⟩
    exact ⟨exec_of_ends rfl (cacheRead_of_beyond on outside), exec_of_ends rfl (cacheWrite_of_beyond on outside)⟩
  case clean =>
    intro a len ctx wrong w s fails ⟨on, inside, region, line⟩ ⟨hit, clean⟩ unlocked
    exact exec_of_ends rfl (cacheAccess_of_read ⟨on, inside, region, line⟩
      ((lineChecked_of_fails fails _).trans (lineParity_of_clean hit clean unlocked)))
  case dirty =>
    intro a len ctx data wrong w s fails ⟨on, inside, region, line⟩ ⟨hit, dirty⟩
    exact exec_of_ends rfl (cacheAccess_of_stopped ⟨on, inside, region, line⟩
      ((lineChecked_of_fails fails _).trans (lineParity_of_dirty hit dirty)))
  case maint =>
    intro s busy
    exact exec_of_ends rfl (if_neg (by simp [busy]))

end Sys2Proof
end

section
/-!
The statement about the bytes of the buffer memory and the window (R380, R382, R383, R392).
-/

namespace Sys2Proof

open Machine

/-! ## What an access of the memory leaves of it (R386, R392) -/

theorem touchLine_mem (s : State) (h : Hint) (l : Nat) : (s.touchLine h l).mem = { s.mem with rows := (s.touchLine h l).mem.rows } := by
  cases h <;> rfl

theorem touch_mem (s : State) (port a n : Nat) : (s.touch port a n).mem = { s.mem with rows := (s.touch port a n).mem.rows } := by
  unfold State.touch
  refine List.foldlRecOn (motive := fun v : State => v.mem = { s.mem with rows := v.mem.rows }) _ _ rfl fun v kept l _ => ?_
  rw [touchLine_mem]
  have opened := congrArg (fun m : Mem => ({ m with rows := (v.touchLine (v.hintFor port l) l).mem.rows } : Mem)) kept
  exact opened

theorem memWrite_mem (s : State) (a : Nat) (bs : Bytes) : (s.memWrite a bs).mem =
    { s.mem with data := s.mem.data.write a bs, poison := (s.memWrite a bs).mem.poison, check := (s.memWrite a bs).mem.check } := by
  unfold State.memWrite
  refine List.foldlRecOn (motive := fun v : State =>
    v.mem = { s.mem with data := s.mem.data.write a bs, poison := v.mem.poison, check := v.mem.check }) _ _ rfl fun v kept l _ => ?_
  have sealed := congrArg (fun m : Mem => ({ m with check := (v.sealLine l).mem.check } : Mem)) kept
  exact sealed

/-! ## Lines of the control cache -/

section Lines

variable {s v : State} {line w : Nat}

theorem cacheWay_congr (h : v.mem.cache = s.mem.cache) (line : Nat) : v.cacheWay line = s.cacheWay line := by
  simp only [State.cacheWay, h]

/-- The way that holds a line holds that line. -/
theorem lineAt_of_hit (hit : s.cacheWay line = some w) : ∃ c, SMap.get? s.mem.cache (16 * cacheSet line + w) = some c ∧ s.lineAt line w = c ∧ c.line = line := by
  have found := List.find?_some hit
  cases entry : SMap.get? s.mem.cache (16 * cacheSet line + w) with
  | none => simp [entry] at found
  | some c =>
    rw [entry] at found
    exact ⟨c, rfl, by rw [State.lineAt, SMap.getD, entry]; rfl, by simpa using found⟩

/-- A held line that changes is held where it was. -/
theorem cacheWay_setLine {c : CLine} (hit : s.cacheWay c.line = some w) : (s.setLine w c).cacheWay c.line = some w := by
  rw [← hit]
  obtain ⟨old, entry, -, same⟩ := lineAt_of_hit hit
  unfold State.cacheWay
  congr 1
  funext x
  by_cases here : w = x
  · subst here
    simp only [State.setLine, SMap.get?_ins_same, entry, same]
  · simp only [State.setLine, SMap.get?_ins_other _ _ (show 16 * cacheSet c.line + w ≠ 16 * cacheSet c.line + x by omega)]

theorem lineAt_setLine (c : CLine) : (s.setLine w c).lineAt c.line w = c := by
  rw [State.lineAt, State.setLine, SMap.getD, SMap.get?_ins_same]
  rfl

/-- The bytes that a patch puts in. -/
theorem getD_patch {d bs : Bytes} {off i : Nat} (fits : off ≤ d.length) (hi : i < bs.length) : (patch d off bs).getD (off + i) 0 = bs[i] := by
  have before : (d.take off).length = off := List.length_take_of_le fits
  rw [patch, List.append_assoc, List.getD_append_right _ _ _ _ (by omega), before, Nat.add_sub_cancel_left,
    List.getD_append _ _ _ _ hi, List.getD_eq_getElem _ _ hi]

end Lines

/-! ## The window's address -/

section Window

variable {s : State}

theorem waddr_words (s : State) : s.waddr % 4 = 0 := by
  unfold State.waddr
  omega

theorem waddr_setWaddr (s : State) {a : Nat} (words : a % 4 = 0) (fits : a < 2 ^ 34) : (s.setWaddr a).waddr = a := by
  have lo : (s.setWaddr a).fld MEM_WADDR_LO MEM_WADDR_LO_ADDR = a % 2 ^ 32 / 4 := by
    rw [State.setWaddr, State.fld_setReg_other _ _ _ (by decide), State.fld, State.reg_setReg_same]
    simp only [fldGet, BitVec.toNat_ofNat, Nat.shiftRight_eq_div_pow]
    omega
  have hi : (s.setWaddr a).fld MEM_WADDR_HI MEM_WADDR_HI_ADDR = a / 2 ^ 32 % 4 := by
    rw [State.setWaddr, State.fld, State.reg_setReg_same]
    simp only [fldGet, BitVec.toNat_ofNat, Nat.shiftRight_eq_div_pow]
    omega
  rw [State.waddr, lo, hi]
  omega

/-- Four bytes at a word's address lie in one line. -/
theorem word_in_line {a i : Nat} (words : a % 4 = 0) (hi : i < 4) : (a + i) / 64 = a / 64 ∧ (a + i) % 64 = a % 64 + i := by omega

/-! ## A write through the window, and a read (R383) -/

/-- The word as a write through the window leaves it in memory. -/
def windowBytes (s : State) (w : Word) : State := ((s.touch 7 s.waddr 4).memWrite s.waddr (leBytes 4 w.toNat)).setReg MEM_WDATA w

/-- A held line with the word in it. -/
def wordPatched (s : State) (w : Word) (c : CLine) : CLine := { c with data := patch c.data (s.waddr % 64) (leBytes 4 w.toNat) }

/-- The word, in the cached copy too where there is one. -/
def windowStored (s : State) (w : Word) : State := match (windowBytes s w).cacheWay (s.waddr / 64) with
  | some k => (windowBytes s w).setLine k (wordPatched s w ((windowBytes s w).lineAt (s.waddr / 64) k))
  | none => windowBytes s w

theorem windowWrite_of_table (table : s.inRegion 1 s.waddr 4 = true) (w : Word) : s.windowWrite w = (windowStored s w).setWaddr (s.waddr + 4) := by
  simp only [State.windowWrite, table, ↓reduceIte]
  rfl

theorem windowRead_of_table (table : s.inRegion 1 s.waddr 4 = true) :
    s.windowRead.1 = BitVec.ofNat 32 (leNat (s.tableRead s.waddr 4)) ∧ ∃ v, s.windowRead.2 = State.setWaddr v (s.waddr + 4) := by
  simp only [State.windowRead, table, ↓reduceIte, true_and]
  exact ⟨_, rfl⟩

theorem windowBytes_mem (s : State) (w : Word) : ∃ rows poison check, (windowBytes s w).mem =
    { s.mem with rows := rows, data := s.mem.data.write s.waddr (leBytes 4 w.toNat), poison := poison, check := check } := by
  rw [windowBytes, State.setReg_mem, memWrite_mem, touch_mem]
  exact ⟨_, _, _, rfl⟩

theorem windowBytes_cache (s : State) (w : Word) : (windowBytes s w).mem.cache = s.mem.cache := by
  obtain ⟨rows, poison, check, mem⟩ := windowBytes_mem s w
  rw [mem]

theorem windowStored_layout (s : State) (w : Word) : (windowStored s w).mem.layout = s.mem.layout := by
  obtain ⟨rows, poison, check, mem⟩ := windowBytes_mem s w
  have layout : (windowBytes s w).mem.layout = s.mem.layout := by rw [mem]
  unfold windowStored
  split <;> exact layout

theorem windowStored_of_miss (miss : s.cacheWay (s.waddr / 64) = none) (w : Word) : windowStored s w = windowBytes s w := by
  rw [windowStored, cacheWay_congr (windowBytes_cache s w), miss]

theorem windowStored_of_hit {k : Nat} (hit : s.cacheWay (s.waddr / 64) = some k) (w : Word) :
    windowStored s w = (windowBytes s w).setLine k (wordPatched s w (s.lineAt (s.waddr / 64) k)) := by
  have line : (windowBytes s w).lineAt (s.waddr / 64) k = s.lineAt (s.waddr / 64) k := by
    rw [State.lineAt, State.lineAt, windowBytes_cache]
  rw [windowStored, cacheWay_congr (windowBytes_cache s w), hit, ← line]

/-- R382, R383: a byte of the table area as a table read sees it. -/
def tableByte (s : State) (a : Nat) : Byte := match s.cacheWay (a / 64) with
  | some w => (s.lineAt (a / 64) w).data.getD (a % 64) 0
  | none => s.mem.data.byte a

theorem tableRead_eq (s : State) (a n : Nat) : s.tableRead a n = (List.range n).map (fun i => tableByte s (a + i)) := rfl

theorem tableByte_of_hit {a k : Nat} (hit : s.cacheWay (a / 64) = some k) : tableByte s a = (s.lineAt (a / 64) k).data.getD (a % 64) 0 := by
  rw [tableByte, hit]

theorem tableByte_of_miss {a : Nat} (miss : s.cacheWay (a / 64) = none) : tableByte s a = s.mem.data.byte a := by
  rw [tableByte, miss]

theorem tableRead_of_bytes {v : State} {a : Nat} {bs : Bytes} (length : bs.length = 4)
    (bytes : ∀ i, (hi : i < 4) → tableByte v (a + i) = bs[i]) : v.tableRead a 4 = bs := by
  rw [tableRead_eq]
  refine List.ext_getElem (by simp [length]) fun i hi _ => ?_
  rw [← bytes i (by simpa using hi), List.getElem_map, List.getElem_range]

/-- R382, R383: a table read after the write sees the word. -/
theorem tableRead_windowStored (whole : (s.cacheWay (s.waddr / 64)).all (fun k => (s.lineAt (s.waddr / 64) k).data.length == 64) = true) (w : Word) :
    (windowStored s w).tableRead s.waddr 4 = leBytes 4 w.toNat := by
  have length : (leBytes 4 w.toNat).length = 4 := length_leBytes 4 _
  refine tableRead_of_bytes length fun i hi => ?_
  obtain ⟨line, off⟩ := word_in_line (waddr_words s) hi
  cases hit : s.cacheWay (s.waddr / 64) with
  | none =>
    obtain ⟨rows, poison, check, mem⟩ := windowBytes_mem s w
    rw [windowStored_of_miss hit, tableByte_of_miss (by rw [cacheWay_congr (windowBytes_cache s w), line, hit]), mem]
    exact Memory.byte_write_inside _ _ _ (by omega)
  | some k =>
    obtain ⟨c, -, held, own⟩ := lineAt_of_hit hit
    have full : c.data.length = 64 := by simpa [hit, held] using whole
    have here : (windowBytes s w).cacheWay (wordPatched s w c).line = some k := by
      rw [cacheWay_congr (windowBytes_cache s w), ← hit, ← own]
      rfl
    have stays : (s.waddr + i) / 64 = (wordPatched s w c).line := line.trans own.symm
    rw [windowStored_of_hit hit, held, tableByte_of_hit (by rw [stays, cacheWay_setLine here]), stays, lineAt_setLine, off]
    exact getD_patch (by omega) (by omega)

/-- A table read looks at the memory alone. -/
theorem tableRead_setWaddr (s : State) (a b n : Nat) : (s.setWaddr a).tableRead b n = s.tableRead b n := rfl

theorem inRegion_of_layout {v : State} (h : v.mem.layout = s.mem.layout) (r a n : Nat) : v.inRegion r a n = s.inRegion r a n := by
  simp only [State.inRegion, State.region, h]

end Window

/-- Settles O54: the memory's own laws, and the window by the cached copy of its line. -/
theorem bufferMemoryReadsBack : Obligations.BufferMemoryReadsBack := by
  refine ⟨?inside, ?outside, ?form, ?window⟩
  case inside =>
    intro a bs k b s h
    obtain ⟨hk, rfl⟩ := List.getElem?_eq_some_iff.mp h
    rw [State.memWrite_data]
    exact Memory.byte_write_inside _ a bs hk
  case outside =>
    intro a c bs s h
    rw [State.memWrite_data]
    exact Memory.byte_write_outside _ a bs h
  case form => exact fun a bs s h => State.memWrite_wf h a bs
  case window =>
    intro w s table ⟨inside, whole⟩
    have words := waddr_words s
    have small : s.waddr + 4 < 2 ^ 34 := lt_of_le_of_lt inside (by decide)
    have next (v : State) : (v.setWaddr (s.waddr + 4)).waddr = s.waddr + 4 := waddr_setWaddr v (by omega) small
    refine ⟨?_, ?_, ?_⟩
    · rw [windowWrite_of_table table]
      generalize back : ((windowStored s w).setWaddr (s.waddr + 4)).setWaddr s.waddr = v
      have there : v.waddr = s.waddr := back ▸ waddr_setWaddr _ words (by omega)
      have read : v.tableRead s.waddr 4 = leBytes 4 w.toNat := by
        rw [← back, tableRead_setWaddr, tableRead_setWaddr, tableRead_windowStored whole]
      have again : v.inRegion 1 v.waddr 4 = true := by
        rw [there, ← table]
        exact inRegion_of_layout (back ▸ windowStored_layout s w) _ _ _
      rw [(windowRead_of_table again).1, there, read, leNat_leBytes, Nat.mod_eq_of_lt (by simpa using w.isLt)]
      exact BitVec.ofNat_toNat _ _
    · rw [windowWrite_of_table table, next]
    · obtain ⟨-, v, moved⟩ := windowRead_of_table table
      rw [moved, next]

end Sys2Proof
end

section
/-!
The statement about refresh, urgency, training and the lehr (R388 to R391, R397, R398).
-/

namespace Sys2Proof

open Machine

section Refresh

variable {s : State}

theorem refreshDue_of_free {c : Fin 4} {fill free : Nat} (on : s.isOn domMEM = true) (calm : (s.fifos fill free).panicWaits c = false) :
    s.refreshDue c fill free = s.fifos fill free := by
  simp only [State.refreshDue, on, calm, Bool.not_true, Bool.not_false, Bool.false_eq_true, ↓reduceIte]

theorem refreshDue_of_panic {c : Fin 4} {fill free : Nat} (on : s.isOn domMEM = true) (panic : (s.fifos fill free).panicWaits c = true) :
    s.refreshDue c fill free = if (s.fifos fill free).fld MEM_REF (pendFld c) + 1 < 8
      then (s.fifos fill free).setFld MEM_REF (pendFld c) ((s.fifos fill free).fld MEM_REF (pendFld c) + 1)
      else ((s.fifos fill free).setFld MEM_REF (pendFld c) 7).bump MEM_REF MEM_REF_FORCED 1 := by
  simp only [State.refreshDue, on, panic, Bool.not_true, Bool.false_eq_true, ↓reduceIte]

theorem inPanic_iff {port : Nat} : s.inPanic port = true ↔
    port = 5 ∧ s.mem.rt0 < 256 * s.fld (MEM_RT 0) MEM_RT_LOW ∨ port = 6 ∧ s.mem.rt1 < 256 * s.fld (MEM_RT 1) MEM_RT_LOW := by
  unfold State.inPanic
  split
  case isTrue h => simp [h]
  case isFalse h => split <;> simp_all

theorem panicWaits_iff {c : Nat} : s.panicWaits c = true ↔
    ∃ r ∈ s.mem.waiting, s.inPanic r.port = true ∧ ∃ x ∈ r.left, s.channelOf x = c := by
  simp [State.panicWaits]

/-- An entry of P5 into PANIC is counted; P6, which is not in PANIC after, counts nothing. -/
theorem fifos_of_free {fill free : Nat} (room : 256 * s.fld (MEM_RT 1) MEM_RT_LOW ≤ free) : s.fifos fill free =
    if fill < 256 * s.fld (MEM_RT 0) MEM_RT_LOW ∧ s.inPanic 5 = false
      then ({ s with mem.rt0 := fill, mem.rt1 := free } : State).bump (MEM_RT 0) MEM_RT_PANICS 1
      else { s with mem.rt0 := fill, mem.rt1 := free } := by
  have five : ({ s with mem.rt0 := fill, mem.rt1 := free } : State).inPanic 5 = decide (fill < 256 * s.fld (MEM_RT 0) MEM_RT_LOW) := rfl
  have six : ({ s with mem.rt0 := fill, mem.rt1 := free } : State).inPanic 6 = false := decide_eq_false (Nat.not_lt.mpr room)
  simp only [State.fifos, List.foldl_cons, List.foldl_nil, five, six, Bool.false_eq_true, if_false, Bool.and_eq_true,
    decide_eq_true_eq, Bool.not_eq_true', false_and, Nat.sub_self]

end Refresh

/-- The oldest request of a port that is not URGENT, behind requests that are URGENT or another port's, becomes so. -/
theorem makeUrgent_append {port : Nat} {before after' : List MemReq} {r : MemReq} (own : r.port = port ∧ r.urgent = false)
    (older : ∀ q ∈ before, q.port ≠ port ∨ q.urgent = true) :
    makeUrgent port (before ++ r :: after') = before ++ { r with urgent := true } :: after' := by
  induction before with
  | nil => exact if_pos own
  | cons q l ih =>
    have skip : ¬ (q.port = port ∧ q.urgent = false) := by
      rintro ⟨same, calm⟩
      rcases older q List.mem_cons_self with other | urgent
      · exact other same
      · rw [urgent] at calm; cases calm
    exact (if_neg skip).trans (congrArg (q :: ·) (ih fun x h => older x (List.mem_cons_of_mem q h)))

section Training

variable {s : State}

theorem roundEnds_eq (kept : List Nat) : s.roundEnds kept =
    let v := (s.bump MEM_TRAIN MEM_TRAIN_ROUNDS 1).setFld MEM_STAT MEM_STAT_KEEP (maskOf kept)
    let v := ({ v with mem.round := false, mem.trainedAt := s.now } : State).setBit MEM_CTL MEM_CTL_TRAIN false
    if kept = [] then v else (v.bump MEM_TRAIN MEM_TRAIN_FAILS 1).raise 18 [maskOf kept] := by
  cases kept <;> rfl

/-- A round is called for by TRAIN, by the period or by the temperature. -/
theorem roundCalled_of {temp : Int} (due : s.mem.round = true ∨
      (s.fld MEM_CTL MEM_CTL_PERIOD ≠ 0 ∧ s.mem.trainedAt + s.fld MEM_CTL MEM_CTL_PERIOD * 60000000 ≤ s.now) ∨
      (s.fld MEM_CTL MEM_CTL_DTEMP ≠ 0 ∧ s.fld MEM_CTL MEM_CTL_DTEMP ≤ (temp - s.fldInt MEM_STAT MEM_STAT_TEMP).natAbs)) :
    (s.mem.round || s.roundDue || s.roundTemp temp) = true := by
  rcases due with asked | period | moved
  · rw [asked]; rfl
  · have : s.roundDue = true := by simpa [State.roundDue] using period
    simp [this]
  · have : s.roundTemp temp = true := by simpa [State.roundTemp] using moved
    simp [this]

theorem trainingRound_of_called {temp : Int} {found : List (Option Nat)} (on : s.isOn domMEM = true) (ready : s.bit MEM_STAT MEM_STAT_READY = true)
    (called : (s.mem.round || s.roundDue || s.roundTemp temp) = true) : s.trainingRound temp found =
    let v := s.setFldInt MEM_STAT MEM_STAT_TEMP temp
    let set (c : Nat) : Option Nat := match found.getD c none with | some x => some x | none => s.mem.settings.getD c none
    ({ v with mem.settings := (List.range 4).map set } : State).roundEnds ((List.range 4).filter (fun c => (found.getD c none).isNone)) :=
  if_neg (by rw [on, ready, called]; exact Bool.false_ne_true)

theorem trainingTimeout_of_open {left : List Nat} (on : s.isOn domMEM = true) (ready : s.bit MEM_STAT MEM_STAT_READY = true)
    (due : s.mem.round = true ∨ s.roundDue = true) (some' : left ≠ []) :
    s.trainingTimeout left = s.roundEnds (left.filter (fun c => decide (c < 4))) := by
  have runs : (s.mem.round || s.roundDue) = true := by simpa using due
  have open' : left.isEmpty = false := by simpa using some'
  simp only [State.trainingTimeout, on, ready, runs, open', Bool.not_true, Bool.or_self, Bool.false_eq_true, ↓reduceIte]

end Training

section Lehr

variable {s : State}

theorem channelBusy_iff {line : Nat} :
    s.channelBusy line = true ↔ ∃ r ∈ s.mem.waiting, ∃ x ∈ r.left, s.channelOf x = s.channelOf line := by
  simp [State.channelBusy]

theorem lehrRead_of_idle {wrong : List LineBit} (on : s.isOn domMEM = true) (ready : s.bit MEM_STAT MEM_STAT_READY = true)
    (idle : s.channelBusy s.mem.lehr = false) : s.lehrRead wrong =
    let v := ((s.touch 9 (64 * s.mem.lehr) 64).eccLine s.mem.lehr (wrong.map (·.val))).tablesJudged s
    if v.mem.lehr + 1 < memEnd / 64 then { v with mem.lehr := v.mem.lehr + 1 }
    else { ((v.setFld MEM_LAP MEM_LAP_LAST (min (v.mem.lapTime / 60000000) 65535)).setFld MEM_LAP MEM_LAP_NOW 0) with
      mem.lehr := 0, mem.lapRaised := false, mem.lapTime := 0 } :=
  if_neg (by rw [on, ready, idle]; exact Bool.false_ne_true)

theorem lapTick_lapTime (on : s.isOn domMEM = true) : s.lapTick.mem.lapTime = s.mem.lapTime + 1 := by
  simp only [State.lapTick, on, Bool.not_true, Bool.false_eq_true, ↓reduceIte]
  split <;> rfl

/-- A minute of the lap has passed. -/
theorem lapTick_now (on : s.isOn domMEM = true) (minute : 60000000 ∣ s.mem.lapTime + 1) :
    s.lapTick.fld MEM_LAP MEM_LAP_NOW = min ((s.mem.lapTime + 1) / 60000000) 65535 := by
  have whole : (s.mem.lapTime + 1) % 60000000 = 0 := Nat.mod_eq_zero_of_dvd minute
  simp only [State.lapTick, on, whole, Bool.not_true, Bool.false_eq_true, ↓reduceIte]
  rw [State.fld_setFld_same _ _ _ _ (by decide)]
  exact Nat.mod_eq_of_lt (Nat.lt_of_le_of_lt (Nat.min_le_right _ _) (by decide))

theorem lapOverrun_of_passed (on : s.isOn domMEM = true) (limit : s.fld MEM_SCRUB MEM_SCRUB_LAPMAX ≠ 0)
    (passed : s.fld MEM_SCRUB MEM_SCRUB_LAPMAX < s.mem.lapTime / 60000000) (first : s.mem.lapRaised = false) :
    s.lapOverrun = ({ s with mem.lapRaised := true } : State).raise 21 [s.mem.lapTime / 60000000] := by
  have beyond : ¬ (s.fld MEM_SCRUB MEM_SCRUB_LAPMAX = 0 ∨ s.lapMinutes ≤ s.fld MEM_SCRUB MEM_SCRUB_LAPMAX) :=
    not_or.mpr ⟨limit, Nat.not_le.mpr passed⟩
  exact if_neg (by rw [on, decide_eq_false beyond, first]; exact Bool.false_ne_true)

theorem lapOverrun_of_quiet (quiet : s.fld MEM_SCRUB MEM_SCRUB_LAPMAX = 0 ∨ s.mem.lapTime / 60000000 ≤ s.fld MEM_SCRUB MEM_SCRUB_LAPMAX ∨
    s.mem.lapRaised = true) : s.lapOverrun = s := by
  refine if_pos ?_
  rcases quiet with unlimited | within | raised
  · simp [unlimited]
  · have : s.lapMinutes ≤ s.fld MEM_SCRUB MEM_SCRUB_LAPMAX := within
    simp [this]
  · simp [raised]

end Lehr

/-- Settles O41: each event of the memory's upkeep by the conditions that let it do its work. -/
theorem refreshTrainingAndLehr : Obligations.RefreshTrainingAndLehr := by
  refine ⟨?refresh, ?postponed, ?panic, ?entry, ?urgent, ?round, ?uncalled, ?abandoned, ?lehr, ?busy, ?lap, ?overrun, ?quiet⟩
  case refresh => exact fun c fill free s ⟨on, calm⟩ => exec_of_ends rfl (refreshDue_of_free on calm)
  case postponed => exact fun c fill free s ⟨on, panic⟩ => exec_of_ends rfl (refreshDue_of_panic on panic)
  case panic => exact fun port c s => ⟨inPanic_iff, panicWaits_iff⟩
  case entry => exact fun fill free s ⟨_, room⟩ => fifos_of_free room
  case urgent =>
    intro port before after' r s other ⟨waiting, own⟩ older
    have plain : ¬ (port.val = 5 ∨ port.val = 6 ∨ port.val = 9) := by
      rintro (h | h | h)
      exacts [other.1 h, other.2.1 h, other.2.2 h]
    refine exec_of_ends rfl ((if_neg plain).trans ?_)
    rw [waiting, makeUrgent_append own older]
  case round =>
    exact fun temp found s ⟨on, ready⟩ due => exec_of_ends rfl ((trainingRound_of_called on ready (roundCalled_of due)).trans (roundEnds_eq _))
  case uncalled =>
    intro temp found s ⟨asked, period, moved⟩
    exact exec_of_ends rfl (if_pos (by rw [asked, period, moved]; simp))
  case abandoned =>
    intro left s ⟨on, ready⟩ ⟨some', due⟩
    have all : (left.map (·.val)).filter (fun c => decide (c < 4)) = left.map (·.val) :=
      List.filter_eq_self.mpr (by simp)
    have some'' : left.map (·.val) ≠ [] := by simpa using some'
    refine exec_of_ends rfl ((trainingTimeout_of_open on ready due some'').trans ?_)
    rw [roundEnds_eq, all]
    exact if_neg some''
  case lehr => exact fun wrong s ⟨on, ready⟩ idle => exec_of_ends rfl (lehrRead_of_idle on ready idle)
  case busy => exact fun wrong s waits => exec_of_ends rfl (if_pos (by rw [channelBusy_iff.mpr waits]; simp))
  case lap => exact fun s on => ⟨lapTick_lapTime on, lapTick_now on⟩
  case overrun => exact fun s ⟨on, limit, passed, first⟩ => exec_of_ends rfl (lapOverrun_of_passed on limit passed first)
  case quiet => exact fun s quiet => exec_of_ends rfl (lapOverrun_of_quiet quiet)

end Sys2Proof
end

section
/-!
The statement about the registers of the memory, the window and the control cache (R381 to R384, R390, R396, R405, R406, R409).
-/

namespace Sys2Proof

open Machine

/-! ## Where a write goes (Table 14.8) -/

section Routes

variable (s : State) (w : Word) (data : Bytes)

theorem applyWrite_memLayout (i : Fin 7) :
    s.applyWrite 0 (if i.val < 3 then MEM_LAY i.val else POOL_CNT (i.val - 3)).key w data = s.writeLayout i w := by
  fin_cases i <;> rfl

theorem applyWrite_memXor (k : Fin 6) (hi : Bool) :
    s.applyWrite 0 (if hi then MEM_XOR_HI k.val else MEM_XOR_LO k.val).key w data = s.writeXor k hi w := by
  cases hi <;> fin_cases k <;> rfl

theorem applyWrite_memRemap (i : Fin 32) : s.applyWrite 0 (MEM_REMAP i.val).key w data = s.writeRemap i w := by
  fin_cases i <;> rfl

theorem applyWrite_memWdata : s.applyWrite 0 MEM_WDATA.key w data = s.windowWrite w := rfl

theorem applyWrite_ccMaint : s.applyWrite 0 CC_MAINT.key w data = (s.writeMaint w).tablesJudged s := rfl

theorem applyWrite_ccCtl : s.applyWrite 0 CC_CTL.key w data = s.writeCcCtl w := rfl

theorem applyRead_memWdata : s.applyRead 0 .bar0 MEM_WDATA.key = s.windowRead.2.emit (.readData s.windowRead.1) := rfl

end Routes

section Writes

variable {s : State}

theorem writeWord_memLayout {i : Fin 7} (reach : Reaches s 0 (if i.val < 3 then MEM_LAY i.val else POOL_CNT (i.val - 3)).key) (w : Word) :
    s.writeWord (if i.val < 3 then MEM_LAY i.val else POOL_CNT (i.val - 3)) w = s.writeLayout i w := by
  have place : (if i.val < 3 then MEM_LAY i.val else POOL_CNT (i.val - 3)).place =
      (0, (if i.val < 3 then MEM_LAY i.val else POOL_CNT (i.val - 3)).key) := by fin_cases i <;> rfl
  rw [State.writeWord, place, access_of_reaches reach, applyWrite_memLayout]

theorem writeWord_memXor {k : Fin 6} {hi : Bool} (reach : Reaches s 0 (if hi then MEM_XOR_HI k.val else MEM_XOR_LO k.val).key) (w : Word) :
    s.writeWord (if hi then MEM_XOR_HI k.val else MEM_XOR_LO k.val) w = s.writeXor k hi w := by
  have place : (if hi then MEM_XOR_HI k.val else MEM_XOR_LO k.val).place =
      (0, (if hi then MEM_XOR_HI k.val else MEM_XOR_LO k.val).key) := by cases hi <;> fin_cases k <;> rfl
  rw [State.writeWord, place, access_of_reaches reach, applyWrite_memXor]

theorem writeWord_memRemap {i : Fin 32} (reach : Reaches s 0 (MEM_REMAP i.val).key) (w : Word) :
    s.writeWord (MEM_REMAP i.val) w = s.writeRemap i w := by
  have place : (MEM_REMAP i.val).place = (0, (MEM_REMAP i.val).key) := by fin_cases i <;> rfl
  rw [State.writeWord, place, access_of_reaches reach, applyWrite_memRemap]

theorem writeWord_memWdata (reach : Reaches s 0 MEM_WDATA.key) (w : Word) : s.writeWord MEM_WDATA w = s.windowWrite w :=
  (access_of_reaches reach w []).trans (applyWrite_memWdata s w [])

theorem read_memWdata (reach : Reaches s 0 MEM_WDATA.key) :
    s.accessRead 0 MEM_WDATA.key = s.windowRead.2.emit (.readData s.windowRead.1) :=
  (accessRead_of_reaches reach).trans (applyRead_memWdata s)

theorem access_ccMaint (reach : Reaches s 0 CC_MAINT.key) (w : Word) (data : Bytes) :
    s.access 0 CC_MAINT.key w data = (s.writeMaint w).tablesJudged s :=
  (access_of_reaches reach w data).trans (applyWrite_ccMaint s w data)

theorem access_ccCtl (reach : Reaches s 0 CC_CTL.key) (w : Word) (data : Bytes) : s.access 0 CC_CTL.key w data = s.writeCcCtl w :=
  (access_of_reaches reach w data).trans (applyWrite_ccCtl s w data)

/-! ## The layout and the selectors (R381, R384) -/

theorem writeLayout_eq (i : Fin 7) (w : Word) :
    let v := if i.val < 3 then fldGet MEM_LAY_SIZE w else fldGet POOL_CNT_COUNT w
    s.writeLayout i w =
      if s.bit MEM_CTL MEM_CTL_LOCK = true ∨ layoutBytes (s.layoutRegs.set i.val v) > memEnd ∨ (i = 6 ∧ v < 65) ∨ (3 ≤ i.val ∧ v > 4194304) then
        s.raise 17 []
      else if i.val < 3 then s.setFld (MEM_LAY i) MEM_LAY_SIZE v
      else (s.setFld (POOL_CNT (i - 3)) POOL_CNT_COUNT v).setFld (POOL_STAT (i - 3)) POOL_STAT_FREE v := by
  have last : i = 6 ↔ i.val = 6 := Fin.ext_iff
  simp only [State.writeLayout, Bool.or_eq_true, decide_eq_true_eq, last]

theorem writeXor_eq (k : Nat) (hi : Bool) (w : Word) :
    let ok := if hi then decide (w.toNat < 4) else decide (w.toNat % 4096 = 2 ^ (6 + k))
    s.writeXor k hi w = if s.bit MEM_CTL MEM_CTL_LOCK = true ∨ ok = false then s.raise 17 []
      else if hi then s.setReg (MEM_XOR_HI k) w else s.setReg (MEM_XOR_LO k) w := by
  simp only [State.writeXor, Bool.or_eq_true, Bool.not_eq_true']

/-! ## The window (R383) -/

theorem windowRead_in_table (table : s.inRegion 1 s.waddr 4 = true) :
    let w := BitVec.ofNat 32 (leNat (s.tableRead s.waddr 4))
    let v := if s.tablePoisoned s.waddr 4 then s.setBit MEM_WSTAT MEM_WSTAT_POISON true else s
    let v := if s.cacheWay (s.waddr / 64) = none then v.touch 7 s.waddr 4 else v
    s.windowRead = (w, (v.setReg MEM_WDATA w).setWaddr (s.waddr + 4)) := by
  have way (v : State) (h : v = s ∨ v = s.setBit MEM_WSTAT MEM_WSTAT_POISON true) : v.cacheWay (s.waddr / 64) = s.cacheWay (s.waddr / 64) := by
    rcases h with rfl | rfl <;> rfl
  have same := way (if s.tablePoisoned s.waddr 4 then s.setBit MEM_WSTAT MEM_WSTAT_POISON true else s) (by split <;> simp)
  simp only [State.windowRead, table, same, Option.isNone_iff_eq_none, ↓reduceIte]

theorem windowRead_outside (outside : s.inRegion 1 s.waddr 4 = false) :
    s.windowRead = (0xFFFFFFFF#32, (s.setBit MEM_WSTAT MEM_WSTAT_ERR true).setWaddr (s.waddr + 4)) := by
  simp only [State.windowRead, outside, Bool.false_eq_true, ↓reduceIte]

theorem windowWrite_outside (outside : s.inRegion 1 s.waddr 4 = false) (w : Word) :
    s.windowWrite w = (s.setBit MEM_WSTAT MEM_WSTAT_ERR true).setWaddr (s.waddr + 4) := by
  simp only [State.windowWrite, outside, Bool.false_eq_true, ↓reduceIte]

/-! ## A line that moves (R396) -/

theorem moveLine_mem (l i b : Nat) :
    let v := s.moveLine l (fun u => u.setFld (MEM_REMAP i) MEM_REMAP_VALID b)
    v.mem.data = s.mem.data ∧ v.mem.poison = s.mem.poison
      ∧ SMap.get? v.mem.check (v.checkKey l) = some (checkWord (s.mem.data.read (64 * l) 64) (s.poisoned l) l) :=
  ⟨rfl, rfl, SMap.get?_ins_same _ _ _⟩

/-! ## A training round that software asks for (R390) -/

theorem onlyRegs_setReg (r : Reg) (w : Word) : OnlyRegs s (s.setReg r w) [r.key] :=
  ⟨rfl, fun q apart => s.reg_setReg_other w fun same => apart (by rw [same]; exact List.mem_singleton_self _)⟩

theorem OnlyRegs.setReg {v : State} {r : Reg} (h : OnlyRegs s v [r.key]) (w : Word) : OnlyRegs s (v.setReg r w) [r.key] := by
  refine ⟨?_, fun q apart => ?_⟩
  · exact congrArg (State.setReg · r w) h.rest
  · rw [v.reg_setReg_other w fun same => apart (by rw [same]; exact List.mem_singleton_self _), h.others q apart]

/-- The access row of MEM_CTL. -/
def memCtlRow : RegRow := ⟨0x50000, 4, 1, fun _ => MEM_CTL, 0xFFFFFF00#32, 0x0#32, 0x4#32, 0x0#32⟩

theorem applyWrite_memCtl (w : Word) (data : Bytes) : s.applyWrite 0 MEM_CTL.key w data = s.writeMemCtl w memCtlRow := rfl

theorem writeMemCtl_of_train {w : Word} (train : fldGet MEM_CTL_TRAIN w = 1) : s.writeMemCtl w memCtlRow =
    { (s.plainWrite memCtlRow MEM_CTL w).setBit MEM_CTL MEM_CTL_TRAIN true with mem.round := true } := by
  rw [State.writeMemCtl, train]
  rfl

theorem memCtlTrain (reach : Reaches s 0 MEM_CTL.key) : ∃ v, OnlyRegs s v [MEM_CTL.key] ∧ v.bit MEM_CTL MEM_CTL_TRAIN = true
    ∧ s.writeField MEM_CTL [(MEM_CTL_TRAIN, 1)] [] = { v with mem.round := true } := by
  refine ⟨(s.plainWrite memCtlRow MEM_CTL (fldSet MEM_CTL_TRAIN (s.reg MEM_CTL) 1)).setBit MEM_CTL MEM_CTL_TRAIN true,
    (onlyRegs_setReg _ _).setReg _, ?train, ?written⟩
  case written =>
    have asked : fldGet MEM_CTL_TRAIN (fldSet MEM_CTL_TRAIN (s.reg MEM_CTL) 1) = 1 := fldGet_fldSet_same _ _ _ (by decide)
    exact (access_of_reaches reach _ []).trans ((applyWrite_memCtl _ []).trans (writeMemCtl_of_train asked))
  case train => exact bit_setBit_same _ MEM_CTL (by decide) true

/-! ## A maintenance operation that begins (R406, R409) -/

/-- A field that a mask leaves alone. -/
theorem fldGet_masked {f : Fld} {m : Word} (whole : ∀ i : Fin 32, f.lo ≤ i ∧ i ≤ f.hi → m.getLsbD i = true) (bound : f.hi < 32) (w : Word) :
    fldGet f (w &&& m) = fldGet f w := by
  refine Nat.eq_of_testBit_eq fun i => ?_
  rw [fldGet_testBit, fldGet_testBit, BitVec.getLsbD_and]
  by_cases inside : i < f.hi + 1 - f.lo
  · rw [whole ⟨f.lo + i, by omega⟩ ⟨Nat.le_add_right _ _, by simp only; omega⟩, Bool.and_true]
  · simp only [inside, decide_false, Bool.false_and]

/-- CC_MAINT with the word of an operation in it, and BUSY. -/
def maintBegun (s : State) (w : Word) : State := (s.setReg CC_MAINT (w &&& 0x01FFFFFF#32)).setBit CC_MAINT CC_MAINT_BUSY true

theorem maintBegun_onlyRegs (w : Word) : OnlyRegs s (maintBegun s w) [CC_MAINT.key] := (onlyRegs_setReg _ _).setReg _

theorem maintBegun_busy (w : Word) : (maintBegun s w).bit CC_MAINT CC_MAINT_BUSY = true := bit_setBit_same _ CC_MAINT (by decide) true

/-- A field of the operation, as written. -/
theorem maintBegun_fld {f : Fld} (below : f.hi < 25) (whole : ∀ i : Fin 32, f.lo ≤ i ∧ i ≤ f.hi → (0x01FFFFFF#32).getLsbD i = true) (w : Word) :
    (maintBegun s w).fld CC_MAINT f = fldGet f w := by
  rw [maintBegun, State.setBit, State.fld_setFld_field _ _ _ _ _ (by omega) (Or.inl (by simp only; omega)), State.fld, State.reg_setReg_same]
  exact fldGet_masked whole (by omega) w

theorem writeMaint_of_go {w : Word} (free : s.bit CC_MAINT CC_MAINT_BUSY = false) (go : fldGet CC_MAINT_GO w = 1)
    (known : 1 ≤ fldGet CC_MAINT_OP w ∧ fldGet CC_MAINT_OP w ≤ 4) (way : fldGet CC_MAINT_OP w = 4 → fldGet CC_MAINT_WAY w ≠ 15) :
    s.writeMaint w = (maintBegun s w).maintRun := by
  have runs : ¬ (fldGet CC_MAINT_GO w = 0 ∨ fldGet CC_MAINT_OP w = 0 ∨ 4 < fldGet CC_MAINT_OP w
      ∨ (fldGet CC_MAINT_OP w = 4 ∧ fldGet CC_MAINT_WAY w = 15)) := by
    rintro (h | h | h | ⟨four, last⟩)
    · omega
    · omega
    · omega
    · exact way four last
  simp only [State.writeMaint, free, runs, Bool.false_eq_true, ↓reduceIte]
  rfl

theorem maintRun_of_line {op : Nat} (h : s.fld CC_MAINT CC_MAINT_OP = op) (low : 1 ≤ op ∧ op ≤ 3) :
    s.maintRun = s.maintLines.foldl (fun u l => u.maintLine op l) s := by
  rw [State.maintRun, h]
  exact if_pos low

/-- The word of CLEAN, INVALIDATE and CLEAN_INVALIDATE. -/
abbrev maintWord (w : Word) (op len : Nat) : Word := fldSet CC_MAINT_GO (fldSet CC_MAINT_LEN (fldSet CC_MAINT_OP w op) len) 1

theorem maintWord_fields (w : Word) {op len : Nat} (known : op < 16) (fits : len < 4096) : fldGet CC_MAINT_GO (maintWord w op len) = 1
    ∧ fldGet CC_MAINT_OP (maintWord w op len) = op ∧ fldGet CC_MAINT_LEN (maintWord w op len) = len := by
  refine ⟨fldGet_fldSet_same _ _ _ (by decide), ?_, ?_⟩
  · rw [maintWord, fldGet_fldSet_other _ _ _ _ (by decide) (by decide), fldGet_fldSet_other _ _ _ _ (by decide) (by decide),
      fldGet_fldSet_same _ _ _ (by decide)]
    exact Nat.mod_eq_of_lt known
  · rw [maintWord, fldGet_fldSet_other _ _ _ _ (by decide) (by decide), fldGet_fldSet_same _ _ _ (by decide)]
    exact Nat.mod_eq_of_lt fits

theorem writeMaint_of_line (free : s.bit CC_MAINT CC_MAINT_BUSY = false) {op len : Nat} (low : 1 ≤ op ∧ op ≤ 3) (fits : len < 4096) :
    let v := maintBegun s (maintWord (s.reg CC_MAINT) op len)
    v.fld CC_MAINT CC_MAINT_OP = op ∧ v.fld CC_MAINT CC_MAINT_LEN = len
      ∧ s.writeMaint (maintWord (s.reg CC_MAINT) op len) = v.maintLines.foldl (fun u l => u.maintLine op l) v := by
  obtain ⟨go, which, length⟩ := maintWord_fields (s.reg CC_MAINT) (show op < 16 by omega) fits
  have named : (maintBegun s (maintWord (s.reg CC_MAINT) op len)).fld CC_MAINT CC_MAINT_OP = op :=
    (maintBegun_fld (by decide) (by decide) _).trans which
  refine ⟨named, (maintBegun_fld (by decide) (by decide) _).trans length, ?_⟩
  rw [writeMaint_of_go free go (by omega) (by omega), maintRun_of_line named low]

/-- A write while an operation runs changes nothing. -/
theorem access_of_busy (reach : Reaches s 0 CC_MAINT.key) (busy : s.bit CC_MAINT CC_MAINT_BUSY = true) (w : Word) :
    s.access 0 CC_MAINT.key w [] = s := by
  have kept : s.writeMaint w = s := if_pos busy
  rw [access_ccMaint reach, kept]
  exact if_pos ⟨rfl, rfl⟩

/-! ## A PRELOAD (R406, R409) -/

/-- `v` differs from `s` in the memory and its cache only. -/
structure OnlyMem (s v : State) : Prop where
  rest : v = { s with mem := v.mem }

namespace OnlyMem

variable {u v : State}

theorem refl (s : State) : OnlyMem s s := ⟨rfl⟩

theorem trans (h : OnlyMem s u) (k : OnlyMem u v) : OnlyMem s v := by
  have same := congrArg (fun x : State => ({ x with mem := v.mem } : State)) h.rest
  exact ⟨k.rest.trans same⟩

theorem regs (h : OnlyMem s v) : v.regs = s.regs := by rw [h.rest]

theorem power (h : OnlyMem s v) : v.power = s.power := by rw [h.rest]

theorem foldl {α : Type} {f : State → α → State} (h : ∀ x a, OnlyMem x (f x a)) (l : List α) (k : OnlyMem s v) : OnlyMem s (l.foldl f v) :=
  List.foldlRecOn l f k fun x kept a _ => kept.trans (h x a)

end OnlyMem

theorem onlyMem_touchLine (s : State) (h : Hint) (l : Nat) : OnlyMem s (s.touchLine h l) := by
  cases h <;> exact ⟨rfl⟩

theorem onlyMem_touch (s : State) (port a n : Nat) : OnlyMem s (s.touch port a n) :=
  OnlyMem.foldl (fun u l => onlyMem_touchLine u _ l) _ (OnlyMem.refl s)

theorem onlyMem_sealLine (s : State) (l : Nat) : OnlyMem s (s.sealLine l) := ⟨rfl⟩

theorem onlyMem_setPoison (s : State) (l : Nat) (b : Bool) : OnlyMem s (s.setPoison l b) := ⟨rfl⟩

theorem onlyMem_memWrite (s : State) (a : Nat) (bs : Bytes) : OnlyMem s (s.memWrite a bs) :=
  OnlyMem.foldl onlyMem_sealLine _ ⟨rfl⟩

theorem onlyMem_writeBack (s : State) (c : CLine) : OnlyMem s (s.writeBack c) := by
  unfold State.writeBack
  split
  · exact ((onlyMem_touch s _ _ _).trans (onlyMem_memWrite _ _ _)).trans (onlyMem_setPoison _ _ _)
  · exact OnlyMem.refl s

theorem onlyMem_dropLine (s : State) (line w : Nat) : OnlyMem s (s.dropLine line w) := ⟨rfl⟩

theorem onlyMem_fillLine (s : State) (line w ctx : Nat) : OnlyMem s (s.fillLine line w ctx) := by
  unfold State.fillLine
  have filled (u : State) (h : OnlyMem s u) (c : CLine) : OnlyMem s ((u.touch 7 (64 * line) 64).setLine w c) :=
    h.trans ((onlyMem_touch u _ _ _).trans ⟨rfl⟩)
  split
  · exact filled _ (onlyMem_writeBack s _) _
  · exact filled _ (OnlyMem.refl s) _

/-- `v` has the word of CC_MAINT and the entry to a low-power state that `s` has. -/
def MaintKept (s v : State) : Prop := v.reg CC_MAINT = s.reg CC_MAINT ∧ v.power.entry = s.power.entry

theorem MaintKept.trans {u v : State} (h : MaintKept s u) (k : MaintKept u v) : MaintKept s v := ⟨k.1.trans h.1, k.2.trans h.2⟩

theorem OnlyMem.maintKept {v : State} (h : OnlyMem s v) : MaintKept s v :=
  ⟨by rw [State.reg, State.reg, h.regs], by rw [h.power]⟩

theorem maintKept_setReg {r : Reg} (apart : r.key ≠ CC_MAINT.key) (w : Word) : MaintKept s (s.setReg r w) :=
  ⟨s.reg_setReg_other w apart, rfl⟩

theorem maintKept_wakeOne (d : Nat) : MaintKept s (s.wakeOne d) := by
  unfold State.wakeOne State.setDom
  split
  · exact ⟨rfl, rfl⟩
  · split
    · dsimp only
      split
      · exact maintKept_setReg (r := PM_DSTAT_LO) (by decide) _
      · exact maintKept_setReg (r := PM_DSTAT_HI) (by decide) _
    · exact ⟨rfl, rfl⟩

theorem maintKept_wake (free : s.power.entry = none) (d : Nat) : MaintKept s (s.wake d) := by
  have begun : s.demand d = s := by simp only [State.demand, free]
  rw [State.wake, begun]
  exact List.foldlRecOn (motive := MaintKept s) _ _ ⟨rfl, rfl⟩ fun v kept x _ => kept.trans (maintKept_wakeOne x)

theorem maintKept_eventMsg (free : s.power.entry = none) (f : Fn) (v : Nat) : MaintKept s (s.eventMsg f v) := by
  unfold State.eventMsg State.postMsg
  split
  · exact maintKept_setReg (r := EVT_LOGSTAT) (by decide) _
  · split
    · exact ⟨rfl, rfl⟩
    · split
      · have first := maintKept_wake (s := { s with pcie.heldMsgs := s.pcie.heldMsgs ++ [(f.val, v)] }) free domHOST
        exact first.trans (maintKept_wake (first.2.trans free) domCORE)
      · split <;> exact ⟨rfl, rfl⟩

theorem maintKept_logEvent (e ctx fn : Nat) (detail : List Nat) : MaintKept s (s.logEvent e ctx fn detail) := by
  unfold State.logEvent
  split
  · exact maintKept_setReg (r := EVT_LOGSTAT) (by decide) _
  · split
    · split
      · exact ⟨rfl, rfl⟩
      · split
        · exact MaintKept.trans (u := { s with evt.log := _, evt.lost := _ }) ⟨rfl, rfl⟩ (maintKept_setReg (r := EVT_LOGSTAT) (by decide) _)
        · exact ⟨rfl, rfl⟩
    · exact ⟨rfl, rfl⟩

/-- A refused access raises E016, which leaves the operation's word (R380). -/
theorem maintKept_raise (free : s.power.entry = none) (detail : List Nat) : MaintKept s (s.raise 16 detail) := by
  have logged : MaintKept s ((s.setPending 16).logEvent 16 31 0xFF detail) :=
    (maintKept_setReg (r := EVT_PEND 0) (by decide) _).trans (maintKept_logEvent _ _ _ _)
  unfold State.raise State.raiseIn
  split
  · exact ⟨rfl, rfl⟩
  · dsimp only
    split
    · exact logged.trans (maintKept_eventMsg (logged.2.trans free) _ _)
    · exact logged

/-- R406, R409: what a PRELOAD into way `way` with owner `ctx` does to a line. -/
def preloadLine (way ctx : Nat) (s : State) (l : Nat) : State :=
  if memEnd ≤ 64 * l then s.raise 16 [7]
  else if s.cacheable (64 * l) = false ∨ (s.cacheWay l).any (fun w => w != way && s.wayLocked w) = true then s
  else (match s.cacheWay l with | some w => (s.writeBack (s.lineAt l w)).dropLine l w | none => s).fillLine l way ctx

theorem maintKept_preloadLine (free : s.power.entry = none) (way ctx l : Nat) : MaintKept s (preloadLine way ctx s l) := by
  unfold preloadLine
  split
  · exact maintKept_raise free [7]
  · split
    · exact ⟨rfl, rfl⟩
    · refine OnlyMem.maintKept (OnlyMem.trans ?_ (onlyMem_fillLine _ _ _ _))
      split
      · exact (onlyMem_writeBack s _).trans (onlyMem_dropLine _ _ _)
      · exact OnlyMem.refl s

/-- A fold whose step depends on what it keeps. -/
theorem foldl_congr_of_kept {α : Type} {P : State → Prop} {f g : State → α → State} (step : ∀ u a, P u → f u a = g u a ∧ P (g u a)) (l : List α)
    (h : P s) : l.foldl f s = l.foldl g s := by
  induction l generalizing s with
  | nil => rfl
  | cons a l ih =>
    obtain ⟨same, kept⟩ := step s a h
    rw [List.foldl_cons, List.foldl_cons, same, ih kept]

theorem maintRun_of_preload {way ctx : Nat} (free : s.power.entry = none) (op : s.fld CC_MAINT CC_MAINT_OP = 4)
    (named : s.fld CC_MAINT CC_MAINT_WAY = way) (owner : s.fld CC_MAINT CC_MAINT_CTX = ctx) :
    s.maintRun = s.maintLines.foldl (preloadLine way ctx) s := by
  rw [State.maintRun, op]
  refine foldl_congr_of_kept (P := MaintKept s) (fun u l kept => ⟨?_, kept.trans (maintKept_preloadLine (kept.2.trans free) way ctx l)⟩) _ ⟨rfl, rfl⟩
  have fields {v : State} (k : MaintKept u v) : v.fld CC_MAINT CC_MAINT_WAY = way ∧ v.fld CC_MAINT CC_MAINT_CTX = ctx :=
    ⟨by rw [State.fld, k.1, kept.1]; exact named, by rw [State.fld, k.1, kept.1]; exact owner⟩
  obtain ⟨way', ctx'⟩ := fields ⟨rfl, rfl⟩
  simp only [preloadLine, way']
  by_cases beyond : memEnd ≤ 64 * l
  · simp only [beyond, ↓reduceIte]
  · cases region : u.cacheable (64 * l)
    case false => simp only [beyond, Bool.not_false, true_or, ↓reduceIte]
    case true => cases hit : u.cacheWay l with
      | none => simp only [beyond, way', ctx', Option.any_none, Bool.not_true, Bool.true_eq_false, Bool.false_eq_true, or_self, ↓reduceIte]
      | some k =>
        obtain ⟨way'', ctx''⟩ := fields ((onlyMem_writeBack u (u.lineAt l k)).trans (onlyMem_dropLine _ l k)).maintKept
        simp only [beyond, way'', ctx'', Option.any_some, Bool.not_true, Bool.true_eq_false, Bool.false_eq_true, false_or, ↓reduceIte]

/-- The word of PRELOAD. -/
abbrev preloadWord (w : Word) (len way ctx : Nat) : Word :=
  fldSet CC_MAINT_GO (fldSet CC_MAINT_CTX (fldSet CC_MAINT_WAY (fldSet CC_MAINT_LEN (fldSet CC_MAINT_OP w 4) len) way) ctx) 1

theorem preloadWord_fields (w : Word) {len way ctx : Nat} (fits : len < 4096) (ways : way < 16) (owner : ctx < 32) :
    fldGet CC_MAINT_GO (preloadWord w len way ctx) = 1 ∧ fldGet CC_MAINT_OP (preloadWord w len way ctx) = 4
    ∧ fldGet CC_MAINT_LEN (preloadWord w len way ctx) = len ∧ fldGet CC_MAINT_WAY (preloadWord w len way ctx) = way
    ∧ fldGet CC_MAINT_CTX (preloadWord w len way ctx) = ctx := by
  refine ⟨fldGet_fldSet_same _ _ _ (by decide), ?_, ?_, ?_, ?_⟩
  · simp (disch := decide) only [preloadWord, fldGet_fldSet_other CC_MAINT_OP, fldGet_fldSet_same CC_MAINT_OP]
    rfl
  · simp (disch := decide) only [preloadWord, fldGet_fldSet_other CC_MAINT_LEN, fldGet_fldSet_same CC_MAINT_LEN]
    exact Nat.mod_eq_of_lt fits
  · simp (disch := decide) only [preloadWord, fldGet_fldSet_other CC_MAINT_WAY, fldGet_fldSet_same CC_MAINT_WAY]
    exact Nat.mod_eq_of_lt ways
  · simp (disch := decide) only [preloadWord, fldGet_fldSet_other CC_MAINT_CTX, fldGet_fldSet_same CC_MAINT_CTX]
    exact Nat.mod_eq_of_lt owner

theorem writeMaint_of_preload (entry : s.power.entry = none) (free : s.bit CC_MAINT CC_MAINT_BUSY = false) {len way ctx : Nat} (fits : len < 4096)
    (ways : way < 15) (owner : ctx < 32) :
    let v := maintBegun s (preloadWord (s.reg CC_MAINT) len way ctx)
    v.fld CC_MAINT CC_MAINT_LEN = len ∧ s.writeMaint (preloadWord (s.reg CC_MAINT) len way ctx) = v.maintLines.foldl (preloadLine way ctx) v := by
  obtain ⟨go, op, length, fill, who⟩ := preloadWord_fields (s.reg CC_MAINT) fits (show way < 16 by omega) owner
  refine ⟨(maintBegun_fld (by decide) (by decide) _).trans length, ?_⟩
  rw [writeMaint_of_go free go (by omega) (by omega)]
  exact maintRun_of_preload entry ((maintBegun_fld (by decide) (by decide) _).trans op) ((maintBegun_fld (by decide) (by decide) _).trans fill)
    ((maintBegun_fld (by decide) (by decide) _).trans who)

/-! ## A write of CC_CTL (R405, R406) -/

/-- The way that a PRELOAD fills, as a mask. -/
def fillingWay (s : State) : Nat :=
  if s.bit CC_MAINT CC_MAINT_BUSY = true ∧ s.fld CC_MAINT CC_MAINT_OP = 4 then 2 ^ s.fld CC_MAINT CC_MAINT_WAY else 0

/-- The ways that a lock of `lock` leaves for the PRELOAD's end. -/
def lockDue (s : State) (lock : Nat) : Nat := lock &&& fillingWay s &&& (0x7FFF - s.fld CC_CTL CC_CTL_LOCK)

theorem lockDue_of_free (free : s.bit CC_MAINT CC_MAINT_BUSY = false) (lock : Nat) : lockDue s lock = 0 := by
  simp only [lockDue, fillingWay, free, Bool.false_eq_true, false_and, ↓reduceIte, Nat.and_zero, Nat.zero_and]

theorem writeCcCtl_of_some {w : Word} {seed lock : Nat} (seeds : fldGet CC_CTL_SEED w = seed) (locks : fldGet CC_CTL_LOCK w = lock)
    (left : lock ≠ 0x7FFF) : s.writeCcCtl w =
    { (s.setFld CC_CTL CC_CTL_SEED seed).setFld CC_CTL CC_CTL_LOCK (lock - lockDue s lock) with
      mem.lfsr := if seed = 0 then 0xACE1 else seed, mem.lockDue := lockDue s lock } := by
  have locked : (s.setFld CC_CTL CC_CTL_SEED seed).fld CC_CTL CC_CTL_LOCK = s.fld CC_CTL CC_CTL_LOCK :=
    s.fld_setFld_field _ _ _ _ (by decide) (by decide)
  have maint (f : Fld) : (s.setFld CC_CTL CC_CTL_SEED seed).fld CC_MAINT f = s.fld CC_MAINT f := s.fld_setFld_other _ _ _ (by decide)
  rw [lockDue, fillingWay, ← locked, State.bit, ← maint CC_MAINT_BUSY, ← maint CC_MAINT_OP, ← maint CC_MAINT_WAY]
  simp only [State.writeCcCtl, seeds, locks, left, ↓reduceIte]
  rfl

/-- Both fields of CC_CTL are written, SEED with what it holds. -/
theorem wrote_lock (x : Nat) : Wrote s ((s.setFld CC_CTL CC_CTL_SEED (s.fld CC_CTL CC_CTL_SEED)).setFld CC_CTL CC_CTL_LOCK x) CC_CTL CC_CTL_LOCK x :=
  ((Kept.refl s CC_CTL).setFld CC_CTL_SEED).wrote CC_CTL_LOCK x

/-- Both fields of CC_CTL are written, LOCK with what it holds. -/
theorem wrote_seed (x : Nat) :
    Wrote s ((s.setFld CC_CTL CC_CTL_SEED x).setFld CC_CTL CC_CTL_LOCK (s.fld CC_CTL CC_CTL_LOCK)) CC_CTL CC_CTL_SEED x := by
  obtain ⟨rest, here, others⟩ := (Kept.refl s CC_CTL).wrote CC_CTL_SEED x
  have locked : (s.setFld CC_CTL CC_CTL_SEED x).fld CC_CTL CC_CTL_LOCK = s.fld CC_CTL CC_CTL_LOCK :=
    s.fld_setFld_field _ _ _ _ (by decide) (by decide)
  obtain ⟨rest', here', others'⟩ := (Kept.refl (s.setFld CC_CTL CC_CTL_SEED x) CC_CTL).setFld CC_CTL_LOCK
  rw [← locked]
  exact ⟨rfl, here'.trans here, fun q apart => (others' q apart).trans (others q apart)⟩

/-- SEED is written. -/
theorem ccSeedWrite (reach : Reaches s 0 CC_CTL.key) (free : s.bit CC_MAINT CC_MAINT_BUSY = false) (left : s.fld CC_CTL CC_CTL_LOCK ≠ 0x7FFF)
    {seed : Nat} (fits : seed < 65536) : ∃ v, Wrote s v CC_CTL CC_CTL_SEED seed ∧ s.writeField CC_CTL [(CC_CTL_SEED, seed)] [] =
      { v with mem.lfsr := if seed = 0 then 0xACE1 else seed, mem.lockDue := 0 } := by
  refine ⟨_, wrote_seed seed, (access_ccCtl reach _ []).trans ?_⟩
  have seeds : fldGet CC_CTL_SEED (fldSet CC_CTL_SEED (s.reg CC_CTL) seed) = seed :=
    (fldGet_fldSet_same _ _ _ (by decide)).trans (Nat.mod_eq_of_lt fits)
  have locks : fldGet CC_CTL_LOCK (fldSet CC_CTL_SEED (s.reg CC_CTL) seed) = s.fld CC_CTL CC_CTL_LOCK :=
    fldGet_fldSet_other _ _ _ _ (by decide) (by decide)
  have written := writeCcCtl_of_some (s := s) seeds locks left
  rwa [lockDue_of_free free, Nat.sub_zero] at written

/-- LOCK is written. -/
theorem ccLockWrite (reach : Reaches s 0 CC_CTL.key) {ways : BitVec 15} (left : ways ≠ 0x7FFF#15) :
    ∃ v, Wrote s v CC_CTL CC_CTL_LOCK (ways.toNat - lockDue s ways.toNat) ∧ s.writeField CC_CTL [(CC_CTL_LOCK, ways.toNat)] [] =
      { v with mem.lfsr := if s.fld CC_CTL CC_CTL_SEED = 0 then 0xACE1 else s.fld CC_CTL CC_CTL_SEED, mem.lockDue := lockDue s ways.toNat } := by
  refine ⟨_, wrote_lock _, (access_ccCtl reach _ []).trans ?_⟩
  have locks : fldGet CC_CTL_LOCK (fldSet CC_CTL_LOCK (s.reg CC_CTL) ways.toNat) = ways.toNat :=
    (fldGet_fldSet_same _ _ _ (by decide)).trans (Nat.mod_eq_of_lt ways.isLt)
  have seeds : fldGet CC_CTL_SEED (fldSet CC_CTL_LOCK (s.reg CC_CTL) ways.toNat) = s.fld CC_CTL CC_CTL_SEED :=
    fldGet_fldSet_other _ _ _ _ (by decide) (by decide)
  exact writeCcCtl_of_some seeds locks fun all => left (BitVec.eq_of_toNat_eq all)

end Writes

/-- Settles O52: each register's write by where it goes, then by what that effect does. -/
theorem memoryRegisters : Obligations.MemoryRegisters := by
  refine ⟨?layout, ?layoutValue, ?xor, ?write, ?read, ?outside, ?remap, ?move, ?train, ?maint, ?preload, ?busy, ?seed, ?lockAll, ?lock, ?lockFilling⟩
  case layout => exact fun i w s reach => exec_of_ends rfl (writeWord_memLayout reach w)
  case layoutValue => exact fun i w s => writeLayout_eq i w
  case xor => exact fun k hi w s reach => exec_of_ends rfl ((writeWord_memXor reach w).trans (writeXor_eq k hi w))
  case write =>
    intro w s reach ⟨table, miss⟩
    refine exec_of_ends rfl ((writeWord_memWdata reach w).trans ?_)
    rw [windowWrite_of_table table, windowStored_of_miss miss]
    rfl
  case read =>
    intro s reach table
    refine exec_of_ends rfl ((read_memWdata reach).trans ?_)
    rw [windowRead_in_table table]
  case outside =>
    intro w s reach outside
    refine ⟨exec_of_ends rfl ((writeWord_memWdata reach w).trans (windowWrite_outside outside w)), exec_of_ends rfl ((read_memWdata reach).trans ?_)⟩
    rw [windowRead_outside outside]
  case remap => exact fun i w s reach => exec_of_ends rfl (writeWord_memRemap reach w)
  case move => exact fun l i b s => moveLine_mem l i b
  case train =>
    intro s reach
    obtain ⟨v, only, shown, written⟩ := memCtlTrain reach
    exact ⟨v, only, shown, exec_of_ends rfl written⟩
  case maint =>
    intro len s c op which reach free
    have low : 1 ≤ op ∧ op ≤ 3 := by
      simp only [List.mem_cons, Prod.mk.injEq, List.not_mem_nil, or_false] at which
      omega
    have ends : exec c s = finishStep s (s.access 0 CC_MAINT.key (maintWord (s.reg CC_MAINT) op len.toNat) []) := by
      simp only [List.mem_cons, Prod.mk.injEq, List.not_mem_nil, or_false] at which
      rcases which with ⟨rfl, rfl⟩ | ⟨rfl, rfl⟩ | ⟨rfl, rfl⟩ <;> rfl
    obtain ⟨named, length, run⟩ := writeMaint_of_line free low len.isLt
    refine ⟨_, maintBegun_onlyRegs _, named, length, maintBegun_busy _, exec_of_ends ends ?_⟩
    rw [access_ccMaint reach, run]
  case preload =>
    intro len way ctx s reach ⟨free, other⟩
    obtain ⟨length, run⟩ := writeMaint_of_preload reach.entry free len.isLt (show way.val < 15 by omega) ctx.isLt
    refine ⟨_, maintBegun_onlyRegs _, length, maintBegun_busy _, exec_of_ends rfl ((access_ccMaint reach _ []).trans ?_)⟩
    exact congrArg (State.tablesJudged · s) run
  case busy =>
    intro len way ctx s reach busy
    exact ⟨exec_of_ends rfl (access_of_busy reach busy _), exec_of_ends rfl (access_of_busy reach busy _),
      exec_of_ends rfl (access_of_busy reach busy _), exec_of_ends rfl (access_of_busy reach busy _)⟩
  case seed =>
    intro seed s reach ⟨free, left⟩
    obtain ⟨v, wrote, written⟩ := ccSeedWrite reach free left seed.isLt
    exact ⟨v, wrote, exec_of_ends rfl written⟩
  case lockAll =>
    intro s reach
    refine exec_of_ends rfl ((access_ccCtl reach _ []).trans (if_pos ?_))
    exact fldGet_fldSet_same _ _ _ (by decide)
  case lock =>
    intro ways s reach ⟨left, free⟩
    obtain ⟨v, wrote, written⟩ := ccLockWrite reach left
    rw [lockDue_of_free free] at wrote written
    exact ⟨v, wrote, exec_of_ends rfl written⟩
  case lockFilling =>
    intro ways s reach ⟨left, busy, op⟩
    obtain ⟨v, wrote, written⟩ := ccLockWrite reach left
    have due : lockDue s ways.toNat = ways.toNat &&& 2 ^ s.fld CC_MAINT CC_MAINT_WAY &&& (0x7FFF - s.fld CC_CTL CC_CTL_LOCK) := by
      rw [lockDue, fillingWay, if_pos ⟨busy, op⟩]
    rw [due] at wrote written
    exact ⟨v, wrote, exec_of_ends rfl written⟩

end Sys2Proof
end

section
/-!
The statement about live calibration, the commit of a set and calibration steps that use up their budget (R438, R440, R442, R444).
-/

namespace Sys2Proof

open Machine

section Live

variable {s : State} {n : Nat}

/-- R444: a pass or a begun write. -/
def liveBusy (s : State) (n : Nat) : Bool := (s.rd n).pass.isSome || (s.bw? n).any BandWrite.begun

/-- R444: the step of a stream's live delta on its samples. -/
def liveStep (l : List Int) (d : Int) : Int :=
  let e := (l.map (fun y => y + 24 * 2 ^ 20)).sum
  let one : Int := l.length * 2 ^ 20
  if one < e then clampI (-32) 32 (d + 1) else if e < -one then clampI (-32) 32 (d - 1) else d

theorem liveGap_eq (s : State) (n : Nat) (ys : List (List Int)) : s.liveGap n ys =
    if !(s.fld CAL_CTL CAL_CTL_LIVE).testBit n || !liveBusy s n || s.inTask n .calStep then s
    else (s.setCal n (fun c => { c with live := (List.range 16).map (fun q => liveStep (ys.getD q []) (c.live.getD q 0)) })).shadowStn n := by
  have begun : (match s.bw? n with | some b => b.begun | none => false) = (s.bw? n).any BandWrite.begun := by cases s.bw? n <;> rfl
  rw [liveBusy, ← begun]
  rfl

theorem liveGap_of_live {ys : List (List Int)} (live : (s.fld CAL_CTL CAL_CTL_LIVE).testBit n = true) (free : s.inTask n .calStep = false)
    (busy : (s.rd n).pass.isSome = true ∨ (s.bw? n).any (fun b => b.seq.isSome) = true) : s.liveGap n ys =
    (s.setCal n (fun c => { c with live := (List.range 16).map (fun q => liveStep (ys.getD q []) (c.live.getD q 0)) })).shadowStn n := by
  have works : liveBusy s n = true := Bool.or_eq_true_iff.mpr busy
  rw [liveGap_eq, live, free, works]
  rfl

theorem liveGap_of_quiet {ys : List (List Int)} (quiet : (s.fld CAL_CTL CAL_CTL_LIVE).testBit n = false ∨ s.inTask n .calStep = true ∨
    ((s.rd n).pass = none ∧ s.bw? n = none)) : s.liveGap n ys = s := by
  rw [liveGap_eq]
  refine if_pos ?_
  rcases quiet with off | steps | ⟨idle, free⟩
  · simp [off]
  · simp [steps]
  · simp [liveBusy, idle, free]

/-! ## The commit of a shadow set (R440) -/

theorem commitHere_of {lead : Nat} (h : ((s.rd n).pass = none ∧ s.bw? n = none) ∨ 71 * 40144 ≤ lead ∨ (80 ≤ lead % 40144 ∧ lead % 40144 < 240)) :
    s.commitHere n lead = true := by
  unfold State.commitHere
  rcases h with ⟨idle, free⟩ | gap | preamble
  · simp [idle, free]
  · have : 71 ≤ lead / 40144 := by omega
    simp [this]
  · simp [preamble]

theorem not_commitHere_of {lead : Nat} (pass : (s.rd n).pass.isSome = true)
    (h : lead < 71 * 40144 ∧ (lead % 40144 < 80 ∨ 240 ≤ lead % 40144)) : s.commitHere n lead = false := by
  have gap : ¬ 71 ≤ lead / 40144 := by omega
  have preamble : ¬ (80 ≤ lead % 40144 ∧ lead % 40144 < 240) := by omega
  simp only [State.commitHere, pass, gap, preamble, Bool.true_or, Bool.not_true, decide_false, Bool.or_self]

theorem scal_clPut (s : State) (n : Nat) (data : Bool) (payload : Nat) : (s.clPut n data payload).scal n = s.scal n := by
  rw [State.scal, State.clPut, State.station_setStn_same]
  rfl

/-- The TRIM blocks of a set and COMMIT wait for CL. -/
def trimsSent (s : State) (n : Nat) (hf : SMap Int) : State :=
  let v := hf.foldl (fun (s : State) e => s.clPut n false (clBlock 0xC7 [(e.1, 12), ((e.2 % 1024).toNat, 10)])) s
  if hf.isEmpty then v else v.clPut n false (clBlock 0xC7 [(0xFFF, 12), (0, 10)])

theorem scal_trimsSent (s : State) (n : Nat) (hf : SMap Int) : (trimsSent s n hf).scal n = s.scal n := by
  have blocks : (hf.foldl (fun (s : State) e => s.clPut n false (clBlock 0xC7 [(e.1, 12), ((e.2 % 1024).toNat, 10)])) s).scal n = s.scal n :=
    List.foldlRecOn (motive := fun v : State => v.scal n = s.scal n) _ _ rfl fun v kept e _ => (scal_clPut v n _ _).trans kept
  unfold trimsSent
  dsimp only
  split
  · exact blocks
  · exact (scal_clPut _ n _ _).trans blocks

theorem commitTrims_of_some {new : SMap Int} (shadow : (s.scal n).shadow = some new) :
    let trims := new.foldl (fun (m : SMap Int) e => SMap.ins e.1 e.2 m) (s.scal n).trims
    let pd := (List.range 11).foldl (fun (m : SMap (Int × Int)) ch =>
      SMap.put m (0, 65536) ch (SMap.getD trims 0 (0x200 + ch), SMap.getD trims 65536 (0x300 + ch))) []
    s.commitTrims n = (trimsSent s n (new.filter (fun e => e.1 < 0x100))).setCal n (fun c => { c with shadow := none, trims := trims, pd := pd }) := by
  rw [← scal_trimsSent s n (new.filter (fun e => e.1 < 0x100))]
  unfold State.commitTrims
  rw [shadow]
  rfl

end Live

/-- Settles O31: the linking gap by what the station does, the commit by the epoch, and a budget by the step that runs. -/
theorem liveCalibrationAndTimeouts : Obligations.LiveCalibrationAndTimeouts := by
  refine ⟨?live, ?quiet, ?commit, ?later, ?station, ?device, ?none⟩
  case live => exact fun n ys s ⟨live, free⟩ busy => exec_of_ends rfl (liveGap_of_live live free busy)
  case quiet => exact fun n ys s quiet => exec_of_ends rfl (liveGap_of_quiet quiet)
  case commit =>
    exact fun n lead new s shadow here => exec_of_ends rfl ((if_pos (commitHere_of here)).trans (commitTrims_of_some shadow))
  case later =>
    intro n lead s pass apart
    exact exec_of_ends rfl (if_neg (by rw [not_commitHere_of pass apart]; exact Bool.false_ne_true))
  case station =>
    intro n s ⟨task, measuring⟩
    exact exec_of_ends rfl (if_pos (by rw [task, measuring]; rfl))
  case device =>
    intro id step s running
    refine exec_of_ends rfl ?_
    simp only [State.calTimeout, running]
  case none =>
    intro s running
    refine exec_of_ends rfl ?_
    simp only [State.calTimeout, running]

end Sys2Proof
end

section
/-!
SUPPORT. What the ends of commands, tasks and bands, and a machine check on the ledger engine or the bench core, leave of the buffer memory.
-/

namespace Sys2Proof

open Machine

theorem foldl_mem {α : Type} {f : State → α → State} (h : ∀ v a, (f v a).mem = v.mem) (l : List α) (s : State) : (l.foldl f s).mem = s.mem :=
  List.foldlRecOn (motive := fun v : State => v.mem = s.mem) l f rfl fun v kept a _ => (h v a).trans kept

section MemFrames

variable (s : State)

/-! ## Events and messages -/

@[simp] theorem raiseIn_mem (e ctx fn : Nat) (detail : List Nat) : (s.raiseIn e ctx fn detail).mem = s.mem := by
  have logged : ((s.setPending e).logEvent e ctx fn detail).mem = s.mem := by simp [State.setPending]
  simp only [State.raiseIn]
  generalize (s.setPending e).logEvent e ctx fn detail = v at logged
  split_ifs <;> simp [logged]

@[simp] theorem raiseStn_mem (n i : Nat) (detail : List Nat) : (s.raiseStn n i detail).mem = s.mem := raiseIn_mem s _ _ _ _

@[simp] theorem setBit_mem (r : Reg) (f : Fld) (b : Bool) : (s.setBit r f b).mem = s.mem := rfl

/-! ## Commands end -/

@[simp] theorem setCmd_mem (id : Nat) (g : Cmd → Cmd) : (s.setCmd id g).mem = s.mem := rfl

@[simp] theorem note_mem (id : Nat) (st : Status) : (s.note id st).mem = s.mem := rfl

@[simp] theorem noteAt_mem (id q ev : Nat) (st : Status) : (s.noteAt id q ev st).mem = s.mem := rfl

@[simp] theorem finishWith_mem (id : Nat) (st : Status) : (s.finishWith id st).mem = s.mem := by
  unfold State.finishWith
  split <;> simp

@[simp] theorem failWrite_mem (id : Nat) (st : Status) : (s.failWrite id st).mem = s.mem := by
  simp only [State.failWrite]
  repeat' split
  all_goals simp

@[simp] theorem fail_mem (id : Nat) (st : Status) : (s.fail id st).mem = s.mem := by
  unfold State.fail
  repeat' split
  all_goals simp

@[simp] theorem checkWriteCmd_mem (id : Nat) : (s.checkWriteCmd id).mem = s.mem := by
  unfold State.checkWriteCmd
  repeat' split
  all_goals simp

@[simp] theorem failParison_mem (p q ev : Nat) (st : Status) : (s.failParison p q ev st).mem = s.mem :=
  foldl_mem (fun v i => by simp) _ _

@[simp] theorem failMapCommands_mem : s.failMapCommands.mem = s.mem := by
  unfold State.failMapCommands
  refine foldl_mem (fun v i => ?_) _ s
  repeat' split
  all_goals simp

/-! ## Data of a command leaves for the host -/

theorem sendOut_mem (f : Nat) (pasid : Option Nat) (k : Nat) (segs : List (Nat × Nat)) (bs : Bytes) :
    (s.sendOut f pasid k segs bs).1.mem = s.mem := by
  induction k generalizing s segs bs with
  | zero => rfl
  | succ k ih =>
    unfold State.sendOut
    repeat' split
    all_goals simp [ih]

@[simp] theorem markPoison_mem (id : Nat) (ps : List (Nat × Nat)) : (s.markPoison id ps).mem = s.mem := rfl

@[simp] theorem sendPoison_mem (c : Cmd) (n : Nat) : (s.sendPoison c n).mem = s.mem := by
  have sent : ∀ l : List (Nat × Nat), (l.foldl (fun (s : State) p => s.emit (.tlpPoison c.fn c.sq c.cid p.1 p.2)) s).mem = s.mem :=
    fun l => foldl_mem (f := fun (s : State) p => s.emit _) (fun _ _ => rfl) l s
  simp only [State.sendPoison]
  split_ifs <;> simp [sent]

@[simp] theorem pump_mem (id : Nat) : (s.pump id).mem = s.mem := by
  simp only [State.pump]
  repeat' split
  all_goals simp [sendOut_mem]

@[simp] theorem result_mem (id : Nat) (bs : Bytes) : (s.result id bs).mem = s.mem := by simp [State.result]

@[simp] theorem closeGap_mem (c : Capture) : (s.closeGap c).1.mem = s.mem := by
  unfold State.closeGap State.capOut
  repeat' split
  all_goals simp

@[simp] theorem captureDone_mem (n : Nat) (c : Capture) (st : Status) : (s.captureDone n c st).mem = s.mem := by
  simp only [State.captureDone]
  split <;> simp

@[simp] theorem finishRead_mem (id : Nat) : (s.finishRead id).mem = s.mem := by
  simp only [State.finishRead]
  repeat' split
  all_goals simp

@[simp] theorem finishExport_mem (id : Nat) : (s.finishExport id).mem = s.mem := by
  have noted {α : Type} (es : List (Nat × Nat × α)) (v : State) :
      (es.foldl (fun (s : State) e => if e.2.1 = 2 then s.note id .stationUnavailable else if e.2.1 = 3 then s.note id .mediumReadError
        else if e.2.1 = 4 then s.note id .sealMismatch else s) v).mem = v.mem := by
    refine foldl_mem (fun u e => ?_) es v
    split_ifs <;> rfl
  simp only [State.finishExport]
  repeat' split
  all_goals simp [noted]

/-! ## Vaults, checkpoints and parisons -/

@[simp] theorem checkpoint_mem (vault idx : Nat) : (s.checkpoint vault idx).mem = s.mem := by
  unfold State.checkpoint
  split
  · rfl
  split
  · split
    · rfl
    · extract_lets no size bands front stream blks begun
      split
      · rfl
      · refine (foldl_mem (fun v k => ?_) _ begun).trans rfl
        rfl
  · rfl

@[simp] theorem unmountDegrades_mem (vault : Nat) : (s.unmountDegrades vault).mem = s.mem :=
  foldl_mem (f := fun (s : State) (c : Cmd) => s.note c.id .okDegraded) (fun _ _ => rfl) _ s

@[simp] theorem redoCheckpoint_mem (vault idx : Nat) : (s.redoCheckpoint vault idx).mem = s.mem := by
  simp only [State.redoCheckpoint]
  split_ifs <;> simp

@[simp] theorem releaseVault_mem (vault : Nat) : (s.releaseVault vault).mem = s.mem := rfl

@[simp] theorem checkVault_mem (vault : Nat) : (s.checkVault vault).mem = s.mem := by
  have discs : ∀ (l : List Disc) (id : Nat) (bad : Disc → Prop) [DecidablePred bad] (v : State),
      (l.foldl (fun (s : State) (d : Disc) => if bad d then s.note id .okDegraded else s.checkpoint vault d.idx) v).mem = v.mem := by
    intro l id bad _ v
    refine foldl_mem (fun v d => ?_) l v
    split <;> simp
  simp only [State.checkVault]
  repeat' split
  all_goals simp [discs]

@[simp] theorem placeParison_mem (p : Parison) : (s.placeParison p).mem = s.mem := by
  simp only [State.placeParison, State.addTask]
  repeat' split
  all_goals simp

@[simp] theorem returnParison_mem (p : Parison) : (s.returnParison p).mem = s.mem := by
  simp only [State.returnParison]
  split <;> simp

/-! ## Tasks end -/

@[simp] theorem taskResult_mem (t : Task) (st : Status) : (s.taskResult t st).mem = s.mem := by
  have noted : (taskNoted s t st).mem = s.mem := by
    unfold taskNoted
    split
    · exact foldl_mem (f := fun (s : State) i => s.noteAt i 0 (s.lossEvent t.stn) st) (fun _ _ => rfl) _ s
    · rfl
  have each : ∀ (f : State → Nat → State), (∀ v i, (f v i).mem = v.mem) → (t.cmds.foldl f (taskNoted s t st)).mem = s.mem :=
    fun f h => (foldl_mem h _ _).trans noted
  unfold State.taskResult
  dsimp only
  split
  case h_2 => exact noted
  all_goals
    refine each _ fun v i => ?_
    repeat' split
    all_goals simp

@[simp] theorem unmove_mem (n : Nat) : (s.unmove n).mem = s.mem := by
  unfold State.unmove
  repeat' split
  all_goals rfl

@[simp] theorem slotOver_mem (n : Nat) : (s.slotOver n).mem = s.mem := by
  simp only [State.slotOver]
  split <;> simp

@[simp] theorem slotEnd_mem (n : Nat) (t : Option Task) : (s.slotEnd n t).mem = s.mem := by
  unfold State.slotEnd
  dsimp only
  repeat' split
  all_goals simp

@[simp] theorem applyMode_mem (n : Nat) : (s.applyMode n).mem = s.mem := by
  unfold State.applyMode
  split <;> rfl

@[simp] theorem passAgain_mem (n : Nat) : (s.passAgain n).mem = s.mem := by
  unfold State.passAgain State.ladderMove
  dsimp only
  repeat' split
  all_goals rfl

@[simp] theorem resumeSuspended_mem (n : Nat) : (s.resumeSuspended n).mem = s.mem := by
  have args : ∀ (v : State) (w : Nat → Word), ((List.range 6).foldl (fun v i => v.setReg (TASK_ARG n i) (w i)) v).mem = v.mem :=
    fun v w => foldl_mem (f := fun v i => v.setReg (TASK_ARG n i) (w i)) (fun _ _ => rfl) _ v
  unfold State.resumeSuspended
  extract_lets b s1 s2 s3 tw s4 s5 s6 s7 s8
  have again : s8.mem = s.mem := calc
    s8.mem = s7.mem := passAgain_mem s7 n
    _ = s6.mem := State.setStn_mem s6 _ _
    _ = s4.mem := by simp only [s6, s5, setBit_mem, State.setFld_mem]
    _ = s3.mem := State.setStn_mem s3 _ _
    _ = s2.mem := args s2 _
    _ = s1.mem := rfl
    _ = s.mem := rfl
  split <;> exact again

@[simp] theorem switchBank_mem (n : Nat) : (s.switchBank n).mem = s.mem := by
  have active (v : State) : v.checkActivation.mem = v.mem := by
    unfold State.checkActivation
    repeat' split
    all_goals simp
  unfold State.switchBank
  split
  · exact active _
  · rfl

@[simp] theorem endTask_mem (n : Nat) (st : Status) : (s.endTask n st).mem = s.mem := by
  unfold State.endTask
  split
  · rfl
  extract_lets t? s1 s2 s3 s4 s5 s6 w s7 s8 s9 s10 s11 s12
  have result : s8.mem = s7.mem := by
    subst s8
    cases t? with
    | some t => exact taskResult_mem s7 t st
    | none => rfl
  have ended : s12.mem = s.mem := calc
    s12.mem = s11.mem := applyMode_mem s11 n
    _ = s10.mem := slotEnd_mem s10 n t?
    _ = s8.mem := rfl
    _ = s7.mem := result
    _ = s.mem := unmove_mem _ n
  split
  · split
    · exact ended
    · rw [resumeSuspended_mem, ended]
  · rw [switchBank_mem, ended]

/-! ## Bands end -/

@[simp] theorem trainLanes_mem (n : Nat) (ks : List Nat) (full : Bool) : (s.trainLanes n ks full).mem = s.mem := by
  unfold State.trainLanes
  extract_lets s1 p both
  have lanes : s1.mem = s.mem := by
    refine foldl_mem (fun v k => ?_) ks s
    rfl
  split
  · exact (State.setStn_mem _ _ _).trans lanes
  · exact lanes

@[simp] theorem freshTraining_mem (n : Nat) (ks : List Nat) : (s.freshTraining n ks).mem = s.mem := by
  unfold State.freshTraining
  dsimp only
  split <;> rfl

@[simp] theorem bandOver_mem (n : Nat) (st : Status) : (s.bandOver n st).mem = s.mem := by
  have shown (v : State) : (v.showPre n).mem = v.mem := rfl
  unfold State.bandOver
  extract_lets due s1 s2 s3
  have lanes : s3.mem = s.mem := by
    subst s3
    split
    · rw [freshTraining_mem, trainLanes_mem]
      rfl
    · rfl
  rw [shown]
  split
  · rw [endTask_mem, lanes]
  · exact lanes

@[simp] theorem giveBack_mem (n : Nat) (st : Status) : (s.giveBack n st).mem = s.mem := by
  unfold State.giveBack
  split <;> simp

@[simp] theorem dropKeptBand_mem (n : Nat) : (s.dropKeptBand n).mem = s.mem := by
  unfold State.dropKeptBand
  repeat' split
  all_goals simp

/-! ## Machine checks on the ledger engine and the bench core (R345, R22) -/

@[simp] theorem ledgerFatal_mem : s.ledgerFatal.mem = s.mem := by
  have parisons (l : List Parison) (v : State) :
      (l.foldl (fun (s : State) p => if p.ckpt.isSome then s else s.failParison p.id 0 0 .internal) v).mem = v.mem := by
    refine foldl_mem (fun u p => ?_) l v
    split <;> simp
  unfold State.ledgerFatal
  dsimp only
  rw [failMapCommands_mem, parisons]
  dsimp only
  refine (foldl_mem (fun v n => ?_) _ _).trans rfl
  repeat' split
  all_goals simp

@[simp] theorem benchFatal_mem : s.benchFatal.mem = s.mem := by
  unfold State.benchFatal
  extract_lets s1 ids s2 s3
  exact foldl_mem (fun v i => finishWith_mem v i .internal) ids s1

/-- A machine check on a context other than a gaffer's leaves the buffer memory. -/
theorem machineCheck_mem {ctx : Nat} (core : 16 ≤ ctx) (cmd : Option Nat) : (s.machineCheck ctx cmd).mem = s.mem := by
  unfold State.machineCheck State.countCheck
  rw [if_neg (Nat.not_lt.mpr core)]
  dsimp only
  repeat' split
  all_goals simp

/-- Whoever takes poisoned data leaves the buffer memory (R395). -/
@[simp] theorem takePoison_mem (port line : Nat) : (s.takePoison port line).mem = s.mem := by
  have marked (l : List Cmd) (ps : Cmd → List (Nat × Nat)) (v : State) : (l.foldl (fun (s : State) c => s.markPoison c.id (ps c)) v).mem = v.mem :=
    foldl_mem (f := fun (s : State) (c : Cmd) => s.markPoison c.id (ps c)) (fun _ _ => rfl) l v
  have noted (l : List Cmd) (v : State) : (l.foldl (fun (s : State) c => s.note c.id .dataPoisoned) v).mem = v.mem :=
    foldl_mem (f := fun (s : State) (c : Cmd) => s.note c.id .dataPoisoned) (fun _ _ => rfl) l v
  unfold State.takePoison
  dsimp only
  repeat' split
  case' isTrue => exact (noted _ _).trans (marked _ _ _)
  all_goals simp [machineCheck_mem, ctxBENCH, ctxLEDGER]

end MemFrames

end Sys2Proof
end

section
/-!
The statement about reads and writes of buffer memory by its ports (R380, R385 to R388, R392 to R396).
-/

namespace Sys2Proof

open Machine

/-! ## The order of a channel's accesses (R387, R388) -/

section Order

variable {s : State} {c x : Nat} {r : MemReq}

/-- Of the lines that a request has in a channel it takes one whose row is open, if there is one. -/
theorem firstLine_some (h : s.firstLine c r = some x) :
    x ∈ r.left ∧ s.channelOf x = c ∧ (s.rowHit x = true ∨ ∀ y ∈ r.left, s.channelOf y = c → s.rowHit y = false) := by
  have lies {y : Nat} (hy : y ∈ r.left.filter (fun x => s.channelOf x == c)) : y ∈ r.left ∧ s.channelOf y = c := by simpa using hy
  unfold State.firstLine at h
  dsimp only at h
  split at h
  case h_1 y hit =>
    obtain rfl := Option.some.inj h
    obtain ⟨here, there⟩ := lies (List.mem_of_find?_eq_some hit)
    exact ⟨here, there, .inl (List.find?_some hit)⟩
  case h_2 miss =>
    obtain ⟨here, there⟩ := lies (List.mem_of_mem_head? h)
    refine ⟨here, there, .inr fun y left own => ?_⟩
    simpa using List.find?_eq_none.mp miss y (List.mem_filter.mpr ⟨left, by simpa using own⟩)

theorem firstLine_none : s.firstLine c r = none ↔ ∀ y ∈ r.left, s.channelOf y ≠ c := by
  unfold State.firstLine
  dsimp only
  split
  case h_1 y hit =>
    have lies : y ∈ r.left ∧ s.channelOf y = c := by simpa using List.mem_of_find?_eq_some hit
    simpa using ⟨y, lies⟩
  case h_2 miss => simp

/-- The request that a channel picks is one of those that wait, without the line that it takes. -/
theorem memPick_some {l rest : List MemReq} {q : MemReq} (h : s.memPick c l = some (x, q, rest)) :
    ∃ r ∈ l, s.firstLine c r = some x ∧ q = { r with left := r.left.filter (fun y => y != x) } := by
  induction l generalizing x q rest with
  | nil => exact absurd h (by simp [State.memPick])
  | cons r l ih =>
    have later {y : Nat} {p : MemReq} {k : List MemReq} (pick : s.memPick c l = some (y, p, k)) :
        ∃ r' ∈ r :: l, s.firstLine c r' = some y ∧ p = { r' with left := r'.left.filter (fun z => z != y) } := by
      obtain ⟨r', waits, found⟩ := ih pick
      exact ⟨r', List.mem_cons_of_mem r waits, found⟩
    unfold State.memPick at h
    dsimp only at h
    split at h
    case h_1 => exact absurd h (by simp)
    case h_2 y p k none' pick =>
      simp only [Option.some.injEq, Prod.mk.injEq] at h
      obtain ⟨rfl, rfl, -⟩ := h
      exact later pick
    case h_3 y own none' =>
      simp only [Option.some.injEq, Prod.mk.injEq] at h
      obtain ⟨rfl, rfl, -⟩ := h
      exact ⟨r, List.mem_cons_self, own, rfl⟩
    case h_4 y z p k own pick =>
      split at h
      all_goals
        simp only [Option.some.injEq, Prod.mk.injEq] at h
        obtain ⟨rfl, rfl, -⟩ := h
      · exact later pick
      · exact ⟨r, List.mem_cons_self, own, rfl⟩

/-- A request is taken before those behind it that are of no earlier level. -/
theorem memPick_head {after' : List MemReq} (own : s.firstLine c r = some x)
    (younger : ∀ q ∈ after', ∀ y, s.firstLine c q = some y → s.memLevel r x ≤ s.memLevel q y) :
    let q := { r with left := r.left.filter (fun y => y != x) }
    s.memPick c (r :: after') = some (x, q, if q.left.isEmpty then after' else q :: after') := by
  unfold State.memPick
  rw [own]
  cases pick : s.memPick c after' with
  | none => rfl
  | some found =>
    obtain ⟨y, p, rest⟩ := found
    obtain ⟨q, waits, first, rfl⟩ := memPick_some pick
    exact if_neg (Nat.not_lt.mpr (younger q waits y first))

/-- The oldest request of the first level that has one is taken. -/
theorem memPick_append {before after' : List MemReq} (own : s.firstLine c r = some x)
    (older : ∀ q ∈ before, ∀ y, s.firstLine c q = some y → s.memLevel r x < s.memLevel q y)
    (younger : ∀ q ∈ after', ∀ y, s.firstLine c q = some y → s.memLevel r x ≤ s.memLevel q y) :
    let q := { r with left := r.left.filter (fun y => y != x) }
    s.memPick c (before ++ r :: after') = some (x, q, before ++ if q.left.isEmpty then after' else q :: after') := by
  induction before with
  | nil => exact memPick_head own younger
  | cons p l ih =>
    have pick := ih fun q h => older q (List.mem_cons_of_mem p h)
    rw [List.cons_append]
    unfold State.memPick
    rw [pick]
    cases first : s.firstLine c p with
    | none => rfl
    | some y => exact if_pos (older p List.mem_cons_self y first)

/-- Table 14.3 while P5 is in PANIC, of which P4 knows nothing. -/
theorem memLevels {q : MemReq} {y : Nat} (panic : s.inPanic 5 = true) (port : q.port = 4) (calm : q.urgent = false) :
    (r.port = 5 → s.memLevel r x < s.memLevel q y)
      ∧ (r.port = 5 → s.rowHit x = true → s.rowHit y = false → s.memLevel r x < s.memLevel r y)
      ∧ (r.port = 4 ∧ r.urgent = true → s.memLevel r x < s.memLevel q y)
      ∧ (r.port = 4 ∧ r.urgent = false ∧ s.rowHit x = true ∧ s.rowHit y = false → s.memLevel r x < s.memLevel q y)
      ∧ (r.port = 9 → s.memLevel q y < s.memLevel r x) := by
  have four : s.inPanic 4 = false := rfl
  have nine : s.inPanic 9 = false := rfl
  have plain : s.memLevel q y = if s.rowHit y then 4 else 5 := by
    simp only [State.memLevel, port, four, calm, Bool.false_eq_true, ↓reduceIte, Nat.reduceEqDiff]
  have panics (z : Nat) (h : r.port = 5) : s.memLevel r z = if s.rowHit z then 0 else 1 := by
    simp only [State.memLevel, h, panic, ↓reduceIte]
  refine ⟨fun h => ?_, fun h hit miss => ?_, fun ⟨h, urgent⟩ => ?_, fun ⟨h, own, hit, miss⟩ => ?_, fun h => ?_⟩
  · rw [panics x h, plain]
    split <;> split <;> decide
  · rw [panics x h, panics y h, hit, miss]
    decide
  · rw [plain]
    simp only [State.memLevel, h, four, urgent, Bool.false_eq_true, ↓reduceIte, Nat.reduceEqDiff]
    split <;> split <;> decide
  · rw [plain, miss]
    simp only [State.memLevel, h, four, own, hit, Bool.false_eq_true, ↓reduceIte, Nat.reduceEqDiff]
    decide
  · rw [plain]
    simp only [State.memLevel, h, nine, Bool.false_eq_true, ↓reduceIte]
    split <;> decide

end Order

/-! ## Where a line lies, and its row (R386, R396) -/

section Place

variable {s v : State}

theorem physLine_of_remap {i line : Nat} (held : i < 32 ∧ s.bit (MEM_REMAP i) MEM_REMAP_VALID = true ∧ s.fld (MEM_REMAP i) MEM_REMAP_LINE = line)
    (first : ∀ j < i, s.bit (MEM_REMAP j) MEM_REMAP_VALID = false ∨ s.fld (MEM_REMAP j) MEM_REMAP_LINE ≠ line) :
    s.physLine line = 130560 * 2048 + Config.sparePlace i % (512 * 2048) := by
  obtain ⟨small, valid, names⟩ := held
  have found : (List.range 32).find? (fun i => s.bit (MEM_REMAP i) MEM_REMAP_VALID && s.fld (MEM_REMAP i) MEM_REMAP_LINE == line) = some i := by
    rw [List.find?_range_eq_some]
    refine ⟨by simp [valid, names], List.mem_range.mpr small, fun j hj => ?_⟩
    rcases first j hj with invalid | other
    · simp [invalid]
    · simp [other]
  rw [State.physLine, found]

/-- A port's line by its port's hint. -/
theorem touchLine_rows (port : Fin 10) (line : Nat) :
    let v := s.touchLine (portHint port) line
    let b := s.bank line
    (port.val ∈ [3, 5, 6] → SMap.get? v.mem.rows b = some (s.rowAt line, false))
      ∧ (port.val ∈ [8, 9] → v.mem.rows = SMap.del b s.mem.rows)
      ∧ (port.val ∈ [0, 1, 2, 4, 7] → SMap.get? v.mem.rows b = some (s.rowAt line, true)) := by
  have opened (open' : portHint port = .open') : SMap.get? (s.touchLine (portHint port) line).mem.rows (s.bank line) = some (s.rowAt line, false) := by
    rw [open']
    exact SMap.get?_ins_same _ _ _
  have auto (auto' : portHint port = .auto) : SMap.get? (s.touchLine (portHint port) line).mem.rows (s.bank line) = some (s.rowAt line, true) := by
    rw [auto']
    exact SMap.get?_ins_same _ _ _
  have closed (close' : portHint port = .close) : (s.touchLine (portHint port) line).mem.rows = SMap.del (s.bank line) s.mem.rows := by
    rw [close']
    rfl
  refine ⟨fun h => opened ?_, fun h => closed ?_, fun h => auto ?_⟩
  · simp only [portHint, List.mem_cons, List.not_mem_nil, or_false] at h ⊢
    exact if_pos h
  · simp only [portHint, List.mem_cons, List.not_mem_nil, or_false] at h ⊢
    rw [if_neg (by omega), if_pos h]
  · simp only [portHint, List.mem_cons, List.not_mem_nil, or_false] at h ⊢
    rw [if_neg (by omega), if_neg (by omega)]

theorem axTick_mem (n : Nat) : (s.axTick n).mem = s.mem := by
  unfold State.axTick
  dsimp only
  split <;> rfl

theorem repayRefresh_mem : s.repayRefresh.mem = s.mem := by
  unfold State.repayRefresh
  split
  · rfl
  · refine foldl_mem (fun v c => ?_) _ s
    split <;> rfl

theorem lapTick_rows : s.lapTick.mem.rows = s.mem.rows := by
  unfold State.lapTick
  dsimp only
  split
  · rfl
  · split <;> rfl

/-- A microsecond closes the rows that AUTO left open. -/
theorem tick_rows : s.tick.mem.rows = s.mem.rows.filter (fun e => !e.2.2) := by
  have stations (v : State) : ((List.range 16).foldl (fun (s : State) n => if s.isOn (domSTN n) then s.axTick n else s) v).mem = v.mem := by
    refine foldl_mem (fun u n => ?_) _ v
    split
    · exact axTick_mem n
    · rfl
  have closed (v : State) : v.closeRows.mem.rows = v.mem.rows.filter (fun e => !e.2.2) := rfl
  unfold State.tick
  dsimp only
  rw [repayRefresh_mem, lapTick_rows, closed, stations]

end Place

/-! ## Check words (R392) -/

section CheckWords

theorem checkWord_parts (data : Bytes) (p : Bool) (line : Nat) :
    let w := checkWord data p line
    w % 2 ^ 11 = Config.secded (leNat data + (if p then 2 ^ 512 else 0)) % 2 ^ 11 ∧ w.testBit 11 = p ∧ w / 2 ^ 12 = line % 2 ^ 20 := by
  have word : checkWord data p line = Config.secded (leNat data + (if p then 2 ^ 512 else 0)) % 2 ^ 11 + (if p then 1 else 0) * 2 ^ 11
      + line % 2 ^ 20 * 2 ^ 12 := by
    cases p <;> simp only [checkWord, Bool.false_eq_true, ↓reduceIte, Nat.zero_mul, Nat.one_mul]
  dsimp only
  rw [word]
  generalize Config.secded (leNat data + (if p then 2 ^ 512 else 0)) = code
  refine ⟨by omega, ?_, ?_⟩
  · rw [Nat.testBit_eq_decide_div_mod_eq]
    cases p <;> simp only [Bool.false_eq_true, ↓reduceIte, decide_eq_true_eq, decide_eq_false_iff_not] <;> omega
  · cases p <;> simp only [Bool.false_eq_true, ↓reduceIte] <;> omega

theorem linesOf_single {a n : Nat} (within : a % 64 + n ≤ 64) (some_bytes : 0 < n) : linesOf a n = [a / 64] := by
  have one : (a + n + 63) / 64 - a / 64 = 1 := by omega
  rw [linesOf, if_neg (Nat.ne_of_gt some_bytes), one]
  rfl

theorem memWrite_check {s : State} {a : Nat} {bs : Bytes} (within : a % 64 + bs.length ≤ 64) (some_bytes : bs ≠ []) :
    let v := s.memWrite a bs
    let l := a / 64
    SMap.get? v.mem.check (s.checkKey l) = some (checkWord (v.mem.data.read (64 * l) 64) (v.poisoned l) l) := by
  dsimp only
  rw [State.memWrite, linesOf_single within (List.length_pos_iff.mpr some_bytes)]
  exact SMap.get?_ins_same _ _ _

end CheckWords

/-! ## A request that a port makes (R380, R386, R387) -/

section Requests

variable {s v : State}

/-- The FIFOs of the real-time ports, and the counts of PANIC in MEM_RT, are all that their levels change. -/
theorem fifos_eq (s : State) (fill free : Nat) :
    s.fifos fill free = { s with regs := (s.fifos fill free).regs, mem.rt0 := fill, mem.rt1 := free } := by
  simp only [State.fifos, List.foldl_cons, List.foldl_nil]
  split <;> split <;> rfl

theorem reg_fifos (s : State) (fill free : Nat) {q : Reg} (low : (MEM_RT 0).key ≠ q.key) (high : (MEM_RT 1).key ≠ q.key) :
    (s.fifos fill free).reg q = s.reg q := by
  simp only [State.fifos, List.foldl_cons, List.foldl_nil]
  split
  · refine (State.reg_setFld_other _ _ _ high).trans ?_
    split
    · exact State.reg_setFld_other _ _ _ low
    · rfl
  · split
    · exact State.reg_setFld_other _ _ _ low
    · rfl

theorem isOn_fifos (fill free d : Nat) : (s.fifos fill free).isOn d = s.isOn d := by
  have part : (s.fifos fill free).part = s.part := by rw [fifos_eq]
  simp only [State.isOn, State.dom, part, reg_fifos s fill free (q := PM_DSTAT_LO) (by decide) (by decide),
    reg_fifos s fill free (q := PM_DSTAT_HI) (by decide) (by decide)]

theorem waiting_fifos (fill free : Nat) : (s.fifos fill free).mem.waiting = s.mem.waiting := by rw [fifos_eq]

theorem physLine_fifos (fill free line : Nat) : (s.fifos fill free).physLine line = s.physLine line := by
  have remap (i : Nat) : (s.fifos fill free).reg (MEM_REMAP i) = s.reg (MEM_REMAP i) :=
    reg_fifos s fill free (by simp only [MEM_RT, MEM_REMAP]; omega) (by simp only [MEM_RT, MEM_REMAP]; omega)
  simp only [State.physLine, State.bit, State.fld, remap]

theorem channelOf_fifos (fill free line : Nat) : (s.fifos fill free).channelOf line = s.channelOf line := by
  have masks : (s.fifos fill free).mem.xor = s.mem.xor := by rw [fifos_eq]
  rw [State.channelOf, State.bank, masks, physLine_fifos, State.channelOf, State.bank]

theorem memRequest_of_on {r : MemReq} {go : List Nat} (on : v.isOn domMEM = true) :
    v.memRequest r go = ((({ v with mem.waiting := v.mem.waiting ++ [r] } : State).missCloses r).serveNone).serveMem go := if_pos on

theorem memRequest_of_off {r : MemReq} {go : List Nat} (off : v.isOn domMEM = false) :
    v.memRequest r go = ({ v with mem.waiting := v.mem.waiting ++ [r] } : State).wake domMEM :=
  if_neg (Bool.not_eq_true _ ▸ off)

/-- A channel that nothing waits for makes no access. -/
theorem serveMem_of_empty (none_waits : v.mem.waiting = []) (go : List Nat) : v.serveMem go = v := by
  refine List.foldlRecOn (motive := fun u : State => u = v) _ _ rfl fun u same c _ => ?_
  rw [same, State.serveChannel, none_waits]
  rfl

/-- The only request that waits is the one that comes. -/
theorem waiting_append (none_waits : v.mem.waiting = []) (r : MemReq) :
    ({ v with mem.waiting := v.mem.waiting ++ [r] } : State) = { v with mem.waiting := [r] } := by rw [none_waits, List.nil_append]

/-- A request that has left is as one that has never come. -/
theorem waiting_nil (none_waits : v.mem.waiting = []) : ({ v with mem.waiting := [] } : State) = v := by rw [← none_waits]

theorem missCloses_of_none {r : MemReq} (none_left : r.left = []) : v.missCloses r = v := by
  simp only [State.missCloses, none_left, List.any_nil, Bool.and_false, Bool.not_false, List.filter_true]

/-- A request with no line to access is answered at once. -/
theorem serveNone_of_none {r : MemReq} (none_left : r.left = []) (none_waits : v.mem.waiting = []) :
    ({ v with mem.waiting := [r] } : State).serveNone = v.reqServed r := by
  simp only [State.serveNone, none_left, List.isEmpty_nil, Bool.not_true, List.filter_cons, List.filter_nil, Bool.false_eq_true, ↓reduceIte,
    List.foldl_cons, List.foldl_nil, waiting_nil none_waits]

theorem served_of_none {r : MemReq} (none_left : r.left = []) (none_waits : v.mem.waiting = []) (after' : (v.reqServed r).mem.waiting = [])
    (go : List Nat) : ((({ v with mem.waiting := v.mem.waiting ++ [r] } : State).missCloses r).serveNone).serveMem go = v.reqServed r := by
  rw [waiting_append none_waits, missCloses_of_none none_left, serveNone_of_none none_left none_waits, serveMem_of_empty after']

/-- A request that has a line left waits for it. -/
theorem serveNone_of_some {r : MemReq} (left : r.left ≠ []) (waits : v.mem.waiting = [r]) : v.serveNone = v := by
  have open' : r.left.isEmpty = false := by simpa using left
  simp only [State.serveNone, waits, open', Bool.not_false, List.filter_cons, List.filter_nil, Bool.false_eq_true, ↓reduceIte, List.foldl_nil]
  rw [← waits]

theorem memPick_single {r : MemReq} {x c : Nat} (left : r.left = [x]) (lies : v.channelOf x = c) :
    v.memPick c [r] = some (x, { r with left := [] }, []) := by
  have first : v.firstLine c r = some x := by
    cases hit : v.rowHit x <;> simp [State.firstLine, left, lies, hit]
  have pick := memPick_head (s := v) (after' := []) first (by simp)
  simpa [left] using pick

theorem hintFor_of_empty (none_waits : v.mem.waiting = []) (port line : Nat) : v.hintFor port line = portHint port := by
  rw [State.hintFor, State.missWaits, none_waits]
  exact if_neg (by simp)

/-- The only request that waits, for one line, is answered by that line's access. -/
theorem served_of_single {r : MemReq} {x c : Nat} (left : r.left = [x]) (none_waits : v.mem.waiting = []) (lies : v.channelOf x = c) :
    ((({ v with mem.waiting := v.mem.waiting ++ [r] } : State).missCloses r).serveNone).serveMem [c] =
      ((v.missCloses r).touchLine (portHint r.port) x).reqServed { r with left := [] } := by
  have some_left : r.left ≠ [] := by simp [left]
  rw [waiting_append none_waits]
  have asks : ({ v with mem.waiting := [r] } : State).missCloses r = { v.missCloses r with mem.waiting := [r] } := rfl
  rw [asks, serveNone_of_some some_left rfl]
  have none_waits' : (v.missCloses r).mem.waiting = [] := none_waits
  have lies' : ({ v.missCloses r with mem.waiting := [r] } : State).channelOf x = c := lies
  have pick := memPick_single left lies'
  have back := waiting_nil none_waits'
  have hint := hintFor_of_empty none_waits' r.port x
  generalize v.missCloses r = m at pick back hint
  rw [State.serveMem, List.foldl_cons, List.foldl_nil, State.serveChannel]
  simp only [pick, List.isEmpty_nil, ↓reduceIte]
  rw [back, hint]

/-! ## The answer to a request (R380, R392 to R395) -/

/-- The block as a request for one line finds it: the FIFOs as given, and the line's row accessed. -/
def answering (s : State) (fill free : Nat) (r : MemReq) (x : Nat) : State := ((s.fifos fill free).missCloses r).touchLine (portHint r.port) x

theorem answering_mem (s : State) (fill free : Nat) (r : MemReq) (x : Nat) :
    (answering s fill free r x).mem = { s.mem with rt0 := fill, rt1 := free, rows := (answering s fill free r x).mem.rows } := by
  have fifos := congrArg State.mem (fifos_eq s fill free)
  have closes : ((s.fifos fill free).missCloses r).mem = { (s.fifos fill free).mem with rows := ((s.fifos fill free).missCloses r).mem.rows } := rfl
  rw [fifos] at closes
  rw [answering, touchLine_mem, closes]

/-- A request for one line of a channel that comes alone is answered at once. -/
theorem memRequest_of_single {r : MemReq} {x c fill free : Nat} (on : s.isOn domMEM = true) (none_waits : s.mem.waiting = []) (left : r.left = [x])
    (lies : s.channelOf x = c) : (s.fifos fill free).memRequest r [c] = (answering s fill free r x).reqServed { r with left := [] } := by
  rw [memRequest_of_on ((isOn_fifos fill free _).trans on)]
  exact served_of_single left ((waiting_fifos fill free).trans none_waits) ((channelOf_fifos fill free x).trans lies)

/-- A request with no line to access that comes alone is answered at once. -/
theorem memRequest_of_none {r : MemReq} {fill free : Nat} {go : List Nat} (on : s.isOn domMEM = true) (none_waits : s.mem.waiting = [])
    (none_left : r.left = []) (after' : ((s.fifos fill free).reqServed r).mem.waiting = []) :
    (s.fifos fill free).memRequest r go = (s.fifos fill free).reqServed r := by
  rw [memRequest_of_on ((isOn_fifos fill free _).trans on)]
  exact served_of_none none_left ((waiting_fifos fill free).trans none_waits) after' go

theorem reqLines_single {a n : Nat} (inside : a + n ≤ memEnd) (within : a % 64 + n ≤ 64) (some_bytes : 0 < n) : reqLines a n = [a / 64] := by
  rw [reqLines, if_neg (Nat.not_lt.mpr inside), linesOf_single within some_bytes]

theorem reqLines_line {line : Nat} (inside : 64 * line + 64 ≤ memEnd) : reqLines (64 * line) 64 = [line] := by
  rw [reqLines_single inside (by omega) (by decide), Nat.mul_div_cancel_left line (by decide)]

theorem fifoServed_waiting (r : MemReq) : (v.fifoServed r).mem.waiting = v.mem.waiting := by
  unfold State.fifoServed
  split
  · rfl
  · split <;> rfl

/-- A read whose lines carry no mark. -/
theorem readServed_of_clean {port a n : Nat} {wrong : List (Nat × List LineBit)} (inside : a + n ≤ memEnd)
    (clean : (v.eccLines a n wrong).rangePoisoned a n = false) :
    v.readServed port a n wrong = (v.eccLines a n wrong).emit (.memData port ((v.eccLines a n wrong).mem.data.read a n) false) := by
  rw [State.readServed, if_neg (Nat.not_lt.mpr inside)]
  generalize v.eccLines a n wrong = u at clean
  have unmarked : u.mem.poison.filter (fun l => decide (a < 64 * l + 64 ∧ 64 * l < a + n)) = [] := by
    simpa [State.rangePoisoned, List.filter_eq_nil_iff] using clean
  dsimp only
  rw [clean, State.emit_mem, unmarked]
  rfl

/-- A read of a line that is the only one with a mark. -/
theorem readServed_of_poisoned {port line : Nat} {wrong : List (Nat × List LineBit)} (inside : 64 * line + 64 ≤ memEnd)
    (marked : (v.eccLines (64 * line) 64 wrong).mem.poison = [line]) :
    let u := v.eccLines (64 * line) 64 wrong
    v.readServed port (64 * line) 64 wrong = (u.emit (.memData port (u.mem.data.read (64 * line) 64) true)).takePoison port line := by
  rw [State.readServed, if_neg (Nat.not_lt.mpr inside)]
  generalize v.eccLines (64 * line) 64 wrong = u at marked
  have hit : decide (64 * line < 64 * line + 64 ∧ 64 * line < 64 * line + 64) = true := by simp
  have poisoned : u.rangePoisoned (64 * line) 64 = true := by simp [State.rangePoisoned, marked]
  dsimp only
  rw [poisoned, State.emit_mem, marked, List.filter_cons, hit]
  rfl

theorem eccLines_nil (a n : Nat) : v.eccLines a n [] = v := rfl

theorem eccLines_line (line : Nat) (bits : List LineBit) : v.eccLines (64 * line) 64 [(line, bits)] = v.eccLine line (bits.map (·.val)) := by
  simp [State.eccLines]

/-- One failed bit, not of the address tag, is corrected. -/
theorem eccLine_of_single {k : Nat} (code : k < 524) (line : Nat) : v.eccLine line [k] =
    ((((v.bump MEM_ECC MEM_ECC_CE 1).setReg MEM_EADDR (BitVec.ofNat 32 (line % 2 ^ 28))).addWear 64 1).sealLine line) := by
  have found : eccOf [k] = (1, []) := by simp [eccOf, List.eraseDups_cons, Nat.not_le.mpr code]
  rw [State.eccLine, found]
  rfl

/-- The data of a line, which read as `m` has them, as two failed bits leave it. -/
def lineFlipped (v : State) (m : Memory) (line j k : Nat) : State :=
  let bad := [j, k].filter (fun x => decide (x < 512))
  if bad.isEmpty then v else { v with mem.data := v.mem.data.write (64 * line) (flipBits bad (m.read (64 * line) 64)) }

theorem lineFlipped_poison (m : Memory) (line j k : Nat) : (lineFlipped v m line j k).mem.poison = v.mem.poison := by
  unfold lineFlipped
  dsimp only
  split <;> rfl

/-- A line as two failed bits leave it, `k` the one that may be the poison bit, before the error is noted. -/
def lineDamaged (v : State) (m : Memory) (line j k : Nat) : State :=
  if k = 523 then (lineFlipped v m line j k).setPoison line true else lineFlipped v m line j k

/-- An uncorrectable line is marked, and the error raised. -/
def lineMarked (v : State) (line : Nat) : State :=
  (((v.bump MEM_ECC MEM_ECC_UE 1).setReg MEM_EADDR (BitVec.ofNat 32 (2 ^ 31 + line % 2 ^ 28))).setPoison line true).raise 15 [line]

/-- Two failed bits, or one of the address tag, are not corrected. -/
theorem eccLine_of_pair {j k line : Nat} (apart : j ≠ k) (bits : 524 ≤ j ∨ j < 523 ∧ k < 523) (clean : v.mem.poison = []) :
    v.eccLine line [j, k] = (lineMarked (lineDamaged v v.mem.data line j k) line).sealLine line := by
  have pair : [j, k].eraseDups = [j, k] := by simp [List.eraseDups_cons, apart.symm]
  have found : eccOf [j, k] = (2, [j, k]) := by
    rw [eccOf, pair]
    rcases bits with tag | ⟨hj, hk⟩
    · simp [tag]
    · have hj' : ¬ 524 ≤ j := by omega
      have hk' : ¬ 524 ≤ k := by omega
      simp [hj', hk']
  have parity : [j, k].contains 523 = decide (k = 523) := by
    have : j ≠ 523 := by omega
    simp [this.symm, eq_comm]
  have unmarked (u : State) (h : u.mem.poison = []) : u.setPoison line (!u.poisoned line) = u.setPoison line true := by
    rw [State.poisoned, h]
    rfl
  have line' : v.eccLine line [j, k] =
      ((if [j, k].contains 523 then (lineFlipped v v.mem.data line j k).setPoison line (!(lineFlipped v v.mem.data line j k).poisoned line)
        else lineFlipped v v.mem.data line j k).eccError line 2).sealLine line := by
    rw [State.eccLine, found]
    rfl
  have error (u : State) : u.eccError line 2 = lineMarked u line := rfl
  rw [line', error, parity, unmarked _ ((lineFlipped_poison _ line j k).trans clean), lineDamaged]
  simp only [decide_eq_true_eq]

/-- The marked line is the only one. -/
theorem lineMarked_poison {m : Memory} {line j k : Nat} (clean : v.mem.poison = []) : (lineMarked (lineDamaged v m line j k) line).mem.poison = [line] := by
  have marks (u : State) (h : u.mem.poison = [] ∨ u.mem.poison = [line]) : (u.setPoison line true).mem.poison = [line] := by
    have mark : (u.setPoison line true).mem.poison = if u.mem.poison.contains line then u.mem.poison else u.mem.poison ++ [line] := rfl
    rcases h with h | h <;> rw [mark, h] <;> simp
  have flipped : (lineFlipped v m line j k).mem.poison = [] := (lineFlipped_poison m line j k).trans clean
  have damaged : (lineDamaged v m line j k).mem.poison = [] ∨ (lineDamaged v m line j k).mem.poison = [line] := by
    unfold lineDamaged
    split
    · exact .inr (marks _ (.inl flipped))
    · exact .inl flipped
  rw [lineMarked, (raise_aside _ _ _).2.2]
  exact marks _ damaged

/-- A write whose lines are not read first. -/
theorem writeServed_of_plain {port a : Nat} {bs : Bytes} {mark : Bool} (inside : a + bs.length ≤ memEnd) : v.writeServed port a bs mark [] =
    if mark then (linesOf a bs.length).foldl (fun (s : State) l => s.setPoison l true) (v.memWrite a bs) else v.memWrite a bs :=
  if_neg (Nat.not_lt.mpr inside)

theorem writeServed_of_beyond {port a : Nat} {bs : Bytes} {mark : Bool} {wrong : List (Nat × List LineBit)} (outside : memEnd < a + bs.length) :
    v.writeServed port a bs mark wrong = v.raise 16 [port] := if_pos outside

theorem readServed_of_beyond {port a n : Nat} {wrong : List (Nat × List LineBit)} (outside : memEnd < a + n) :
    let u := (v.emit (.memData port ((List.range n).map (Config.freeByte v.fresh)) true)).raise 16 [port]
    v.readServed port a n wrong = ({ u with fresh := v.fresh + 1 } : State).takePoison port (a / 64) := if_pos outside

end Requests

/-! ## Reads and writes -/

section Accesses

variable {s : State} {port : Fin 10} {fill free : Nat}

/-- The request of a read. -/
abbrev readReq (port : Fin 10) (a len : Nat) (wrong : List (Nat × List LineBit)) (left : List Nat) : MemReq :=
  ⟨port.val, a, len, none, wrong, false, false, left⟩

/-- The request of a write. -/
abbrev writeReq (port : Fin 10) (a : Nat) (bytes : Bytes) (wrong : List (Nat × List LineBit)) (mark : Bool) (left : List Nat) : MemReq :=
  ⟨port.val, a, bytes.length, some bytes, wrong, false, mark, left⟩

theorem read_of_line {a len : Nat} {c : Fin 4} (on : s.isOn domMEM = true) (none_waits : s.mem.waiting = []) (within : a % 64 + len ≤ 64)
    (some_bytes : 0 < len) (inside : a + len ≤ memEnd) (lies : s.channelOf (a / 64) = c) (clean : s.rangePoisoned a len = false) :
    let r := readReq port a len [] [a / 64]
    (s.fifos fill free).memRequest (readReq port a len [] (reqLines a len)) [c.val] =
      ((answering s fill free r (a / 64)).emit (.memData port (s.mem.data.read a len) false)).fifoServed r := by
  dsimp only
  rw [reqLines_single inside within some_bytes, memRequest_of_single on none_waits rfl lies]
  have mem := answering_mem s fill free (readReq port a len [] [a / 64]) (a / 64)
  generalize answering s fill free (readReq port a len [] [a / 64]) (a / 64) = u at mem
  have clean' : (u.eccLines a len []).rangePoisoned a len = false := by rw [eccLines_nil, State.rangePoisoned, mem]; exact clean
  have read : u.readServed port a len [] = u.emit (.memData port (s.mem.data.read a len) false) := by
    rw [readServed_of_clean inside clean', eccLines_nil, mem]
  exact congrArg (State.fifoServed · (readReq port a len [] [])) read

theorem read_of_corrected {line : Nat} {k : LineBit} {c : Fin 4} (on : s.isOn domMEM = true) (none_waits : s.mem.waiting = [])
    (inside : 64 * line + 64 ≤ memEnd) (lies : s.channelOf line = c) (code : k.val < 524) (clean : s.rangePoisoned (64 * line) 64 = false) :
    let r := readReq port (64 * line) 64 [(line, [k])] [line]
    let u := answering s fill free r line
    let v := (((u.bump MEM_ECC MEM_ECC_CE 1).setReg MEM_EADDR (BitVec.ofNat 32 (line % 2 ^ 28))).addWear 64 1).sealLine line
    (s.fifos fill free).memRequest (readReq port (64 * line) 64 [(line, [k])] (reqLines (64 * line) 64)) [c.val] =
      (v.emit (.memData port (s.mem.data.read (64 * line) 64) false)).fifoServed r := by
  dsimp only
  rw [reqLines_line inside, memRequest_of_single on none_waits rfl lies]
  have mem := answering_mem s fill free (readReq port (64 * line) 64 [(line, [k])] [line]) line
  generalize answering s fill free (readReq port (64 * line) 64 [(line, [k])] [line]) line = u at mem
  have corrected : u.eccLines (64 * line) 64 [(line, [k])] =
      ((((u.bump MEM_ECC MEM_ECC_CE 1).setReg MEM_EADDR (BitVec.ofNat 32 (line % 2 ^ 28))).addWear 64 1).sealLine line) :=
    (eccLines_line line [k]).trans (eccLine_of_single code line)
  have data : (u.eccLines (64 * line) 64 [(line, [k])]).mem.data = s.mem.data := by
    have same : u.mem.data = s.mem.data := by rw [mem]
    rw [corrected]
    exact same
  have poison : (u.eccLines (64 * line) 64 [(line, [k])]).mem.poison = s.mem.poison := by
    have same : u.mem.poison = s.mem.poison := by rw [mem]
    rw [corrected]
    exact same
  have clean' : (u.eccLines (64 * line) 64 [(line, [k])]).rangePoisoned (64 * line) 64 = false := by
    rw [State.rangePoisoned, poison]
    exact clean
  have read := readServed_of_clean (port := port) inside clean'
  rw [data, corrected] at read
  exact congrArg (State.fifoServed · (readReq port (64 * line) 64 [(line, [k])] [])) read

theorem read_of_uncorrectable {line : Nat} {j k : LineBit} {c : Fin 4} (on : s.isOn domMEM = true) (none_waits : s.mem.waiting = [])
    (inside : 64 * line + 64 ≤ memEnd) (lies : s.channelOf line = c) (clean : s.mem.poison = []) (apart : j ≠ k)
    (bits : 524 ≤ j.val ∨ j.val < 523 ∧ k.val < 523) :
    let r := readReq port (64 * line) 64 [(line, [j, k])] [line]
    let v := (lineMarked (lineDamaged (answering s fill free r line) s.mem.data line j k) line).sealLine line
    (s.fifos fill free).memRequest (readReq port (64 * line) 64 [(line, [j, k])] (reqLines (64 * line) 64)) [c.val] =
      ((v.emit (.memData port (v.mem.data.read (64 * line) 64) true)).takePoison port line).fifoServed r := by
  dsimp only
  rw [reqLines_line inside, memRequest_of_single on none_waits rfl lies]
  have mem := answering_mem s fill free (readReq port (64 * line) 64 [(line, [j, k])] [line]) line
  generalize answering s fill free (readReq port (64 * line) 64 [(line, [j, k])] [line]) line = u at mem
  have clean' : u.mem.poison = [] := (congrArg Mem.poison mem).trans clean
  have data : u.mem.data = s.mem.data := by rw [mem]
  have damaged : u.eccLines (64 * line) 64 [(line, [j, k])] = (lineMarked (lineDamaged u s.mem.data line j k) line).sealLine line := by
    rw [← data]
    exact (eccLines_line line [j, k]).trans (eccLine_of_pair (fun same => apart (Fin.ext same)) bits clean')
  have marked : (u.eccLines (64 * line) 64 [(line, [j, k])]).mem.poison = [line] := by
    rw [damaged]
    exact lineMarked_poison clean'
  have read := readServed_of_poisoned (port := port.val) inside marked
  rw [damaged] at read
  exact congrArg (State.fifoServed · (readReq port (64 * line) 64 [(line, [j, k])] [])) read

theorem read_of_beyond {a len : Nat} {wrong : List (Nat × List LineBit)} (on : s.isOn domMEM = true) (none_waits : s.mem.waiting = [])
    (outside : memEnd < a + len) (go : List Nat) :
    let v := ((s.fifos fill free).emit (.memData port ((List.range len).map (Config.freeByte s.fresh)) true)).raise 16 [port.val]
    (s.fifos fill free).memRequest (readReq port a len wrong (reqLines a len)) go =
      (({ v with fresh := s.fresh + 1 } : State).takePoison port (a / 64)).fifoServed (readReq port a len wrong []) := by
  have fresh : (s.fifos fill free).fresh = s.fresh := by rw [fifos_eq]
  have waits : (s.fifos fill free).mem.waiting = [] := (waiting_fifos fill free).trans none_waits
  have read := readServed_of_beyond (v := s.fifos fill free) (port := port) (wrong := wrong) outside
  rw [fresh] at read
  have answer := congrArg (State.fifoServed · (readReq port a len wrong [])) read
  have unlined : reqLines a len = [] := if_pos outside
  rw [unlined]
  refine (memRequest_of_none on none_waits rfl ?_).trans answer
  refine (congrArg (fun u : State => u.mem.waiting) answer).trans ?_
  rw [fifoServed_waiting, takePoison_mem]
  dsimp only
  rw [(raise_aside _ _ _).2.2, State.emit_mem, waits]

theorem write_of_line {a : Nat} {bytes : Bytes} {mark : Bool} {c : Fin 4} (on : s.isOn domMEM = true) (none_waits : s.mem.waiting = [])
    (within : a % 64 + bytes.length ≤ 64) (some_bytes : bytes ≠ []) (inside : a + bytes.length ≤ memEnd) (lies : s.channelOf (a / 64) = c) :
    let r := writeReq port a bytes [] mark [a / 64]
    let u := (answering s fill free r (a / 64)).memWrite a bytes
    (s.fifos fill free).memRequest (writeReq port a bytes [] mark (reqLines a bytes.length)) [c.val] =
      (if mark then u.setPoison (a / 64) true else u).fifoServed r := by
  have length : 0 < bytes.length := List.length_pos_iff.mpr some_bytes
  dsimp only
  rw [reqLines_single inside within length, memRequest_of_single on none_waits rfl lies]
  generalize answering s fill free (writeReq port a bytes [] mark [a / 64]) (a / 64) = u
  have written := writeServed_of_plain (v := u) (port := port) (mark := mark) inside
  rw [linesOf_single within length] at written
  exact congrArg (State.fifoServed · (writeReq port a bytes [] mark [])) written

theorem write_of_beyond {a : Nat} {bytes : Bytes} {mark : Bool} {wrong : List (Nat × List LineBit)} (on : s.isOn domMEM = true)
    (none_waits : s.mem.waiting = []) (outside : memEnd < a + bytes.length) (go : List Nat) :
    (s.fifos fill free).memRequest (writeReq port a bytes wrong mark (reqLines a bytes.length)) go =
      ((s.fifos fill free).raise 16 [port.val]).fifoServed (writeReq port a bytes wrong mark []) := by
  have waits : (s.fifos fill free).mem.waiting = [] := (waiting_fifos fill free).trans none_waits
  have written := writeServed_of_beyond (v := s.fifos fill free) (port := port) (mark := mark) (wrong := wrong) outside
  have answer := congrArg (State.fifoServed · (writeReq port a bytes wrong mark [])) written
  have unlined : reqLines a bytes.length = [] := if_pos outside
  rw [unlined]
  refine (memRequest_of_none on none_waits rfl ?_).trans answer
  refine (congrArg (fun u : State => u.mem.waiting) answer).trans ?_
  rw [fifoServed_waiting, (raise_aside _ _ _).2.2, waits]

end Accesses

/-- Settles O40: a request by whether it comes alone and where its lines lie, and the rules of lines, rows and check words by themselves. -/
theorem memoryPorts : Obligations.MemoryPorts := by
  refine ⟨?comes, ?off, ?pick, ?first, ?levels, ?read, ?corrected, ?uncorrectable, ?word, ?check, ?readBeyond, ?write, ?writeBeyond, ?place, ?rows, ?idle⟩
  case comes =>
    intro port a len fill free wrong bytes mark go s on
    have on' : (s.fifos fill free).isOn domMEM = true := (isOn_fifos fill free _).trans on
    exact ⟨exec_of_ends rfl (congrArg (State.tablesJudged · s) (memRequest_of_on on')),
      exec_of_ends rfl (congrArg (State.tablesJudged · s) (memRequest_of_on on'))⟩
  case off =>
    intro port a len fill free wrong bytes mark go s off
    have off' : (s.fifos fill free).isOn domMEM = false := (isOn_fifos fill free _).trans off
    exact ⟨exec_of_ends rfl (congrArg (State.tablesJudged · s) (memRequest_of_off (go := go.map (·.val)) off')),
      exec_of_ends rfl (congrArg (State.tablesJudged · s) (memRequest_of_off (go := go.map (·.val)) off'))⟩
  case pick => exact fun before after' r c x s own older younger => memPick_append own older younger
  case first => exact fun c r s => ⟨fun x h => firstLine_some h, firstLine_none⟩
  case levels => exact fun r q x y s ⟨panic, port, calm⟩ => memLevels panic port calm
  case read =>
    intro port a len fill free c s ⟨on, none_waits⟩ ⟨within, some_bytes, inside, lies⟩ clean
    exact exec_of_ends rfl (congrArg (State.tablesJudged · s) (read_of_line on none_waits within some_bytes inside lies clean))
  case corrected =>
    intro port line fill free k c s ⟨on, inside, lies⟩ none_waits ⟨code, clean⟩
    exact exec_of_ends rfl (congrArg (State.tablesJudged · s) (read_of_corrected on none_waits inside lies code clean))
  case uncorrectable =>
    intro port line fill free j k c s ⟨on, inside, lies⟩ none_waits clean ⟨apart, bits⟩
    exact exec_of_ends rfl (congrArg (State.tablesJudged · s) (read_of_uncorrectable on none_waits inside lies clean apart bits))
  case word => exact checkWord_parts
  case check => exact fun a bs s ⟨within, some_bytes⟩ => memWrite_check within some_bytes
  case readBeyond =>
    exact fun port a len fill free go wrong s on none_waits outside =>
      exec_of_ends rfl (congrArg (State.tablesJudged · s) (read_of_beyond on none_waits outside _))
  case write =>
    intro port a fill free bytes mark c s ⟨on, none_waits⟩ ⟨within, some_bytes, inside, lies⟩
    exact exec_of_ends rfl (congrArg (State.tablesJudged · s) (write_of_line on none_waits within some_bytes inside lies))
  case writeBeyond =>
    exact fun port a fill free bytes mark wrong go s ⟨on, none_waits, outside⟩ =>
      exec_of_ends rfl (congrArg (State.tablesJudged · s) (write_of_beyond on none_waits outside _))
  case place => exact fun i line s held first => physLine_of_remap held first
  case rows => exact fun port line s => touchLine_rows port line
  case idle => exact fun s => tick_rows

end Sys2Proof
end
